-- ==== Sys2Proof/Word.lean ====
section
/-! DEFINITION. The register word and the plainest arithmetic on it. -/
namespace Sys2Proof

/-- A register word: registers are 32 bits wide (R303, R449). -/
abbrev Word := BitVec 32

/-- A byte. -/
abbrev Byte := BitVec 8

end Sys2Proof
end

