-- ==== Sys2Proof/Types/Base.lean ====
section
/-! DEFINITION. Data that every chapter shares: slates (R51), the layouts of records and entries, the header, status and
completion of a command (R310, R314, R325), CPL entries (R312), log records (R391), and what the device does at its
pins and in host memory. -/
namespace Sys2Proof

/-- A record, entry or payload as its layout table gives it: (byte offset, size in bytes, value); a byte that no entry
names is 0 (R314). -/
abbrev Layout := List (Nat × Nat × Nat)

/-- A table of like things by index: only the entries that differ from the table's default need be listed, by rising index. -/
abbrev Tbl (α : Type) := List (Nat × α)

/-- The slate of R51. `frac` is in 2^-32 ns, `ns` below 10^9 (R52). -/
structure Slate where
  bnd : Nat
  valid : Bool
  leapPending : Bool
  holdover : Bool
  stepped : Bool
  ts : Nat
  sec : Nat
  ns : Nat
  frac : Nat
  deriving DecidableEq, Repr

/-- The slate before anything is known: valid 0, so bound 0xFF (R53). -/
def Slate.none : Slate := ⟨255, false, false, false, false, 0, 0, 0, 0⟩

/-- The places a slate is sent to, each with its own stepped-since bit per timescale (R54). -/
inductive Dest where
  | ring (r : Nat)
  | txq (port : Nat)
  | log
  | tod
  | now
  | mark (port : Nat)
  deriving DecidableEq, Repr

/-- The shared status codes of R325. -/
inductive Status where
  | ok | aborted | abortLate | notFound | badArg | deniedGovernor | deniedLifecycle | keyRevoked | busy | noResource
  | timeout | hwFault | staleVersion | droppedNobuf | deniedTamper
  deriving DecidableEq, Repr

/-- The code of a status (R325). -/
def Status.code : Status → Nat
  | .ok => 0 | .aborted => 1 | .abortLate => 2 | .notFound => 3 | .badArg => 4 | .deniedGovernor => 5
  | .deniedLifecycle => 6 | .keyRevoked => 7 | .busy => 8 | .noResource => 9 | .timeout => 10 | .hwFault => 11
  | .staleVersion => 12 | .droppedNobuf => 13 | .deniedTamper => 14

/-- What a CMD descriptor holds beside its arguments (R310): the ring it came from, its tag, the fence flag, and whether every
byte and bit that must be 0 (bytes 4-7, flags [7:1] and the argument bytes that no table names, R70) is 0. -/
structure CmdHdr where
  ring : Nat
  tag : Nat
  fence : Bool
  mbz : Bool
  deriving DecidableEq, Repr

/-- A command completion (R314): the payload is laid out from P+0. -/
structure Completion where
  status : Status
  tag : Nat
  ring : Nat
  opcode : Nat
  payload : Layout
  deriving DecidableEq, Repr

/-- The entries of a CPL ring (R312), by kind: 1 command completion (R314), 2 TXD completion (R316), 3 RXD completion (R318),
4 event or notice (R328), 5 TX timestamp (R316), 6 performance sample (R388), 7 the continuation of a two-entry completion (R312). -/
inductive CplEntry where
  | command (c : Completion)
  | continuation (tag : Nat) (payload : Layout)
  | txd (status : Status) (consumed ring : Nat) (cookie bytes segments : Nat)
  | rxd (status : Status) (bytes ring flags steer cookie frameLen port : Nat) (slate : Option Slate)
  | event (code : Nat) (lostBefore : Bool) (data : Layout) (slate : Slate)
  | txStamp (status : Status) (stampId port : Nat) (slate : Slate)
  | perf (body : Layout)
  deriving DecidableEq, Repr

/-- A log record (R391): severity, source, code, data from byte 28 on, slate, sequence, and the copied flag [3] of R400. -/
structure LogRec where
  sev : Nat
  source : Nat
  seq : Nat
  slate : Slate
  code : Nat
  data : Layout
  length : Nat
  copied : Bool
  deriving DecidableEq, Repr

/-- A protocol message or PDU that leaves the device, by kind, with the fields that the spec gives it by name. -/
structure Pdu where
  kind : String
  fields : List (String × Int)
  deriving DecidableEq, Repr

/-- Where a cue shows its level: a cue pin, or an output with source CUE (R165). -/
inductive CueDest where
  | pin (p : Nat)
  | out (o : Nat)
  deriving DecidableEq, Repr

/-- Where a cue edge is placed (R163): an SHCLK edge, by its tick, and the fine-delay code of 0 to 1,599 ps after it. -/
structure CueEdge where
  tick : Int
  fine : Nat
  deriving DecidableEq, Repr

/-- What the device does outside itself, in the model's own record of it (newest first; notes/assumptions/3.md). -/
inductive Emit where
  /-- An entry written to slot `idx` of CPL ring `ring` with its phase bit (R312). -/
  | cpl (ring idx phase : Nat) (e : CplEntry)
  /-- A record written to host memory (R324). -/
  | mem (addr : Nat) (size : Nat) (rec : Layout)
  /-- An MSI-X message of a vector (R322). -/
  | msix (vector : Nat)
  /-- A frame sent on an Ethernet port; the slate of its SFD is the port's transmit timestamp (R210). -/
  | frame (port : Nat) (p : Pdu)
  /-- A frame of the host sent on an Ethernet port: ring, and its bytes up to the FCS, which the port appends (R214-R216). -/
  | hostFrame (port ring : Nat) (data : List Nat)
  /-- A Ranin frame or ordered set (R282, R289). -/
  | ranin (p : Pdu)
  /-- An AVSBus write of a VCORE set point in mV (R42). -/
  | avs (mv : Nat)
  /-- An interrupt to control core i (R165, R191). -/
  | coreIrq (core : Nat) (cause : Nat) (data : Nat)
  /-- A pulse, burst or pattern of a cue at an instant in ps of its timescale, and the pins and outputs that show it, with the place of its first edge
  there (R163, R165). -/
  | cue (gen k instant : Nat) (dests : List (CueDest × CueEdge))
  /-- A cue pin or cue output is driven low before its pulse is complete (R169, R285, R416). -/
  | cueLow (d : CueDest)
  /-- An output pin begins or ceases to carry its clock (R151-R154). -/
  | outPin (o : Nat) (running : Bool)
  /-- The driver of an output pin is off, in high impedance (R150). -/
  | outFloat (o : Nat)
  /-- The bytes of a message on TOD_TX (R174). -/
  | tod (bytes : List Nat)
  /-- Bytes written to the external QSPI flash (R348). -/
  | qspi (area : Nat) (what : Layout)
  /-- The value that a read of BAR0 returned, where the read itself changes the device (R7, R303, R384). -/
  | read (offset : Nat) (value : Word)
  /-- A reset of the whole device begins (R422). -/
  | reset (cause : Nat)
  deriving DecidableEq, Repr

/-- One area of records in host memory (R114) beside its registers: the next record's sequence, records dropped since the last one
written, a notice is outstanding, and the records held while the device may not write host memory (R302). -/
structure Area where
  seq : Nat
  dropped : Nat
  notice : Bool
  held : List Layout
  deriving DecidableEq, Repr

/-- An area that has written nothing. -/
def Area.reset : Area := ⟨0, 0, false, []⟩

/-- The areas that share the plain form of R114: GNSS measurements and navigation records, the dailies of a port, the log stream. -/
inductive AreaId where
  | meas | nav | daily (p : Nat) | stream
  deriving DecidableEq, Repr

/-- The place of an area in the state. -/
def AreaId.index : AreaId → Nat
  | .meas => 0 | .nav => 1 | .stream => 2 | .daily p => 3 + p

end Sys2Proof
end

