-- ==== Sys2Proof/Types/Clapper.lean ====
section
/-! DEFINITION. The Clapper (05_clapper.md): stamps, measurements and records, and the state of channels and lanes that no
register holds. -/
namespace Sys2Proof

/-- A corrected stamp as one consumer holds it (R104): its place on the consumer's timebase in 2^-48 ps, its slate, a spare lane's
part in it, and the gap mark (R103). -/
structure Stamp where
  pos : Int
  slate : Slate
  spare : Bool
  gap : Bool
  deriving DecidableEq, Repr

/-- The accumulator of R108: values in 2^-8 ps; the sums are of value − first value. -/
structure ClapAcc where
  n : Nat
  first : Int
  sum : Int
  sumSq : Int
  min : Int
  max : Int
  notEntered : Nat
  last : Slate
  spare : Bool
  deriving DecidableEq, Repr

/-- An empty accumulator. -/
def ClapAcc.empty : ClapAcc := ⟨0, 0, 0, 0, 0, 0, 0, Slate.none, false⟩

/-- A record produced and not yet written or dropped (R114): kind, status, stops requested and arrived, sequence, flags [5:2], stop
source, slate, bytes 32 on, and the value that the limits are compared with (R112). -/
structure ClapRec where
  kind : Nat
  status : Nat
  stops : Nat
  seq : Nat
  flags : Nat
  stopSrc : Nat
  slate : Slate
  body : Layout
  cmp : Option Int
  deriving DecidableEq, Repr

/-- The offsets of the present epoch of a REFERENCE channel on one timescale (R111), in 2^-48 ns: their sum, their count and the last of them, and the
uncertainty that ToD labels add, in ps (R178); none: unbounded. -/
structure RefAcc where
  sum : Rat
  n : Nat
  last : Option Rat
  unc : Option Nat
  deriving DecidableEq, Repr

/-- No offset yet. -/
def RefAcc.empty : RefAcc := ⟨0, 0, none, some 0⟩

/-- A channel beside its registers. -/
structure ClapCh where
  /-- Place of the arming instant on the timebase, in 2^-48 ps. -/
  armPos : Int
  /-- Measurements, gates or statistics records left; none: until disarmed (R118). -/
  left : Option Nat
  /-- Records produced since arming, and the sequence of the next one. -/
  made : Nat
  seq : Nat
  /-- Stop-source stamps before the start arrived, which a delay correction may place after it (R105). -/
  early : List Stamp
  /-- Stamps that came while a measurement runs and that it does not take, as start event, stop event or both: a delay correction may place them
  after its end (R105). -/
  later : List (Bool × Bool × Stamp)
  start : Option Stamp
  stops : List Stamp
  /-- Stream periods since the start edge of a gate (R110). -/
  periods : Nat
  /-- A stamp that the measurement needs carries a gap mark or is itself lost (R107), and the place of that on the timebase. -/
  lost : Bool
  lostPos : Int
  acc : ClapAcc
  /-- Records that wait to be written, oldest first. -/
  recs : List ClapRec
  /-- Records dropped since the last one written (R114). -/
  dropped : Nat
  /-- Written low halves of the limits that wait for their high halves (R113). -/
  heldLo : Option Word
  heldHi : Option Word
  /-- Active edges since the last that passed the prescaler (R99, R100). -/
  presc : Nat
  /-- The last stamp in 2^-32 SHCLK cycles (R102). -/
  lastStamp : Option Nat
  /-- The next stamp carries a gap mark (R103). -/
  gapNext : Bool
  /-- Offsets of the present epoch of a REFERENCE channel, by the timescale of the slots that it feeds (R111). -/
  refs : Tbl RefAcc
  deriving DecidableEq, Repr

/-- A channel from reset. -/
def ClapCh.reset : ClapCh :=
  ⟨0, none, 0, 0, [], [], none, [], 0, false, 0, ClapAcc.empty, [], 0, none, none, 0, none, false, []⟩

/-- A CLAP_CAL command that runs (R118): the lanes still to test, those passed and retired, and its first tick. -/
structure ClapCal where
  hdr : CmdHdr
  lanes : List Nat
  passed : Nat
  retired : Nat
  since : Nat
  deriving DecidableEq, Repr

/-- The Clapper. -/
structure ClapSt where
  ch : Tbl ClapCh
  /-- Lanes that wait for a spare (R115). -/
  calWait : List Nat
  /-- The work that each lane under test did before. -/
  calWork : Tbl (Option Nat)
  /-- Lanes that passed and wait for the end of a measurement to resume their work (R18). -/
  resume : List Nat
  /-- The tick and the die temperature in 1/16 °C of each lane's last runtime calibration (R115). -/
  lastCal : Tbl (Option (Nat × Int))
  /-- Each lane's runtime table (R116): 14 interpolator bin widths in 2^-8 ps; none: the factory table is used. -/
  bins : Tbl (Option (List Nat))
  /-- Each lane's FIFO of stamps (R103), oldest first: the ticks at which its entries leave for the statistics and record path. -/
  fifo : Tbl (List Nat)
  /-- CLAP_CAL commands that run. -/
  cals : List ClapCal
  deriving DecidableEq, Repr

/-- From reset. -/
def ClapSt.reset : ClapSt := ⟨[], [], [], [], [], [], [], []⟩

end Sys2Proof
end

