-- ==== Sys2Proof/Types/Cues.lean ====
section
/-! DEFINITION. Cues, captures and the ToD port (08_cues_captures_tod.md): arguments, and the state that no register holds. -/
namespace Sys2Proof

/-- Arguments of CUE_ARM (R180). -/
structure CueArmArgs where
  cue : Nat
  ps : Nat
  ns : Nat
  sec : Nat
  period : Nat
  div : Nat
  count : Nat
  width : Nat
  cell : Nat
  deriving DecidableEq, Repr

/-- Arguments of CUE_CANCEL (R180). -/
structure CueCancelArgs where
  cue : Nat
  trigger : Nat
  sec : Nat
  ns : Nat
  deriving DecidableEq, Repr

/-- A cue generator beside its registers. Instants are in ps of its timescale. -/
structure Cue where
  t0 : Nat
  period : Nat
  div : Nat
  count : Nat
  width : Nat
  cell : Nat
  /-- The next instant neither fired nor late. -/
  k : Nat
  firings : Nat
  /-- Late instants skipped in the present run, and the slate of its first (R167). -/
  skipRun : Nat
  skipSlate : Slate
  /-- The present run of late instants has had its late firing. -/
  lateFired : Bool
  /-- The last firing: its instant in 2^-48 ns of its timescale, and its slate. -/
  lastAt : Option Int
  last : Option Slate
  /-- The last firing as the ToD port's timescale reads its instant (R174). -/
  lastTod : Option Slate
  /-- The place of the pulse, burst or pattern of the last firing on what the timescale's increments alone sum to, in 2^-48 ns (R164, R168): no step moves
  it; none: it is over. -/
  pulse : Option Int
  /-- The SHCLK edge and the fine-delay code of the last firing (R163). -/
  edge : Option CueEdge
  /-- The tick at which the generator was armed (R33, R167). -/
  armedAt : Nat
  /-- Cancels that wait for their instant (R170). -/
  cancels : List (CmdHdr × Nat)
  /-- The cause of the end that is due: 0 none. -/
  ending : Nat
  deriving DecidableEq, Repr

/-- A generator from reset. -/
def Cue.reset : Cue := ⟨0, 0, 1, 0, 0, 0, 0, 0, 0, Slate.none, false, none, none, none, none, none, 0, [], 0⟩

/-- A cue pin beside its register: it follows its cue (R165, R285), the run of firings that its window suppresses, with the
slate of its first (R166), and the SHCLK edge and fine-delay code of its last edge (R163). -/
structure CuePin where
  on : Bool
  supp : Nat
  suppSlate : Slate
  edge : Option CueEdge
  deriving DecidableEq, Repr

/-- A pin from reset. -/
def CuePin.reset : CuePin := ⟨false, 0, Slate.none, none⟩

/-- A stamp of a CAPTURE channel that waits to be written (R172): channel, flags, sequence, slate. -/
structure Capture where
  ch : Nat
  flags : Nat
  seq : Nat
  slate : Slate
  deriving DecidableEq, Repr

/-- The ToD port beside its registers (R174-R178). -/
structure TodSt where
  /-- Sequence of the next message. -/
  seq : Nat
  /-- Tick at which the message being sent, or the last one sent, ends. -/
  txEnd : Option Nat
  /-- The tick at which overrun was last set (R174). -/
  overAt : Nat
  /-- Accepted claims with the tick of acceptance, newest first. -/
  claims : List (Nat × Nat)
  /-- A message of type 0x02 that waits for its edge: label in s, bound code, claim. -/
  waits : Option (Nat × Nat × Nat)
  /-- Last stream edge of channel rx_cin: its tick, and its time on each of TS0 to TS3, in 2^-48 ns. -/
  edge : Option (Nat × List Int)
  deriving DecidableEq, Repr

/-- Cues, captures and the ToD port together. -/
structure CueSt where
  gen : Tbl Cue
  pins : Tbl CuePin
  /-- Pins and outputs that a ring timer holds low until SHCLK returns (R169). -/
  low : List CueDest
  caps : List Capture
  capSeq : Nat
  capDropped : Nat
  capNotice : Bool
  tod : TodSt
  deriving DecidableEq, Repr

/-- From reset. -/
def CueSt.reset : CueSt := ⟨[], [], [], [], 0, 0, false, ⟨0, none, 0, [], none, none⟩⟩

end Sys2Proof
end

