-- ==== Sys2Proof/Types/Ensemble.lean ====
section
/-! DEFINITION. References and the ensemble (04_ensemble_and_bounds.md): arguments, measurements, and the state of the slots and
of each timescale's ensemble that no register holds. -/
namespace Sys2Proof

/-- Arguments of REF_FEED (R97): the offset in ps, or the frequency in 10^-15 for a frequency member. -/
structure RefFeedArgs where
  slot : Nat
  unc : Nat
  slate : Slate
  value : Int
  deriving DecidableEq, Repr

/-- A measurement of a slot (R74): the value (ps, or 10^-15 for a frequency member), the uncertainty that the measuring block adds to
TS_REF_UNC (none: unknown), and what the provenance record shows of the source (R94). -/
structure Meas where
  value : Int
  unc : Option Nat
  ident : Nat
  upstream : Nat
  steps : Nat
  deriving DecidableEq, Repr

/-- A slot beside its registers. -/
structure Slot where
  /-- The measurement of the present epoch. -/
  meas : Option Meas
  /-- The measurement of an epoch whose load missed (R80). -/
  carry : Option Meas
  /-- The last measurement. -/
  last : Option Meas
  /-- The values sigma uses, newest first: instant in 2^-48 ns and value corrected for the timescale's own moves (R459). -/
  hist : List (Int × Int)
  /-- Consecutive failed return tests (R75). -/
  failRun : Nat
  /-- Accepted for re-acquisition: the suspect test waits for reacq to clear (R88). -/
  accepted : Bool
  /-- What has reached the slot since the last evaluation of its transitions (R75, R77): a measurement outside the frequency window, no measurement for
  the loss timeout, the end of the qualification window, the end of the suspect timeout. -/
  out : Bool
  lost : Bool
  windowDone : Bool
  timedOut : Bool
  deriving DecidableEq, Repr

/-- A slot from reset. -/
def Slot.reset : Slot := ⟨none, none, none, [], 0, false, false, false, false, false⟩

/-- The ensemble of a timescale beside its registers. Bound components are in ps; none is unbounded (R85). -/
structure Ens where
  yHat : Int
  lockRun : Nat
  loseRun : Nat
  /-- Consecutive epochs at which the condition of each grade held (R91). -/
  gradeRuns : Tbl Nat
  ref : Option Nat
  measured : Option Nat
  est : Option Nat
  hold : Option Nat
  gap : Option Nat
  total : Option Nat
  /-- Epochs since entry to COASTING, AP0 gaps since entry in ticks, the temperature at entry in 0.01 K and the largest change seen
  (R84, R139). -/
  coastEpochs : Nat
  coastGap : Nat
  /-- The part of the epoch that had passed at entry to COASTING, in 2^-48 ns. -/
  coastLead : Nat
  tEntry : Int
  dtMax : Nat
  yE : Nat
  yEntry : Int
  /-- y_hat at the epochs of the last 24 h in LOCKED, newest first, with their ticks: what the predictor's drift is fitted to (R84). -/
  yHist : List (Nat × Int)
  /-- Phase moved by the timescale's own slews and steps, in 2^-48 ns, and how it came about: the counter and the phase moved by then, newest first,
  straight between two entries (R459). -/
  moved : Int
  moves : List (Int × Int)
  provSeq : Nat
  provCause : Nat
  /-- ENS_PROV_READ commands that wait for the next epoch: header and host address (R95). -/
  provReads : List (CmdHdr × Nat)
  /-- The counter at the end of the last epoch evaluated, in 2^-48 ns (R77). -/
  lastEpoch : Option Nat
  /-- The last epoch's load missed its deadline (R80). -/
  missed : Bool
  /-- The shadow of follow mode: its grade, the runs of R91, and whether it meets the lock rule of R81 (R290). -/
  shadowGrade : Nat
  shadowRuns : Tbl Nat
  shadowLocked : Bool
  /-- The last epoch at which a phase member carried weight: its tick, and the counter in 2^-48 ns (R261). -/
  weighted : Option (Nat × Nat)
  /-- ENS_FORCE RELEASE has ended a forced COASTING: at the next epoch the return test applies to every member (R90). -/
  released : Bool
  deriving DecidableEq, Repr

/-- An ensemble from reset: the total bound is unbounded, the shadow grade 5. -/
def Ens.reset : Ens :=
  ⟨0, 0, 0, [], some 0, some 0, some 0, some 0, some 0, none, 0, 0, 0, 0, 0, 0, 0, [], 0, [], 0, 0, [], none, false, 5, [], false, none, false⟩

/-- The slots, the ensembles, and the coefficient writes held while a timescale is COASTING (R83), by coefficient: 0 y0, 1 drift, 2
tempco. -/
structure EnsSt where
  slots : Tbl Slot
  tbl : Tbl Ens
  held : Tbl (Option Nat)
  deriving DecidableEq, Repr

/-- From reset. -/
def EnsSt.reset : EnsSt := ⟨[], [], []⟩

/-- The register that OSC_COEFF_WRITE writes: TS_OSC_CFG with its class, or a coefficient. -/
inductive OscReg where
  | cfg | y0 | drift | tempco
  deriving DecidableEq, Repr

end Sys2Proof
end

