-- ==== Sys2Proof/Types/Gnss.lean ====
section
/-! DEFINITION. The GNSS baseband (09_gnss.md): arguments, what comes from the samples, and the state that no register holds. -/
namespace Sys2Proof

/-- Arguments of GNSS_ACQ (R205). -/
structure GnssAcqArgs where
  port : Nat
  signal : Nat
  svid : Nat
  gloK : Int
  coherent : Nat
  count : Nat
  mode : Nat
  codeCentre : Nat
  codeHalf : Nat
  dopCentre : Int
  dopHalf : Nat
  deriving DecidableEq, Repr

/-- Arguments of GNSS_CH_START (R205). `missed` is no byte of the descriptor: the start missed its crossing (R33, R205). -/
structure GnssStartArgs where
  ch : Nat
  source : Nat
  acqId : Nat
  code : Nat
  slate : Slate
  doppler : Int
  missed : Bool
  deriving DecidableEq, Repr

/-- What a search gives (R189, R205): whether the sample path broke during the capture, C/N0, code phase in 2^-8 chips, Doppler in
2^-4 Hz, peak ratio in 1/256, and the number of the first captured sample on its port. -/
structure AcqResult where
  broke : Bool
  cn0 : Nat
  code : Nat
  doppler : Int
  ratio : Nat
  sample : Nat
  deriving DecidableEq, Repr

/-- An acquisition result that an acq_id names for 1 s (R205): code phase, Doppler, and the instant on TS0 in 2^-48 ns. -/
structure Acquired where
  id : Nat
  tick : Nat
  code : Nat
  doppler : Int
  at_ : Int
  deriving DecidableEq, Repr

/-- Why a sample path breaks (R185). -/
inductive PathBreak where
  | clock | rate | shclk | overrun
  deriving DecidableEq, Repr

/-- What the correlators give at a channel's epoch end (R191, R193): the I and Q sums of the eight arms in arm order, I before Q, the C/N0 that
they show, and what the symbol decoder has found: half-cycle resolved, symbol and unit synchronisation. -/
structure EpochIn where
  sums : List Int
  cn0 : Nat
  halfCycle : Bool
  bitSync : Bool
  navSync : Bool
  deriving DecidableEq, Repr

/-- The end of a block of samples (R184): the fraction of an SHCLK cycle in 2^-32 at which it falls, and the samples of the block as the front end
delivered them. -/
structure BlockEnd where
  frac : Nat
  raw : List Nat
  deriving DecidableEq, Repr

/-- A navigation unit as the channel receives it (R194): polarity, the number of the sample on which its first symbol begins, and its symbols as
one number. -/
structure NavIn where
  inverted : Bool
  sample : Nat
  symbols : Nat
  deriving DecidableEq, Repr

/-- A public key and the KROOT that it signs, as Galileo broadcasts them (R195): the key, the sibling hashes of its Merkle path with 1 where the
sibling stands on the left, P-521 or P-256, the signature, the root key of the chain. -/
structure OsnmaRoot where
  key : Nat
  path : List (Bool × Nat)
  p521 : Bool
  signature : Nat
  kroot : Nat
  deriving DecidableEq, Repr

/-- An OSNMA tag with what comes to verify it (R195): the satellite, the ADKD, the navigation records covered, a public key and KROOT where new
ones came, the disclosed key and its place in the chain counted from KROOT, SHA3-256 or SHA-256 chain, CMAC-AES or HMAC-SHA-256 tag, the tag,
and the message that it authenticates. -/
structure OsnmaTag where
  sat : Nat
  adkd : Nat
  first : Nat
  last : Nat
  root : Option OsnmaRoot
  key : Nat
  place : Nat
  sha3 : Bool
  cmac : Bool
  tag : Nat
  message : Nat
  deriving DecidableEq, Repr

/-- What OSNMA has verified (R195): the KROOT, and the last verified key of the chain with its place. -/
structure OsnmaSt where
  kroot : Option Nat
  key : Option (Nat × Nat)
  deriving DecidableEq, Repr

/-- A view correction that firmware forms (R198): the view, satellites of the system in the solution, the estimate and three times its
standard deviation in ps, and the broadcast offset to the GPS view in ps where there is one. -/
structure ViewFeed where
  view : Nat
  sats : Nat
  estimate : Int
  sigma3 : Nat
  broadcast : Option Int
  deriving DecidableEq, Repr

/-- What the retention image holds of a satellite (R200): signal, number, GLONASS k, and the second of TS0 at which its almanac and its ephemeris
came. -/
structure ImageSat where
  signal : Nat
  svid : Nat
  gloK : Int
  almanac : Option Nat
  ephemeris : Option Nat
  deriving DecidableEq, Repr

/-- The retention image (R200): satellites, the last position where it is valid, the ionosphere model, the UTC and inter-system parameters, and
the last tracked satellites with their Doppler in 2^-8 Hz: signal, number, Doppler. -/
structure GnssImage where
  sats : List ImageSat
  position : Option (Int × Int × Int)
  iono : Nat
  utc : Nat
  tracked : List (Nat × Nat × Int)
  deriving DecidableEq, Repr

/-- A solution as firmware forms it (R197, R198, R200): offset TS0 − TAI and standard deviation in ps, broadcast UTC uncertainty and notch
bias in ps, satellites used by system (0 GPS, 1 Galileo, 2 BeiDou, 3 GLONASS) and number, the view corrections, and what firmware knows for the
retention image. -/
structure SolutionIn where
  offset : Int
  sigma : Nat
  utcUnc : Nat
  notch : Nat
  used : List (Nat × Nat)
  views : List ViewFeed
  sats : List ImageSat
  position : Option (Int × Int × Int)
  iono : Nat
  utc : Nat
  deriving DecidableEq, Repr

/-- A dump (R191): epoch count, samples, flags and sums. -/
structure Dump where
  epoch : Nat
  samples : Nat
  valid : Bool
  gap : Bool
  updated : Bool
  sums : List Int
  deriving DecidableEq, Repr

/-- A commit that waits for its epoch boundary (R192). -/
structure NcoPend where
  code : Option Nat
  carr : Option Int
  adj : Int
  wait : Nat
  deriving DecidableEq, Repr

/-- The NCOs of a channel at a sample of its port (R192): rates in force, code phase within the primary period in 2^-40 chips, whole periods,
accumulated carrier phase in 2^-48 cycles. -/
structure NcoPoint where
  sample : Nat
  code : Nat
  carr : Int
  phase : Nat
  periods : Nat
  cycles : Int
  deriving DecidableEq, Repr

/-- A tracking channel beside its registers (R191-R193): the NCOs at the start of the present epoch, and at that of the one before. -/
structure GnssCh where
  nco : NcoPoint
  back : Option NcoPoint
  epochs : Nat
  heldCode : Option Word
  heldCarr : Option Word
  adj : Int
  pend : Option NcoPend
  /-- An NCO update was applied at the start of the present epoch (R191). -/
  updated : Bool
  gap : Bool
  slip : Bool
  dumps : List Dump
  dumped : Bool
  /-- Epochs in a row with C/N0 of 25 dB-Hz or more, the prompt sums of the last 100, and the epochs since carrier lock began (R193). -/
  strong : Nat
  prompts : List (Int × Int)
  lockMs : Nat
  half : Bool
  /-- Powers of the monitor arm and of prompt at each offset of the monitor arm in quarter chips, 8 added (R203). -/
  mon : Tbl (Nat × Nat)
  deriving DecidableEq, Repr

/-- The NCOs at reset. -/
def NcoPoint.reset : NcoPoint := ⟨0, 0, 0, 0, 0, 0⟩

/-- A channel from reset. -/
def GnssCh.reset : GnssCh := ⟨.reset, none, 0, none, none, 0, none, false, false, false, [], false, 0, [], 0, false, []⟩

/-- A sample epoch mark (R184): its sample, its instant on TS0 in 2^-48 ns, its place on SHCLK in 2^-32 ticks, and its slate. -/
structure GnssMark where
  sample : Nat
  units : Nat
  place : Int
  slate : Slate
  deriving DecidableEq, Repr

/-- A sample port beside its registers (R184, R185, R188): its path is broken, its last two marks, newest first, the jamming indicator of the last
100 blocks, and of the minute under way the blocks, those with carrier lock and the sum of their mean C/N0 in 2^-8 units, then the means of
the minutes of 24 h with their ticks. -/
structure GnssPort where
  broken : Bool
  marks : List GnssMark
  jams : List Nat
  blocks : Nat
  locked : Nat
  cn0Sum : Nat
  minutes : List (Nat × Nat)
  deriving DecidableEq, Repr

/-- A port from reset. -/
def GnssPort.reset : GnssPort := ⟨false, [], [], 0, 0, 0, []⟩

/-- The baseband beside its registers. -/
structure GnssSt where
  ports : Tbl GnssPort
  ch : Tbl GnssCh
  /-- The searches that wait or run; those of firmware have no command (R189, R190). -/
  acqQ : List (Option CmdHdr × GnssAcqArgs)
  acqDone : List Acquired
  nextAcq : Nat
  /-- Searches that firmware has still to ask for (R190). -/
  plan : List GnssAcqArgs
  wakers : List CmdHdr
  /-- The present wake is a periodic one; the baseband was ON at entry to COAST; the instant of TS0 of the entry to SLEEP or of the
  periodic wake (R199). -/
  periodic : Bool
  onAtCoast : Bool
  since : Nat
  /-- The retention image, where it was written since power-on and not invalidated (R200). -/
  image : Option GnssImage
  /-- The multiple of the measurement interval measured last (R193). -/
  measAt : Option Nat
  /-- Records that wait for the control cores (R194). -/
  navQ : List Layout
  osnma : OsnmaSt
  /-- Consecutive evaluations at which the condition of each check held, and the S4 results since the last one (R203). -/
  spoofRuns : Tbl Nat
  s4 : Bool
  /-- Solutions that GNSS_SPOOF RAISE flagged (R205). -/
  raised : Nat
  /-- Satellites authenticated for ADKD 0, with the tick (R203). -/
  auth : List (Nat × Nat)
  /-- The satellites that each solution last used, by system and number (R94, R196). -/
  solUsed : Tbl (List (Nat × Nat))
  deriving DecidableEq, Repr

/-- From reset: OFF. -/
def GnssSt.reset : GnssSt := ⟨[], [], [], [], 0, [], [], false, false, 0, none, none, [], ⟨none, none⟩, [], false, 0, [], []⟩

end Sys2Proof
end

