-- ==== Sys2Proof/Types/Governor.lean ====
section
/-! DEFINITION. Firmware, the governor and the performance counters (17_firmware_governor_perf.md): arguments, and the state that
no register holds. -/
namespace Sys2Proof

/-- A step permit held for a timescale (R381, R382). -/
structure Permit where
  value : Nat
  /-- The command that reserved it (R382): its ring and tag. -/
  reserved : Option (Nat × Nat)
  /-- The tick of the governor's own timer at which its lifetime has passed (R381). -/
  expires : Nat
  deriving DecidableEq, Repr

/-- The governor (R374-R382): the permits by timescale, the tick at which GOV_DENIED was last posted for a limit value (R456), and the
governor floor record: its count and its 39 values (R376). The floors and limits are registers. -/
structure GovSt where
  permits : Tbl (Option Permit)
  lastDenied : Tbl (Option Nat)
  floorRec : Option (Nat × List Nat)
  deriving DecidableEq, Repr

/-- From reset: no permit is held. -/
def GovSt.reset : GovSt := ⟨[], [], none⟩

/-- A Kwetan firmware image as the boot ROM reads it (R367): image version, security version, and whether its signature verifies. -/
structure FwImage where
  version : Nat
  security : Nat
  sigGood : Bool
  deriving DecidableEq, Repr

/-- Arguments of FW_STAGE (R390), with the image that stands at the address. -/
structure FwStageArgs where
  addr : Nat
  length : Nat
  image : FwImage
  deriving DecidableEq, Repr

/-- A plug-in that the ACTIVE sheet loads (R373). -/
structure Plugin where
  cores : Nat
  flags : Nat
  hashOk : Bool
  running : Bool
  deriving DecidableEq, Repr

/-- Firmware slots, boot record and plug-ins (R371-R373). Slots: 0 A, 1 B. -/
structure FwSt where
  slots : Tbl (Option FwImage)
  running : Nat
  preferred : Nat
  trial : Bool
  trialCount : Nat
  seq : Nat
  /-- The staging that waits for its QSPI write: the command, the slot and the image. -/
  writing : Option (CmdHdr × Nat × FwImage)
  plugins : Tbl (Option Plugin)
  deriving DecidableEq, Repr

/-- From manufacture: slot A preferred, nothing known of the images until they are read. -/
def FwSt.reset : FwSt := ⟨[], 0, 0, false, 0, 0, none, []⟩

/-- What a plug-in asks of the kernel (R369, R409, R15, R93): a register write, GNSS_SPOOF, a log record, or a published quality of a timescale or
instance (kind 0 bound code of a timescale, 1 clockClass of a PTP instance, 2 stratum of an NTP instance). -/
inductive KernelCall where
  | write (offset : Nat) (value : Word)
  | spoof (op checks sols : Nat)
  | record (sev code : Nat) (data : List Nat)
  | publish (kind index value : Nat)
  deriving DecidableEq, Repr

/-- A marked instruction that retires (R387, R388): core, mode (0 M, 1 U), plug-in id, class, PC, latency in SHCLK ticks, and instructions retired
on the core since its previous sample. -/
structure SampleIn where
  core : Nat
  mode : Nat
  plugin : Nat
  cls : Nat
  pc : Nat
  latency : Nat
  retired : Nat
  deriving DecidableEq, Repr

/-- The engines that performance events 0x8001 and 0x8004 name in their filter (R453). -/
inductive Engine where
  | timescales | clapper | synthesis | outputs | cues | gnss | port (p : Nat) | tse | ranin | host | cores | stavris | log
  deriving DecidableEq, Repr

/-- Performance counters and sampling beside their registers (R383-R389). -/
structure PerfSt where
  sampling : Bool
  /-- The sample buffer, oldest first: its entries without their phase. -/
  buffer : List Layout
  /-- A record was not written since the last one that was (R389). -/
  lost : Bool
  seq : Nat
  /-- Latched words of a snapshot (R384): the HI word of counter c, and the LO word of an odd counter of a chained pair. -/
  latchHi : Tbl (Option Nat)
  latchLo : Tbl (Option Nat)
  /-- Counters that have wrapped and whose PERF_OVF has not come (R383). -/
  wrapped : List Nat
  deriving DecidableEq, Repr

/-- From reset. -/
def PerfSt.reset : PerfSt := ⟨false, [], false, 0, [], [], []⟩

end Sys2Proof
end

