-- ==== Sys2Proof/Types/Handshake.lean ====
section
/-! DEFINITION. The handshake domain (02_handshake_fabric.md): what its commands carry, and the state that no register holds. -/
namespace Sys2Proof

/-- A timed load's target (R33): the epoch load of a timescale (R79) or the ratio of a DPLL (R123). -/
inductive LoadTarget where
  | epoch (ts : Nat)
  | dpll (d : Nat)
  deriving DecidableEq, Repr

/-- A timed load that is pending (R33): an epoch load carries the increment, and the slew amount in 2^-48 ns with its rate in
ps/s, or a step amount, and the change of the EFC code that goes with the increment (R82); a DPLL load carries the ratio in 2^-40. -/
inductive TimedLoad where
  | epoch (ts : Nat) (incr : Nat) (slew : Option (Int × Nat)) (step : Option Int) (dac : Int)
  | dpll (d : Nat) (ratio : Nat)
  deriving DecidableEq, Repr

/-- The target of a pending load. -/
def TimedLoad.target : TimedLoad → LoadTarget
  | .epoch n _ _ _ _ => .epoch n
  | .dpll d _ => .dpll d

/-- How an AVSBus transaction ends (R43). -/
inductive AvsResult where
  | acked
  | notAcked
  | error
  deriving DecidableEq, Repr

/-- The pace monitor, AVSBus and the crossings. -/
structure HandshakeSt where
  /-- SHCLK is present (R40). -/
  shclk : Bool
  /-- The sag state (R32). -/
  sag : Bool
  /-- Consecutive windows below the sag threshold. -/
  belowRun : Nat
  /-- Consecutive windows at or above it. -/
  aboveRun : Nat
  /-- The window length in force: a change waits for the end of the window in progress (R32). -/
  windowExp : Nat
  /-- The AVSBus transaction in progress: the voltage asked for in mV, and whether it is the retry (R43). -/
  avsPending : Option (Nat × Bool)
  /-- Tracking is suspended until avs_track is written from 0 to 1 (R43). -/
  avsSuspended : Bool
  /-- The last step of tracking (R42): the tick of the model's clock at which it was made, and the SHCLK cycles of the windows completed since. -/
  avsStepped : Option (Nat × Nat)
  /-- The write of a run profile's set point is not acknowledged yet (R42). -/
  avsProfile : Bool
  /-- The timed loads that are pending (R33, R40). -/
  loads : List TimedLoad
  deriving DecidableEq, Repr

/-- From reset: no SHCLK until AP0 has locked in BOOT. -/
def HandshakeSt.reset : HandshakeSt := ⟨false, false, 0, 0, 4, none, false, none, false, []⟩

end Sys2Proof
end

