-- ==== Sys2Proof/Types/Host.lean ====
section
/-! DEFINITION. The host interface (14_host_rings.md): the arguments of its commands, the descriptors, and the state of the
rings that no register holds. -/
namespace Sys2Proof

/-- Arguments of ABORT (R327). -/
structure AbortArgs where
  ring : Nat
  tag : Nat
  deriving DecidableEq, Repr

/-- A TXD descriptor (R315). `mbz`: its must-be-0 bytes and flag bits are 0. -/
structure TxDesc where
  addr : Nat
  length : Nat
  eop : Bool
  stamp : Bool
  stampId : Nat
  mss : Nat
  hdrLen : Nat
  mbz : Bool
  cookie : Nat
  /-- The bytes of its buffer. -/
  data : List Nat
  deriving DecidableEq, Repr

/-- An RXD descriptor (R318). -/
structure RxDesc where
  addr : Nat
  length : Nat
  mbz : Bool
  cookie : Nat
  deriving DecidableEq, Repr

/-- One doorbell entry (R307). -/
structure Doorbell where
  index : Nat
  seq : Nat
  deriving DecidableEq, Repr

/-- A frame held in the staging buffer of a port until RXD buffers are available (R320). -/
structure StagedFrame where
  ring : Nat
  port : Nat
  length : Nat
  steer : Nat
  oversize : Bool
  fcsNotChecked : Bool
  slate : Slate
  /-- Buffers already consumed: their descriptors and the bytes written to each. -/
  used : List (RxDesc × Nat)
  /-- The tick at which the wait for a buffer began (R320). -/
  waiting : Option Nat
  /-- Its bytes. -/
  data : List Nat
  deriving DecidableEq, Repr

/-- How a host-memory request that fails was made (R330). -/
inductive DmaAccess where
  | descriptorRead (ring : Nat)
  | entryWrite (ring : Nat)
  | record (area : Nat) (index : Nat)
  | doorbellRead
  deriving DecidableEq, Repr

/-- An access to BAR0 or BAR2 that R303, R449 or R450 refuses. -/
structure BarAccess where
  bar : Nat
  offset : Nat
  size : Nat
  write : Bool
  deriving DecidableEq, Repr

end Sys2Proof
end

