-- ==== Sys2Proof/Types/Log.lean ====
section
/-! DEFINITION. The continuity log and the wrap test (18_log_and_wrap.md): arguments, and the state that no register holds. -/
namespace Sys2Proof

/-- Arguments of LOG_READ (R409), with the cells in which its reads find an uncorrectable error (R401). -/
structure LogReadArgs where
  sev : Nat
  start : Nat
  addr : Nat
  max : Nat
  badCells : List Nat
  deriving DecidableEq, Repr

/-- Arguments of LOG_WRITE (R409): `data` are the 36 bytes. -/
structure LogWriteArgs where
  sev : Nat
  code : Nat
  len : Nat
  data : List Nat
  deriving DecidableEq, Repr

/-- A record in a last-words slot, with the RTC time that stands in its bytes 56-63 (R399). -/
structure LastWord where
  record : LogRec
  rtcSec : Nat
  rtcTicks : Nat
  deriving DecidableEq, Repr

/-- The log: the cells that hold a valid record, the write queue, the last words, the segments retired. -/
structure LogSt where
  cells : Tbl (Option LogRec)
  queue : List LogRec
  lastWords : Tbl (Option LastWord)
  retired : List Nat
  /-- The RTC (R399): the seconds last loaded and the tick at which they were. -/
  rtcSec : Nat
  rtcAt : Nat
  /-- The RTC holds a time (R399, R425). -/
  rtcValid : Bool
  /-- Test blocks that failed and stay isolated until the next RESET_N (R406). -/
  isolated : List Nat
  /-- LOG_WRITE commands that wait for their record: the sequence and the command (R409). -/
  waiters : List (Nat × CmdHdr)
  deriving DecidableEq, Repr

/-- From power-on: every cell and slot is free. -/
def LogSt.reset : LogSt := ⟨[], [], [], [], 0, 0, false, [], []⟩

/-- The wrap summary of the battery domain (R404): the RTC time, and each block's result and coverage. -/
structure WrapSummary where
  rtcSec : Nat
  full : Bool
  results : List (Nat × Nat)
  deriving DecidableEq, Repr

/-- A wrap test in progress (R404): the set, the block under test (16: none is left), its slices done, and the budget left in ms. -/
structure WrapRun where
  full : Bool
  block : Nat
  slices : Nat
  budget : Nat
  /-- The tick at which its present slice began. -/
  since : Nat
  deriving DecidableEq, Repr

/-- Wrap test and idle slices beside their registers (R403-R408). -/
structure WrapSt where
  run : Option WrapRun
  summary : Option WrapSummary
  /-- A tamper has tripped since the summary was written (R406). -/
  tamperSince : Bool
  /-- The kind that the rotation takes next (R407): 0 spare lane, 1 DPLL, 2 APLL, 3 GNSS channel, 4 AES lane. -/
  kind : Nat
  /-- The resource under test: kind, index, and the BIST_IDLE_RUN that asked. -/
  under : Option (Nat × Nat × Option CmdHdr)
  /-- The tick at which its slice began, and that at which the rotation's last slice did. -/
  underAt : Nat
  idleAt : Nat
  /-- Resources retired until RESET_N: kind and index. -/
  retired : List (Nat × Nat)
  deriving DecidableEq, Repr

/-- From manufacture. -/
def WrapSt.reset : WrapSt := ⟨none, none, false, 0, none, 0, 0, []⟩

end Sys2Proof
end

