-- ==== Sys2Proof/Types/Loops.lean ====
section
/-! DEFINITION. The phase-locked loops (06_loops.md) and the clock outputs (07_outputs.md): arguments, what the detectors report, and
the state that no register holds. -/
namespace Sys2Proof

/-- What the detectors give a DPLL update (R124): the stamp of a feedback-divider edge of the steered APLL, `frac` 2^-32 of a cycle after the last
SHCLK edge, and the count of VCO cycles of that edge from the origin of the source's ideal phase: the anchor, or timescale time 0 before there is
one, for a timescale source, the last reference edge for the others. For a port source also the recovered-clock sample (R224): its place likewise,
and the line-rate cycles since the sample before. The frequency error in 10^-12, and the tuning voltage within 10 % of a rail (R130). -/
structure DpMeas where
  cycles : Int
  frac : Int
  portFrac : Int
  portCycles : Nat
  freq : Int
  margin : Bool
  deriving DecidableEq, Repr

/-- A stamped edge of a reference input (R122): the SHCLK cycles from now to it and a fraction of one in 2^-32, and its offset over the last second in
ppb. -/
structure RefinEdge where
  ticks : Nat
  frac : Nat
  ppb : Int
  deriving DecidableEq, Repr

/-- How an APLL locked (R130, R131): after how many µs, and whether the tuning voltage is within 10 % of a rail. -/
structure ApLock where
  us : Nat
  margin : Bool
  deriving DecidableEq, Repr

/-- An instant of an alignment grid (R132): on the source timescale in 2^-48 ns, or of a physical edge in 2^-32 SHCLK cycles. -/
inductive GridAt where
  | ts (units : Nat)
  | tick (at_ : Int)
  deriving DecidableEq, Repr

/-- The stamps of a REFIN detector (R122): the last two, corrected, in 2^-32 SHCLK cycles. -/
structure Refin where
  last : Option Int
  prev : Option Int
  deriving DecidableEq, Repr

/-- No stamp. -/
def Refin.reset : Refin := ⟨none, none⟩

/-- Arguments of DP_RETUNE (R141). -/
structure DpRetuneArgs where
  dpll : Nat
  freq : Nat
  alignDiv : Nat
  deriving DecidableEq, Repr

/-- A DPLL beside its registers. Ratios are in 2^-40. -/
structure Dpll where
  ratio : Nat
  /-- Consecutive updates that met the lock criteria, and that broke them (R126). -/
  goodRun : Nat
  badRun : Nat
  /-- Ratios applied in the present LOCKED period, an update each: (ratio, updates), newest first, and their number (R127). -/
  hist : List (Nat × Nat)
  lockedFor : Nat
  /-- Mean of the final 1 s of the most recent LOCKED period of at least 1 s (R127). -/
  holdRatio : Option Nat
  /-- The deterministic-phase procedure is due or runs; its anchor; the command that asked. An anchor on a physical edge is the first stamped edge at
  or after the instant until DET_ANCHOR, and that edge from then on. -/
  active : Bool
  anchor : Option GridAt
  det : Option CmdHdr
  /-- Last residual in 2^-8 ps, and the sum of the corrections added to the phase (R133). -/
  residual : Int
  correction : Int
  /-- Detector samples of updates whose loads missed, oldest first (R123): phase error in ps, frequency error in 10^-12. -/
  samples : List (Int × Int)
  /-- What the output phase still lags by the slope limit (R125), and DP_PHASE plus corrections as the last update saw them, in 1/256,000 ps; the
  source time less what its increments alone give, as the last update saw it, in 2^-48 ns. -/
  lag : Int
  phaseSeen : Int
  srcSeen : Int
  /-- ACQUIRING was entered from OFF or FREERUN, and no update has been made since (R126). -/
  fresh : Bool
  /-- The last recovered-clock sample of a port source, in 2^-32 SHCLK cycles (R224). -/
  portAt : Option Int
  deriving DecidableEq, Repr

/-- A DPLL from reset. -/
def Dpll.reset : Dpll := ⟨0, 0, 0, [], 0, none, false, none, none, 0, 0, [], 0, 0, 0, false, none⟩

/-- An APLL beside its registers. -/
structure Apll where
  /-- The ratio last loaded, in 2^-40 (R121): lost at RESET_N. -/
  ratio : Option Nat
  /-- Band table entries by use, most recent first (R129). -/
  lru : List Nat
  /-- The table entry of the hop in progress, and the band loaded from it. -/
  hop : Option (Nat × Nat)
  /-- Entered LOST for its PFD frequency: only enable 0 leaves it (R131). -/
  stuck : Bool
  /-- The AP_RELOCK or DP_RETUNE that waits for the lock: header and opcode. -/
  cmd : Option (CmdHdr × Nat)
  /-- The tick of the last entry to LOCKED (R157). -/
  lockedAt : Nat
  deriving DecidableEq, Repr

/-- An APLL from reset. -/
def Apll.reset : Apll := ⟨none, [], none, false, none, 0⟩

/-- The loops together: DPLLs, APLLs, REFIN detectors, OSC_IN present, probe 2 has measured since AP0's lock (R126), and of the AP0 gap (R137,
R138): phi_loss and phi_res in 2^-32 ticks, n_gap, and the timescales that ran at L. -/
structure LoopSt where
  dp : Tbl Dpll
  ap : Tbl Apll
  refin : Tbl Refin
  osc : Bool
  probe2 : Bool
  phiLoss : Nat
  phiRes : Nat
  nGap : Nat
  ranAtL : List Nat
  deriving DecidableEq, Repr

/-- From reset. -/
def LoopSt.reset : LoopSt := ⟨[], [], [], true, false, 0, 0, 0, []⟩

/-- Arguments of OUT_START and OUT_STOP (R159). -/
structure OutArgs where
  mask : Nat
  trigger : Nat
  ts : Nat
  sec : Nat
  ns : Nat
  deriving DecidableEq, Repr

/-- An output beside its registers. -/
structure Out where
  /-- A command stop is scheduled, with the falling edge still to come (R152). -/
  cmdStop : Bool
  /-- The cause of a stop without a command that is due (R153). -/
  fault : Option Nat
  /-- The mux move that is due: true to the fallback (R156, R157). -/
  move : Option Bool
  /-- The fine delay in force in ps (R147). -/
  fine : Int
  /-- The grid instant at which the primary divider was last loaded (R133, R148): none where no grid fixes it. For AP0 an OSC_IN edge (R134). -/
  ref : Option GridAt
  /-- The same of the fallback divider. -/
  refFb : Option GridAt
  /-- The grid instants at which the primary and the fallback divider will be loaded. -/
  reloadAt : Option GridAt
  reloadFb : Option GridAt
  /-- An OUT_START with trigger AT_TS waits for its instant. -/
  waits : Bool
  deriving DecidableEq, Repr

/-- An output from reset. -/
def Out.reset : Out := ⟨false, none, none, 0, none, none, none, none, false⟩

end Sys2Proof
end

