-- ==== Sys2Proof/Types/Ntp.lean ====
section
/-! DEFINITION. The NTP and NTS service (12_ntp_nts_service.md): arguments, requests as the parser gives them, and the state that no
register holds. A sealed thing is represented by what it holds and the key that sealed it (notes/assumptions/17.md). -/
namespace Sys2Proof

/-- Arguments of NTS_COOKIE_MINT (R280), with the keys that stand at the key address. -/
structure MintArgs where
  count : Nat
  aead : Nat
  keyAddr : Nat
  outAddr : Nat
  c2s : Nat
  s2c : Nat
  deriving DecidableEq, Repr

/-- Arguments of NTP_RL_QUERY (R280). -/
structure RlQueryArgs where
  family : Nat
  addr : Nat
  deriving DecidableEq, Repr

/-- A cookie (R268): epoch, the key it is sealed under, and its plaintext. -/
structure Cookie where
  epoch : Nat
  key : Nat
  version : Nat
  aead : Nat
  c2s : Nat
  s2c : Nat
  deriving DecidableEq, Repr

/-- The extension fields of an NTS request (R265): its Unique Identifiers (length and value), its cookies, the bodies' lengths of its
placeholders, and the key of its final Authenticator if there is one. -/
structure NtsFields where
  uids : List (Nat × Nat)
  cookies : List Cookie
  placeholders : List Nat
  auth : Option Nat
  deriving DecidableEq, Repr

/-- How a request is classified (R259). -/
inductive NtpKind where
  | plain
  | legacyMac
  | nts (f : NtsFields)
  deriving DecidableEq, Repr

/-- A request (R258, R259): its SFD's instant from now, its VLAN tags, its family (0 IPv4, 1 IPv6), the address and UDP port it is sent to, its source,
UDP payload length, header fields. -/
structure NtpReq where
  port : Nat
  ticks : Nat
  frac : Nat
  tagged : Nat
  family : Nat
  dest : Nat
  destPort : Nat
  addr : Nat
  udp : Nat
  length : Nat
  mode : Nat
  version : Nat
  poll : Int
  xmit : Nat
  kind : NtpKind
  deriving DecidableEq, Repr

/-- What a reply is (R261, R265-R267, R272). -/
inductive ReplyKind where
  | plain
  | kod
  /-- The length and value of the Unique Identifier. -/
  | nak (uidLen uid : Nat)
  /-- New cookies: their number, epoch, keys, and the Unique Identifier's length and value. -/
  | nts (cookies epoch c2s s2c uidLen uid : Nat)
  deriving DecidableEq, Repr

/-- A reply on its way: waiting to be started (an NTS reply for a lane), computed, or reserved for its launch. -/
structure NtpReply where
  id : Nat
  inst : Nat
  port : Nat
  family : Nat
  addr : Nat
  udp : Nat
  version : Nat
  poll : Int
  org : Nat
  /-- T2 as an NTP timestamp, and the tick of T2. -/
  t2 : Nat
  tick : Nat
  kind : ReplyKind
  started : Bool
  deriving DecidableEq, Repr

/-- A token bucket (R271): tokens in 1/16 of a token and 1/625,000,000 of that, the tick of the last request, of the last
Kiss-o'-Death, and the requests over the limit. -/
structure Bucket where
  tokens : Nat
  last : Nat
  kod : Option Nat
  overLimit : Nat
  deriving DecidableEq, Repr

/-- A mode-4 packet (R258, R277, R278): port, arrival, source address and family, origin timestamp, T2 and T3 as NTP timestamps, and header fields. -/
structure PeerReply where
  port : Nat
  ticks : Nat
  frac : Nat
  family : Nat
  addr : Nat
  origin : Nat
  t2 : Nat
  t3 : Nat
  stratum : Nat
  li : Nat
  refid : Nat
  rootDelay : Nat
  rootDisp : Nat
  deriving DecidableEq, Repr

/-- An upstream peer beside its registers (R277, R278). -/
structure Peer where
  /-- The outstanding request: T1 as an NTP timestamp and on the port's timescale in 2^-48 ns. -/
  t1 : Option (Nat × Int)
  /-- Accepted replies of the last polls, newest first. -/
  reach : List Bool
  stopped : Bool
  x : Int
  delta : Nat
  refid : Nat
  rootDelay : Nat
  rootDisp : Nat
  accepted : Bool
  /-- The second whose multiple of the poll interval the last request belongs to (R277). -/
  polled : Option Nat
  deriving DecidableEq, Repr

/-- A peer from reset. -/
def Peer.reset : Peer := ⟨none, [], false, 0, 0, 0, 0, 0, false, none⟩

/-- The NTP service. -/
structure NtpSt where
  replies : List NtpReply
  nextId : Nat
  buckets : Tbl Bucket
  /-- The hash key of R271 and of the client table (R295). -/
  hashKey : Nat
  /-- End of the last TSE launch reserved on each port, in ticks (R264). -/
  launchEnd : Tbl Nat
  peers : Tbl Peer
  /-- The tick at which each instance was enabled (R261). -/
  enabledAt : Tbl Nat
  deriving DecidableEq, Repr

/-- From reset. -/
def NtpSt.reset : NtpSt := ⟨[], 0, [], 0, [], [], []⟩

end Sys2Proof
end

