-- ==== Sys2Proof/Types/Ports.lean ====
section
/-! DEFINITION. The Ethernet ports (10_ports.md): frames as they arrive, and the state that no register holds. -/
namespace Sys2Proof

/-- What the parser makes of a received frame for steering (R319): PTP, NTP or NTS-KE, a slow protocol or LLDP with the QL of an ESMC
PDU, anything else. -/
inductive RxKind where
  | ptp
  | ntp
  | link (ql : Option Nat)
  | other
  deriving DecidableEq, Repr

/-- A frame at the receive ball (R210, R213): its SFD's instant in SHCLK cycles and 2^-32 of a cycle from now, its length, its FCS, its
kind, whether the TSE claims it by the rules of the service chapters, and the RS-FEC codewords corrected and not correctable in it
(R219). -/
structure RxFrame where
  ticks : Nat
  frac : Nat
  length : Nat
  fcsOk : Bool
  kind : RxKind
  claim : Bool
  fecCorr : Nat
  fecUncorr : Nat
  /-- Its bytes, the FCS included. -/
  data : List Nat
  deriving DecidableEq, Repr

/-- Where the parser finds the headers of a frame (R215): network and transport header, IPv6 or IPv4, TCP or UDP. -/
structure IpAt where
  l3 : Nat
  l4 : Nat
  v6 : Bool
  tcp : Bool
  deriving DecidableEq, Repr

/-- An entry of the TX timestamp queue (R217). -/
structure TxStamp where
  id : Nat
  sent : Bool
  slate : Slate
  deriving DecidableEq, Repr

/-- A port beside its registers. -/
structure PortSt where
  /-- The twelve counters of R219. -/
  cnt : Tbl Nat
  /-- Consecutive failed measurements of this link-up (R211). -/
  fails : Nat
  /-- What the last measurement gave without PORT_TS_ADJ, receive and transmit, in 2^-8 ps (R210). -/
  base : Option (Nat × Nat)
  txts : List TxStamp
  /-- Stamps requested by frames whose SFD has not left (R217, R218). -/
  stamps : List Nat
  /-- The next dailies record is the first since a switch to DAILIES (R220). -/
  dlyFirst : Bool
  /-- The TXD ring that sent last (R317). -/
  lastTxd : Nat
  /-- Segments already sent of the chain at the head of each TXD ring (R216). -/
  segs : Tbl Nat
  /-- Tokens of R378 that are spent, in 1/625 bit, at a tick. -/
  spent : Nat
  spentAt : Nat
  /-- TSE frames sent in a row while a TXD frame waited (R253). -/
  tseRun : Nat
  deriving DecidableEq, Repr

/-- A port from reset. -/
def PortSt.reset : PortSt := ⟨[], 0, none, [], [], false, 63, [], 0, 0, 0⟩

/-- The ports together: the gearbox measurements that wait, the first one running, each with the tick from which it waits (R17). -/
structure PortsSt where
  tbl : Tbl PortSt
  gearQ : List (Nat × Nat)
  deriving DecidableEq, Repr

/-- From reset. -/
def PortsSt.reset : PortsSt := ⟨[], []⟩

end Sys2Proof
end

