-- ==== Sys2Proof/Types/Power.lean ====
section
/-! DEFINITION. Power, thermal limits and start-up (19_power_startup.md): what a boot finds outside the device, and the state that no register
holds. -/
namespace Sys2Proof

/-- What a boot finds (R342-R345, R351, R367, R372, R373, R377, R406, R424): the firmware images in slots A and B; whether the ACTIVE and PREVIOUS
areas read back with a good CRC and signature; the factory calibration and the floor record verify; the negative's check value matches and VBAT is
above 1.6 V; the TRNG start-up test passes; the self-test blocks that would fail; the plug-ins whose hash does not match; the SLOT pin; the
milliseconds of phases 1-8. -/
structure BootIn where
  fwA : Option FwImage
  fwB : Option FwImage
  activeOk : Bool
  previousOk : Bool
  fcalOk : Bool
  floorOk : Bool
  negativeOk : Bool
  vbatOk : Bool
  trngOk : Bool
  failBlocks : List Nat
  badPlugins : List Nat
  slot : Nat
  ms : Nat
  deriving DecidableEq, Repr

/-- Power and run states beside their registers. -/
structure PwrSt where
  /-- RESET_N or a rail holds the device in RESET (R412, R422). -/
  inReset : Bool
  /-- RUN has been entered since BOOT (R425). -/
  ran : Bool
  /-- The firmware stopped in BOOT under R372 or R406. -/
  stopped : Bool
  /-- The run state that SAFE was entered from (R418). -/
  saved : Nat
  /-- Consecutive samples at or above the threshold of step k, and below its leaving threshold (R416). -/
  above : Tbl Nat
  below : Tbl Nat
  /-- Rails of the last brown-out, for the next boot (R412). -/
  brown : Nat
  /-- VCORE left its range, or power was removed, since the last boot (R394). -/
  coreLost : Bool
  /-- VIO18, which supplies the battery domain while it is present, has left its range since the last boot (R413), and every main rail has at one
  time (R402). -/
  vioLost : Bool
  allLost : Bool
  /-- The SHUTDOWN that waits for its handback (R428). -/
  shutdown : Option CmdHdr
  /-- The timescales whose bound reads 0xFF: all from entry to step 5, each until its next ensemble epoch after the step is left (R416, R418). -/
  boundHeld : List Nat
  /-- Milliseconds of the boot's phases before RUN, and the tick at which they had passed (R424). -/
  bootMs : Nat
  bootAt : Nat
  deriving DecidableEq, Repr

/-- From power-on: RESET_N has been released and the boot has not run. -/
def PwrSt.reset : PwrSt := ⟨false, false, false, 0, [], [], 0, true, true, true, none, [], 0, 0⟩

end Sys2Proof
end

