-- ==== Sys2Proof/Types/Ptp.lean ====
section
/-! DEFINITION. The PTP service (11_ptp_service.md): arguments, messages as the parser gives them, the client table (R247, R276), and the
state of an instance that no register holds. -/
namespace Sys2Proof

/-- Arguments of PTP_CLIENT_FIND (R254). -/
structure PtpFindArgs where
  inst : Nat
  transport : Nat
  port : Nat
  addr : Nat
  pid : Nat
  deriving DecidableEq, Repr

/-- Arguments of PTP_UMASTER (R254). -/
structure UmasterArgs where
  inst : Nat
  slot : Nat
  op : Nat
  port : Nat
  addr : Nat
  deriving DecidableEq, Repr

/-- What an Announce carries (R239): a claim and a bound code of our organisation's TLVs (R242) if any. -/
structure Announce where
  gm : Nat
  cls : Nat
  acc : Nat
  variance : Nat
  prio1 : Nat
  prio2 : Nat
  steps : Nat
  utcOfs : Int
  flags : Nat
  claim : Option Nat
  bnd : Option Nat
  deriving DecidableEq, Repr

/-- A unicast negotiation TLV (R245, R246): message type 0 Announce, 1 Sync, 2 Delay_Resp. -/
inductive UniTlv where
  | request (what : Nat) (log : Int) (dur : Nat)
  | grant (what : Nat) (log : Int) (dur : Nat)
  | cancel (what : Nat)
  | ackCancel (what : Nat)
  deriving DecidableEq, Repr

/-- The flags of an L1_SYNC TLV (R237): TCR, RCR, CR and OPE of the configuration, and whether the sender reports them active. -/
structure L1Flags where
  tcr : Bool
  rcr : Bool
  cr : Bool
  ope : Bool
  active : Bool
  deriving DecidableEq, Repr

/-- The body of a PTP message. Times are in 2^-48 ns on the sender's timescale, without the correctionField. -/
inductive PtpBody where
  | sync (origin : Int) (twoStep : Bool)
  | followUp (origin : Int)
  | delayReq
  | delayResp (rx : Int) (req : Nat)
  | pdelayReq
  | pdelayResp (rx : Int) (req : Nat) (twoStep : Bool)
  | pdelayFollowUp (tx : Int) (req : Nat)
  | announce (a : Announce)
  /-- Signaling: its unicast negotiation TLVs, its L1_SYNC TLV, and whether it carries a TLV of another kind beside an AUTHENTICATION. -/
  | signaling (uni : List UniTlv) (l1 : Option L1Flags) (other : Bool)
  deriving DecidableEq, Repr

/-- The AUTHENTICATION TLV of a message (R249): its SPP, its keyID, and the key its ICV was computed with. -/
structure PtpAuth where
  spp : Nat
  keyId : Nat
  key : Nat
  deriving DecidableEq, Repr

/-- A PTP message as it arrives (R231): its SFD's instant from now, its version, sdoId and domain, its VLAN tags, the address it is sent to and
its UDP destination port, its sender's portIdentity and addresses, its sequenceId, its correction in 2^-48 ns. An IP address is the number whose
first byte is the most significant. -/
structure PtpMsg where
  ticks : Nat
  frac : Nat
  version : Nat
  sdo : Nat
  domain : Nat
  transport : Nat
  tagged : Nat
  vlan : Nat
  dest : Nat
  udp : Nat
  pid : Nat
  addr : Nat
  mac : Nat
  seq : Nat
  corr : Int
  auth : Option PtpAuth
  body : PtpBody
  deriving DecidableEq, Repr

/-- What an interval of PTP_PERIODIC_SEND sends (R234). -/
inductive PtpPeriodic where
  | announce | sync | delayReq | pdelayReq
  /-- The Announce or Sync of client-table entry `e` (R248). -/
  | clientAnnounce (e : Nat)
  | clientSync (e : Nat)
  deriving DecidableEq, Repr

/-- A client-table entry of kind 1 (R247). -/
structure Grant where
  inst : Nat
  port : Nat
  transport : Nat
  types : Nat
  logA : Int
  logS : Int
  logD : Int
  expA : Nat
  expS : Nat
  expD : Nat
  pid : Nat
  vlan : Nat
  addr : Nat
  mac : Nat
  seqA : Nat
  seqS : Nat
  /-- The instants of R248 that the last Announce and the last Sync belong to. -/
  sentA : Option Int
  sentS : Option Int
  deriving DecidableEq, Repr

/-- A client-table entry of kind 2 (R276). -/
structure NtpClient where
  inst : Nat
  port : Nat
  family : Nat
  lastNts : Bool
  lastOver : Bool
  version : Nat
  poll : Int
  requests : Nat
  first : Nat
  last : Nat
  nts : Nat
  naks : Nat
  kods : Nat
  addr : Nat
  udp : Nat
  deriving DecidableEq, Repr

/-- An entry of the client table. -/
inductive Client where
  | grant (g : Grant)
  | ntp (c : NtpClient)
  deriving DecidableEq, Repr

/-- A foreign master (R238): the port and the sender it is heard from, its last Announce, how many Announces, and the tick of the last. -/
structure Foreign where
  port : Nat
  pid : Nat
  addr : Nat
  ann : Announce
  count : Nat
  tick : Nat
  deriving DecidableEq, Repr

/-- A request that waits for its answer (R234): a Delay_Req or Pdelay_Req at `t`, with its correction. -/
structure PtpReq where
  port : Nat
  pid : Nat
  addr : Nat
  seq : Nat
  peer : Bool
  t : Int
  corr : Int
  tick : Nat
  deriving DecidableEq, Repr

/-- A port of an instance. -/
structure PtpPort where
  /-- The last Sync: sequenceId, sender, t1 + c_s when known, t2, and whether its slate was bounded (R235). -/
  sync : Option (Nat × Nat × Option Int × Int × Bool)
  /-- The last Delay_Req or Pdelay_Req: sequenceId, t3, bounded. -/
  req : Option (Nat × Int × Bool)
  /-- Its answer: t4 − c_d; for peer delay the peer's residence and the arrival. -/
  resp : Option Int
  /-- Peer delay: the Pdelay_Resp that waits for its Follow_Up: t2 and arrival t4, each with corrections. -/
  pd : Option (Int × Int)
  /-- The Syncs whose Follow_Ups are due, oldest first: sequenceId and the transmit slate's time (R233); a client-table entry for unicast. -/
  fu : List (Nat × Int × Option Nat)
  /-- The last path delays, newest first, in ps (R235). -/
  delays : List Int
  seqA : Nat
  seqS : Nat
  seqD : Nat
  seqG : Nat
  /-- Sends of L1_SYNC since the last one received, and its flags (R237). -/
  l1Age : Nat
  l1Peer : Option L1Flags
  deriving DecidableEq, Repr

/-- A port of an instance from reset. -/
def PtpPort.reset : PtpPort := ⟨none, none, none, none, [], [], 0, 0, 0, 0, 0, none⟩

/-- A grant that a unicast slave holds: duration in s and the seconds it expires at. -/
structure HeldGrant where
  dur : Nat
  expires : Nat
  deriving DecidableEq, Repr

/-- A unicast master of PTP_UMASTER (R246) and the grants it gave: Announce, Sync, Delay_Resp. -/
structure Umaster where
  port : Nat
  addr : Nat
  announce : Option HeldGrant
  sync : Option HeldGrant
  delay : Option HeldGrant
  deriving DecidableEq, Repr

/-- An instance beside its registers. -/
structure PtpInst where
  ports : Tbl PtpPort
  foreign : List Foreign
  parent : Option Foreign
  slave : Option Nat
  /-- Claims received: (claim, tick) (R243). -/
  claims : List (Nat × Nat)
  exchanges : Nat
  /-- The exchanges that wait for their epoch: t2 and the offset x (R235). -/
  xs : List (Int × Int)
  reqs : List PtpReq
  umasters : Tbl (Option Umaster)
  /-- Consecutive epochs that met R244, and a splice request is out. -/
  altRun : Nat
  altOut : Bool
  deriving DecidableEq, Repr

/-- An instance from reset. -/
def PtpInst.reset : PtpInst := ⟨[], [], none, none, [], 0, [], [], [], 0, false⟩

/-- The PTP service: instances, the client table, and the entries whose change has not been mirrored (R294). -/
structure PtpSt where
  inst : Tbl PtpInst
  clients : Tbl (Option Client)
  dirty : List Nat
  deriving DecidableEq, Repr

/-- From reset. -/
def PtpSt.reset : PtpSt := ⟨[], [], []⟩

end Sys2Proof
end

