-- ==== Sys2Proof/Types/Sheets.lean ====
section
/-! DEFINITION. Call sheets (15_call_sheets.md): the parsed image, the arguments of the commands, and the slots, directory and undo list that
no register holds. -/
namespace Sys2Proof

/-- Arguments of CSHT_STAGE (R348): what stands in host memory at the address, and whether its signature verifies with the key that its
selector names (R333). -/
structure CshtStageArgs where
  addr : Nat
  length : Nat
  image : List Nat
  sigGood : Bool
  deriving DecidableEq, Repr

/-- Arguments of CSHT_COMMIT (R348). -/
structure CshtCommitArgs where
  trigger : Nat
  ts : Nat
  confirm : Nat
  expected : Nat
  sec : Nat
  ns : Nat
  deriving DecidableEq, Repr

/-- Arguments of CSHT_READ (R348). -/
structure CshtReadArgs where
  slot : Nat
  addr : Nat
  length : Nat
  deriving DecidableEq, Repr

/-- A PLUGIN section entry (R373). -/
structure PluginEntry where
  id : Nat
  cores : Nat
  flags : Nat
  offset : Nat
  length : Nat
  region : Nat
  hash : Nat
  deriving DecidableEq, Repr

/-- A GOVERNOR section (R380): set mask, raise mask, 39 values. -/
structure GovSection where
  set : Nat
  raise : Nat
  values : List Nat
  deriving DecidableEq, Repr

/-- A call sheet as its sections say it (R331, R332): header fields, REG and BOOT writes (offset, value), user calibration (item, index, value),
the signer (0 owner, 1 vendor, 0xFF none), and the image itself. -/
structure Sheet where
  version : Nat
  base : Nat
  device : Nat
  ucalVer : Nat
  sections : Nat
  regs : List (Nat × Nat)
  boot : List (Nat × Nat)
  ucal : List (Nat × Nat × Int)
  gov : List GovSection
  plugins : List PluginEntry
  signer : Nat
  image : List Nat
  deriving DecidableEq, Repr

/-- A slot that holds a sheet: the QSPI area (0-2) and the sheet (R338). -/
structure SheetSlot where
  area : Nat
  sheet : Sheet
  deriving DecidableEq, Repr

/-- A commit or a revert whose apply has begun (R339, R341): the command that waits, the revert's cause (0: a commit), the versions, the
counts, and the slate of the commit point. -/
structure Applying where
  hdr : Option CmdHdr
  cause : Nat
  new : Nat
  prev : Nat
  refused : Nat
  clamped : Nat
  slate : Slate
  deriving DecidableEq, Repr

/-- Call sheets beside their registers. -/
structure SheetSt where
  staged : Option SheetSlot
  active : Option SheetSlot
  previous : Option SheetSlot
  /-- Sequence number and trial-boot count of the directory record in force (R338). -/
  dirSeq : Nat
  trial : Nat
  /-- Confirm pending, as the directory record holds it (R338). -/
  confirm : Bool
  /-- The staging that waits for its QSPI write. -/
  writing : Option (CmdHdr × Sheet)
  /-- The undo list (R339): offset and value, in the order in which the sheet wrote. -/
  undo : Option (List (Nat × Word))
  applying : Option Applying
  /-- The length of the confirm deadline in s, and the tick from which it runs (R340). -/
  deadline : Nat
  since : Nat
  /-- CSHT_DEADLINE_WARN has been posted for this deadline. -/
  warned : Bool
  deriving DecidableEq, Repr

/-- From manufacture: no slot holds a sheet. -/
def SheetSt.reset : SheetSt := ⟨none, none, none, 0, 0, false, none, none, none, 0, 0, false⟩

end Sys2Proof
end

