-- ==== Sys2Proof/Types/Twin.lean ====
section
/-! DEFINITION. Twin operation over Ranin (13_twin.md): frames, and the state that no register holds. -/
namespace Sys2Proof

/-- A wrapped key (R295, R360): the wrapping key and the key inside. -/
structure Wrapped where
  under : Nat
  key : Nat
  deriving DecidableEq, Repr

/-- The body of a STATE frame (R282). -/
structure StateBody where
  mark : Slate
  arrival : Option Slate
  bnd : Nat
  tsState : Nat
  grade : Nat
  taiUtc : Int
  leap : Word
  sheet : Nat
  epoch : Nat
  deriving DecidableEq, Repr

/-- The body of a CLAIM frame (R282). -/
structure ClaimBody where
  claim : Nat
  role : Nat
  flags : Nat
  grade : Nat
  deriving DecidableEq, Repr

/-- A Ranin frame by its type (R282). -/
inductive RanBody where
  | claim (c : ClaimBody)
  | state (b : StateBody)
  | mirror (index : Nat) (entry : Option Client)
  | keywrap (key op generation : Nat) (w : Wrapped)
  | handback (claim : Nat)
  | sweepEnd (number : Nat)
  /-- A type that is never sent, or a length that does not match its type. -/
  | bad
  deriving DecidableEq, Repr

/-- A frame as it arrives: SHCLK ticks from now to its end, and whether its CRC is good. -/
structure RanFrame where
  ticks : Nat
  crcOk : Bool
  body : RanBody
  deriving DecidableEq, Repr

/-- The last valid CLAIM of the peer, and the tick of its end. -/
structure PeerClaim where
  body : ClaimBody
  tick : Nat
  deriving DecidableEq, Repr

/-- The twin block beside its registers. -/
structure RanSt where
  /-- The SLOT pin as it was strapped (R283, R432). -/
  slot : Nat
  /-- The battery domain holds a valid epoch (R283), which RAN_EPOCH_MAX shows. -/
  epochValid : Bool
  /-- The device has entered RUN since the last reset (R287's first rows). -/
  joined : Bool
  /-- A fresh LEAD claim was seen since the entry to RUN, and the tick of an entry whose join_wait has not ended (R287's join trigger). -/
  sawLead : Bool
  joinAt : Option Nat
  /-- The tick since which the fresh peer claim has been a LEAD's (R287). -/
  leadSince : Option Nat
  /-- The last valid CLAIM of the peer; RAN_STATUS.peer_fresh says whether it is fresh. -/
  peer : Option PeerClaim
  /-- The tick since which PEER_LEAD_N has been sampled deasserted (R284); none while it is asserted. -/
  clearSince : Option Nat
  /-- A HANDBACK was sent (R287), and the command that waits (R297). -/
  sentHandback : Bool
  handback : Option CmdHdr
  handbackAt : Nat
  /-- The slate of the last withdrawal of permission, for R299's payload. -/
  withdrawn : Slate
  /-- The second of TS0 whose mark was sent last. -/
  markSec : Option Nat
  /-- Own mark's transmit stamp and the arrival stamp of the peer's mark, until an exchange uses them (R289); the peer's stamps that the last
  exchange used. -/
  markTx : Option Slate
  markRx : Option Slate
  used : Option (Slate × Slate)
  /-- The own stamps of the last second, as the next STATE frame reports them (R282). -/
  lastTx : Slate
  lastRx : Option Slate
  /-- The peer's last STATE body and its tick, since the link last came UP (R299). -/
  state : Option (StateBody × Nat)
  /-- θ of the last exchanges in 2^-8 ps, newest first; the newest has not been slewed out; the run within the tolerance (R289-R292). -/
  thetas : List Int
  thetaNew : Bool
  alignRun : Nat
  /-- The tick of the epoch since which the grade trigger's condition has held (R287). -/
  gradeSince : Option Nat
  /-- Own sweep: next index and number (R294); received: the next index of the present sweep. -/
  sweepPos : Nat
  sweepNum : Nat
  rxPos : Nat
  /-- KEYWRAP (R295): the generation last sent and the root it carried; the generation installed; whether a revoke is owed. -/
  keyGen : Nat
  sentRoot : Option Nat
  installed : Option Nat
  revokeOwed : Bool
  /-- The next sequence number of each transmit lane (R282). -/
  seqs : Tbl Nat
  deriving DecidableEq, Repr

/-- From reset. -/
def RanSt.reset : RanSt :=
  ⟨0, false, false, false, none, none, none, some 0, false, none, 0, Slate.none, none, none, none, none, Slate.none, none, none, [], false, 0, none, 0, 0, 0, 0,
    none, none, false, []⟩

end Sys2Proof
end

