-- ==== Sys2Proof/Types/Stavris.lean ====
section
/-! DEFINITION. Stavris (16_stavris.md): arguments, the key tree, challenges, and the jobs of the AES lanes, SHA lanes and the Stavris
core. A sealed or wrapped thing is represented by what it holds and the key that sealed it; a key by a number without a
known value (notes/assumptions/17.md). -/
namespace Sys2Proof

/-- Arguments of STV_DERIVE (R358): label and context as their 24 bytes. -/
structure StvDeriveArgs where
  parent : Nat
  usage : Nat
  size : Nat
  labelLen : Nat
  ctxLen : Nat
  label : List Nat
  context : List Nat
  deriving DecidableEq, Repr

/-- Arguments of STV_CRYPT (R358), with the bytes at the input address as a number. -/
structure StvCryptArgs where
  handle : Nat
  op : Nat
  aadLen : Nat
  inAddr : Nat
  inLen : Nat
  outAddr : Nat
  iv : Nat
  input : Nat
  deriving DecidableEq, Repr

/-- A sealed blob (R360). -/
structure Blob where
  format : Nat
  usage : Nat
  size : Nat
  lc : Nat
  devId : Nat
  wrapped : Wrapped
  deriving DecidableEq, Repr

/-- Arguments of STV_IMPORT (R358), with the blob or the public key at the address. -/
structure StvImportArgs where
  mode : Nat
  curve : Nat
  parent : Nat
  addr : Nat
  blob : Blob
  pubKey : Nat
  onCurve : Bool
  deriving DecidableEq, Repr

/-- Arguments of STV_CHALLENGE (R358). -/
structure StvChallengeArgs where
  purpose : Nat
  arg : Nat
  addr : Nat
  deriving DecidableEq, Repr

/-- Arguments of STV_RESPOND (R358), with what the response's bytes give: whether the signature verifies with the key of R361, the
SHA-384 of the owner key carried, and the key carried. -/
structure StvRespondArgs where
  id : Nat
  addr : Nat
  len : Nat
  out : Nat
  sigOk : Bool
  ownerHash : Nat
  key : Nat
  deriving DecidableEq, Repr

/-- A node of the key tree (R352). -/
structure Node where
  key : Nat
  usage : Nat
  size : Nat
  parent : Option Nat
  depth : Nat
  attached : Bool
  label : List Nat
  context : List Nat
  revoked : Bool
  deriving DecidableEq, Repr

/-- The outstanding challenge (R361). -/
structure Challenge where
  id : Nat
  purpose : Nat
  arg : Nat
  /-- The tick of its issue. -/
  issued : Nat
  deriving DecidableEq, Repr

/-- What a job works for (R275, R355). -/
inductive JobWhat where
  | crypt (h : CmdHdr) (a : StvCryptArgs)
  | mint (h : CmdHdr) (a : MintArgs) (epoch : Nat)
  /-- An NTS reply, by its number, of an instance. -/
  | nts (reply : Nat) (inst : Nat)
  /-- A KEYWRAP frame to send. -/
  | wrap (key op generation : Nat)
  /-- A KEYWRAP frame received. -/
  | unwrap (key op generation : Nat) (w : Wrapped)
  deriving DecidableEq, Repr

/-- The classes of R275; `direct` jobs run on the SHA lanes or the Stavris core. -/
inductive JobClass where
  | ranin | host | nts | direct
  deriving DecidableEq, Repr

/-- A job: the handles of the keys it uses, its AES blocks, the lane it runs on; `started` says that it is inside a lane or engine. -/
structure Job where
  id : Nat
  cls : JobClass
  keys : List Nat
  blocks : Nat
  lane : Option Nat
  started : Bool
  revoked : Bool
  /-- The tick at which it was granted its lane (R386's busy time). -/
  since : Nat
  what : JobWhat
  deriving DecidableEq, Repr

/-- Stavris beside its registers. -/
structure StvSt where
  nodes : Tbl (Option Node)
  /-- The model's counter of free values at the last opening, from which the generations come, and the times each node was freed since
  (R354). -/
  opening : Nat
  freed : Tbl Nat
  negative : Option Nat
  /-- Consecutive passes of the retest, and the generator is 60 s past its last good reseed (R357). -/
  passes : Nat
  stale : Bool
  /-- The ticks of the last good reseed and of the last health test outside the start-up (R357). -/
  reseedAt : Nat
  retestAt : Nat
  challenge : Option Challenge
  nextChallenge : Nat
  fails : Nat
  /-- The tick at which STV_STATUS.challenge_locked was set (R361). -/
  lockedAt : Nat
  jobs : List Job
  nextJob : Nat
  /-- Deficits of the host and NTS classes in AES blocks (R275). -/
  defHost : Nat
  defNts : Nat
  /-- The battery domain's copy of STV_TAMP_CFG (R363). -/
  tampCopy : Word
  /-- Security version of the running firmware image (R367). -/
  secVersion : Nat
  deriving DecidableEq, Repr

/-- From reset: the battery domain's copy is the register's reset value. -/
def StvSt.reset : StvSt := ⟨[], 0, [], none, 0, false, 0, 0, none, 0, 0, 0, [], 0, 0, 0, 0x3C0, 0⟩

end Sys2Proof
end

