-- ==== Sys2Proof/Types/Timescale.lean ====
section
/-! DEFINITION. Timescales (03_timescales.md): the arguments of the timescale commands (R70), the counter (R44), and the state
of each timescale that no register holds. -/
namespace Sys2Proof

/-- Arguments of TS_SET (R70). -/
structure TsSetArgs where
  ts : Nat
  trigger : Nat
  triggerTs : Nat
  permit : Nat
  sec : Nat
  ns : Nat
  frac : Nat
  tSec : Nat
  tNs : Nat
  tFrac : Nat
  deriving DecidableEq, Repr

/-- Arguments of TS_STEP (R70): the amount in ns and its 32-bit fraction. -/
structure TsStepArgs where
  ts : Nat
  permit : Nat
  amountNs : Int
  amountFrac : Nat
  deriving DecidableEq, Repr

/-- Arguments of TS_SLEW (R70): rate in ps/s, amount in ps. -/
structure TsSlewArgs where
  ts : Nat
  rate : Nat
  amount : Int
  deriving DecidableEq, Repr

/-- Arguments of TS_SPLICE (R70). -/
structure TsSpliceArgs where
  from_ : Nat
  to_ : Nat
  mode : Nat
  permit : Nat
  mask : Nat
  sec : Nat
  ns : Nat
  rate : Nat
  deriving DecidableEq, Repr

/-- Arguments of TS_LEAP (R70). -/
structure TsLeapArgs where
  op : Nat
  dir : Nat
  day : Nat
  taiUtc : Int
  deriving DecidableEq, Repr

/-- The states of a timescale (R58). -/
inductive TsState where
  | free | acquiring | locked | coasting
  deriving DecidableEq, Repr

/-- The code of a state in TS_STATUS.state. -/
def TsState.code : TsState → Nat
  | .free => 0 | .acquiring => 1 | .locked => 2 | .coasting => 3

/-- The counter of R44: 48 bits of seconds, 30 bits of nanoseconds, 48 bits of fraction. -/
structure Counter where
  sec : Nat
  ns : Nat
  frac : Nat
  deriving DecidableEq, Repr

/-- What a timescale holds beside its registers. -/
structure Tscale where
  cnt : Counter
  /-- A written TS_INCR_LO that waits for TS_INCR_HI (R46). -/
  heldLo : Option Word
  /-- Slew still to apply, in 2^-48 ns, and its rate in ps/s (R61). -/
  slewRem : Int
  slewRate : Nat
  /-- The slew was started by TS_SLEW, so its end posts SLEW_DONE (R61). -/
  slewPosts : Bool
  state : TsState
  valid : Bool
  /-- Bound code of an INDEPENDENT timescale (R55). -/
  bnd : Nat
  /-- LOCKED since it was last enabled (R58). -/
  everLocked : Bool
  /-- Loaded by TS_SET since it last resumed (R50). -/
  setSinceResume : Bool
  /-- The destinations whose stepped-since bit is set (R54). -/
  stepped : List Dest
  /-- The snapshot latched by a read of TS_NOW0 (R57). -/
  now : Slate
  /-- The increments applied, newest first: the tick at which each began and its value (R374's oscillator model). -/
  hist : List (Nat × Nat)
  /-- The oscillator model while COASTING (R374). -/
  frozen : Option Rat
  /-- What the increments and derived rates alone have added since reset, in 2^-48 ns: slews and steps excluded (R104). -/
  elapsed : Int
  deriving DecidableEq, Repr

/-- A timescale from reset: TS_STATUS reads FREE, valid 0 and bound 0xFF. The counter starts at 0 (DESIGN CHOICE,
notes/assumptions/5.md: the spec gives no reset value of a counter, and valid 0 makes its time unusable). -/
def Tscale.reset : Tscale :=
  ⟨⟨0, 0, 0⟩, none, 0, 0, false, .free, false, 255, false, false, [], Slate.none, [(0, 0x199999999999A)], none, 0⟩

/-- The residual that a spliced consumer carries (R64): TSb − r in 2^-48 ns, its decay rate in ps/s, its source, and its group. -/
structure Residual where
  group : Nat
  to_ : Nat
  rem : Int
  rate : Nat
  deriving DecidableEq, Repr

/-- The timescales together, the splices (R64) and the consumers that an accepted splice names (R65). -/
structure TimeSt where
  tbl : Tbl Tscale
  /-- Residuals by consumer, numbered as the mask of TS_SPLICE. -/
  residuals : Tbl Residual
  /-- Splices that have taken effect and not posted SLEW_DONE: group and timescale b. -/
  groups : Tbl Nat
  nextGroup : Nat
  /-- The last leap that took place, for the second half of its smear window (R69): t0 in TS0 seconds, A, and the direction. -/
  lastLeap : Option (Int × Int × Nat)
  deriving DecidableEq, Repr

/-- From reset. -/
def TimeSt.reset : TimeSt := ⟨[], [], [], 0, none⟩

end Sys2Proof
end

