-- ==== Sys2Proof/Syntax.lean ====
section
/-! DEFINITION. The commands of the block: one constructor of `Instr` for each row of spec/opcode_table.json. A host command
(a row with an opcode, R311) carries its descriptor's header; every other row carries what comes from outside the device
with it. `HostCmd` is a host command without its header, as a CMD ring holds it. -/
namespace Sys2Proof

/-- The host commands with their arguments: what a CMD descriptor's opcode and argument area spell (R310). -/
inductive HostCmd where
  /-- TS_SET (R60). -/
  | tsSet (a : TsSetArgs)
  /-- TS_STEP (R62). -/
  | tsStep (a : TsStepArgs)
  /-- TS_SLEW (R61). -/
  | tsSlew (a : TsSlewArgs)
  /-- TS_SPLICE (R64). -/
  | tsSplice (a : TsSpliceArgs)
  /-- TS_LEAP (R67). -/
  | tsLeap (a : TsLeapArgs)
  /-- TS_READ_VIEW (R70). -/
  | tsReadView (view : Nat) (form : Nat)
  /-- REF_CONFIRM (R97). -/
  | refConfirm (slot : Nat) (action : Nat)
  /-- ENS_PROV_READ (R95). -/
  | ensProvRead (ts : Nat) (addr : Nat)
  /-- REF_FEED (R97). -/
  | refFeed (a : RefFeedArgs)
  /-- ENS_FORCE (R90). -/
  | ensForce (ts : Nat) (op : Nat)
  /-- CLAP_ARM (R118). -/
  | clapArm (ch : Nat) (count : Nat)
  /-- CLAP_DISARM (R119). -/
  | clapDisarm (ch : Nat)
  /-- CLAP_CAL (R115). -/
  | clapCal (lane : Nat)
  /-- CLAP_SNAPSHOT (R109). -/
  | clapSnapshot (ch : Nat)
  /-- AP_RELOCK (R141). -/
  | apRelock (ap : Nat) (mode : Nat)
  /-- DP_RETUNE (R141). -/
  | dpRetune (a : DpRetuneArgs)
  /-- DP_ALIGN_RUN (R133). -/
  | dpAlignRun (dp : Nat)
  /-- AP_BAND_CLEAR (R141). -/
  | apBandClear (ap : Nat)
  /-- OUT_START (R151). -/
  | outStart (a : OutArgs)
  /-- OUT_STOP (R152). -/
  | outStop (a : OutArgs)
  /-- OUT_SWITCH (R156). -/
  | outSwitch (out : Nat) (dir : Nat)
  /-- CUE_ARM (R180). -/
  | cueArm (a : CueArmArgs)
  /-- CUE_CANCEL (R170). -/
  | cueCancel (a : CueCancelArgs)
  /-- CUE_QUERY (R180). -/
  | cueQuery (cue : Nat)
  /-- GNSS_ACQ (R189). -/
  | gnssAcq (a : GnssAcqArgs)
  /-- GNSS_CH_START (R191). -/
  | gnssChStart (a : GnssStartArgs)
  /-- GNSS_CH_STOP (R191). -/
  | gnssChStop (ch : Nat)
  /-- GNSS_POWER (R199). -/
  | gnssPower (op : Nat) (retain : Nat)
  /-- GNSS_SPOOF (R205). -/
  | gnssSpoof (op : Nat) (checks : Nat) (sols : Nat)
  /-- PTP_CLIENT_FIND (R254). -/
  | ptpClientFind (a : PtpFindArgs)
  /-- PTP_CLIENT_CANCEL (R254). -/
  | ptpClientCancel (index : Nat)
  /-- PTP_KEY_ROLL (R249). -/
  | ptpKeyRoll (inst : Nat)
  /-- PTP_UMASTER (R246). -/
  | ptpUmaster (a : UmasterArgs)
  /-- PTP_PARENT_READ (R254). -/
  | ptpParentRead (inst : Nat)
  /-- NTS_COOKIE_MINT (R280). -/
  | ntsCookieMint (a : MintArgs)
  /-- NTP_RL_QUERY (R280). -/
  | ntpRlQuery (a : RlQueryArgs)
  /-- NTP_PEER_READ (R280). -/
  | ntpPeerRead (peer : Nat)
  /-- RAN_HANDBACK (R297). -/
  | ranHandback
  /-- RAN_REJOIN (R287). -/
  | ranRejoin
  /-- RAN_PEER_READ (R299). -/
  | ranPeerRead (addr : Nat)
  /-- NOP (R327). -/
  | nop
  /-- ABORT (R326). -/
  | abort (a : AbortArgs)
  /-- RING_STOP (R327). -/
  | ringStop (stopRing : Nat)
  /-- RUN_STATE (R423). -/
  | runState (target : Nat)
  /-- PROFILE_SET (R21). -/
  | profileSet (profile : Nat)
  /-- GOV_PERMIT (R381). -/
  | govPermit (ts : Nat)
  /-- UNASSIGNED_OPCODE (R311). -/
  | unassignedOpcode (op : Nat)
  /-- CSHT_STAGE (R348). -/
  | cshtStage (a : CshtStageArgs)
  /-- CSHT_COMMIT (R339). -/
  | cshtCommit (a : CshtCommitArgs)
  /-- CSHT_CONFIRM (R340). -/
  | cshtConfirm (version : Nat)
  /-- CSHT_REVERT (R341). -/
  | cshtRevert (expected : Nat)
  /-- CSHT_READ (R348). -/
  | cshtRead (a : CshtReadArgs)
  /-- STV_DERIVE (R353). -/
  | stvDerive (a : StvDeriveArgs)
  /-- STV_REVOKE (R355). -/
  | stvRevoke (handle : Nat)
  /-- STV_KEY_INFO (R358). -/
  | stvKeyInfo (handle : Nat) (node : Nat)
  /-- STV_CRYPT (R358). -/
  | stvCrypt (a : StvCryptArgs)
  /-- STV_IMPORT (R359). -/
  | stvImport (a : StvImportArgs)
  /-- STV_CHALLENGE (R361). -/
  | stvChallenge (a : StvChallengeArgs)
  /-- STV_RESPOND (R361). -/
  | stvRespond (a : StvRespondArgs)
  /-- STV_IDENTITY (R358). -/
  | stvIdentity (addr : Nat)
  /-- STV_ROLLBACK_SET (R367). -/
  | stvRollbackSet (version : Nat)
  /-- FW_STAGE (R390). -/
  | fwStage (a : FwStageArgs)
  /-- FW_SELECT (R390). -/
  | fwSelect (slot : Nat)
  /-- FW_CONFIRM (R390). -/
  | fwConfirm
  /-- PLUGIN_CTL (R390). -/
  | pluginCtl (id : Nat) (op : Nat)
  /-- PERF_SAMPLE (R390). -/
  | perfSample (op : Nat)
  /-- LOG_READ (R397). -/
  | logRead (a : LogReadArgs)
  /-- LOG_WRITE (R409). -/
  | logWrite (a : LogWriteArgs)
  /-- LW_READ (R409). -/
  | lwRead (addr : Nat) (bad : Bool)
  /-- LW_CLEAR (R409). -/
  | lwClear (mask : Nat)
  /-- BIST_IDLE_RUN (R409). -/
  | bistIdleRun (kind : Nat) (index : Nat)
  deriving DecidableEq, Repr

/-- The commands of the block: the rows of spec/opcode_table.json. -/
inductive Instr where
  /-- TS_SET (R60). -/
  | tsSet (h : CmdHdr) (a : TsSetArgs)
  /-- TS_STEP (R62). -/
  | tsStep (h : CmdHdr) (a : TsStepArgs)
  /-- TS_SLEW (R61). -/
  | tsSlew (h : CmdHdr) (a : TsSlewArgs)
  /-- TS_SPLICE (R64). -/
  | tsSplice (h : CmdHdr) (a : TsSpliceArgs)
  /-- TS_LEAP (R67). -/
  | tsLeap (h : CmdHdr) (a : TsLeapArgs)
  /-- TS_READ_VIEW (R70). -/
  | tsReadView (h : CmdHdr) (view : Nat) (form : Nat)
  /-- TIMED_LOAD_DEADLINE (R33). -/
  | timedLoadDeadline (target : LoadTarget) (lead : Nat)
  /-- AT_TS_INSTANT_REACHED (R457). -/
  | atTsInstantReached (ring : Nat) (tag : Nat) (ticks : Nat) (met : Bool)
  /-- AT_TS_TRIGGER_STOPPED (R457). -/
  | atTsTriggerStopped (ring : Nat) (tag : Nat)
  /-- TS_INCR_LO_WRITE (R46). -/
  | tsIncrLoWrite (ts : Nat) (value : Word)
  /-- TS_INCR_HI_WRITE (R46). -/
  | tsIncrHiWrite (ts : Nat) (value : Word)
  /-- TS_NOW_SNAPSHOT (R57). -/
  | tsNowSnapshot (ts : Nat)
  /-- TS_ENABLE_WRITE (R58). -/
  | tsEnableWrite (ts : Nat) (value : Word)
  /-- SLEW_DONE (R61). -/
  | slewDone (ts : Nat) (ticks : Nat)
  /-- LEAP_SECOND_END (R67). -/
  | leapSecondEnd
  /-- LEAP_DAY_START (R67). -/
  | leapDayStart
  /-- REF_CONFIRM (R97). -/
  | refConfirm (h : CmdHdr) (slot : Nat) (action : Nat)
  /-- ENS_PROV_READ (R95). -/
  | ensProvRead (h : CmdHdr) (ts : Nat) (addr : Nat)
  /-- REF_FEED (R97). -/
  | refFeed (h : CmdHdr) (a : RefFeedArgs)
  /-- ENS_FORCE (R90). -/
  | ensForce (h : CmdHdr) (ts : Nat) (op : Nat)
  /-- REF_MEASUREMENT (R77). -/
  | refMeasurement (slot : Nat) (m : Meas) (late : Bool)
  /-- TS_REF_CFG_WRITE (R96). -/
  | tsRefCfgWrite (slot : Nat) (value : Word)
  /-- ENSEMBLE_EPOCH (R79). -/
  | ensembleEpoch (ts : Nat) (lead : Option (Nat))
  /-- REF_LOSS_TIMEOUT (R75). -/
  | refLossTimeout (slot : Nat)
  /-- SUSPECT_TIMEOUT (R75). -/
  | suspectTimeout (slot : Nat)
  /-- QUALIFICATION_WINDOW_END (R75). -/
  | qualificationWindowEnd (slot : Nat)
  /-- OSC_COEFF_WRITE (R83). -/
  | oscCoeffWrite (reg : OscReg) (value : Word)
  /-- TS_EFC_CODE_WRITE (R82). -/
  | tsEfcCodeWrite (value : Word)
  /-- PACE_WINDOW_END (R31). -/
  | paceWindowEnd (ringCount : Nat)
  /-- AVS_TRANSACTION_DONE (R43). -/
  | avsTransactionDone (result : AvsResult)
  /-- AVS_TRACK_ENABLE_WRITE (R43). -/
  | avsTrackEnableWrite (value : Word)
  /-- CLAP_ARM (R118). -/
  | clapArm (h : CmdHdr) (ch : Nat) (count : Nat)
  /-- CLAP_DISARM (R119). -/
  | clapDisarm (h : CmdHdr) (ch : Nat)
  /-- CLAP_CAL (R115). -/
  | clapCal (h : CmdHdr) (lane : Nat)
  /-- CLAP_SNAPSHOT (R109). -/
  | clapSnapshot (h : CmdHdr) (ch : Nat)
  /-- STREAM_EDGE (R102). -/
  | streamEdge (ch : Nat) (ticks : Nat) (frac : Nat) (falling : Bool) (pathFull : Bool)
  /-- INTERVAL_END (R105). -/
  | intervalEnd (ch : Nat)
  /-- STOP_TIMEOUT (R106). -/
  | stopTimeout (ch : Nat)
  /-- MEASUREMENT_LOST (R107). -/
  | measurementLost (ch : Nat)
  /-- FREQUENCY_GATE_END (R110). -/
  | frequencyGateEnd (ch : Nat)
  /-- CLAP_RECORD_WRITE (R114). -/
  | clapRecordWrite (ch : Nat)
  /-- CLAP_CH_RIDX_WRITE (R114). -/
  | clapChRidxWrite (ch : Nat) (value : Word)
  /-- CLAP_LIMIT_HI_WRITE (R113). -/
  | clapLimitHiWrite (ch : Nat) (upper : Bool) (value : Word)
  /-- CLAP_LIMIT_LO_WRITE (R113). -/
  | clapLimitLoWrite (ch : Nat) (upper : Bool) (value : Word)
  /-- REFERENCE_OFFSET (R111). -/
  | referenceOffset (ch : Nat)
  /-- LANE_CAL_TRIGGER (R115). -/
  | laneCalTrigger (lane : Nat)
  /-- LANE_CAL_DONE (R116). -/
  | laneCalDone (lane : Nat) (bins : List Nat)
  /-- GEARBOX_MEASUREMENT_DONE (R17). -/
  | gearboxMeasurementDone (port : Nat) (rms : Nat) (rxPhase : Nat) (txPhase : Nat)
  /-- PROBE_MEASUREMENT_DONE (R16). -/
  | probeMeasurementDone (probe : Nat) (value : Int)
  /-- AP_RELOCK (R141). -/
  | apRelock (h : CmdHdr) (ap : Nat) (mode : Nat)
  /-- DP_RETUNE (R141). -/
  | dpRetune (h : CmdHdr) (a : DpRetuneArgs)
  /-- DP_ALIGN_RUN (R133). -/
  | dpAlignRun (h : CmdHdr) (dp : Nat)
  /-- AP_BAND_CLEAR (R141). -/
  | apBandClear (h : CmdHdr) (ap : Nat)
  /-- DP_CFG_WRITE (R126). -/
  | dpCfgWrite (dp : Nat) (value : Word)
  /-- AP_CFG_WRITE (R131). -/
  | apCfgWrite (ap : Nat) (value : Word)
  /-- AP_SS_WRITE (R135). -/
  | apSsWrite (ap : Nat) (value : Word)
  /-- DPLL_UPDATE (R123). -/
  | dpllUpdate (dp : Nat) (m : DpMeas) (lead : Option (Nat))
  /-- REFIN_STAMP (R122). -/
  | refinStamp (refin : Nat) (e : RefinEdge)
  /-- REFIN_ABSENT (R122). -/
  | refinAbsent (refin : Nat)
  /-- AP_HOP_TIMEOUT (R129). -/
  | apHopTimeout (ap : Nat)
  /-- AP_LOCKED (R131). -/
  | apLocked (ap : Nat) (band : Nat) (l : ApLock)
  /-- AP_SEARCH_TIMEOUT (R131). -/
  | apSearchTimeout (ap : Nat)
  /-- AP_LOST (R136). -/
  | apLost (ap : Nat) (osc : Bool)
  /-- AP_AUTO_RELOCK (R131). -/
  | apAutoRelock (ap : Nat)
  /-- DET_ANCHOR (R133). -/
  | detAnchor (dp : Nat)
  /-- DET_PASS_END (R133). -/
  | detPassEnd (dp : Nat) (residual : Int)
  /-- AP0_LOSS (R137). -/
  | ap0Loss (oscMissing : Bool) (phiLoss : Nat)
  /-- AP0_RELOCK_ATTEMPT (R138). -/
  | ap0RelockAttempt
  /-- SHCLK_RESTART (R138). -/
  | shclkRestart (nGap : Nat) (phiRes : Nat) (oscMissing : Bool)
  /-- AP0_REBUILT (R138). -/
  | ap0Rebuilt
  /-- OUT_START (R151). -/
  | outStart (h : CmdHdr) (a : OutArgs)
  /-- OUT_STOP (R152). -/
  | outStop (h : CmdHdr) (a : OutArgs)
  /-- OUT_SWITCH (R156). -/
  | outSwitch (h : CmdHdr) (out : Nat) (dir : Nat)
  /-- OUT_GATE_OPEN (R151). -/
  | outGateOpen (out : Nat)
  /-- OUT_GATE_CLOSE (R152). -/
  | outGateClose (out : Nat)
  /-- OUT_FAULT_STOP (R153). -/
  | outFaultStop (out : Nat) (forced : Bool)
  /-- OUT_INTERLOCK_GATE (R154). -/
  | outInterlockGate (out : Nat)
  /-- FALLBACK_SWITCH (R156). -/
  | fallbackSwitch (out : Nat)
  /-- FALLBACK_RETURN (R157). -/
  | fallbackReturn (out : Nat)
  /-- OUT_FINE_STEP (R147). -/
  | outFineStep (out : Nat)
  /-- OUT_DIVIDER_RELOAD (R148). -/
  | outDividerReload (out : Nat)
  /-- CUE_ARM (R180). -/
  | cueArm (h : CmdHdr) (a : CueArmArgs)
  /-- CUE_CANCEL (R170). -/
  | cueCancel (h : CmdHdr) (a : CueCancelArgs)
  /-- CUE_QUERY (R180). -/
  | cueQuery (h : CmdHdr) (cue : Nat)
  /-- CUE_FIRING (R163). -/
  | cueFiring (cue : Nat) (ticks : Nat)
  /-- CUE_LATE (R167). -/
  | cueLate (cue : Nat) (ticks : Nat) (missed : Bool)
  /-- CUE_END (R161). -/
  | cueEnd (cue : Nat) (ticks : Nat)
  /-- CUE_RING_TIMER_RELEASE (R169). -/
  | cueRingTimerRelease (dst : CueDest)
  /-- CUE_PIN_CFG_WRITE (R165). -/
  | cuePinCfgWrite (pin : Nat) (value : Word)
  /-- CAPTURE_EDGE (R172). -/
  | captureEdge (ch : Nat)
  /-- TOD_MESSAGE_SEND (R174). -/
  | todMessageSend (ticks : Nat)
  /-- TOD_MESSAGE_RECEIVE (R178). -/
  | todMessageReceive (bytes : List (Nat))
  /-- GNSS_ACQ (R189). -/
  | gnssAcq (h : CmdHdr) (a : GnssAcqArgs)
  /-- GNSS_ACQ_DONE (R189). -/
  | gnssAcqDone (pos : Nat) (r : AcqResult)
  /-- GNSS_CH_START (R191). -/
  | gnssChStart (h : CmdHdr) (a : GnssStartArgs)
  /-- GNSS_CH_STOP (R191). -/
  | gnssChStop (h : CmdHdr) (ch : Nat)
  /-- GNSS_POWER (R199). -/
  | gnssPower (h : CmdHdr) (op : Nat) (retain : Nat)
  /-- GNSS_SPOOF (R205). -/
  | gnssSpoof (h : CmdHdr) (op : Nat) (checks : Nat) (sols : Nat)
  /-- SAMPLE_EPOCH_MARK (R184). -/
  | sampleEpochMark (port : Nat) (ticks : Nat) (b : BlockEnd)
  /-- SAMPLE_PATH_BREAK (R185). -/
  | samplePathBreak (port : Nat) (why : PathBreak)
  /-- SAMPLE_PATH_RECOVER (R185). -/
  | samplePathRecover (port : Nat) (lost : Nat)
  /-- GNSS_PORT_ENABLE_WRITE (R183). -/
  | gnssPortEnableWrite (port : Nat) (value : Word)
  /-- NOTCH_CHANGE (R187). -/
  | notchChange (port : Nat) (notch : Nat) (locked : Bool) (centre : Int)
  /-- GNSS_JAM (R188). -/
  | gnssJam (port : Nat) (ticks : Nat)
  /-- GNSS_CHANNEL_EPOCH (R191). -/
  | gnssChannelEpoch (ch : Nat) (e : EpochIn)
  /-- GNSS_DUMP_INTERRUPT (R191). -/
  | gnssDumpInterrupt (ticks : Nat)
  /-- GNSS_NCO_COMMIT (R192). -/
  | gnssNcoCommit (ch : Nat) (carrier : Bool) (value : Word) (late : Bool) (host : Bool)
  /-- GNSS_NCO_LO_WRITE (R192). -/
  | gnssNcoLoWrite (ch : Nat) (carrier : Bool) (value : Word) (host : Bool)
  /-- GNSS_CODE_ADJ_WRITE (R192). -/
  | gnssCodeAdjWrite (ch : Nat) (value : Word) (host : Bool)
  /-- GNSS_MEAS (R193). -/
  | gnssMeas (ticks : Nat) (wait0 : Nat) (wait1 : Nat) (wait2 : Nat)
  /-- GNSS_NAV (R194). -/
  | gnssNav (ch : Nat) (u : NavIn)
  /-- OSNMA_TAG_RESULT (R195). -/
  | osnmaTagResult (tag : OsnmaTag)
  /-- GNSS_WAKE (R199). -/
  | gnssWake
  /-- GNSS_SETTLE_END (R199). -/
  | gnssSettleEnd (crcOk : Bool) (ticks : Nat)
  /-- SOLUTION_FEED (R197). -/
  | solutionFeed (sol : Nat) (x : SolutionIn)
  /-- PORT_CFG_WRITE (R208). -/
  | portCfgWrite (port : Nat) (value : Word)
  /-- PORT_BLOCK_LOCK (R208). -/
  | portBlockLock (port : Nat)
  /-- PORT_LINK_DOWN (R208). -/
  | portLinkDown (port : Nat) (cause : Nat)
  /-- PORT_REF_SWITCH (R212). -/
  | portRefSwitch (port : Nat)
  /-- RX_FRAME (R213). -/
  | rxFrame (port : Nat) (f : RxFrame)
  /-- TXD_CHAIN (R315). -/
  | txdChain (ring : Nat) (ticks : Nat)
  /-- TX_TIMESTAMP (R217). -/
  | txTimestamp (port : Nat) (ticks : Nat) (frac : Nat)
  /-- TX_TIMESTAMP_DRAIN (R217). -/
  | txTimestampDrain (port : Nat)
  /-- PORT_COUNTER_READ (R219). -/
  | portCounterRead (port : Nat) (counter : Nat)
  /-- PORT_DAILY (R221). -/
  | portDaily (port : Nat) (ticks : Nat)
  /-- LPI_ENTER (R223). -/
  | lpiEnter (port : Nat) (rx : Bool)
  /-- LPI_WAKE (R223). -/
  | lpiWake (port : Nat) (rx : Bool)
  /-- ESMC_SEND (R225). -/
  | esmcSend (port : Nat)
  /-- ESMC_RX_TIMEOUT (R226). -/
  | esmcRxTimeout (port : Nat)
  /-- PTP_INST_ENABLE (R229). -/
  | ptpInstEnable (inst : Nat) (value : Word)
  /-- PTP_MESSAGE_RECEIVE (R231). -/
  | ptpMessageReceive (inst : Nat) (port : Nat) (m : PtpMsg)
  /-- PTP_PERIODIC_SEND (R234). -/
  | ptpPeriodicSend (inst : Nat) (port : Nat) (what : PtpPeriodic) (ticks : Nat) (frac : Nat) (room : Bool)
  /-- FOLLOW_UP_SEND (R233). -/
  | followUpSend (inst : Nat) (port : Nat)
  /-- DELAY_RESP_SEND (R234). -/
  | delayRespSend (inst : Nat) (ticks : Nat) (frac : Nat) (inTime : Bool)
  /-- SLAVE_EXCHANGE (R235). -/
  | slaveExchange (inst : Nat) (port : Nat)
  /-- BMCA_RUN (R238). -/
  | bmcaRun (inst : Nat)
  /-- ANNOUNCE_RECEIPT_TIMEOUT (R238). -/
  | announceReceiptTimeout (inst : Nat) (port : Nat) (pid : Nat)
  /-- GRANT_EXPIRY (R246). -/
  | grantExpiry (entry : Nat) (what : Nat)
  /-- UNICAST_RENEW (R246). -/
  | unicastRenew (inst : Nat) (slot : Nat) (what : Nat)
  /-- L1_SYNC_SEND (R237). -/
  | l1SyncSend (inst : Nat) (port : Nat)
  /-- PTP_CLIENT_FIND (R254). -/
  | ptpClientFind (h : CmdHdr) (a : PtpFindArgs)
  /-- PTP_CLIENT_CANCEL (R254). -/
  | ptpClientCancel (h : CmdHdr) (index : Nat)
  /-- PTP_KEY_ROLL (R249). -/
  | ptpKeyRoll (h : CmdHdr) (inst : Nat)
  /-- PTP_UMASTER (R246). -/
  | ptpUmaster (h : CmdHdr) (a : UmasterArgs)
  /-- PTP_PARENT_READ (R254). -/
  | ptpParentRead (h : CmdHdr) (inst : Nat)
  /-- NTP_INST_ENABLE (R256). -/
  | ntpInstEnable (inst : Nat) (value : Word)
  /-- NTP_REQUEST (R259). -/
  | ntpRequest (inst : Nat) (r : NtpReq)
  /-- NTP_REPLY_LAUNCH (R264). -/
  | ntpReplyLaunch (id : Nat) (ready : Nat) (linkLost : Bool)
  /-- NTP_REQUEST_EXPIRY (R274). -/
  | ntpRequestExpiry (id : Nat)
  /-- NTS_EPOCH_ROTATION (R269). -/
  | ntsEpochRotation (ticks : Nat)
  /-- NTS_COOKIE_ROOT_WRITE (R270). -/
  | ntsCookieRootWrite (value : Word)
  /-- NTP_PEER_POLL (R277). -/
  | ntpPeerPoll (peer : Nat) (ticks : Nat)
  /-- NTP_PEER_REPLY (R277). -/
  | ntpPeerReply (peer : Nat) (r : PeerReply)
  /-- NTP_PEER_ENABLE_WRITE (R279). -/
  | ntpPeerEnableWrite (peer : Nat) (value : Word)
  /-- NTS_COOKIE_MINT (R280). -/
  | ntsCookieMint (h : CmdHdr) (a : MintArgs)
  /-- NTP_RL_QUERY (R280). -/
  | ntpRlQuery (h : CmdHdr) (a : RlQueryArgs)
  /-- NTP_PEER_READ (R280). -/
  | ntpPeerRead (h : CmdHdr) (peer : Nat)
  /-- AES_JOB_GRANT (R275). -/
  | aesJobGrant (lane : Nat)
  /-- RAN_LANE_STATE (R281). -/
  | ranLaneState (lane : Nat) (up : Bool) (training : Bool)
  /-- CLAIM_SEND (R282). -/
  | claimSend
  /-- RAN_FRAME_RECEIVE (R282). -/
  | ranFrameReceive (f : RanFrame)
  /-- STATE_SEND (R282). -/
  | stateSend
  /-- PEER_SILENCE (R286). -/
  | peerSilence (ticks : Nat)
  /-- CLAIM_RAISE (R286). -/
  | claimRaise
  /-- PEER_LEAD_N_CHANGE (R284). -/
  | peerLeadNChange (asserted : Bool) (ticks : Nat)
  /-- DRIVE_PERMISSION_CHANGE (R284). -/
  | drivePermissionChange (ticks : Nat)
  /-- JOIN_WAIT_END (R287). -/
  | joinWaitEnd
  /-- AUTO_REJOIN (R287). -/
  | autoRejoin
  /-- MARK_SEND (R289). -/
  | markSend (ticks : Nat) (frac : Nat)
  /-- FOLLOW_MODE_UPDATE (R290). -/
  | followModeUpdate
  /-- MIRROR_SEND (R294). -/
  | mirrorSend
  /-- KEYWRAP_SEND (R295). -/
  | keywrapSend (key : Nat)
  /-- RAN_HANDBACK (R297). -/
  | ranHandback (h : CmdHdr)
  /-- RAN_REJOIN (R287). -/
  | ranRejoin (h : CmdHdr)
  /-- RAN_PEER_READ (R299). -/
  | ranPeerRead (h : CmdHdr) (addr : Nat)
  /-- RAN_TMO_WRITE (R298). -/
  | ranTmoWrite (value : Word)
  /-- NOP (R327). -/
  | nop (h : CmdHdr)
  /-- ABORT (R326). -/
  | abort (h : CmdHdr) (a : AbortArgs)
  /-- RING_STOP (R327). -/
  | ringStop (h : CmdHdr) (stopRing : Nat)
  /-- RING_DRAIN_DONE (R306). -/
  | ringDrainDone (ring : Nat)
  /-- RUN_STATE (R423). -/
  | runState (h : CmdHdr) (target : Nat)
  /-- PROFILE_SET (R21). -/
  | profileSet (h : CmdHdr) (profile : Nat)
  /-- GOV_PERMIT (R381). -/
  | govPermit (h : CmdHdr) (ts : Nat)
  /-- UNASSIGNED_OPCODE (R311). -/
  | unassignedOpcode (h : CmdHdr) (op : Nat)
  /-- PERMIT_EXPIRY (R381). -/
  | permitExpiry (ts : Nat)
  /-- DOORBELL_POLL (R307). -/
  | doorbellPoll (entries : List (Nat × Doorbell)) (cmds : List (Nat × CmdHdr × HostCmd)) (txds : List (Nat × TxDesc)) (rxds : List (Nat × RxDesc))
  /-- HOST_NUDGE (R309). -/
  | hostNudge (value : Word) (polling : Bool)
  /-- HOST_RING_ENABLE (R305). -/
  | hostRingEnable (ring : Nat) (value : Word)
  /-- COMMAND_COMMIT (R323). -/
  | commandCommit (ring : Nat)
  /-- COMPLETION_WRITE (R314). -/
  | completionWrite (ring : Nat)
  /-- RXD_DELIVERY (R320). -/
  | rxdDelivery (ring : Nat)
  /-- RX_STARVE_TIMEOUT (R320). -/
  | rxStarveTimeout (ring : Nat)
  /-- RING_INTERRUPT (R322). -/
  | ringInterrupt (ring : Nat) (byTime : Bool)
  /-- MSIX_UNMASK (R322). -/
  | msixUnmask (vector : Nat)
  /-- HOST_DMA_ERROR (R330). -/
  | hostDmaError (access : DmaAccess)
  /-- FUNCTION_LEVEL_RESET (R301). -/
  | functionLevelReset (linkDown : Bool)
  /-- BUS_MASTER_ENABLE_CHANGE (R302). -/
  | busMasterEnableChange (enable : Bool) (width : Nat) (speed : Nat)
  /-- BAR_ACCESS_REFUSED (R303). -/
  | barAccessRefused (access : BarAccess)
  /-- REGISTER_WRITE (R5). -/
  | registerWrite (offset : Nat) (value : Word)
  /-- W1C_WRITE (R6). -/
  | w1cWrite (offset : Nat) (value : Word) (set : Word)
  /-- RC_READ (R7). -/
  | rcRead (offset : Nat) (concurrent : List Nat)
  /-- CSHT_STAGE (R348). -/
  | cshtStage (h : CmdHdr) (a : CshtStageArgs)
  /-- CSHT_COMMIT (R339). -/
  | cshtCommit (h : CmdHdr) (a : CshtCommitArgs)
  /-- CSHT_CONFIRM (R340). -/
  | cshtConfirm (h : CmdHdr) (version : Nat)
  /-- CSHT_REVERT (R341). -/
  | cshtRevert (h : CmdHdr) (expected : Nat)
  /-- CSHT_READ (R348). -/
  | cshtRead (h : CmdHdr) (a : CshtReadArgs)
  /-- CSHT_APPLY_END (R339). -/
  | cshtApplyEnd
  /-- CSHT_DEADLINE_WARN (R340). -/
  | cshtDeadlineWarn
  /-- CONFIRM_DEADLINE_EXPIRY (R340). -/
  | confirmDeadlineExpiry
  /-- STV_DERIVE (R353). -/
  | stvDerive (h : CmdHdr) (a : StvDeriveArgs)
  /-- STV_REVOKE (R355). -/
  | stvRevoke (h : CmdHdr) (handle : Nat)
  /-- STV_KEY_INFO (R358). -/
  | stvKeyInfo (h : CmdHdr) (handle : Nat) (node : Nat)
  /-- STV_CRYPT (R358). -/
  | stvCrypt (h : CmdHdr) (a : StvCryptArgs)
  /-- STV_IMPORT (R359). -/
  | stvImport (h : CmdHdr) (a : StvImportArgs)
  /-- STV_CHALLENGE (R361). -/
  | stvChallenge (h : CmdHdr) (a : StvChallengeArgs)
  /-- STV_RESPOND (R361). -/
  | stvRespond (h : CmdHdr) (a : StvRespondArgs)
  /-- STV_IDENTITY (R358). -/
  | stvIdentity (h : CmdHdr) (addr : Nat)
  /-- STV_ROLLBACK_SET (R367). -/
  | stvRollbackSet (h : CmdHdr) (version : Nat)
  /-- CHALLENGE_EXPIRY (R361). -/
  | challengeExpiry
  /-- CHALLENGE_LOCK_END (R361). -/
  | challengeLockEnd
  /-- STV_TAMPER (R364). -/
  | stvTamper (raw : Nat)
  /-- STV_PAIR_KEY_WRITE (R360). -/
  | stvPairKeyWrite (value : Word)
  /-- TRNG_HEALTH_FAIL (R357). -/
  | trngHealthFail
  /-- TRNG_RETEST (R357). -/
  | trngRetest (pass : Bool)
  /-- DRBG_RESEED (R357). -/
  | drbgReseed
  /-- DRBG_STALE_TIMEOUT (R357). -/
  | drbgStaleTimeout
  /-- KEY_MASK_REFRESH (R354). -/
  | keyMaskRefresh
  /-- IN_FLIGHT_DONE (R355). -/
  | inFlightDone (job : Nat)
  /-- FW_STAGE (R390). -/
  | fwStage (h : CmdHdr) (a : FwStageArgs)
  /-- FW_SELECT (R390). -/
  | fwSelect (h : CmdHdr) (slot : Nat)
  /-- FW_CONFIRM (R390). -/
  | fwConfirm (h : CmdHdr)
  /-- PLUGIN_CTL (R390). -/
  | pluginCtl (h : CmdHdr) (id : Nat) (op : Nat)
  /-- PERF_SAMPLE (R390). -/
  | perfSample (h : CmdHdr) (op : Nat)
  /-- FW_PLUGIN_FAULT (R370). -/
  | fwPluginFault (id : Nat) (cause : Nat)
  /-- PLUGIN_KERNEL_CALL (R369). -/
  | pluginKernelCall (id : Nat) (call : KernelCall)
  /-- PERF_OVF (R383). -/
  | perfOvf (counter : Nat)
  /-- PERF_CNT_READ (R384). -/
  | perfCntRead (counter : Nat) (user : Bool)
  /-- PERF_SAMPLE_RECORD (R387). -/
  | perfSampleRecord (r : SampleIn)
  /-- PERF_SAMPLE_DRAIN (R389). -/
  | perfSampleDrain
  /-- LOG_READ (R397). -/
  | logRead (h : CmdHdr) (a : LogReadArgs)
  /-- LOG_WRITE (R409). -/
  | logWrite (h : CmdHdr) (a : LogWriteArgs)
  /-- LW_READ (R409). -/
  | lwRead (h : CmdHdr) (addr : Nat) (bad : Bool)
  /-- LW_CLEAR (R409). -/
  | lwClear (h : CmdHdr) (mask : Nat)
  /-- BIST_IDLE_RUN (R409). -/
  | bistIdleRun (h : CmdHdr) (kind : Nat) (index : Nat)
  /-- LOG_RECORD_WRITE (R392). -/
  | logRecordWrite (cellBad : Bool) (wordBad : Bool)
  /-- LOG_SCRUB (R401). -/
  | logScrub (cell : Nat) (corrected : Bool) (bad : Bool)
  /-- WRAP_BLOCK_SLICE (R404). -/
  | wrapBlockSlice (fail : Bool)
  /-- WRAP_TEST_END (R404). -/
  | wrapTestEnd
  /-- IDLE_SLICE (R407). -/
  | idleSlice (index : Nat) (outcome : Option (Bool))
  /-- IDLE_SLICE_PREEMPT (R408). -/
  | idleSlicePreempt
  /-- RESET_N_ASSERT (R422). -/
  | resetNAssert
  /-- BOOT_SEQUENCE (R424). -/
  | bootSequence (b : BootIn)
  /-- AUTO_RUN (R422). -/
  | autoRun
  /-- BROWNOUT (R412). -/
  | brownout (rails : Nat)
  /-- THERMAL_SAMPLE (R416). -/
  | thermalSample (tj : Int)
  /-- RTC_LOAD (R399). -/
  | rtcLoad (ticks : Nat)
  /-- MARK_ARRIVAL (R289). -/
  | markArrival (ticks : Nat) (frac : Nat)
  /-- HANDBACK_TIMEOUT (R297). -/
  | handbackTimeout
  /-- QSPI_WRITE_DONE (R348). -/
  | qspiWriteDone (sheet : Bool) (good : Bool)
  /-- CRYPTO_JOB_DONE (R358). -/
  | cryptoJobDone (ring : Nat) (tag : Nat)
  /-- RAIL_BACK_IN_RANGE (R412). -/
  | railBackInRange (rail : Nat)
  deriving DecidableEq, Repr

/-- The opcode of a host command; an unassigned opcode is carried by its command (R311). -/
def HostCmd.opcode : HostCmd → Nat
  | .tsSet _ => 0x10
  | .tsStep _ => 0x11
  | .tsSlew _ => 0x12
  | .tsSplice _ => 0x13
  | .tsLeap _ => 0x14
  | .tsReadView _ _ => 0x15
  | .refConfirm _ _ => 0x16
  | .ensProvRead _ _ => 0x17
  | .refFeed _ => 0x18
  | .ensForce _ _ => 0x19
  | .clapArm _ _ => 0x20
  | .clapDisarm _ => 0x21
  | .clapCal _ => 0x22
  | .clapSnapshot _ => 0x23
  | .apRelock _ _ => 0x30
  | .dpRetune _ => 0x31
  | .dpAlignRun _ => 0x32
  | .apBandClear _ => 0x33
  | .outStart _ => 0x34
  | .outStop _ => 0x35
  | .outSwitch _ _ => 0x36
  | .cueArm _ => 0x24
  | .cueCancel _ => 0x25
  | .cueQuery _ => 0x26
  | .gnssAcq _ => 0x70
  | .gnssChStart _ => 0x71
  | .gnssChStop _ => 0x72
  | .gnssPower _ _ => 0x73
  | .gnssSpoof _ _ _ => 0x74
  | .ptpClientFind _ => 0x40
  | .ptpClientCancel _ => 0x41
  | .ptpKeyRoll _ => 0x42
  | .ptpUmaster _ => 0x43
  | .ptpParentRead _ => 0x44
  | .ntsCookieMint _ => 0x48
  | .ntpRlQuery _ => 0x49
  | .ntpPeerRead _ => 0x4A
  | .ranHandback => 0x78
  | .ranRejoin => 0x79
  | .ranPeerRead _ => 0x7A
  | .nop => 0x00
  | .abort _ => 0x01
  | .ringStop _ => 0x02
  | .runState _ => 0x03
  | .profileSet _ => 0x04
  | .govPermit _ => 0x05
  | .unassignedOpcode op => op
  | .cshtStage _ => 0x60
  | .cshtCommit _ => 0x61
  | .cshtConfirm _ => 0x62
  | .cshtRevert _ => 0x63
  | .cshtRead _ => 0x64
  | .stvDerive _ => 0x50
  | .stvRevoke _ => 0x51
  | .stvKeyInfo _ _ => 0x52
  | .stvCrypt _ => 0x53
  | .stvImport _ => 0x54
  | .stvChallenge _ => 0x55
  | .stvRespond _ => 0x56
  | .stvIdentity _ => 0x57
  | .stvRollbackSet _ => 0x58
  | .fwStage _ => 0x6A
  | .fwSelect _ => 0x6B
  | .fwConfirm => 0x6C
  | .pluginCtl _ _ => 0x6D
  | .perfSample _ => 0x6E
  | .logRead _ => 0x65
  | .logWrite _ => 0x66
  | .lwRead _ _ => 0x67
  | .lwClear _ => 0x68
  | .bistIdleRun _ _ => 0x69

end Sys2Proof
end

