-- ==== Sys2Proof/WellFormed.lean ====
section
/-! DEFINITION. Which commands a descriptor or an event can spell: the arguments of a host command fit the fields that its chapter's table gives
them (R310), and an event names an instance that exists (R449's counts). A command that is not well-formed cannot come from outside; the meanings
do not rest on it. -/
namespace Sys2Proof

/-- An unsigned number of `n` bytes. -/
def fits (n x : Nat) : Bool := decide (x < 256 ^ n)

/-- A signed number of `n` bytes in two's complement. -/
def fitsInt (n : Nat) (x : Int) : Bool := decide (-(256 ^ n / 2 : Nat) ≤ x) && decide (x < (256 ^ n / 2 : Nat))

/-- A descriptor's header: its ring and its 16-bit tag (R304, R310). -/
def CmdHdr.wf (h : CmdHdr) : Bool := decide (h.ring < 64) && fits 2 h.tag

/-- The arguments fit the descriptor's fields (R70, R97, R118, R141, R159, R180, R205, R254, R280, R299, R327, R348, R358, R390, R409). -/
def HostCmd.wf : HostCmd → Bool
  | .tsSet a => fits 1 a.ts && fits 1 a.trigger && fits 1 a.triggerTs && fits 4 a.permit && fits 8 a.sec && fits 4 a.ns && fits 4 a.frac
      && fits 8 a.tSec && fits 4 a.tNs && fits 4 a.tFrac
  | .tsStep a => fits 1 a.ts && fits 4 a.permit && fitsInt 8 a.amountNs && fits 4 a.amountFrac
  | .tsSlew a => fits 1 a.ts && fits 4 a.rate && fitsInt 8 a.amount
  | .tsSplice a => fits 1 a.from_ && fits 1 a.to_ && fits 1 a.mode && fits 4 a.permit && fits 8 a.mask && fits 8 a.sec && fits 4 a.ns && fits 4 a.rate
  | .tsLeap a => fits 1 a.op && fits 1 a.dir && fits 2 a.day && fitsInt 2 a.taiUtc
  | .tsReadView view form => fits 1 view && fits 1 form
  | .refConfirm slot action => fits 1 slot && fits 1 action
  | .ensProvRead ts addr => fits 1 ts && fits 8 addr
  | .refFeed a => fits 1 a.slot && fits 4 a.unc && fitsInt 8 a.value
  | .ensForce ts op => fits 1 ts && fits 1 op
  | .clapArm ch count => fits 1 ch && fits 4 count
  | .clapDisarm ch => fits 1 ch
  | .clapCal lane => fits 1 lane
  | .clapSnapshot ch => fits 1 ch
  | .apRelock ap mode => fits 1 ap && fits 1 mode
  | .dpRetune a => fits 1 a.dpll && fits 8 a.freq && fits 4 a.alignDiv
  | .dpAlignRun dp => fits 1 dp
  | .apBandClear ap => fits 1 ap
  | .outStart a => fits 4 a.mask && fits 1 a.trigger && fits 1 a.ts && fits 8 a.sec && fits 4 a.ns
  | .outStop a => fits 4 a.mask && fits 1 a.trigger && fits 1 a.ts && fits 8 a.sec && fits 4 a.ns
  | .outSwitch out dir => fits 1 out && fits 1 dir
  | .cueArm a => fits 1 a.cue && fits 2 a.ps && fits 4 a.ns && fits 8 a.sec && fits 8 a.period && fits 4 a.div && fits 4 a.count && fits 8 a.width
      && fits 4 a.cell
  | .cueCancel a => fits 1 a.cue && fits 1 a.trigger && fits 8 a.sec && fits 4 a.ns
  | .cueQuery cue => fits 1 cue
  | .gnssAcq a => fits 1 a.port && fits 1 a.signal && fits 1 a.svid && fitsInt 1 a.gloK && fits 1 a.coherent && fits 1 a.count && fits 1 a.mode
      && fits 4 a.codeCentre && fits 2 a.codeHalf && fitsInt 4 a.dopCentre && fits 2 a.dopHalf
  | .gnssChStart a => fits 1 a.ch && fits 1 a.source && fits 2 a.acqId && fits 4 a.code && fitsInt 4 a.doppler
  | .gnssChStop ch => fits 1 ch
  | .gnssPower op retain => fits 1 op && fits 1 retain
  | .gnssSpoof op checks sols => fits 1 op && fits 1 checks && fits 1 sols
  | .ptpClientFind a => fits 1 a.inst && fits 1 a.transport && fits 1 a.port && fits 16 a.addr && fits 10 a.pid
  | .ptpClientCancel index => fits 4 index
  | .ptpKeyRoll inst => fits 1 inst
  | .ptpUmaster a => fits 1 a.inst && fits 1 a.slot && fits 1 a.op && fits 1 a.port && fits 16 a.addr
  | .ptpParentRead inst => fits 1 inst
  | .ntsCookieMint a => fits 1 a.count && fits 2 a.aead && fits 8 a.keyAddr && fits 8 a.outAddr
  | .ntpRlQuery a => fits 1 a.family && fits 16 a.addr
  | .ntpPeerRead peer => fits 1 peer
  | .ranHandback => true
  | .ranRejoin => true
  | .ranPeerRead addr => fits 8 addr
  | .nop => true
  | .abort a => fits 1 a.ring && fits 2 a.tag
  | .ringStop stopRing => fits 1 stopRing
  | .runState target => fits 1 target
  | .profileSet profile => fits 1 profile
  | .govPermit ts => fits 1 ts
  | .unassignedOpcode op => fits 1 op
  | .cshtStage a => fits 8 a.addr && fits 4 a.length
  | .cshtCommit a => fits 1 a.trigger && fits 1 a.ts && fits 2 a.confirm && fits 4 a.expected && fits 8 a.sec && fits 4 a.ns
  | .cshtConfirm version => fits 4 version
  | .cshtRevert expected => fits 4 expected
  | .cshtRead a => fits 1 a.slot && fits 8 a.addr && fits 4 a.length
  | .stvDerive a => fits 4 a.parent && fits 1 a.usage && fits 1 a.size && fits 1 a.labelLen && fits 1 a.ctxLen && a.label.length == 24
      && a.context.length == 24
  | .stvRevoke handle => fits 4 handle
  | .stvKeyInfo handle node => fits 4 handle && fits 1 node
  | .stvCrypt a => fits 4 a.handle && fits 1 a.op && fits 2 a.aadLen && fits 8 a.inAddr && fits 4 a.inLen && fits 8 a.outAddr && fits 12 a.iv
  | .stvImport a => fits 1 a.mode && fits 1 a.curve && fits 4 a.parent && fits 8 a.addr
  | .stvChallenge a => fits 1 a.purpose && fits 1 a.arg && fits 8 a.addr
  | .stvRespond a => fits 4 a.id && fits 8 a.addr && fits 4 a.len && fits 8 a.out
  | .stvIdentity addr => fits 8 addr
  | .stvRollbackSet version => fits 1 version
  | .fwStage a => fits 8 a.addr && fits 4 a.length
  | .fwSelect slot => fits 1 slot
  | .fwConfirm => true
  | .pluginCtl id op => fits 1 id && fits 1 op
  | .perfSample op => fits 1 op
  | .logRead a => fits 1 a.sev && fits 4 a.start && fits 8 a.addr && fits 4 a.max && a.badCells.all (fun c => decide (c < 8192))
  | .logWrite a => fits 1 a.sev && fits 2 a.code && fits 1 a.len && a.data.length == 36
  | .lwRead addr _ => fits 8 addr
  | .lwClear mask => fits 8 mask
  | .bistIdleRun kind index => fits 1 kind && fits 1 index

/-- A fetched command: its header and its arguments; an unassigned opcode is one that no chapter assigns (R311). -/
def cmdWf (h : CmdHdr) (c : HostCmd) : Bool := h.wf && c.wf

/-- A command of the block is well-formed. -/
def Instr.wf : Instr → Bool
  | .tsSet h a => cmdWf h (.tsSet a)
  | .tsStep h a => cmdWf h (.tsStep a)
  | .tsSlew h a => cmdWf h (.tsSlew a)
  | .tsSplice h a => cmdWf h (.tsSplice a)
  | .tsLeap h a => cmdWf h (.tsLeap a)
  | .tsReadView h view form => cmdWf h (.tsReadView view form)
  | .timedLoadDeadline _ _ => true
  | .atTsInstantReached ring tag _ _ => decide (ring < 64) && decide (tag < 65536)
  | .atTsTriggerStopped ring tag => decide (ring < 64) && decide (tag < 65536)
  | .tsIncrLoWrite ts _ => decide (ts < 4)
  | .tsIncrHiWrite ts _ => decide (ts < 4)
  | .tsNowSnapshot ts => decide (ts < 4)
  | .tsEnableWrite ts _ => decide (ts < 4)
  | .slewDone ts _ => decide (ts < 4)
  | .leapSecondEnd => true
  | .leapDayStart => true
  | .refConfirm h slot action => cmdWf h (.refConfirm slot action)
  | .ensProvRead h ts addr => cmdWf h (.ensProvRead ts addr)
  | .refFeed h a => cmdWf h (.refFeed a)
  | .ensForce h ts op => cmdWf h (.ensForce ts op)
  | .refMeasurement slot _ _ => decide (slot < 32)
  | .tsRefCfgWrite slot _ => decide (slot < 32)
  | .ensembleEpoch ts _ => decide (ts < 4)
  | .refLossTimeout slot => decide (slot < 32)
  | .suspectTimeout slot => decide (slot < 32)
  | .qualificationWindowEnd slot => decide (slot < 32)
  | .oscCoeffWrite _ _ => true
  | .tsEfcCodeWrite _ => true
  | .paceWindowEnd _ => true
  | .avsTransactionDone _ => true
  | .avsTrackEnableWrite _ => true
  | .clapArm h ch count => cmdWf h (.clapArm ch count)
  | .clapDisarm h ch => cmdWf h (.clapDisarm ch)
  | .clapCal h lane => cmdWf h (.clapCal lane)
  | .clapSnapshot h ch => cmdWf h (.clapSnapshot ch)
  | .streamEdge ch _ _ _ _ => decide (ch < 16)
  | .intervalEnd ch => decide (ch < 16)
  | .stopTimeout ch => decide (ch < 16)
  | .measurementLost ch => decide (ch < 16)
  | .frequencyGateEnd ch => decide (ch < 16)
  | .clapRecordWrite ch => decide (ch < 16)
  | .clapChRidxWrite ch _ => decide (ch < 16)
  | .clapLimitHiWrite ch _ _ => decide (ch < 16)
  | .clapLimitLoWrite ch _ _ => decide (ch < 16)
  | .referenceOffset ch => decide (ch < 16)
  | .laneCalTrigger lane => decide (lane < 32)
  | .laneCalDone lane _ => decide (lane < 32)
  | .gearboxMeasurementDone port _ _ _ => decide (port < 4)
  | .probeMeasurementDone _ _ => true
  | .apRelock h ap mode => cmdWf h (.apRelock ap mode)
  | .dpRetune h a => cmdWf h (.dpRetune a)
  | .dpAlignRun h dp => cmdWf h (.dpAlignRun dp)
  | .apBandClear h ap => cmdWf h (.apBandClear ap)
  | .dpCfgWrite dp _ => decide (dp < 6)
  | .apCfgWrite ap _ => decide (ap < 4)
  | .apSsWrite ap _ => decide (ap < 4)
  | .dpllUpdate dp _ _ => decide (dp < 6)
  | .refinStamp refin _ => decide (refin < 8)
  | .refinAbsent refin => decide (refin < 8)
  | .apHopTimeout ap => decide (ap < 4)
  | .apLocked ap _ _ => decide (ap < 4)
  | .apSearchTimeout ap => decide (ap < 4)
  | .apLost ap _ => decide (ap < 4)
  | .apAutoRelock ap => decide (ap < 4)
  | .detAnchor dp => decide (dp < 6)
  | .detPassEnd dp _ => decide (dp < 6)
  | .ap0Loss _ _ => true
  | .ap0RelockAttempt => true
  | .shclkRestart _ _ _ => true
  | .ap0Rebuilt => true
  | .outStart h a => cmdWf h (.outStart a)
  | .outStop h a => cmdWf h (.outStop a)
  | .outSwitch h out dir => cmdWf h (.outSwitch out dir)
  | .outGateOpen out => decide (out < 32)
  | .outGateClose out => decide (out < 32)
  | .outFaultStop out _ => decide (out < 32)
  | .outInterlockGate out => decide (out < 32)
  | .fallbackSwitch out => decide (out < 32)
  | .fallbackReturn out => decide (out < 32)
  | .outFineStep out => decide (out < 32)
  | .outDividerReload out => decide (out < 32)
  | .cueArm h a => cmdWf h (.cueArm a)
  | .cueCancel h a => cmdWf h (.cueCancel a)
  | .cueQuery h cue => cmdWf h (.cueQuery cue)
  | .cueFiring cue _ => decide (cue < 64)
  | .cueLate cue _ _ => decide (cue < 64)
  | .cueEnd cue _ => decide (cue < 64)
  | .cueRingTimerRelease _ => true
  | .cuePinCfgWrite pin _ => decide (pin < 8)
  | .captureEdge ch => decide (ch < 16)
  | .todMessageSend _ => true
  | .todMessageReceive _ => true
  | .gnssAcq h a => cmdWf h (.gnssAcq a)
  | .gnssAcqDone _ _ => true
  | .gnssChStart h a => cmdWf h (.gnssChStart a)
  | .gnssChStop h ch => cmdWf h (.gnssChStop ch)
  | .gnssPower h op retain => cmdWf h (.gnssPower op retain)
  | .gnssSpoof h op checks sols => cmdWf h (.gnssSpoof op checks sols)
  | .sampleEpochMark port _ _ => decide (port < 3)
  | .samplePathBreak port _ => decide (port < 3)
  | .samplePathRecover port _ => decide (port < 3)
  | .gnssPortEnableWrite port _ => decide (port < 3)
  | .notchChange port _ _ _ => decide (port < 3)
  | .gnssJam port _ => decide (port < 3)
  | .gnssChannelEpoch ch _ => decide (ch < 192)
  | .gnssDumpInterrupt _ => true
  | .gnssNcoCommit ch _ _ _ _ => decide (ch < 192)
  | .gnssNcoLoWrite ch _ _ _ => decide (ch < 192)
  | .gnssCodeAdjWrite ch _ _ => decide (ch < 192)
  | .gnssMeas _ _ _ _ => true
  | .gnssNav ch _ => decide (ch < 192)
  | .osnmaTagResult _ => true
  | .gnssWake => true
  | .gnssSettleEnd _ _ => true
  | .solutionFeed sol _ => decide (sol < 2)
  | .portCfgWrite port _ => decide (port < 4)
  | .portBlockLock port => decide (port < 4)
  | .portLinkDown port _ => decide (port < 4)
  | .portRefSwitch port => decide (port < 4)
  | .rxFrame port _ => decide (port < 4)
  | .txdChain ring _ => decide (ring < 64)
  | .txTimestamp port _ _ => decide (port < 4)
  | .txTimestampDrain port => decide (port < 4)
  | .portCounterRead port counter => decide (port < 4) && decide (counter < 48)
  | .portDaily port _ => decide (port < 4)
  | .lpiEnter port _ => decide (port < 4)
  | .lpiWake port _ => decide (port < 4)
  | .esmcSend port => decide (port < 4)
  | .esmcRxTimeout port => decide (port < 4)
  | .ptpInstEnable inst _ => decide (inst < 4)
  | .ptpMessageReceive inst port _ => decide (inst < 4) && decide (port < 4)
  | .ptpPeriodicSend inst port _ _ _ _ => decide (inst < 4) && decide (port < 4)
  | .followUpSend inst port => decide (inst < 4) && decide (port < 4)
  | .delayRespSend inst _ _ _ => decide (inst < 4)
  | .slaveExchange inst port => decide (inst < 4) && decide (port < 4)
  | .bmcaRun inst => decide (inst < 4)
  | .announceReceiptTimeout inst port _ => decide (inst < 4) && decide (port < 4)
  | .grantExpiry entry _ => decide (entry < 65536)
  | .unicastRenew inst slot _ => decide (inst < 4) && decide (slot < 8)
  | .l1SyncSend inst port => decide (inst < 4) && decide (port < 4)
  | .ptpClientFind h a => cmdWf h (.ptpClientFind a)
  | .ptpClientCancel h index => cmdWf h (.ptpClientCancel index)
  | .ptpKeyRoll h inst => cmdWf h (.ptpKeyRoll inst)
  | .ptpUmaster h a => cmdWf h (.ptpUmaster a)
  | .ptpParentRead h inst => cmdWf h (.ptpParentRead inst)
  | .ntpInstEnable inst _ => decide (inst < 4)
  | .ntpRequest inst _ => decide (inst < 4)
  | .ntpReplyLaunch _ _ _ => true
  | .ntpRequestExpiry _ => true
  | .ntsEpochRotation _ => true
  | .ntsCookieRootWrite _ => true
  | .ntpPeerPoll peer _ => decide (peer < 8)
  | .ntpPeerReply peer _ => decide (peer < 8)
  | .ntpPeerEnableWrite peer _ => decide (peer < 8)
  | .ntsCookieMint h a => cmdWf h (.ntsCookieMint a)
  | .ntpRlQuery h a => cmdWf h (.ntpRlQuery a)
  | .ntpPeerRead h peer => cmdWf h (.ntpPeerRead peer)
  | .aesJobGrant _ => true
  | .ranLaneState lane _ _ => decide (lane < 4)
  | .claimSend => true
  | .ranFrameReceive _ => true
  | .stateSend => true
  | .peerSilence _ => true
  | .claimRaise => true
  | .peerLeadNChange _ _ => true
  | .drivePermissionChange _ => true
  | .joinWaitEnd => true
  | .autoRejoin => true
  | .markSend _ _ => true
  | .followModeUpdate => true
  | .mirrorSend => true
  | .keywrapSend _ => true
  | .ranHandback h => cmdWf h .ranHandback
  | .ranRejoin h => cmdWf h .ranRejoin
  | .ranPeerRead h addr => cmdWf h (.ranPeerRead addr)
  | .ranTmoWrite _ => true
  | .nop h => cmdWf h .nop
  | .abort h a => cmdWf h (.abort a)
  | .ringStop h stopRing => cmdWf h (.ringStop stopRing)
  | .ringDrainDone ring => decide (ring < 64)
  | .runState h target => cmdWf h (.runState target)
  | .profileSet h profile => cmdWf h (.profileSet profile)
  | .govPermit h ts => cmdWf h (.govPermit ts)
  | .unassignedOpcode h op => cmdWf h (.unassignedOpcode op)
  | .permitExpiry ts => decide (ts < 4)
  | .doorbellPoll entries cmds _ _ => entries.all (fun e => decide (e.1 < 64)) && cmds.all (fun e => decide (e.1 < 64) && cmdWf e.2.1 e.2.2)
  | .hostNudge _ _ => true
  | .hostRingEnable ring _ => decide (ring < 64)
  | .commandCommit ring => decide (ring < 64)
  | .completionWrite ring => decide (ring < 64)
  | .rxdDelivery ring => decide (ring < 64)
  | .rxStarveTimeout ring => decide (ring < 64)
  | .ringInterrupt ring _ => decide (ring < 64)
  | .msixUnmask vector => decide (vector < 64)
  | .hostDmaError _ => true
  | .functionLevelReset _ => true
  | .busMasterEnableChange _ _ _ => true
  | .barAccessRefused _ => true
  | .registerWrite offset _ => decide (offset < 1048576)
  | .w1cWrite offset _ _ => decide (offset < 1048576)
  | .rcRead offset concurrent => decide (offset < 1048576) && decide (concurrent.length ≤ 2)
  | .cshtStage h a => cmdWf h (.cshtStage a)
  | .cshtCommit h a => cmdWf h (.cshtCommit a)
  | .cshtConfirm h version => cmdWf h (.cshtConfirm version)
  | .cshtRevert h expected => cmdWf h (.cshtRevert expected)
  | .cshtRead h a => cmdWf h (.cshtRead a)
  | .cshtApplyEnd => true
  | .cshtDeadlineWarn => true
  | .confirmDeadlineExpiry => true
  | .stvDerive h a => cmdWf h (.stvDerive a)
  | .stvRevoke h handle => cmdWf h (.stvRevoke handle)
  | .stvKeyInfo h handle node => cmdWf h (.stvKeyInfo handle node)
  | .stvCrypt h a => cmdWf h (.stvCrypt a)
  | .stvImport h a => cmdWf h (.stvImport a)
  | .stvChallenge h a => cmdWf h (.stvChallenge a)
  | .stvRespond h a => cmdWf h (.stvRespond a)
  | .stvIdentity h addr => cmdWf h (.stvIdentity addr)
  | .stvRollbackSet h version => cmdWf h (.stvRollbackSet version)
  | .challengeExpiry => true
  | .challengeLockEnd => true
  | .stvTamper _ => true
  | .stvPairKeyWrite _ => true
  | .trngHealthFail => true
  | .trngRetest _ => true
  | .drbgReseed => true
  | .drbgStaleTimeout => true
  | .keyMaskRefresh => true
  | .inFlightDone _ => true
  | .fwStage h a => cmdWf h (.fwStage a)
  | .fwSelect h slot => cmdWf h (.fwSelect slot)
  | .fwConfirm h => cmdWf h .fwConfirm
  | .pluginCtl h id op => cmdWf h (.pluginCtl id op)
  | .perfSample h op => cmdWf h (.perfSample op)
  | .fwPluginFault id _ => decide (id < 256)
  | .pluginKernelCall id _ => decide (id < 256)
  | .perfOvf counter => decide (counter < 48)
  | .perfCntRead counter _ => decide (counter < 48)
  | .perfSampleRecord _ => true
  | .perfSampleDrain => true
  | .logRead h a => cmdWf h (.logRead a)
  | .logWrite h a => cmdWf h (.logWrite a)
  | .lwRead h addr bad => cmdWf h (.lwRead addr bad)
  | .lwClear h mask => cmdWf h (.lwClear mask)
  | .bistIdleRun h kind index => cmdWf h (.bistIdleRun kind index)
  | .logRecordWrite _ _ => true
  | .logScrub cell _ _ => decide (cell < 8192)
  | .wrapBlockSlice _ => true
  | .wrapTestEnd => true
  | .idleSlice _ _ => true
  | .idleSlicePreempt => true
  | .resetNAssert => true
  | .bootSequence _ => true
  | .autoRun => true
  | .brownout _ => true
  | .thermalSample _ => true
  | .rtcLoad _ => true
  | .markArrival _ _ => true
  | .handbackTimeout => true
  | .qspiWriteDone _ _ => true
  | .cryptoJobDone ring tag => decide (ring < 64) && decide (tag < 65536)
  | .railBackInRange _ => true

end Sys2Proof
end

