-- ==== Sys2Proof/Decode.lean ====
section
/-! DEFINITION. The words of spec/opcode_table.json: no row gives bits (each is a command of the block, not a processor's instruction), so no word
spells one. -/
namespace Sys2Proof

/-- The command that a table word spells (spec/opcode_table.json): none, for no row of the table gives bits. -/
def decodeTableWord (_nbits _w : Nat) : Option Instr := none

end Sys2Proof
end

