-- ==== Sys2Proof/Config.lean ====
section
/-! DEFINITION. What the spec leaves open or gives to manufacture, as constants without a value: nothing can be proved of what
they are (notes/assumptions/2.md). -/
namespace Sys2Proof.Config

/-- A draw of the Stavris generator (R357, R381), by the model's counter of free values. -/
opaque draw : Nat → Nat

/-- The frequency filter of R79, in 10^-15: the spec names what it takes in and not what it computes. Its arguments: the previous
y_hat, x_hat in ps, the weighted frequency members, four time constants in s. -/
opaque freqFilter : Int → Int → List (Rat × Int) → Nat → Int

/-- Three times the rms uncertainty of y_hat at entry to COASTING, in 0.01 ppt (R84). -/
opaque yUncertainty : Int → Nat

/-- The holdover predictor's frequency, in 10^-15 (R84), from the frequency at entry, y_hat over the last 24 h in LOCKED with its ticks (the drift is
fitted to it), the learned temperature coefficient in 0.001 ppt/K, the epochs coasted and the temperature change in 0.01 K. -/
opaque predictY : Int → List (Nat × Int) → Int → Nat → Int → Int

/-- The temperature coefficient learned while LOCKED, in 0.001 ppt/K, from the one held, y_hat and the temperature in 0.01 K where one is known
(R84). -/
opaque learnTempco : Int → Int → Option Int → Int

/-- The frequency part of a DPLL's next ratio in 2^-40 (R123, R124): the spec gives the loop's order, damping and bandwidth, not its arithmetic. Its
arguments: bandwidth in mHz, last ratio, and the detector samples since the last ratio that was applied, oldest first: phase error in ps and
frequency error in 10^-12. -/
opaque loopBase : Nat → Nat → List (Int × Int) → Nat

/-- The phase part of a DPLL's next ratio in 2^-40, before the slope limit (R123-R125), by the same arguments. -/
opaque loopPhase : Nat → Nat → List (Int × Int) → Int

/-- The band on which AP0 locks at boot and the time that it takes (R129, R424), by the model's counter of free values: band in the low 9 bits,
then a bit for a tuning voltage near a rail (R130), µs above them, taken modulo the bound of R129 plus one. -/
opaque bootLock : Nat → Nat

/-- The phase of a divided clock that no alignment grid fixes (R146), in 2^-48 ns from the instant asked for, by the model's counter of
free values; taken modulo the period. -/
opaque dividerPhase : Nat → Nat

/-- Factory PMA delay plus the fixed pipeline of a port's path in 2^-8 ps (R210), by port, mode, RS-FEC, and whether it is the receive
path: the factory calibration and the mode give it. -/
opaque portDelay : Nat → Nat → Bool → Bool → Nat

/-- The OTP secret of a life-cycle state (R349), and the key values that cryptography gives: no rule states a number of them. -/
opaque otpSecret : Nat → Nat

/-- KDF of R353: key, label, context, size. -/
opaque kdf : Nat → List Nat → List Nat → Nat → Nat

/-- The output bytes of an STV_CRYPT operation as a number (R358): operation, key, IV, AAD length, input. -/
opaque crypt : Nat → Nat → Nat → Nat → Nat → Nat

/-- The check of an STV_CRYPT operation 1, 3 or 5 (R358): good or bad, by the same arguments without the IV. -/
opaque cryptGood : Nat → Nat → Nat → Nat → Nat → Bool

/-- The public key x ‖ y of a private scalar (R358). -/
opaque publicKey : Nat → Nat

/-- Where the search for a free entry of the client table begins, by the hash key and what identifies the client (R246, R276): which free
entry a new client takes is left open. Taken modulo 65,536. -/
opaque clientHash : Nat → Nat → Nat

/-- The bucket of an address prefix (R271), by the hash key, the family and the prefix; taken modulo 32,768. -/
opaque bucketHash : Nat → Nat → Nat → Nat

/-- The increment that the follow loop sets (R290): the spec gives its order and bandwidth, not its arithmetic. Its arguments: RAN_CFG.align_bw,
the increment in force, θ in 2^-8 ps. -/
opaque followIncr : Nat → Nat → Int → Nat

/-- A byte of the factory calibration in OTP (R345), by its address: it differs from part to part. -/
opaque fcalByte : Nat → Byte

/-- The index of the next entry in the hash chain of a client-table entry (R247, R276), by the entry and the model's clock: no rule gives the
hash. -/
opaque chainNext : Nat → Nat → Nat

/-- The power spectrum of 1,024 bins that a port computes of a block after its notch filters (R188): width codes and centres in kHz of the active
notches, the samples. The spec gives neither the window nor the filters. -/
opaque gnssSpectrum : List (Nat × Int) → List (Int × Int) → List Nat

/-- The bits of a navigation unit that its FEC gives from the symbols (R194): unit type, symbols. The signals' own documents give the codes. -/
opaque navBits : Nat → Nat → Nat

/-- Whether the check of a word, or of a whole unit, passes (R182): unit type, word, symbols. -/
opaque navPass : Nat → Option Nat → Nat → Bool

/-- Whether its single-error correction mends it (R182), by the same arguments. -/
opaque navCorrects : Nat → Option Nat → Nat → Bool

/-- The hash of the Merkle tree of R195. -/
opaque osnmaHash : List Nat → Nat

/-- The DSM-KROOT signature check of R195: P-521 or P-256, public key, KROOT, signature. -/
opaque osnmaSignature : Bool → Nat → Nat → Nat → Bool

/-- One step back on the TESLA chain (R195): SHA3-256 or SHA-256, the key's place, the key. -/
opaque teslaStep : Bool → Nat → Nat → Nat

/-- The tag that a chain key gives for a message (R195): CMAC-AES or HMAC-SHA-256, key, message. -/
opaque osnmaMac : Bool → Nat → Nat → Nat

/-- Whether the almanac predicts the satellite above the horizon, and the code phase in 2^-8 chips and the Doppler in Hz that firmware predicts for a
search (R190): signal, satellite, the instant of TS0 in 2^-48 ns. No rule gives the orbits. -/
opaque gnssUp : Nat → Nat → Nat → Bool
opaque gnssCode : Nat → Nat → Nat → Nat
opaque gnssDoppler : Nat → Nat → Nat → Int

end Sys2Proof.Config
end

