-- ==== Sys2Proof/Machine/RegNames.lean ====
section
/-! DEFINITION. The names of the EF-96's BAR0 registers, one constructor for each kind of register of the register
tables of spec/ (21_register_map.md R449 counts their instances), and a register instance: a name with its indices. -/
namespace Sys2Proof.Machine

/-- One kind of register of BAR0 (R449). `PORT_CNT_LO` and `PORT_CNT_HI` are the twelve statistics counters of a
port (R219); the `GOV_FLR` names are the floors that stand 0x200 above the governor limits (R374); the `MSIX` names are the
MSI-X table and the Pending Bit Array (R303). -/
inductive RegName where
  | PWR_PACE_STATUS
  | PWR_PACE_CFG
  | PWR_PACE_TARGET
  | PWR_PACE_EVENT
  | PWR_PACE_RAW
  | PWR_PACE_SAG_COUNT
  | TS_CTRL
  | TS_STATUS
  | TS_INCR_LO
  | TS_INCR_HI
  | TS_NOW0
  | TS_NOW1
  | TS_NOW2
  | TS_NOW3
  | TS_SLEW_REM_LO
  | TS_SLEW_REM_HI
  | TS_SLEW_RATE
  | TS_DERIVE_RATE
  | TS_STEP_COUNT
  | TS_UTC_OFS
  | TS_LEAP_SCHED
  | TS_VIEW_CFG
  | TS_VIEW_CORR
  | TS_ENS_CFG
  | TS_ENS_LOCK
  | TS_ENS_STATUS
  | TS_ENS_QTHR
  | TS_BND_REF
  | TS_BND_MEAS
  | TS_BND_EST
  | TS_BND_HOLD
  | TS_BND_GAP
  | TS_BND_TOTAL
  | TS_ENS_FREQ
  | TS_COAST_TIME
  | TS_ENS_LATE
  | TS_REF_CFG
  | TS_REF_QUAL
  | TS_REF_LIM
  | TS_REF_UNC
  | TS_REF_STATUS
  | TS_REF_OFS
  | TS_REF_SIGMA
  | TS_REF_WPOL
  | TS_OSC_CFG
  | TS_OSC_Y0
  | TS_OSC_DRIFT
  | TS_OSC_TEMPCO
  | TS_OSC_TEMP
  | TS_OSC_LEARN
  | TS_EFC_CODE
  | TS_EFC_GAIN
  | TS_EFC_STEP
  | CLAP_CTRL
  | CLAP_AGG_LOST
  | CLAP_LANE_STATUS
  | CLAP_PROBE_LO
  | CLAP_PROBE_HI
  | CLAP_CH_CFG
  | CLAP_CH_IN
  | CLAP_CH_MEAS
  | CLAP_CH_TMO_LO
  | CLAP_CH_TMO_HI
  | CLAP_CH_STAT
  | CLAP_CH_UCAL
  | CLAP_CH_LIMLO_LO
  | CLAP_CH_LIMLO_HI
  | CLAP_CH_LIMHI_LO
  | CLAP_CH_LIMHI_HI
  | CLAP_CH_NOM_LO
  | CLAP_CH_NOM_HI
  | CLAP_CH_BUF_LO
  | CLAP_CH_BUF_HI
  | CLAP_CH_BUF_CFG
  | CLAP_CH_WIDX
  | CLAP_CH_RIDX
  | CLAP_CH_STATUS
  | CLAP_CH_MISSED
  | CLAP_CH_LOST
  | CLAP_CH_OUTLIM
  | DP_CFG
  | DP_BW
  | DP_FREQ_LO
  | DP_FREQ_HI
  | DP_PHASE
  | DP_ALIGN
  | DP_LOCK
  | DP_STATUS
  | DP_PERR
  | DP_FERR
  | DP_LATE
  | SYN_OSC_CFG
  | SYN_GAP_LO
  | SYN_GAP_HI
  | SYN_GAP_STATUS
  | SYN_REFIN_CFG
  | SYN_REFIN_STATUS
  | AP_CFG
  | AP_SS
  | AP_STATUS
  | AP_LOSS
  | AP_BTAB
  | OUT_CFG
  | OUT_DIV
  | OUT_COARSE
  | OUT_FINE
  | OUT_FB_DIV
  | OUT_FB_COARSE
  | OUT_STATUS
  | OUT_SWITCHES
  | CUE_CFG
  | CUE_STATUS
  | CUE_PAT_LO
  | CUE_PAT_HI
  | CUE_FIRED
  | CUE_LATE
  | CUE_PIN_CFG
  | CUE_CAP_CFG
  | CUE_CAP_BUF_LO
  | CUE_CAP_BUF_HI
  | CUE_CAP_BUF_CFG
  | CUE_CAP_WIDX
  | CUE_CAP_RIDX
  | CUE_CAP_LOST
  | CUE_TOD_CFG
  | CUE_TOD_BAUD
  | CUE_TOD_STATUS
  | CUE_TOD_RX_CLAIM
  | CUE_TOD_ERR
  | GNSS_CTRL
  | GNSS_STATUS
  | GNSS_WAKE
  | GNSS_MEAS_CFG
  | GNSS_MEAS_BUF_LO
  | GNSS_MEAS_BUF_HI
  | GNSS_MEAS_BUF_CFG
  | GNSS_MEAS_WIDX
  | GNSS_MEAS_RIDX
  | GNSS_MEAS_LOST
  | GNSS_NAV_CFG
  | GNSS_NAV_BUF_LO
  | GNSS_NAV_BUF_HI
  | GNSS_NAV_BUF_CFG
  | GNSS_NAV_WIDX
  | GNSS_NAV_RIDX
  | GNSS_NAV_LOST
  | GNSS_SPOOF_CFG
  | GNSS_SPOOF_THR
  | GNSS_SPOOF_STATUS
  | GNSS_OSNMA_CFG
  | GNSS_OSNMA_STATUS
  | GNSS_SOL_CFG
  | GNSS_OSNMA_ROOT
  | GNSS_PORT_CFG
  | GNSS_PORT_FS
  | GNSS_PORT_LO
  | GNSS_PORT_STATUS
  | GNSS_PORT_CNREF
  | GNSS_PORT_LOST
  | GNSS_NOTCH
  | GNSS_NOTCH_ST
  | GNSS_CH_CFG
  | GNSS_CH_CORR
  | GNSS_CH_STATUS
  | GNSS_CH_CODE_LO
  | GNSS_CH_CODE_HI
  | GNSS_CH_CARR_LO
  | GNSS_CH_CARR_HI
  | GNSS_CH_CODE_ADJ
  | GNSS_CH_LATE
  | PORT_CFG
  | PORT_STATUS
  | PORT_MAXF
  | PORT_TS_ADJ_RX
  | PORT_TS_ADJ_TX
  | PORT_LAT_RX
  | PORT_LAT_TX
  | PORT_LPI_CFG
  | PORT_TXTS_CFG
  | PORT_TXTS_STATUS
  | PORT_TXTS_DROP
  | PORT_ESMC_QL
  | PORT_ESMC_STATUS
  | PORT_MAC_LO
  | PORT_MAC_HI
  | PORT_DLY_CFG
  | PORT_DLY_BUF_LO
  | PORT_DLY_BUF_HI
  | PORT_DLY_BUF_CFG
  | PORT_DLY_WIDX
  | PORT_DLY_RIDX
  | PORT_DLY_LOST
  | PORT_CNT_LO
  | PORT_CNT_HI
  | PTP_ORG_ID
  | PTP_UNI_USED
  | PTP_PORT_BUDGET
  | TSE_IP4
  | TSE_IP6
  | PTP_INST_CFG
  | PTP_INST_DOM
  | PTP_INST_INTV
  | PTP_INST_ID_LO
  | PTP_INST_ID_HI
  | PTP_INST_QUAL
  | PTP_INST_UNI
  | PTP_INST_ASYM
  | PTP_INST_ASYM_UNC
  | PTP_INST_AUTH
  | PTP_INST_KEY0
  | PTP_INST_KEY1
  | PTP_INST_STATUS
  | PTP_INST_INFO
  | PTP_INST_MPD
  | PTP_INST_OFS
  | PTP_AUTH_FAIL
  | PTP_SYNC_SKIP
  | PTP_REQ_DROP
  | PTP_GRANT_DENY
  | PTP_CLAIM_REJ
  | NTP_RL_CFG
  | NTP_RL_RATE
  | NTS_COOKIE_ROOT
  | NTS_ROT
  | NTS_EPOCH
  | NTS_STATUS
  | NTS_LAUNCH
  | NTS_MINTED
  | NTP_INST_CFG
  | NTP_INST_STATUS
  | NTP_RX
  | NTS_RX
  | NTP_KOD_SENT
  | NTS_NAK_SENT
  | NTS_AUTH_FAIL
  | NTP_RL_DROP
  | NTP_REQ_DROP
  | NTS_REVOKE_DROP
  | NTP_LAUNCH_DROP
  | NTP_POLICY_DROP
  | NTP_PEER_CFG
  | NTP_PEER_ADDR
  | NTP_PEER_MAC_LO
  | NTP_PEER_MAC_HI
  | NTP_PEER_STATUS
  | RAN_CFG
  | RAN_TMO
  | RAN_STATUS
  | RAN_CLAIM
  | RAN_PEER_CLAIM
  | RAN_EPOCH_MAX
  | RAN_ASYM
  | RAN_ASYM_UNC
  | RAN_OFS
  | RAN_DELAY
  | RAN_SIGMA
  | RAN_EVENT
  | RAN_TAKES
  | RAN_FRAME_ERR
  | RAN_SHADOW_OFS
  | RAN_SHADOW_BND
  | HOST_STATUS
  | HOST_DB_LO
  | HOST_DB_HI
  | HOST_POLL_CFG
  | HOST_NUDGE
  | HOST_POLL_STATUS
  | HOST_EVT_CFG
  | HOST_EVT_LOST
  | HOST_RX_STARVE
  | HOST_DMA_ERR
  | HOST_RXSTEER
  | HOST_RX_NORING
  | HOST_STAGE_DROP
  | HOST_RING_CFG
  | HOST_RING_BASE_LO
  | HOST_RING_BASE_HI
  | HOST_RING_IRQ
  | HOST_RING_HEAD
  | HOST_RING_STATUS
  | HOST_RING_DROP
  | CSHT_CFG
  | CSHT_POLICY
  | CSHT_STATUS
  | CSHT_ACTIVE_VER
  | CSHT_PREV_VER
  | CSHT_STAGED_VER
  | CSHT_UCAL_VER
  | CSHT_REFUSED
  | CSHT_CLAMPED
  | STV_STATUS
  | STV_TAMP_CFG
  | STV_TAMP_STATUS
  | STV_PAIR_KEY
  | STV_REVOKE_DROP
  | STV_TRNG_FAIL
  | STV_ROLLBACK
  | LC_STATE
  | LC_UNLOCK
  | LC_OWNER_HASH
  | GOV_STATUS
  | GOV_VIOLATION
  | GOV_DENIED
  | GOV_PERMIT_CFG
  | GOV_TS_SLEW
  | GOV_TS_FREQ
  | GOV_TS_BFLOOR
  | GOV_TS_CFG
  | GOV_HOLD_Y0
  | GOV_HOLD_DRIFT
  | GOV_HOLD_TEMPCO
  | GOV_PORT_TXCAP
  | GOV_CUE_OPEN
  | GOV_CUE_CLOSE
  | PERF_CTRL
  | PERF_OVF_LO
  | PERF_OVF_HI
  | PERF_SAMPLE_CFG
  | PERF_SAMPLE_CLASS
  | PERF_SAMPLE_LOST
  | PERF_SEL
  | PERF_CNT_LO
  | PERF_CNT_HI
  | LOG_CFG
  | LOG_STATUS
  | LOG_SEQ
  | LOG_DROP
  | LOG_LW_VALID_LO
  | LOG_LW_VALID_HI
  | LOG_LW_DROP
  | LOG_STRM_BUF_LO
  | LOG_STRM_BUF_HI
  | LOG_STRM_BUF_CFG
  | LOG_STRM_WIDX
  | LOG_STRM_RIDX
  | LOG_STRM_LOST
  | BIST_CFG
  | BIST_STATUS
  | BIST_FAIL
  | BIST_IDLE_RET
  | BIST_RES
  | PWR_RUN
  | PWR_CFG
  | PWR_THERM
  | PWR_RAIL
  | PWR_AVS_STATUS
  | PWR_BOOT_OUT
  | PWR_EVENT
  | PWR_BOOT_TIME
  | GLOBAL_IDENT
  | GLOBAL_VERSION
  | GLOBAL_DEVID_LO
  | GLOBAL_DEVID_HI
  | GLOBAL_FW_VERSION
  | GLOBAL_FW_STATE
  | GLOBAL_CAP_HOST
  | GLOBAL_CAP_TIME
  | GLOBAL_CAP_CLAP
  | GLOBAL_CAP_SYN
  | GLOBAL_CAP_CUE
  | GLOBAL_CAP_GNSS
  | GLOBAL_CAP_NET
  | GLOBAL_CAP_CLIENT
  | GLOBAL_CAP_KEYS
  | GLOBAL_CAP_CORE
  | GLOBAL_CAP_LOG
  | GLOBAL_CAP_SRAM
  | GOV_FLR_TS_SLEW
  | GOV_FLR_TS_FREQ
  | GOV_FLR_TS_BFLOOR
  | GOV_FLR_TS_CFG
  | GOV_FLR_HOLD_Y0
  | GOV_FLR_HOLD_DRIFT
  | GOV_FLR_HOLD_TEMPCO
  | GOV_FLR_PORT_TXCAP
  | GOV_FLR_CUE_OPEN
  | GOV_FLR_CUE_CLOSE
  | MSIX_ADDR_LO
  | MSIX_ADDR_HI
  | MSIX_DATA
  | MSIX_CTRL
  | MSIX_PBA
  deriving DecidableEq, Repr

/-- A register instance: its kind, its first index and its second index (0 where the kind has none). -/
structure Reg where
  name : RegName
  i : Nat
  j : Nat
  deriving DecidableEq, Repr

end Sys2Proof.Machine
end

