-- ==== Sys2Proof/Machine/RegTable.lean ====
section
/-! DEFINITION. The register tables of spec/ as data: where each register stands in BAR0 (R449), its value from reset
(R4), its access code (R5), and for each field its bits, its access code and the values its encoding assigns (R8). -/
namespace Sys2Proof.Machine

/-- The access codes of R5. -/
inductive Access where
  | RO | RW | RWS | RWL | W1C | RC | WO
  deriving DecidableEq, Repr

/-- The values that the encoding table of a field assigns (R8): every value, a range, a range of two's complement
values of the field's width, a list of ranges, or the multiples of an alignment. -/
inductive Legal where
  | any
  | range (lo hi : Nat)
  | sint (lo hi : Int)
  | oneOf (l : List (Nat × Nat))
  | aligned (a : Nat)
  deriving DecidableEq, Repr

/-- One field of a register table: its bits [hi:lo], its access code and its assigned values. -/
structure FieldSpec where
  hi : Nat
  lo : Nat
  access : Access
  legal : Legal
  deriving DecidableEq, Repr

/-- A named field: the register that holds it and its bits [hi:lo]. -/
structure Fld where
  reg : RegName
  hi : Nat
  lo : Nat
  deriving DecidableEq, Repr

/-- Offset of the first instance in BAR0 (R449). -/
def RegName.base : RegName → Nat
  | .PWR_PACE_STATUS => 0x1200
  | .PWR_PACE_CFG => 0x1204
  | .PWR_PACE_TARGET => 0x1208
  | .PWR_PACE_EVENT => 0x120c
  | .PWR_PACE_RAW => 0x1210
  | .PWR_PACE_SAG_COUNT => 0x1214
  | .TS_CTRL => 0x8000
  | .TS_STATUS => 0x8004
  | .TS_INCR_LO => 0x8008
  | .TS_INCR_HI => 0x800c
  | .TS_NOW0 => 0x8010
  | .TS_NOW1 => 0x8014
  | .TS_NOW2 => 0x8018
  | .TS_NOW3 => 0x801c
  | .TS_SLEW_REM_LO => 0x8020
  | .TS_SLEW_REM_HI => 0x8024
  | .TS_SLEW_RATE => 0x8028
  | .TS_DERIVE_RATE => 0x802c
  | .TS_STEP_COUNT => 0x8030
  | .TS_UTC_OFS => 0x8400
  | .TS_LEAP_SCHED => 0x8404
  | .TS_VIEW_CFG => 0x8410
  | .TS_VIEW_CORR => 0x8414
  | .TS_ENS_CFG => 0x8800
  | .TS_ENS_LOCK => 0x8804
  | .TS_ENS_STATUS => 0x8808
  | .TS_ENS_QTHR => 0x880c
  | .TS_BND_REF => 0x8810
  | .TS_BND_MEAS => 0x8814
  | .TS_BND_EST => 0x8818
  | .TS_BND_HOLD => 0x881c
  | .TS_BND_GAP => 0x8820
  | .TS_BND_TOTAL => 0x8824
  | .TS_ENS_FREQ => 0x8828
  | .TS_COAST_TIME => 0x882c
  | .TS_ENS_LATE => 0x8830
  | .TS_REF_CFG => 0x9000
  | .TS_REF_QUAL => 0x9004
  | .TS_REF_LIM => 0x9008
  | .TS_REF_UNC => 0x900c
  | .TS_REF_STATUS => 0x9010
  | .TS_REF_OFS => 0x9014
  | .TS_REF_SIGMA => 0x9018
  | .TS_REF_WPOL => 0x901c
  | .TS_OSC_CFG => 0x8a00
  | .TS_OSC_Y0 => 0x8a04
  | .TS_OSC_DRIFT => 0x8a08
  | .TS_OSC_TEMPCO => 0x8a0c
  | .TS_OSC_TEMP => 0x8a10
  | .TS_OSC_LEARN => 0x8a14
  | .TS_EFC_CODE => 0x8a18
  | .TS_EFC_GAIN => 0x8a1c
  | .TS_EFC_STEP => 0x8a20
  | .CLAP_CTRL => 0xa000
  | .CLAP_AGG_LOST => 0xa004
  | .CLAP_LANE_STATUS => 0xa900
  | .CLAP_PROBE_LO => 0xaa00
  | .CLAP_PROBE_HI => 0xaa04
  | .CLAP_CH_CFG => 0xa100
  | .CLAP_CH_IN => 0xa104
  | .CLAP_CH_MEAS => 0xa108
  | .CLAP_CH_TMO_LO => 0xa10c
  | .CLAP_CH_TMO_HI => 0xa110
  | .CLAP_CH_STAT => 0xa114
  | .CLAP_CH_UCAL => 0xa118
  | .CLAP_CH_LIMLO_LO => 0xa11c
  | .CLAP_CH_LIMLO_HI => 0xa120
  | .CLAP_CH_LIMHI_LO => 0xa124
  | .CLAP_CH_LIMHI_HI => 0xa128
  | .CLAP_CH_NOM_LO => 0xa12c
  | .CLAP_CH_NOM_HI => 0xa130
  | .CLAP_CH_BUF_LO => 0xa134
  | .CLAP_CH_BUF_HI => 0xa138
  | .CLAP_CH_BUF_CFG => 0xa13c
  | .CLAP_CH_WIDX => 0xa140
  | .CLAP_CH_RIDX => 0xa144
  | .CLAP_CH_STATUS => 0xa148
  | .CLAP_CH_MISSED => 0xa14c
  | .CLAP_CH_LOST => 0xa150
  | .CLAP_CH_OUTLIM => 0xa154
  | .DP_CFG => 0x10000
  | .DP_BW => 0x10004
  | .DP_FREQ_LO => 0x10008
  | .DP_FREQ_HI => 0x1000c
  | .DP_PHASE => 0x10010
  | .DP_ALIGN => 0x10014
  | .DP_LOCK => 0x10018
  | .DP_STATUS => 0x1001c
  | .DP_PERR => 0x10020
  | .DP_FERR => 0x10024
  | .DP_LATE => 0x10028
  | .SYN_OSC_CFG => 0x10400
  | .SYN_GAP_LO => 0x10404
  | .SYN_GAP_HI => 0x10408
  | .SYN_GAP_STATUS => 0x1040c
  | .SYN_REFIN_CFG => 0x10480
  | .SYN_REFIN_STATUS => 0x10484
  | .AP_CFG => 0x10800
  | .AP_SS => 0x10804
  | .AP_STATUS => 0x10808
  | .AP_LOSS => 0x1080c
  | .AP_BTAB => 0x10c00
  | .OUT_CFG => 0x14000
  | .OUT_DIV => 0x14004
  | .OUT_COARSE => 0x14008
  | .OUT_FINE => 0x1400c
  | .OUT_FB_DIV => 0x14010
  | .OUT_FB_COARSE => 0x14014
  | .OUT_STATUS => 0x14018
  | .OUT_SWITCHES => 0x1401c
  | .CUE_CFG => 0xc000
  | .CUE_STATUS => 0xc004
  | .CUE_PAT_LO => 0xc008
  | .CUE_PAT_HI => 0xc00c
  | .CUE_FIRED => 0xc010
  | .CUE_LATE => 0xc014
  | .CUE_PIN_CFG => 0xd000
  | .CUE_CAP_CFG => 0xd100
  | .CUE_CAP_BUF_LO => 0xd104
  | .CUE_CAP_BUF_HI => 0xd108
  | .CUE_CAP_BUF_CFG => 0xd10c
  | .CUE_CAP_WIDX => 0xd110
  | .CUE_CAP_RIDX => 0xd114
  | .CUE_CAP_LOST => 0xd118
  | .CUE_TOD_CFG => 0xd200
  | .CUE_TOD_BAUD => 0xd204
  | .CUE_TOD_STATUS => 0xd208
  | .CUE_TOD_RX_CLAIM => 0xd20c
  | .CUE_TOD_ERR => 0xd210
  | .GNSS_CTRL => 0x20000
  | .GNSS_STATUS => 0x20004
  | .GNSS_WAKE => 0x20008
  | .GNSS_MEAS_CFG => 0x20010
  | .GNSS_MEAS_BUF_LO => 0x20014
  | .GNSS_MEAS_BUF_HI => 0x20018
  | .GNSS_MEAS_BUF_CFG => 0x2001c
  | .GNSS_MEAS_WIDX => 0x20020
  | .GNSS_MEAS_RIDX => 0x20024
  | .GNSS_MEAS_LOST => 0x20028
  | .GNSS_NAV_CFG => 0x20030
  | .GNSS_NAV_BUF_LO => 0x20034
  | .GNSS_NAV_BUF_HI => 0x20038
  | .GNSS_NAV_BUF_CFG => 0x2003c
  | .GNSS_NAV_WIDX => 0x20040
  | .GNSS_NAV_RIDX => 0x20044
  | .GNSS_NAV_LOST => 0x20048
  | .GNSS_SPOOF_CFG => 0x20050
  | .GNSS_SPOOF_THR => 0x20054
  | .GNSS_SPOOF_STATUS => 0x20058
  | .GNSS_OSNMA_CFG => 0x20060
  | .GNSS_OSNMA_STATUS => 0x20064
  | .GNSS_SOL_CFG => 0x20070
  | .GNSS_OSNMA_ROOT => 0x20080
  | .GNSS_PORT_CFG => 0x20100
  | .GNSS_PORT_FS => 0x20104
  | .GNSS_PORT_LO => 0x20108
  | .GNSS_PORT_STATUS => 0x2010c
  | .GNSS_PORT_CNREF => 0x20110
  | .GNSS_PORT_LOST => 0x20114
  | .GNSS_NOTCH => 0x20120
  | .GNSS_NOTCH_ST => 0x20124
  | .GNSS_CH_CFG => 0x21000
  | .GNSS_CH_CORR => 0x21004
  | .GNSS_CH_STATUS => 0x21008
  | .GNSS_CH_CODE_LO => 0x2100c
  | .GNSS_CH_CODE_HI => 0x21010
  | .GNSS_CH_CARR_LO => 0x21014
  | .GNSS_CH_CARR_HI => 0x21018
  | .GNSS_CH_CODE_ADJ => 0x2101c
  | .GNSS_CH_LATE => 0x21020
  | .PORT_CFG => 0x18000
  | .PORT_STATUS => 0x18004
  | .PORT_MAXF => 0x18008
  | .PORT_TS_ADJ_RX => 0x1800c
  | .PORT_TS_ADJ_TX => 0x18010
  | .PORT_LAT_RX => 0x18014
  | .PORT_LAT_TX => 0x18018
  | .PORT_LPI_CFG => 0x1801c
  | .PORT_TXTS_CFG => 0x18020
  | .PORT_TXTS_STATUS => 0x18024
  | .PORT_TXTS_DROP => 0x18028
  | .PORT_ESMC_QL => 0x1802c
  | .PORT_ESMC_STATUS => 0x18030
  | .PORT_MAC_LO => 0x18034
  | .PORT_MAC_HI => 0x18038
  | .PORT_DLY_CFG => 0x18040
  | .PORT_DLY_BUF_LO => 0x18044
  | .PORT_DLY_BUF_HI => 0x18048
  | .PORT_DLY_BUF_CFG => 0x1804c
  | .PORT_DLY_WIDX => 0x18050
  | .PORT_DLY_RIDX => 0x18054
  | .PORT_DLY_LOST => 0x18058
  | .PORT_CNT_LO => 0x18100
  | .PORT_CNT_HI => 0x18104
  | .PTP_ORG_ID => 0x1c000
  | .PTP_UNI_USED => 0x1c004
  | .PTP_PORT_BUDGET => 0x1c020
  | .TSE_IP4 => 0x1c040
  | .TSE_IP6 => 0x1c044
  | .PTP_INST_CFG => 0x1c100
  | .PTP_INST_DOM => 0x1c104
  | .PTP_INST_INTV => 0x1c108
  | .PTP_INST_ID_LO => 0x1c10c
  | .PTP_INST_ID_HI => 0x1c110
  | .PTP_INST_QUAL => 0x1c114
  | .PTP_INST_UNI => 0x1c118
  | .PTP_INST_ASYM => 0x1c11c
  | .PTP_INST_ASYM_UNC => 0x1c120
  | .PTP_INST_AUTH => 0x1c124
  | .PTP_INST_KEY0 => 0x1c128
  | .PTP_INST_KEY1 => 0x1c12c
  | .PTP_INST_STATUS => 0x1c130
  | .PTP_INST_INFO => 0x1c134
  | .PTP_INST_MPD => 0x1c138
  | .PTP_INST_OFS => 0x1c13c
  | .PTP_AUTH_FAIL => 0x1c140
  | .PTP_SYNC_SKIP => 0x1c144
  | .PTP_REQ_DROP => 0x1c148
  | .PTP_GRANT_DENY => 0x1c14c
  | .PTP_CLAIM_REJ => 0x1c150
  | .NTP_RL_CFG => 0x1c400
  | .NTP_RL_RATE => 0x1c404
  | .NTS_COOKIE_ROOT => 0x1c408
  | .NTS_ROT => 0x1c40c
  | .NTS_EPOCH => 0x1c410
  | .NTS_STATUS => 0x1c414
  | .NTS_LAUNCH => 0x1c418
  | .NTS_MINTED => 0x1c41c
  | .NTP_INST_CFG => 0x1c500
  | .NTP_INST_STATUS => 0x1c504
  | .NTP_RX => 0x1c508
  | .NTS_RX => 0x1c50c
  | .NTP_KOD_SENT => 0x1c510
  | .NTS_NAK_SENT => 0x1c514
  | .NTS_AUTH_FAIL => 0x1c518
  | .NTP_RL_DROP => 0x1c51c
  | .NTP_REQ_DROP => 0x1c520
  | .NTS_REVOKE_DROP => 0x1c524
  | .NTP_LAUNCH_DROP => 0x1c528
  | .NTP_POLICY_DROP => 0x1c52c
  | .NTP_PEER_CFG => 0x1c700
  | .NTP_PEER_ADDR => 0x1c704
  | .NTP_PEER_MAC_LO => 0x1c714
  | .NTP_PEER_MAC_HI => 0x1c718
  | .NTP_PEER_STATUS => 0x1c71c
  | .RAN_CFG => 0x2c000
  | .RAN_TMO => 0x2c004
  | .RAN_STATUS => 0x2c008
  | .RAN_CLAIM => 0x2c00c
  | .RAN_PEER_CLAIM => 0x2c010
  | .RAN_EPOCH_MAX => 0x2c014
  | .RAN_ASYM => 0x2c018
  | .RAN_ASYM_UNC => 0x2c01c
  | .RAN_OFS => 0x2c020
  | .RAN_DELAY => 0x2c024
  | .RAN_SIGMA => 0x2c028
  | .RAN_EVENT => 0x2c02c
  | .RAN_TAKES => 0x2c030
  | .RAN_FRAME_ERR => 0x2c034
  | .RAN_SHADOW_OFS => 0x2c038
  | .RAN_SHADOW_BND => 0x2c03c
  | .HOST_STATUS => 0x2000
  | .HOST_DB_LO => 0x2004
  | .HOST_DB_HI => 0x2008
  | .HOST_POLL_CFG => 0x200c
  | .HOST_NUDGE => 0x2010
  | .HOST_POLL_STATUS => 0x2014
  | .HOST_EVT_CFG => 0x2018
  | .HOST_EVT_LOST => 0x201c
  | .HOST_RX_STARVE => 0x2020
  | .HOST_DMA_ERR => 0x2024
  | .HOST_RXSTEER => 0x2040
  | .HOST_RX_NORING => 0x2050
  | .HOST_STAGE_DROP => 0x2060
  | .HOST_RING_CFG => 0x3000
  | .HOST_RING_BASE_LO => 0x3004
  | .HOST_RING_BASE_HI => 0x3008
  | .HOST_RING_IRQ => 0x300c
  | .HOST_RING_HEAD => 0x3010
  | .HOST_RING_STATUS => 0x3014
  | .HOST_RING_DROP => 0x3018
  | .CSHT_CFG => 0x4000
  | .CSHT_POLICY => 0x4004
  | .CSHT_STATUS => 0x4008
  | .CSHT_ACTIVE_VER => 0x400c
  | .CSHT_PREV_VER => 0x4010
  | .CSHT_STAGED_VER => 0x4014
  | .CSHT_UCAL_VER => 0x4018
  | .CSHT_REFUSED => 0x401c
  | .CSHT_CLAMPED => 0x4020
  | .STV_STATUS => 0x28000
  | .STV_TAMP_CFG => 0x28004
  | .STV_TAMP_STATUS => 0x28008
  | .STV_PAIR_KEY => 0x2800c
  | .STV_REVOKE_DROP => 0x28010
  | .STV_TRNG_FAIL => 0x28014
  | .STV_ROLLBACK => 0x28018
  | .LC_STATE => 0x30000
  | .LC_UNLOCK => 0x30004
  | .LC_OWNER_HASH => 0x30010
  | .GOV_STATUS => 0x5000
  | .GOV_VIOLATION => 0x5004
  | .GOV_DENIED => 0x5008
  | .GOV_PERMIT_CFG => 0x500c
  | .GOV_TS_SLEW => 0x5100
  | .GOV_TS_FREQ => 0x5104
  | .GOV_TS_BFLOOR => 0x5108
  | .GOV_TS_CFG => 0x510c
  | .GOV_HOLD_Y0 => 0x5140
  | .GOV_HOLD_DRIFT => 0x5144
  | .GOV_HOLD_TEMPCO => 0x5148
  | .GOV_PORT_TXCAP => 0x5150
  | .GOV_CUE_OPEN => 0x5160
  | .GOV_CUE_CLOSE => 0x5164
  | .PERF_CTRL => 0x7000
  | .PERF_OVF_LO => 0x7004
  | .PERF_OVF_HI => 0x7008
  | .PERF_SAMPLE_CFG => 0x7010
  | .PERF_SAMPLE_CLASS => 0x7014
  | .PERF_SAMPLE_LOST => 0x7018
  | .PERF_SEL => 0x7100
  | .PERF_CNT_LO => 0x7200
  | .PERF_CNT_HI => 0x7204
  | .LOG_CFG => 0x6000
  | .LOG_STATUS => 0x6004
  | .LOG_SEQ => 0x6008
  | .LOG_DROP => 0x6010
  | .LOG_LW_VALID_LO => 0x6030
  | .LOG_LW_VALID_HI => 0x6034
  | .LOG_LW_DROP => 0x6038
  | .LOG_STRM_BUF_LO => 0x6040
  | .LOG_STRM_BUF_HI => 0x6044
  | .LOG_STRM_BUF_CFG => 0x6048
  | .LOG_STRM_WIDX => 0x604c
  | .LOG_STRM_RIDX => 0x6050
  | .LOG_STRM_LOST => 0x6054
  | .BIST_CFG => 0x2e000
  | .BIST_STATUS => 0x2e004
  | .BIST_FAIL => 0x2e008
  | .BIST_IDLE_RET => 0x2e00c
  | .BIST_RES => 0x2e100
  | .PWR_RUN => 0x1000
  | .PWR_CFG => 0x1004
  | .PWR_THERM => 0x1008
  | .PWR_RAIL => 0x100c
  | .PWR_AVS_STATUS => 0x1010
  | .PWR_BOOT_OUT => 0x1014
  | .PWR_EVENT => 0x1018
  | .PWR_BOOT_TIME => 0x101c
  | .GLOBAL_IDENT => 0x0
  | .GLOBAL_VERSION => 0x4
  | .GLOBAL_DEVID_LO => 0x8
  | .GLOBAL_DEVID_HI => 0xc
  | .GLOBAL_FW_VERSION => 0x10
  | .GLOBAL_FW_STATE => 0x14
  | .GLOBAL_CAP_HOST => 0x20
  | .GLOBAL_CAP_TIME => 0x24
  | .GLOBAL_CAP_CLAP => 0x28
  | .GLOBAL_CAP_SYN => 0x2c
  | .GLOBAL_CAP_CUE => 0x30
  | .GLOBAL_CAP_GNSS => 0x34
  | .GLOBAL_CAP_NET => 0x38
  | .GLOBAL_CAP_CLIENT => 0x3c
  | .GLOBAL_CAP_KEYS => 0x40
  | .GLOBAL_CAP_CORE => 0x44
  | .GLOBAL_CAP_LOG => 0x48
  | .GLOBAL_CAP_SRAM => 0x4c
  | .GOV_FLR_TS_SLEW => 0x5300
  | .GOV_FLR_TS_FREQ => 0x5304
  | .GOV_FLR_TS_BFLOOR => 0x5308
  | .GOV_FLR_TS_CFG => 0x530c
  | .GOV_FLR_HOLD_Y0 => 0x5340
  | .GOV_FLR_HOLD_DRIFT => 0x5344
  | .GOV_FLR_HOLD_TEMPCO => 0x5348
  | .GOV_FLR_PORT_TXCAP => 0x5350
  | .GOV_FLR_CUE_OPEN => 0x5360
  | .GOV_FLR_CUE_CLOSE => 0x5364
  | .MSIX_ADDR_LO => 0x80000
  | .MSIX_ADDR_HI => 0x80004
  | .MSIX_DATA => 0x80008
  | .MSIX_CTRL => 0x8000c
  | .MSIX_PBA => 0x81000

/-- Stride and number of the instances: first index, then second index (0 and 1 where there is none). -/
def RegName.dims : RegName → (Nat × Nat) × (Nat × Nat)
  | .GNSS_SOL_CFG | .MSIX_PBA => ((4, 2), (0, 1))
  | .PTP_PORT_BUDGET | .HOST_RXSTEER | .HOST_RX_NORING | .HOST_STAGE_DROP => ((4, 4), (0, 1))
  | .GOV_PORT_TXCAP | .GOV_FLR_PORT_TXCAP => ((4, 4), (0, 1))
  | .CUE_PIN_CFG | .GNSS_OSNMA_ROOT | .LOG_DROP => ((4, 8), (0, 1))
  | .LC_OWNER_HASH => ((4, 12), (0, 1))
  | .BIST_RES => ((4, 16), (0, 1))
  | .CLAP_LANE_STATUS => ((4, 32), (0, 1))
  | .PERF_SEL => ((4, 48), (0, 1))
  | .TS_VIEW_CFG | .TS_VIEW_CORR => ((8, 5), (0, 1))
  | .CLAP_PROBE_LO | .CLAP_PROBE_HI | .SYN_REFIN_CFG | .SYN_REFIN_STATUS => ((8, 8), (0, 1))
  | .GOV_CUE_OPEN | .GOV_CUE_CLOSE | .GOV_FLR_CUE_OPEN | .GOV_FLR_CUE_CLOSE => ((8, 8), (0, 1))
  | .PERF_CNT_LO | .PERF_CNT_HI => ((8, 48), (0, 1))
  | .GOV_TS_SLEW | .GOV_TS_FREQ | .GOV_TS_BFLOOR | .GOV_TS_CFG => ((16, 4), (0, 1))
  | .GOV_FLR_TS_SLEW | .GOV_FLR_TS_FREQ | .GOV_FLR_TS_BFLOOR | .GOV_FLR_TS_CFG => ((16, 4), (0, 1))
  | .MSIX_ADDR_LO | .MSIX_ADDR_HI | .MSIX_DATA | .MSIX_CTRL => ((16, 64), (0, 1))
  | .TSE_IP4 => ((32, 4), (0, 1))
  | .TSE_IP6 => ((32, 4), (4, 4))
  | .NTP_PEER_CFG | .NTP_PEER_MAC_LO | .NTP_PEER_MAC_HI | .NTP_PEER_STATUS => ((32, 8), (0, 1))
  | .NTP_PEER_ADDR => ((32, 8), (4, 4))
  | .TS_REF_CFG | .TS_REF_QUAL | .TS_REF_LIM | .TS_REF_UNC => ((32, 32), (0, 1))
  | .TS_REF_STATUS | .TS_REF_OFS | .TS_REF_SIGMA | .TS_REF_WPOL => ((32, 32), (0, 1))
  | .OUT_CFG | .OUT_DIV | .OUT_COARSE | .OUT_FINE => ((32, 32), (0, 1))
  | .OUT_FB_DIV | .OUT_FB_COARSE | .OUT_STATUS | .OUT_SWITCHES => ((32, 32), (0, 1))
  | .GNSS_PORT_CFG | .GNSS_PORT_FS | .GNSS_PORT_LO | .GNSS_PORT_STATUS => ((64, 3), (0, 1))
  | .GNSS_PORT_CNREF | .GNSS_PORT_LOST => ((64, 3), (0, 1))
  | .GNSS_NOTCH | .GNSS_NOTCH_ST => ((64, 3), (8, 4))
  | .NTP_INST_CFG | .NTP_INST_STATUS | .NTP_RX | .NTS_RX => ((64, 4), (0, 1))
  | .NTP_KOD_SENT | .NTS_NAK_SENT | .NTS_AUTH_FAIL | .NTP_RL_DROP => ((64, 4), (0, 1))
  | .NTP_REQ_DROP | .NTS_REVOKE_DROP | .NTP_LAUNCH_DROP | .NTP_POLICY_DROP => ((64, 4), (0, 1))
  | .CUE_CFG | .CUE_STATUS | .CUE_PAT_LO | .CUE_PAT_HI => ((64, 64), (0, 1))
  | .CUE_FIRED | .CUE_LATE | .HOST_RING_CFG | .HOST_RING_BASE_LO => ((64, 64), (0, 1))
  | .HOST_RING_BASE_HI | .HOST_RING_IRQ | .HOST_RING_HEAD | .HOST_RING_STATUS => ((64, 64), (0, 1))
  | .HOST_RING_DROP => ((64, 64), (0, 1))
  | .GNSS_CH_CFG | .GNSS_CH_CORR | .GNSS_CH_STATUS | .GNSS_CH_CODE_LO => ((64, 192), (0, 1))
  | .GNSS_CH_CODE_HI | .GNSS_CH_CARR_LO | .GNSS_CH_CARR_HI | .GNSS_CH_CODE_ADJ => ((64, 192), (0, 1))
  | .GNSS_CH_LATE => ((64, 192), (0, 1))
  | .TS_ENS_CFG | .TS_ENS_LOCK | .TS_ENS_STATUS | .TS_ENS_QTHR => ((128, 4), (0, 1))
  | .TS_BND_REF | .TS_BND_MEAS | .TS_BND_EST | .TS_BND_HOLD => ((128, 4), (0, 1))
  | .TS_BND_GAP | .TS_BND_TOTAL | .TS_ENS_FREQ | .TS_COAST_TIME => ((128, 4), (0, 1))
  | .TS_ENS_LATE | .AP_CFG | .AP_SS | .AP_STATUS => ((128, 4), (0, 1))
  | .AP_LOSS | .PTP_INST_CFG | .PTP_INST_DOM | .PTP_INST_INTV => ((128, 4), (0, 1))
  | .PTP_INST_ID_LO | .PTP_INST_ID_HI | .PTP_INST_QUAL | .PTP_INST_UNI => ((128, 4), (0, 1))
  | .PTP_INST_ASYM | .PTP_INST_ASYM_UNC | .PTP_INST_AUTH | .PTP_INST_KEY0 => ((128, 4), (0, 1))
  | .PTP_INST_KEY1 | .PTP_INST_STATUS | .PTP_INST_INFO | .PTP_INST_MPD => ((128, 4), (0, 1))
  | .PTP_INST_OFS | .PTP_AUTH_FAIL | .PTP_SYNC_SKIP | .PTP_REQ_DROP => ((128, 4), (0, 1))
  | .PTP_GRANT_DENY | .PTP_CLAIM_REJ => ((128, 4), (0, 1))
  | .AP_BTAB => ((128, 4), (4, 32))
  | .DP_CFG | .DP_BW | .DP_FREQ_LO | .DP_FREQ_HI => ((128, 6), (0, 1))
  | .DP_PHASE | .DP_ALIGN | .DP_LOCK | .DP_STATUS => ((128, 6), (0, 1))
  | .DP_PERR | .DP_FERR | .DP_LATE => ((128, 6), (0, 1))
  | .CLAP_CH_CFG | .CLAP_CH_IN | .CLAP_CH_MEAS | .CLAP_CH_TMO_LO => ((128, 16), (0, 1))
  | .CLAP_CH_TMO_HI | .CLAP_CH_STAT | .CLAP_CH_UCAL | .CLAP_CH_LIMLO_LO => ((128, 16), (0, 1))
  | .CLAP_CH_LIMLO_HI | .CLAP_CH_LIMHI_LO | .CLAP_CH_LIMHI_HI | .CLAP_CH_NOM_LO => ((128, 16), (0, 1))
  | .CLAP_CH_NOM_HI | .CLAP_CH_BUF_LO | .CLAP_CH_BUF_HI | .CLAP_CH_BUF_CFG => ((128, 16), (0, 1))
  | .CLAP_CH_WIDX | .CLAP_CH_RIDX | .CLAP_CH_STATUS | .CLAP_CH_MISSED => ((128, 16), (0, 1))
  | .CLAP_CH_LOST | .CLAP_CH_OUTLIM => ((128, 16), (0, 1))
  | .TS_CTRL | .TS_STATUS | .TS_INCR_LO | .TS_INCR_HI => ((256, 4), (0, 1))
  | .TS_NOW0 | .TS_NOW1 | .TS_NOW2 | .TS_NOW3 => ((256, 4), (0, 1))
  | .TS_SLEW_REM_LO | .TS_SLEW_REM_HI | .TS_SLEW_RATE | .TS_DERIVE_RATE => ((256, 4), (0, 1))
  | .TS_STEP_COUNT => ((256, 4), (0, 1))
  | .PORT_CFG | .PORT_STATUS | .PORT_MAXF | .PORT_TS_ADJ_RX => ((4096, 4), (0, 1))
  | .PORT_TS_ADJ_TX | .PORT_LAT_RX | .PORT_LAT_TX | .PORT_LPI_CFG => ((4096, 4), (0, 1))
  | .PORT_TXTS_CFG | .PORT_TXTS_STATUS | .PORT_TXTS_DROP | .PORT_ESMC_QL => ((4096, 4), (0, 1))
  | .PORT_ESMC_STATUS | .PORT_MAC_LO | .PORT_MAC_HI | .PORT_DLY_CFG => ((4096, 4), (0, 1))
  | .PORT_DLY_BUF_LO | .PORT_DLY_BUF_HI | .PORT_DLY_BUF_CFG | .PORT_DLY_WIDX => ((4096, 4), (0, 1))
  | .PORT_DLY_RIDX | .PORT_DLY_LOST => ((4096, 4), (0, 1))
  | .PORT_CNT_LO | .PORT_CNT_HI => ((4096, 4), (8, 12))
  | _ => ((0, 1), (0, 1))

/-- The access code of the register table (R5). -/
def RegName.access : RegName → Access
  | .PWR_PACE_CFG | .PWR_PACE_TARGET | .TS_CTRL | .TS_INCR_LO => .RW
  | .TS_INCR_HI | .TS_VIEW_CFG | .TS_VIEW_CORR | .TS_ENS_CFG => .RW
  | .TS_ENS_LOCK | .TS_ENS_QTHR | .TS_REF_CFG | .TS_REF_QUAL => .RW
  | .TS_REF_LIM | .TS_REF_UNC | .TS_REF_WPOL | .TS_OSC_Y0 => .RW
  | .TS_OSC_DRIFT | .TS_OSC_TEMPCO | .TS_OSC_TEMP | .TS_EFC_CODE => .RW
  | .TS_EFC_STEP | .CLAP_CTRL | .CLAP_CH_CFG | .CLAP_CH_IN => .RW
  | .CLAP_CH_MEAS | .CLAP_CH_TMO_LO | .CLAP_CH_TMO_HI | .CLAP_CH_STAT => .RW
  | .CLAP_CH_UCAL | .CLAP_CH_LIMLO_LO | .CLAP_CH_LIMLO_HI | .CLAP_CH_LIMHI_LO => .RW
  | .CLAP_CH_LIMHI_HI | .CLAP_CH_NOM_LO | .CLAP_CH_NOM_HI | .CLAP_CH_BUF_LO => .RW
  | .CLAP_CH_BUF_HI | .CLAP_CH_BUF_CFG | .CLAP_CH_RIDX | .DP_CFG => .RW
  | .DP_BW | .DP_FREQ_LO | .DP_FREQ_HI | .DP_PHASE => .RW
  | .DP_ALIGN | .DP_LOCK | .SYN_REFIN_CFG | .AP_CFG => .RW
  | .AP_SS | .OUT_CFG | .OUT_DIV | .OUT_COARSE => .RW
  | .OUT_FINE | .OUT_FB_DIV | .OUT_FB_COARSE | .CUE_CFG => .RW
  | .CUE_PAT_LO | .CUE_PAT_HI | .CUE_PIN_CFG | .CUE_CAP_CFG => .RW
  | .CUE_CAP_BUF_LO | .CUE_CAP_BUF_HI | .CUE_CAP_BUF_CFG | .CUE_CAP_RIDX => .RW
  | .CUE_TOD_CFG | .CUE_TOD_BAUD | .GNSS_CTRL | .GNSS_WAKE => .RW
  | .GNSS_MEAS_CFG | .GNSS_MEAS_BUF_LO | .GNSS_MEAS_BUF_HI | .GNSS_MEAS_BUF_CFG => .RW
  | .GNSS_MEAS_RIDX | .GNSS_NAV_CFG | .GNSS_NAV_BUF_LO | .GNSS_NAV_BUF_HI => .RW
  | .GNSS_NAV_BUF_CFG | .GNSS_NAV_RIDX | .GNSS_SPOOF_CFG | .GNSS_SPOOF_THR => .RW
  | .GNSS_OSNMA_CFG | .GNSS_PORT_CFG | .GNSS_PORT_FS | .GNSS_PORT_LO => .RW
  | .GNSS_NOTCH | .GNSS_CH_CFG | .GNSS_CH_CORR | .GNSS_CH_CODE_LO => .RW
  | .GNSS_CH_CODE_HI | .GNSS_CH_CARR_LO | .GNSS_CH_CARR_HI | .PORT_CFG => .RW
  | .PORT_MAXF | .PORT_TS_ADJ_RX | .PORT_TS_ADJ_TX | .PORT_LPI_CFG => .RW
  | .PORT_TXTS_CFG | .PORT_ESMC_QL | .PORT_MAC_LO | .PORT_MAC_HI => .RW
  | .PORT_DLY_CFG | .PORT_DLY_BUF_LO | .PORT_DLY_BUF_HI | .PORT_DLY_BUF_CFG => .RW
  | .PORT_DLY_RIDX | .PTP_PORT_BUDGET | .TSE_IP4 | .TSE_IP6 => .RW
  | .PTP_INST_CFG | .PTP_INST_DOM | .PTP_INST_INTV | .PTP_INST_ID_LO => .RW
  | .PTP_INST_ID_HI | .PTP_INST_QUAL | .PTP_INST_UNI | .PTP_INST_ASYM => .RW
  | .PTP_INST_ASYM_UNC | .PTP_INST_AUTH | .PTP_INST_KEY0 | .PTP_INST_KEY1 => .RW
  | .NTP_RL_CFG | .NTP_RL_RATE | .NTS_COOKIE_ROOT | .NTS_LAUNCH => .RW
  | .NTP_INST_CFG | .NTP_PEER_CFG | .NTP_PEER_ADDR | .NTP_PEER_MAC_LO => .RW
  | .NTP_PEER_MAC_HI | .RAN_CFG | .RAN_TMO | .RAN_ASYM => .RW
  | .RAN_ASYM_UNC | .HOST_DB_LO | .HOST_DB_HI | .HOST_POLL_CFG => .RW
  | .HOST_EVT_CFG | .HOST_RX_STARVE | .HOST_RXSTEER | .HOST_RING_CFG => .RW
  | .HOST_RING_BASE_LO | .HOST_RING_BASE_HI | .HOST_RING_IRQ | .CSHT_CFG => .RW
  | .STV_PAIR_KEY | .GOV_PERMIT_CFG | .PERF_CTRL | .PERF_SAMPLE_CFG => .RW
  | .PERF_SAMPLE_CLASS | .PERF_SEL | .PERF_CNT_LO | .PERF_CNT_HI => .RW
  | .LOG_CFG | .LOG_STRM_BUF_LO | .LOG_STRM_BUF_HI | .LOG_STRM_BUF_CFG => .RW
  | .LOG_STRM_RIDX | .BIST_CFG | .PWR_CFG | .PWR_BOOT_OUT => .RW
  | .MSIX_ADDR_LO | .MSIX_ADDR_HI | .MSIX_DATA | .MSIX_CTRL => .RW
  | .PWR_PACE_EVENT | .PORT_TXTS_STATUS | .RAN_EVENT | .PERF_OVF_LO => .W1C
  | .PERF_OVF_HI | .PWR_EVENT => .W1C
  | .PWR_PACE_SAG_COUNT | .TS_STEP_COUNT | .TS_ENS_LATE | .CLAP_AGG_LOST => .RC
  | .CLAP_CH_MISSED | .CLAP_CH_LOST | .CLAP_CH_OUTLIM | .DP_LATE => .RC
  | .AP_LOSS | .OUT_SWITCHES | .CUE_FIRED | .CUE_LATE => .RC
  | .CUE_CAP_LOST | .CUE_TOD_ERR | .GNSS_MEAS_LOST | .GNSS_NAV_LOST => .RC
  | .GNSS_PORT_LOST | .GNSS_CH_LATE | .PORT_TXTS_DROP | .PORT_DLY_LOST => .RC
  | .PORT_CNT_LO | .PTP_AUTH_FAIL | .PTP_SYNC_SKIP | .PTP_REQ_DROP => .RC
  | .PTP_GRANT_DENY | .PTP_CLAIM_REJ | .NTS_MINTED | .NTP_RX => .RC
  | .NTS_RX | .NTP_KOD_SENT | .NTS_NAK_SENT | .NTS_AUTH_FAIL => .RC
  | .NTP_RL_DROP | .NTP_REQ_DROP | .NTS_REVOKE_DROP | .NTP_LAUNCH_DROP => .RC
  | .NTP_POLICY_DROP | .RAN_TAKES | .RAN_FRAME_ERR | .HOST_EVT_LOST => .RC
  | .HOST_DMA_ERR | .HOST_RX_NORING | .HOST_STAGE_DROP | .HOST_RING_DROP => .RC
  | .CSHT_REFUSED | .CSHT_CLAMPED | .STV_REVOKE_DROP | .STV_TRNG_FAIL => .RC
  | .GOV_VIOLATION | .GOV_DENIED | .PERF_SAMPLE_LOST | .LOG_DROP => .RC
  | .LOG_LW_DROP | .LOG_STRM_LOST => .RC
  | .TS_DERIVE_RATE | .TS_OSC_CFG | .TS_EFC_GAIN | .GNSS_SOL_CFG => .RWS
  | .GNSS_OSNMA_ROOT | .NTS_ROT => .RWS
  | .GNSS_CH_CODE_ADJ | .HOST_NUDGE => .WO
  | .CSHT_POLICY | .STV_TAMP_CFG | .GOV_TS_SLEW | .GOV_TS_FREQ => .RWL
  | .GOV_TS_BFLOOR | .GOV_TS_CFG | .GOV_HOLD_Y0 | .GOV_HOLD_DRIFT => .RWL
  | .GOV_HOLD_TEMPCO | .GOV_PORT_TXCAP | .GOV_CUE_OPEN | .GOV_CUE_CLOSE => .RWL
  | _ => .RO

/-- The value a register holds from the release of RESET_N (R4), by kind and first index. The values that the
tables leave to manufacture are the model's (notes/assumptions/4.md): GLOBAL_VERSION is that of stepping A0. CLAP_LANE_STATUS follows its text, which
maps lanes 0-23 to themselves and reads 0x1F at the spares, not its Reset column of 0 (notes/assumptions/66.md). -/
def resetVal (n : RegName) (i : Nat) : Word :=
  match n with
  | .PWR_PACE_CFG => 0x00000044#32
  | .PWR_PACE_TARGET => 0x10000a66#32
  | .TS_STATUS => 0x0000ff00#32
  | .TS_INCR_LO => 0x9999999a#32
  | .TS_INCR_HI => 0x00019999#32
  | .TS_VIEW_CFG => 0x0000ff00#32
  | .TS_ENS_CFG => 0x800a0880#32
  | .TS_ENS_LOCK => 0x100a4e20#32
  | .TS_ENS_STATUS => 0x00f50000#32
  | .TS_ENS_QTHR => 0x00b7a080#32
  | .TS_BND_TOTAL => 0xffffffff#32
  | .TS_REF_QUAL => 0x03c00035#32
  | .TS_REF_LIM => 0x0064007d#32
  | .TS_REF_UNC => 0xffffffff#32
  | .TS_REF_STATUS => 0xff000000#32
  | .TS_OSC_CFG => 0x03e80020#32
  | .TS_OSC_Y0 => 0x00002710#32
  | .TS_OSC_DRIFT => 0x000186a0#32
  | .TS_OSC_TEMPCO => 0x0007a120#32
  | .TS_EFC_CODE => 0x00080000#32
  | .TS_EFC_GAIN => 0x00010000#32
  | .TS_EFC_STEP => 0x00000010#32
  | .CLAP_CTRL => 0x00010518#32
  | .CLAP_LANE_STATUS => if i < 24 then BitVec.ofNat 32 i else 0x1f#32
  | .CLAP_CH_IN => 0x00000384#32
  | .CLAP_CH_MEAS => 0x00110000#32
  | .CLAP_CH_TMO_LO => 0x000f4240#32
  | .CLAP_CH_STAT => 0x00000400#32
  | .CLAP_CH_LIMLO_HI => 0x80000000#32
  | .CLAP_CH_LIMHI_LO => 0xffffffff#32
  | .CLAP_CH_LIMHI_HI => 0x7fffffff#32
  | .CLAP_CH_BUF_CFG => 0x00000004#32
  | .CLAP_CH_STATUS => BitVec.ofNat 32 (0x100 * i)
  | .DP_CFG => if i = 0 then 0x00020011#32 else 0x00020000#32
  | .DP_BW => 0x00002710#32
  | .DP_ALIGN => 0x00000001#32
  | .DP_LOCK => 0x0a0a0064#32
  | .SYN_OSC_CFG => 0x00000001#32
  | .AP_CFG => if i = 0 then 0x809#32 else 0x00000808#32
  | .AP_SS => 0x00001e00#32
  | .OUT_CFG => if 24 ≤ i then 0xC0000400#32 else 0xc0000000#32
  | .OUT_DIV => 0x00000040#32
  | .OUT_FB_DIV => 0x00000040#32
  | .CUE_CAP_BUF_CFG => 0x00000004#32
  | .CUE_TOD_CFG => 0x000a0000#32
  | .CUE_TOD_BAUD => 0x00001531#32
  | .GNSS_CTRL => 0x14000000#32
  | .GNSS_WAKE => 0x00000258#32
  | .GNSS_MEAS_CFG => 0x00000003#32
  | .GNSS_MEAS_BUF_CFG => 0x00000008#32
  | .GNSS_NAV_BUF_CFG => 0x00000006#32
  | .GNSS_SPOOF_CFG => 0x0000001a#32
  | .GNSS_SPOOF_THR => 0xf30635d4#32
  | .GNSS_OSNMA_CFG => 0x00000001#32
  | .GNSS_SOL_CFG => 0x00000a00#32
  | .GNSS_PORT_CFG => 0x00c00000#32
  | .GNSS_PORT_FS => 0x00009c40#32
  | .GNSS_PORT_LO => 0x5de61600#32
  | .GNSS_NOTCH => 0x14000000#32
  | .GNSS_CH_CORR => 0x00801008#32
  | .PORT_CFG => 0x30000000#32
  | .PORT_MAXF => 0x000005f2#32
  | .PORT_LPI_CFG => 0x00001000#32
  | .PORT_ESMC_QL => 0x00fb8422#32
  | .PORT_DLY_CFG => 0x0000003c#32
  | .PORT_DLY_BUF_CFG => 0x00000004#32
  | .PTP_PORT_BUDGET => 0x00002710#32
  | .PTP_INST_CFG => 0x00000e90#32
  | .PTP_INST_DOM => 0x00808080#32
  | .PTP_INST_INTV => 0x01000030#32
  | .PTP_INST_QUAL => 0x4e5d0000#32
  | .PTP_INST_UNI => 0xf9fd012c#32
  | .PTP_INST_ASYM_UNC => 0xffffffff#32
  | .PTP_INST_STATUS => 0xf8fe0000#32
  | .NTP_RL_CFG => 0x84380018#32
  | .NTP_RL_RATE => 0x01000400#32
  | .NTS_ROT => 0x00015180#32
  | .NTS_LAUNCH => 0x00000004#32
  | .NTP_INST_CFG => 0x3e000000#32
  | .NTP_INST_STATUS => 0x0010c000#32
  | .NTP_PEER_CFG => 0x00000004#32
  | .RAN_CFG => 0x080a0a25#32
  | .RAN_TMO => 0x00000014#32
  | .RAN_ASYM_UNC => 0x000003e8#32
  | .RAN_SHADOW_BND => 0xffffffff#32
  | .HOST_POLL_CFG => 0x0003e802#32
  | .HOST_POLL_STATUS => 0x00000002#32
  | .HOST_EVT_CFG => 0x80000001#32
  | .HOST_RX_STARVE => 0x00000008#32
  | .HOST_RING_CFG => if i = 0 then 0x06010000#32 else if i = 1 then 0x26000000#32 else 0x06000000#32
  | .HOST_RING_IRQ => 0x00010000#32
  | .CSHT_CFG => 0x000a003c#32
  | .STV_TAMP_CFG => 0x000003c0#32
  | .LC_STATE => 0x00000001#32
  | .GOV_PERMIT_CFG => 0x0000001e#32
  | .GOV_TS_SLEW => 0x000186a0#32
  | .GOV_TS_FREQ => 0x00002710#32
  | .GOV_TS_CFG => 0x00000001#32
  | .GOV_PORT_TXCAP => 0x000061a8#32
  | .PERF_CTRL => 0x00000100#32
  | .PERF_SAMPLE_CFG => 0x00010000#32
  | .PERF_SAMPLE_CLASS => 0x000003ff#32
  | .PERF_SEL => 0x00ff0000#32
  | .LOG_CFG => 0x07000000#32
  | .LOG_STATUS => 0x00002000#32
  | .LOG_STRM_BUF_CFG => 0x00000008#32
  | .BIST_CFG => 0x80503c02#32
  | .PWR_RUN => 0x64000201#32
  | .PWR_CFG => 0x00000102#32
  | .PWR_THERM => 0x80000000#32
  | .PWR_RAIL => 0x0000007f#32
  | .PWR_AVS_STATUS => 0x03200320#32
  | .GLOBAL_IDENT => 0x00961f3a#32
  | .GLOBAL_VERSION => 0x01600010#32
  | .GLOBAL_DEVID_LO => 0x00000001#32
  | .GLOBAL_CAP_HOST => 0x00004040#32
  | .GLOBAL_CAP_TIME => 0x10200504#32
  | .GLOBAL_CAP_CLAP => 0x08200810#32
  | .GLOBAL_CAP_SYN => 0x08184608#32
  | .GLOBAL_CAP_CUE => 0x00100840#32
  | .GLOBAL_CAP_GNSS => 0x1048c003#32
  | .GLOBAL_CAP_NET => 0x40288444#32
  | .GLOBAL_CAP_CLIENT => 0x00010000#32
  | .GLOBAL_CAP_KEYS => 0x04008000#32
  | .GLOBAL_CAP_CORE => 0x00020304#32
  | .GLOBAL_CAP_LOG => 0x04102000#32
  | .GLOBAL_CAP_SRAM => 0x00002c00#32
  | .GOV_FLR_TS_SLEW => 0x02faf080#32
  | .GOV_FLR_TS_FREQ => 0x000f4240#32
  | .GOV_FLR_TS_CFG => 0x00000001#32
  | .GOV_FLR_PORT_TXCAP => 0x000061a8#32
  | .MSIX_CTRL => 0x00000001#32
  | _ => 0#32

/-- The fields that a write can change, with their assigned values (R5, R8). -/
def RegName.fields : RegName → List FieldSpec
  | .PWR_PACE_CFG => [⟨9, 9, .RW, .any⟩, ⟨8, 8, .RW, .any⟩, ⟨7, 4, .RW, .range 1 15⟩, ⟨3, 0, .RW, .range 0 10⟩]
  | .PWR_PACE_TARGET => [⟨31, 16, .RW, .any⟩, ⟨15, 0, .RW, .any⟩]
  | .PWR_PACE_EVENT => [⟨3, 3, .W1C, .any⟩, ⟨2, 2, .W1C, .any⟩, ⟨1, 1, .W1C, .any⟩, ⟨0, 0, .W1C, .any⟩]
  | .TS_CTRL => [⟨7, 7, .RWS, .any⟩, ⟨6, 6, .RW, .any⟩, ⟨5, 4, .RWS, .any⟩, ⟨1, 1, .RWS, .any⟩, ⟨0, 0, .RW, .any⟩]
  | .TS_INCR_LO => [⟨31, 0, .RW, .any⟩]
  | .TS_INCR_HI => [⟨19, 16, .RW, .any⟩, ⟨15, 0, .RW, .any⟩]
  | .TS_DERIVE_RATE => [⟨31, 0, .RWS, .any⟩]
  | .TS_VIEW_CFG => [⟨15, 8, .RW, .any⟩, ⟨1, 0, .RW, .any⟩]
  | .TS_VIEW_CORR => [⟨31, 0, .RW, .sint (-2147483647) 2147483647⟩]
  | .TS_ENS_CFG => [⟨31, 24, .RW, .oneOf [(0, 0), (64, 255)]⟩, ⟨23, 16, .RW, .range 1 255⟩, ⟨15, 8, .RW, .range 0 16⟩, ⟨7, 5, .RWS, .range 0 4⟩, ⟨4, 4, .RW, .any⟩]
  | .TS_ENS_LOCK => [⟨31, 24, .RW, .range 1 255⟩, ⟨23, 16, .RW, .range 1 255⟩, ⟨15, 0, .RW, .range 1 65535⟩]
  | .TS_ENS_QTHR => [⟨23, 16, .RW, .any⟩, ⟨15, 8, .RW, .any⟩, ⟨7, 0, .RW, .any⟩]
  | .TS_REF_CFG => [⟨31, 31, .RW, .any⟩, ⟨27, 24, .RW, .any⟩, ⟨23, 22, .RW, .any⟩, ⟨21, 21, .RW, .any⟩, ⟨20, 19, .RW, .any⟩, ⟨15, 8, .RW, .any⟩, ⟨3, 0, .RW, .range 0 6⟩]
  | .TS_REF_QUAL => [⟨31, 20, .RW, .range 1 3600⟩, ⟨19, 8, .RW, .any⟩, ⟨7, 4, .RW, .range 1 15⟩, ⟨3, 0, .RW, .range 0 10⟩]
  | .TS_REF_LIM => [⟨31, 16, .RW, .range 1 65535⟩, ⟨15, 0, .RW, .range 1 65535⟩]
  | .TS_REF_UNC => [⟨31, 0, .RW, .any⟩]
  | .TS_REF_WPOL => [⟨15, 0, .RW, .any⟩]
  | .TS_OSC_CFG => [⟨31, 16, .RWS, .any⟩, ⟨7, 6, .RWS, .range 0 2⟩, ⟨5, 5, .RWS, .any⟩, ⟨4, 4, .RWS, .any⟩, ⟨3, 0, .RWS, .range 0 6⟩]
  | .TS_OSC_Y0 => [⟨23, 0, .RW, .any⟩]
  | .TS_OSC_DRIFT => [⟨23, 0, .RW, .any⟩]
  | .TS_OSC_TEMPCO => [⟨23, 0, .RW, .any⟩]
  | .TS_OSC_TEMP => [⟨15, 0, .RW, .any⟩]
  | .TS_EFC_CODE => [⟨19, 0, .RW, .any⟩]
  | .TS_EFC_GAIN => [⟨31, 0, .RWS, .any⟩]
  | .TS_EFC_STEP => [⟨15, 0, .RW, .range 1 65535⟩]
  | .CLAP_CTRL => [⟨16, 16, .RW, .any⟩, ⟨15, 8, .RW, .any⟩, ⟨7, 0, .RW, .any⟩]
  | .CLAP_CH_CFG => [⟨29, 24, .RW, .any⟩, ⟨16, 12, .RW, .range 0 24⟩, ⟨11, 11, .RW, .any⟩, ⟨10, 10, .RW, .any⟩, ⟨9, 9, .RW, .any⟩, ⟨8, 8, .RW, .any⟩, ⟨6, 4, .RW, .range 0 4⟩, ⟨2, 0, .RW, .range 0 4⟩]
  | .CLAP_CH_IN => [⟨19, 18, .RW, .range 0 2⟩, ⟨17, 16, .RW, .any⟩, ⟨14, 14, .RW, .any⟩, ⟨13, 12, .RW, .range 0 2⟩, ⟨11, 0, .RW, .any⟩]
  | .CLAP_CH_MEAS => [⟨23, 20, .RW, .range 1 8⟩, ⟨19, 16, .RW, .range 1 8⟩, ⟨15, 12, .RW, .any⟩, ⟨11, 6, .RW, .any⟩, ⟨4, 0, .RW, .range 0 17⟩]
  | .CLAP_CH_TMO_LO => [⟨31, 0, .RW, .any⟩]
  | .CLAP_CH_TMO_HI => [⟨3, 0, .RW, .any⟩]
  | .CLAP_CH_STAT => [⟨24, 0, .RW, .range 1 16777216⟩]
  | .CLAP_CH_UCAL => [⟨31, 0, .RW, .sint (-1280000000) 1280000000⟩]
  | .CLAP_CH_LIMLO_LO => [⟨31, 0, .RW, .any⟩]
  | .CLAP_CH_LIMLO_HI => [⟨31, 0, .RW, .any⟩]
  | .CLAP_CH_LIMHI_LO => [⟨31, 0, .RW, .any⟩]
  | .CLAP_CH_LIMHI_HI => [⟨31, 0, .RW, .any⟩]
  | .CLAP_CH_NOM_LO => [⟨31, 0, .RW, .any⟩]
  | .CLAP_CH_NOM_HI => [⟨31, 0, .RW, .any⟩]
  | .CLAP_CH_BUF_LO => [⟨31, 0, .RW, .aligned 128⟩]
  | .CLAP_CH_BUF_HI => [⟨31, 0, .RW, .any⟩]
  | .CLAP_CH_BUF_CFG => [⟨4, 0, .RW, .range 4 16⟩]
  | .CLAP_CH_RIDX => [⟨31, 0, .RW, .any⟩]
  | .DP_CFG => [⟨19, 16, .RW, .range 0 6⟩, ⟨15, 15, .RW, .any⟩, ⟨11, 8, .RW, .any⟩, ⟨4, 2, .RW, .range 0 4⟩, ⟨0, 0, .RW, .any⟩]
  | .DP_BW => [⟨23, 0, .RW, .range 1 4000000⟩]
  | .DP_FREQ_LO => [⟨31, 0, .RW, .any⟩]
  | .DP_FREQ_HI => [⟨31, 0, .RW, .any⟩]
  | .DP_PHASE => [⟨31, 0, .RW, .any⟩]
  | .DP_ALIGN => [⟨19, 0, .RW, .range 1 1000000⟩]
  | .DP_LOCK => [⟨31, 24, .RW, .range 1 255⟩, ⟨23, 16, .RW, .range 1 255⟩, ⟨15, 0, .RW, .range 1 65535⟩]
  | .SYN_REFIN_CFG => [⟨30, 30, .RW, .any⟩, ⟨29, 0, .RW, .range 0 750000000⟩]
  | .AP_CFG => [⟨11, 11, .RW, .any⟩, ⟨10, 8, .RW, .range 0 5⟩, ⟨7, 4, .RW, .any⟩, ⟨3, 2, .RW, .any⟩, ⟨0, 0, .RW, .any⟩]
  | .AP_SS => [⟨13, 9, .RW, .range 0 30⟩, ⟨8, 3, .RW, .any⟩, ⟨1, 0, .RW, .range 0 2⟩]
  | .OUT_CFG => [⟨31, 31, .RW, .any⟩, ⟨30, 30, .RW, .any⟩, ⟨29, 29, .RW, .any⟩, ⟨28, 28, .RW, .any⟩, ⟨25, 24, .RW, .any⟩, ⟨21, 16, .RW, .any⟩, ⟨12, 12, .RW, .any⟩, ⟨10, 8, .RW, .range 0 4⟩, ⟨2, 0, .RW, .range 0 4⟩]
  | .OUT_DIV => [⟨24, 0, .RW, .range 1 16777216⟩]
  | .OUT_COARSE => [⟨24, 0, .RW, .any⟩]
  | .OUT_FINE => [⟨11, 0, .RW, .sint (-2000) (2000)⟩]
  | .OUT_FB_DIV => [⟨24, 0, .RW, .range 1 16777216⟩]
  | .OUT_FB_COARSE => [⟨24, 0, .RW, .any⟩]
  | .CUE_CFG => [⟨31, 26, .RW, .any⟩, ⟨25, 25, .RW, .any⟩, ⟨24, 21, .RW, .any⟩, ⟨19, 18, .RW, .range 0 1⟩, ⟨17, 17, .RW, .any⟩, ⟨15, 8, .RW, .any⟩, ⟨5, 4, .RW, .any⟩, ⟨2, 0, .RW, .range 0 3⟩]
  | .CUE_PAT_LO => [⟨31, 0, .RW, .any⟩]
  | .CUE_PAT_HI => [⟨31, 0, .RW, .any⟩]
  | .CUE_PIN_CFG => [⟨20, 8, .RW, .sint (-2000) (2000)⟩, ⟨7, 7, .RW, .any⟩, ⟨6, 6, .RW, .any⟩, ⟨5, 0, .RW, .any⟩]
  | .CUE_CAP_CFG => [⟨13, 8, .RW, .any⟩, ⟨1, 0, .RW, .any⟩]
  | .CUE_CAP_BUF_LO => [⟨31, 0, .RW, .aligned 32⟩]
  | .CUE_CAP_BUF_HI => [⟨31, 0, .RW, .any⟩]
  | .CUE_CAP_BUF_CFG => [⟨4, 0, .RW, .range 4 16⟩]
  | .CUE_CAP_RIDX => [⟨31, 0, .RW, .any⟩]
  | .CUE_TOD_CFG => [⟨31, 26, .RW, .any⟩, ⟨25, 16, .RW, .range 1 500⟩, ⟨15, 15, .RW, .any⟩, ⟨14, 14, .RW, .any⟩, ⟨13, 12, .RW, .any⟩, ⟨11, 8, .RW, .any⟩, ⟨5, 5, .RW, .any⟩, ⟨3, 0, .RW, .range 0 3⟩]
  | .CUE_TOD_BAUD => [⟨16, 0, .RW, .range 625 131071⟩]
  | .GNSS_CTRL => [⟨31, 24, .RW, .range 1 255⟩]
  | .GNSS_WAKE => [⟨31, 16, .RW, .range 0 1440⟩, ⟨15, 0, .RW, .range 1 3600⟩]
  | .GNSS_MEAS_CFG => [⟨13, 8, .RW, .any⟩, ⟨2, 0, .RW, .range 0 6⟩]
  | .GNSS_MEAS_BUF_LO => [⟨31, 0, .RW, .aligned 64⟩]
  | .GNSS_MEAS_BUF_HI => [⟨31, 0, .RW, .any⟩]
  | .GNSS_MEAS_BUF_CFG => [⟨4, 0, .RW, .range 4 16⟩]
  | .GNSS_MEAS_RIDX => [⟨31, 0, .RW, .any⟩]
  | .GNSS_NAV_CFG => [⟨13, 8, .RW, .any⟩, ⟨0, 0, .RW, .any⟩]
  | .GNSS_NAV_BUF_LO => [⟨31, 0, .RW, .aligned 128⟩]
  | .GNSS_NAV_BUF_HI => [⟨31, 0, .RW, .any⟩]
  | .GNSS_NAV_BUF_CFG => [⟨4, 0, .RW, .range 4 16⟩]
  | .GNSS_NAV_RIDX => [⟨31, 0, .RW, .any⟩]
  | .GNSS_SPOOF_CFG => [⟨31, 30, .RW, .any⟩, ⟨29, 29, .RW, .any⟩, ⟨12, 8, .RW, .any⟩, ⟨4, 0, .RW, .any⟩]
  | .GNSS_SPOOF_THR => [⟨31, 24, .RW, .any⟩, ⟨23, 16, .RW, .range 0 31⟩, ⟨15, 12, .RW, .range 1 15⟩, ⟨11, 8, .RW, .range 1 15⟩, ⟨7, 0, .RW, .any⟩]
  | .GNSS_OSNMA_CFG => [⟨1, 1, .RW, .any⟩, ⟨0, 0, .RW, .any⟩]
  | .GNSS_SOL_CFG => [⟨31, 31, .RWS, .any⟩, ⟨30, 28, .RWS, .any⟩, ⟨27, 24, .RWS, .any⟩, ⟨23, 16, .RWS, .range 0 90⟩, ⟨15, 12, .RWS, .oneOf [(0, 0), (4, 15)]⟩, ⟨11, 10, .RWS, .range 0 2⟩, ⟨9, 9, .RWS, .any⟩]
  | .GNSS_OSNMA_ROOT => [⟨31, 0, .RWS, .any⟩]
  | .GNSS_PORT_CFG => [⟨31, 31, .RW, .any⟩, ⟨30, 30, .RW, .any⟩, ⟨29, 28, .RW, .range 0 2⟩, ⟨27, 27, .RW, .any⟩, ⟨23, 16, .RW, .any⟩]
  | .GNSS_PORT_FS => [⟨16, 0, .RW, .range 4000 100000⟩]
  | .GNSS_PORT_LO => [⟨31, 0, .RW, .range 1100000000 1700000000⟩]
  | .GNSS_NOTCH => [⟨31, 31, .RW, .any⟩, ⟨30, 30, .RW, .any⟩, ⟨29, 28, .RW, .range 0 2⟩, ⟨27, 24, .RW, .range 1 15⟩, ⟨16, 0, .RW, .sint (-50000) (50000)⟩]
  | .GNSS_CH_CFG => [⟨29, 28, .RW, .range 0 2⟩, ⟨27, 24, .RW, .range 0 6⟩, ⟨21, 16, .RW, .range 1 63⟩, ⟨15, 12, .RW, .sint (-7) (6)⟩, ⟨11, 11, .RW, .any⟩, ⟨10, 9, .RW, .any⟩, ⟨8, 8, .RW, .any⟩, ⟨7, 7, .RW, .any⟩, ⟨6, 6, .RW, .any⟩]
  | .GNSS_CH_CORR => [⟨31, 24, .RW, .sint (-8) (8)⟩, ⟨23, 23, .RW, .any⟩, ⟨15, 8, .RW, .range 1 32⟩, ⟨7, 0, .RW, .range 1 16⟩]
  | .GNSS_CH_CODE_LO => [⟨31, 0, .RW, .any⟩]
  | .GNSS_CH_CODE_HI => [⟨15, 0, .RW, .any⟩]
  | .GNSS_CH_CARR_LO => [⟨31, 0, .RW, .any⟩]
  | .GNSS_CH_CARR_HI => [⟨15, 0, .RW, .any⟩]
  | .GNSS_CH_CODE_ADJ => [⟨31, 0, .WO, .any⟩]
  | .PORT_CFG => [⟨31, 31, .RW, .any⟩, ⟨30, 28, .RW, .range 0 5⟩, ⟨27, 27, .RW, .any⟩, ⟨26, 26, .RW, .any⟩, ⟨25, 25, .RW, .any⟩, ⟨24, 24, .RW, .any⟩, ⟨23, 22, .RW, .any⟩, ⟨21, 20, .RW, .any⟩, ⟨19, 19, .RW, .any⟩]
  | .PORT_MAXF => [⟨13, 0, .RW, .range 1518 9600⟩]
  | .PORT_TS_ADJ_RX => [⟨31, 0, .RW, .any⟩]
  | .PORT_TS_ADJ_TX => [⟨31, 0, .RW, .any⟩]
  | .PORT_LPI_CFG => [⟨31, 16, .RW, .any⟩, ⟨15, 8, .RW, .range 1 255⟩]
  | .PORT_TXTS_CFG => [⟨5, 0, .RW, .any⟩]
  | .PORT_TXTS_STATUS => [⟨7, 7, .W1C, .any⟩]
  | .PORT_ESMC_QL => [⟨23, 20, .RW, .any⟩, ⟨19, 16, .RW, .any⟩, ⟨15, 12, .RW, .any⟩, ⟨11, 8, .RW, .any⟩, ⟨7, 4, .RW, .any⟩, ⟨3, 0, .RW, .any⟩]
  | .PORT_MAC_LO => [⟨31, 0, .RW, .any⟩]
  | .PORT_MAC_HI => [⟨15, 0, .RW, .any⟩]
  | .PORT_DLY_CFG => [⟨21, 16, .RW, .any⟩, ⟨11, 0, .RW, .range 1 3600⟩]
  | .PORT_DLY_BUF_LO => [⟨31, 0, .RW, .aligned 128⟩]
  | .PORT_DLY_BUF_HI => [⟨31, 0, .RW, .any⟩]
  | .PORT_DLY_BUF_CFG => [⟨4, 0, .RW, .range 4 16⟩]
  | .PORT_DLY_RIDX => [⟨31, 0, .RW, .any⟩]
  | .PTP_PORT_BUDGET => [⟨13, 0, .RW, .range 0 12000⟩]
  | .TSE_IP4 => [⟨31, 0, .RW, .any⟩]
  | .TSE_IP6 => [⟨31, 0, .RW, .any⟩]
  | .PTP_INST_CFG => [⟨31, 31, .RW, .any⟩, ⟨30, 28, .RW, .range 0 4⟩, ⟨27, 26, .RW, .range 0 2⟩, ⟨25, 25, .RW, .any⟩, ⟨24, 24, .RW, .any⟩, ⟨23, 22, .RW, .range 0 2⟩, ⟨21, 21, .RW, .any⟩, ⟨20, 20, .RW, .any⟩, ⟨19, 16, .RW, .any⟩, ⟨15, 14, .RW, .any⟩, ⟨13, 12, .RW, .any⟩, ⟨11, 9, .RW, .oneOf [(0, 5), (7, 7)]⟩, ⟨8, 8, .RW, .any⟩, ⟨7, 5, .RW, .any⟩, ⟨4, 4, .RW, .any⟩]
  | .PTP_INST_DOM => [⟨31, 24, .RW, .range 0 127⟩, ⟨23, 16, .RW, .any⟩, ⟨15, 8, .RW, .any⟩, ⟨7, 0, .RW, .range 1 255⟩]
  | .PTP_INST_INTV => [⟨31, 24, .RW, .sint (-7) (5)⟩, ⟨23, 16, .RW, .sint (-7) (5)⟩, ⟨15, 8, .RW, .sint (-7) (5)⟩, ⟨7, 4, .RW, .range 2 15⟩]
  | .PTP_INST_ID_LO => [⟨31, 0, .RW, .any⟩]
  | .PTP_INST_ID_HI => [⟨31, 0, .RW, .any⟩]
  | .PTP_INST_QUAL => [⟨31, 16, .RW, .any⟩, ⟨15, 8, .RW, .oneOf [(0, 0), (23, 49)]⟩, ⟨7, 0, .RW, .any⟩]
  | .PTP_INST_UNI => [⟨31, 24, .RW, .sint (-7) (4)⟩, ⟨23, 16, .RW, .sint (-3) (4)⟩, ⟨15, 0, .RW, .range 10 1000⟩]
  | .PTP_INST_ASYM => [⟨31, 0, .RW, .any⟩]
  | .PTP_INST_ASYM_UNC => [⟨31, 0, .RW, .any⟩]
  | .PTP_INST_AUTH => [⟨31, 31, .RW, .any⟩, ⟨23, 16, .RW, .any⟩, ⟨15, 8, .RW, .any⟩, ⟨7, 0, .RW, .any⟩]
  | .PTP_INST_KEY0 => [⟨31, 0, .RW, .any⟩]
  | .PTP_INST_KEY1 => [⟨31, 0, .RW, .any⟩]
  | .NTP_RL_CFG => [⟨31, 31, .RW, .any⟩, ⟨27, 24, .RW, .range 1 15⟩, ⟨23, 16, .RW, .range 32 128⟩, ⟨5, 0, .RW, .range 8 32⟩]
  | .NTP_RL_RATE => [⟨31, 16, .RW, .range 1 65535⟩, ⟨15, 0, .RW, .range 1 65535⟩]
  | .NTS_COOKIE_ROOT => [⟨31, 0, .RW, .any⟩]
  | .NTS_ROT => [⟨19, 0, .RWS, .range 3600 604800⟩]
  | .NTS_LAUNCH => [⟨6, 0, .RW, .range 1 100⟩]
  | .NTP_INST_CFG => [⟨31, 31, .RW, .any⟩, ⟨30, 30, .RW, .any⟩, ⟨29, 29, .RW, .any⟩, ⟨28, 28, .RW, .any⟩, ⟨27, 27, .RW, .any⟩, ⟨26, 26, .RW, .any⟩, ⟨25, 25, .RW, .any⟩, ⟨24, 24, .RW, .any⟩, ⟨19, 16, .RW, .any⟩, ⟨15, 14, .RW, .any⟩]
  | .NTP_PEER_CFG => [⟨31, 31, .RW, .any⟩, ⟨30, 30, .RW, .any⟩, ⟨29, 28, .RW, .any⟩, ⟨3, 0, .RW, .range 0 5⟩]
  | .NTP_PEER_ADDR => [⟨31, 0, .RW, .any⟩]
  | .NTP_PEER_MAC_LO => [⟨31, 0, .RW, .any⟩]
  | .NTP_PEER_MAC_HI => [⟨15, 0, .RW, .any⟩]
  | .RAN_CFG => [⟨31, 31, .RWS, .any⟩, ⟨30, 30, .RW, .any⟩, ⟨29, 29, .RW, .any⟩, ⟨28, 26, .RW, .range 0 4⟩, ⟨23, 16, .RW, .range 1 255⟩, ⟨15, 8, .RW, .range 1 255⟩, ⟨7, 4, .RW, .range 0 4⟩, ⟨3, 0, .RW, .range 1 15⟩]
  | .RAN_TMO => [⟨13, 0, .RW, .range 5 10000⟩]
  | .RAN_ASYM => [⟨31, 0, .RW, .sint (-2560000) 2560000⟩]
  | .RAN_ASYM_UNC => [⟨31, 0, .RW, .any⟩]
  | .RAN_EVENT => [⟨31, 0, .W1C, .any⟩]
  | .HOST_DB_LO => [⟨31, 0, .RW, .aligned 4096⟩]
  | .HOST_DB_HI => [⟨31, 0, .RW, .any⟩]
  | .HOST_POLL_CFG => [⟨23, 8, .RW, .range 1 1000⟩, ⟨7, 0, .RW, .range 2 255⟩]
  | .HOST_NUDGE => [⟨31, 0, .WO, .any⟩]
  | .HOST_EVT_CFG => [⟨31, 31, .RW, .any⟩, ⟨5, 0, .RW, .any⟩]
  | .HOST_RX_STARVE => [⟨9, 0, .RW, .range 1 1000⟩]
  | .HOST_RXSTEER => [⟨29, 24, .RW, .any⟩, ⟨21, 16, .RW, .any⟩, ⟨13, 8, .RW, .any⟩, ⟨5, 0, .RW, .any⟩]
  | .HOST_RING_CFG => [⟨31, 31, .RW, .any⟩, ⟨30, 29, .RW, .any⟩, ⟨28, 24, .RW, .range 6 16⟩, ⟨21, 16, .RW, .any⟩, ⟨13, 12, .RW, .any⟩, ⟨9, 8, .RW, .any⟩]
  | .HOST_RING_BASE_LO => [⟨31, 0, .RW, .aligned 4096⟩]
  | .HOST_RING_BASE_HI => [⟨31, 0, .RW, .any⟩]
  | .HOST_RING_IRQ => [⟨31, 31, .RW, .any⟩, ⟨29, 24, .RW, .any⟩, ⟨23, 16, .RW, .range 1 255⟩, ⟨9, 0, .RW, .range 0 1000⟩]
  | .CSHT_CFG => [⟨23, 16, .RW, .any⟩, ⟨15, 0, .RW, .range 10 3600⟩]
  | .CSHT_POLICY => [⟨1, 1, .RWL, .any⟩, ⟨0, 0, .RWL, .any⟩]
  | .STV_TAMP_CFG => [⟨31, 31, .RWL, .any⟩, ⟨19, 16, .RWL, .any⟩, ⟨9, 0, .RWL, .any⟩]
  | .STV_PAIR_KEY => [⟨31, 0, .RW, .any⟩]
  | .GOV_PERMIT_CFG => [⟨11, 0, .RW, .range 1 3600⟩]
  | .GOV_TS_SLEW => [⟨25, 0, .RWL, .range 1000 50000000⟩]
  | .GOV_TS_FREQ => [⟨19, 0, .RWL, .range 1 1000000⟩]
  | .GOV_TS_BFLOOR => [⟨31, 0, .RWL, .range 0 4294967294⟩]
  | .GOV_TS_CFG => [⟨0, 0, .RWL, .any⟩]
  | .GOV_HOLD_Y0 => [⟨23, 0, .RWL, .any⟩]
  | .GOV_HOLD_DRIFT => [⟨23, 0, .RWL, .any⟩]
  | .GOV_HOLD_TEMPCO => [⟨23, 0, .RWL, .any⟩]
  | .GOV_PORT_TXCAP => [⟨14, 0, .RWL, .range 1 25000⟩]
  | .GOV_CUE_OPEN => [⟨29, 0, .RWL, .range 0 999999999⟩]
  | .GOV_CUE_CLOSE => [⟨29, 0, .RWL, .range 0 999999999⟩]
  | .PERF_CTRL => [⟨13, 8, .RW, .any⟩, ⟨0, 0, .RW, .any⟩]
  | .PERF_OVF_LO => [⟨31, 0, .W1C, .any⟩]
  | .PERF_OVF_HI => [⟨15, 0, .W1C, .any⟩]
  | .PERF_SAMPLE_CFG => [⟨31, 28, .RW, .any⟩, ⟨19, 0, .RW, .range 1024 1048575⟩]
  | .PERF_SAMPLE_CLASS => [⟨9, 0, .RW, .any⟩]
  | .PERF_SEL => [⟨31, 31, .RW, .any⟩, ⟨30, 30, .RW, .any⟩, ⟨29, 29, .RW, .any⟩, ⟨28, 28, .RW, .any⟩, ⟨23, 16, .RW, .any⟩, ⟨15, 0, .RW, .oneOf [(1, 1), (2, 2), (3, 3), (4, 4), (16, 21), (32, 34), (48, 50), (64, 65), (32769, 32773)]⟩]
  | .PERF_CNT_LO => [⟨31, 0, .RW, .any⟩]
  | .PERF_CNT_HI => [⟨15, 0, .RW, .any⟩]
  | .LOG_CFG => [⟨31, 31, .RW, .any⟩, ⟨26, 24, .RW, .any⟩, ⟨13, 8, .RW, .any⟩]
  | .LOG_STATUS => [⟨30, 30, .W1C, .any⟩]
  | .LOG_STRM_BUF_LO => [⟨31, 0, .RW, .aligned 64⟩]
  | .LOG_STRM_BUF_HI => [⟨31, 0, .RW, .any⟩]
  | .LOG_STRM_BUF_CFG => [⟨4, 0, .RW, .range 4 16⟩]
  | .LOG_STRM_RIDX => [⟨31, 0, .RW, .any⟩]
  | .BIST_CFG => [⟨31, 31, .RW, .any⟩, ⟨30, 30, .RW, .any⟩, ⟨29, 29, .RW, .any⟩, ⟨27, 16, .RW, .range 10 500⟩, ⟨15, 8, .RW, .range 1 255⟩, ⟨4, 0, .RW, .range 1 20⟩]
  | .PWR_CFG => [⟨9, 9, .RW, .any⟩, ⟨8, 8, .RW, .any⟩, ⟨2, 0, .RW, .range 0 4⟩]
  | .PWR_BOOT_OUT => [⟨31, 0, .RW, .any⟩]
  | .PWR_EVENT => [⟨3, 3, .W1C, .any⟩, ⟨2, 2, .W1C, .any⟩, ⟨1, 1, .W1C, .any⟩, ⟨0, 0, .W1C, .any⟩]
  | .MSIX_ADDR_LO => [⟨31, 0, .RW, .any⟩]
  | .MSIX_ADDR_HI => [⟨31, 0, .RW, .any⟩]
  | .MSIX_DATA => [⟨31, 0, .RW, .any⟩]
  | .MSIX_CTRL => [⟨0, 0, .RW, .any⟩]
  | _ => []
/-- Register kinds, part 0. -/
def regNames0 : List RegName :=
  [.PWR_PACE_STATUS, .PWR_PACE_CFG, .PWR_PACE_TARGET, .PWR_PACE_EVENT, .PWR_PACE_RAW,
   .PWR_PACE_SAG_COUNT, .TS_CTRL, .TS_STATUS, .TS_INCR_LO, .TS_INCR_HI,
   .TS_NOW0, .TS_NOW1, .TS_NOW2, .TS_NOW3, .TS_SLEW_REM_LO,
   .TS_SLEW_REM_HI, .TS_SLEW_RATE, .TS_DERIVE_RATE, .TS_STEP_COUNT, .TS_UTC_OFS,
   .TS_LEAP_SCHED, .TS_VIEW_CFG, .TS_VIEW_CORR, .TS_ENS_CFG, .TS_ENS_LOCK,
   .TS_ENS_STATUS, .TS_ENS_QTHR, .TS_BND_REF, .TS_BND_MEAS, .TS_BND_EST,
   .TS_BND_HOLD, .TS_BND_GAP, .TS_BND_TOTAL, .TS_ENS_FREQ, .TS_COAST_TIME,
   .TS_ENS_LATE, .TS_REF_CFG, .TS_REF_QUAL, .TS_REF_LIM, .TS_REF_UNC,
   .TS_REF_STATUS, .TS_REF_OFS, .TS_REF_SIGMA, .TS_REF_WPOL, .TS_OSC_CFG,
   .TS_OSC_Y0, .TS_OSC_DRIFT, .TS_OSC_TEMPCO, .TS_OSC_TEMP, .TS_OSC_LEARN,
   .TS_EFC_CODE, .TS_EFC_GAIN, .TS_EFC_STEP, .CLAP_CTRL, .CLAP_AGG_LOST,
   .CLAP_LANE_STATUS, .CLAP_PROBE_LO, .CLAP_PROBE_HI, .CLAP_CH_CFG, .CLAP_CH_IN]

/-- Register kinds, part 1. -/
def regNames1 : List RegName :=
  [.CLAP_CH_MEAS, .CLAP_CH_TMO_LO, .CLAP_CH_TMO_HI, .CLAP_CH_STAT, .CLAP_CH_UCAL,
   .CLAP_CH_LIMLO_LO, .CLAP_CH_LIMLO_HI, .CLAP_CH_LIMHI_LO, .CLAP_CH_LIMHI_HI, .CLAP_CH_NOM_LO,
   .CLAP_CH_NOM_HI, .CLAP_CH_BUF_LO, .CLAP_CH_BUF_HI, .CLAP_CH_BUF_CFG, .CLAP_CH_WIDX,
   .CLAP_CH_RIDX, .CLAP_CH_STATUS, .CLAP_CH_MISSED, .CLAP_CH_LOST, .CLAP_CH_OUTLIM,
   .DP_CFG, .DP_BW, .DP_FREQ_LO, .DP_FREQ_HI, .DP_PHASE,
   .DP_ALIGN, .DP_LOCK, .DP_STATUS, .DP_PERR, .DP_FERR,
   .DP_LATE, .SYN_OSC_CFG, .SYN_GAP_LO, .SYN_GAP_HI, .SYN_GAP_STATUS,
   .SYN_REFIN_CFG, .SYN_REFIN_STATUS, .AP_CFG, .AP_SS, .AP_STATUS,
   .AP_LOSS, .AP_BTAB, .OUT_CFG, .OUT_DIV, .OUT_COARSE,
   .OUT_FINE, .OUT_FB_DIV, .OUT_FB_COARSE, .OUT_STATUS, .OUT_SWITCHES,
   .CUE_CFG, .CUE_STATUS, .CUE_PAT_LO, .CUE_PAT_HI, .CUE_FIRED,
   .CUE_LATE, .CUE_PIN_CFG, .CUE_CAP_CFG, .CUE_CAP_BUF_LO, .CUE_CAP_BUF_HI]

/-- Register kinds, part 2. -/
def regNames2 : List RegName :=
  [.CUE_CAP_BUF_CFG, .CUE_CAP_WIDX, .CUE_CAP_RIDX, .CUE_CAP_LOST, .CUE_TOD_CFG,
   .CUE_TOD_BAUD, .CUE_TOD_STATUS, .CUE_TOD_RX_CLAIM, .CUE_TOD_ERR, .GNSS_CTRL,
   .GNSS_STATUS, .GNSS_WAKE, .GNSS_MEAS_CFG, .GNSS_MEAS_BUF_LO, .GNSS_MEAS_BUF_HI,
   .GNSS_MEAS_BUF_CFG, .GNSS_MEAS_WIDX, .GNSS_MEAS_RIDX, .GNSS_MEAS_LOST, .GNSS_NAV_CFG,
   .GNSS_NAV_BUF_LO, .GNSS_NAV_BUF_HI, .GNSS_NAV_BUF_CFG, .GNSS_NAV_WIDX, .GNSS_NAV_RIDX,
   .GNSS_NAV_LOST, .GNSS_SPOOF_CFG, .GNSS_SPOOF_THR, .GNSS_SPOOF_STATUS, .GNSS_OSNMA_CFG,
   .GNSS_OSNMA_STATUS, .GNSS_SOL_CFG, .GNSS_OSNMA_ROOT, .GNSS_PORT_CFG, .GNSS_PORT_FS,
   .GNSS_PORT_LO, .GNSS_PORT_STATUS, .GNSS_PORT_CNREF, .GNSS_PORT_LOST, .GNSS_NOTCH,
   .GNSS_NOTCH_ST, .GNSS_CH_CFG, .GNSS_CH_CORR, .GNSS_CH_STATUS, .GNSS_CH_CODE_LO,
   .GNSS_CH_CODE_HI, .GNSS_CH_CARR_LO, .GNSS_CH_CARR_HI, .GNSS_CH_CODE_ADJ, .GNSS_CH_LATE,
   .PORT_CFG, .PORT_STATUS, .PORT_MAXF, .PORT_TS_ADJ_RX, .PORT_TS_ADJ_TX,
   .PORT_LAT_RX, .PORT_LAT_TX, .PORT_LPI_CFG, .PORT_TXTS_CFG, .PORT_TXTS_STATUS]

/-- Register kinds, part 3. -/
def regNames3 : List RegName :=
  [.PORT_TXTS_DROP, .PORT_ESMC_QL, .PORT_ESMC_STATUS, .PORT_MAC_LO, .PORT_MAC_HI,
   .PORT_DLY_CFG, .PORT_DLY_BUF_LO, .PORT_DLY_BUF_HI, .PORT_DLY_BUF_CFG, .PORT_DLY_WIDX,
   .PORT_DLY_RIDX, .PORT_DLY_LOST, .PORT_CNT_LO, .PORT_CNT_HI, .PTP_ORG_ID,
   .PTP_UNI_USED, .PTP_PORT_BUDGET, .TSE_IP4, .TSE_IP6, .PTP_INST_CFG,
   .PTP_INST_DOM, .PTP_INST_INTV, .PTP_INST_ID_LO, .PTP_INST_ID_HI, .PTP_INST_QUAL,
   .PTP_INST_UNI, .PTP_INST_ASYM, .PTP_INST_ASYM_UNC, .PTP_INST_AUTH, .PTP_INST_KEY0,
   .PTP_INST_KEY1, .PTP_INST_STATUS, .PTP_INST_INFO, .PTP_INST_MPD, .PTP_INST_OFS,
   .PTP_AUTH_FAIL, .PTP_SYNC_SKIP, .PTP_REQ_DROP, .PTP_GRANT_DENY, .PTP_CLAIM_REJ,
   .NTP_RL_CFG, .NTP_RL_RATE, .NTS_COOKIE_ROOT, .NTS_ROT, .NTS_EPOCH,
   .NTS_STATUS, .NTS_LAUNCH, .NTS_MINTED, .NTP_INST_CFG, .NTP_INST_STATUS,
   .NTP_RX, .NTS_RX, .NTP_KOD_SENT, .NTS_NAK_SENT, .NTS_AUTH_FAIL,
   .NTP_RL_DROP, .NTP_REQ_DROP, .NTS_REVOKE_DROP, .NTP_LAUNCH_DROP, .NTP_POLICY_DROP]

/-- Register kinds, part 4. -/
def regNames4 : List RegName :=
  [.NTP_PEER_CFG, .NTP_PEER_ADDR, .NTP_PEER_MAC_LO, .NTP_PEER_MAC_HI, .NTP_PEER_STATUS,
   .RAN_CFG, .RAN_TMO, .RAN_STATUS, .RAN_CLAIM, .RAN_PEER_CLAIM,
   .RAN_EPOCH_MAX, .RAN_ASYM, .RAN_ASYM_UNC, .RAN_OFS, .RAN_DELAY,
   .RAN_SIGMA, .RAN_EVENT, .RAN_TAKES, .RAN_FRAME_ERR, .RAN_SHADOW_OFS,
   .RAN_SHADOW_BND, .HOST_STATUS, .HOST_DB_LO, .HOST_DB_HI, .HOST_POLL_CFG,
   .HOST_NUDGE, .HOST_POLL_STATUS, .HOST_EVT_CFG, .HOST_EVT_LOST, .HOST_RX_STARVE,
   .HOST_DMA_ERR, .HOST_RXSTEER, .HOST_RX_NORING, .HOST_STAGE_DROP, .HOST_RING_CFG,
   .HOST_RING_BASE_LO, .HOST_RING_BASE_HI, .HOST_RING_IRQ, .HOST_RING_HEAD, .HOST_RING_STATUS,
   .HOST_RING_DROP, .CSHT_CFG, .CSHT_POLICY, .CSHT_STATUS, .CSHT_ACTIVE_VER,
   .CSHT_PREV_VER, .CSHT_STAGED_VER, .CSHT_UCAL_VER, .CSHT_REFUSED, .CSHT_CLAMPED,
   .STV_STATUS, .STV_TAMP_CFG, .STV_TAMP_STATUS, .STV_PAIR_KEY, .STV_REVOKE_DROP,
   .STV_TRNG_FAIL, .STV_ROLLBACK, .LC_STATE, .LC_UNLOCK, .LC_OWNER_HASH]

/-- Register kinds, part 5. -/
def regNames5 : List RegName :=
  [.GOV_STATUS, .GOV_VIOLATION, .GOV_DENIED, .GOV_PERMIT_CFG, .GOV_TS_SLEW,
   .GOV_TS_FREQ, .GOV_TS_BFLOOR, .GOV_TS_CFG, .GOV_HOLD_Y0, .GOV_HOLD_DRIFT,
   .GOV_HOLD_TEMPCO, .GOV_PORT_TXCAP, .GOV_CUE_OPEN, .GOV_CUE_CLOSE, .PERF_CTRL,
   .PERF_OVF_LO, .PERF_OVF_HI, .PERF_SAMPLE_CFG, .PERF_SAMPLE_CLASS, .PERF_SAMPLE_LOST,
   .PERF_SEL, .PERF_CNT_LO, .PERF_CNT_HI, .LOG_CFG, .LOG_STATUS,
   .LOG_SEQ, .LOG_DROP, .LOG_LW_VALID_LO, .LOG_LW_VALID_HI, .LOG_LW_DROP,
   .LOG_STRM_BUF_LO, .LOG_STRM_BUF_HI, .LOG_STRM_BUF_CFG, .LOG_STRM_WIDX, .LOG_STRM_RIDX,
   .LOG_STRM_LOST, .BIST_CFG, .BIST_STATUS, .BIST_FAIL, .BIST_IDLE_RET,
   .BIST_RES, .PWR_RUN, .PWR_CFG, .PWR_THERM, .PWR_RAIL,
   .PWR_AVS_STATUS, .PWR_BOOT_OUT, .PWR_EVENT, .PWR_BOOT_TIME, .GLOBAL_IDENT,
   .GLOBAL_VERSION, .GLOBAL_DEVID_LO, .GLOBAL_DEVID_HI, .GLOBAL_FW_VERSION, .GLOBAL_FW_STATE,
   .GLOBAL_CAP_HOST, .GLOBAL_CAP_TIME, .GLOBAL_CAP_CLAP, .GLOBAL_CAP_SYN, .GLOBAL_CAP_CUE]

/-- Register kinds, part 6. -/
def regNames6 : List RegName :=
  [.GLOBAL_CAP_GNSS, .GLOBAL_CAP_NET, .GLOBAL_CAP_CLIENT, .GLOBAL_CAP_KEYS, .GLOBAL_CAP_CORE,
   .GLOBAL_CAP_LOG, .GLOBAL_CAP_SRAM, .GOV_FLR_TS_SLEW, .GOV_FLR_TS_FREQ, .GOV_FLR_TS_BFLOOR,
   .GOV_FLR_TS_CFG, .GOV_FLR_HOLD_Y0, .GOV_FLR_HOLD_DRIFT, .GOV_FLR_HOLD_TEMPCO, .GOV_FLR_PORT_TXCAP,
   .GOV_FLR_CUE_OPEN, .GOV_FLR_CUE_CLOSE, .MSIX_ADDR_LO, .MSIX_ADDR_HI, .MSIX_DATA,
   .MSIX_CTRL, .MSIX_PBA]

/-- Every kind of register. -/
def allRegNames : List RegName := regNames0 ++ regNames1 ++ regNames2 ++ regNames3 ++ regNames4 ++ regNames5 ++ regNames6

/-- BAR0 offset of a register instance (R449). -/
def Reg.addr (r : Reg) : Nat := r.name.base + r.name.dims.1.1 * r.i + r.name.dims.2.1 * r.j

/-- The index along one dimension of the instance at distance `d` from the base, if one starts there. -/
def indexAt (stride count d : Nat) : Option Nat :=
  if stride = 0 then (if d = 0 then some 0 else none)
  else if d % stride = 0 ∧ d / stride < count then some (d / stride) else none

/-- The instance of kind `n` that stands at offset `a`, if one does. -/
def RegName.at (n : RegName) (a : Nat) : Option Reg :=
  if a < n.base then none else
    match n.dims with
    | ((s1, c1), (s2, c2)) =>
      let d := a - n.base
      if s1 = 0 then
        (if d = 0 then some ⟨n, 0, 0⟩ else none)
      else if d / s1 < c1 then (indexAt s2 c2 (d % s1)).map (fun j => ⟨n, d / s1, j⟩) else none

/-- The register at a BAR0 offset: none where no chapter assigns the offset (R449). -/
def regAt (a : Nat) : Option Reg := allRegNames.findSome? (fun n => n.at a)

end Sys2Proof.Machine
end

