-- ==== Sys2Proof/Machine/RegFields.lean ====
section
/-! DEFINITION. Every named field of the register tables of spec/, as the register kind that holds it and its bits: the field
REG.field of the spec is `F.REG_field` here. -/
namespace Sys2Proof.Machine
namespace F

/-- PWR_PACE_STATUS.avs_tracking -/
abbrev PWR_PACE_STATUS_avs_tracking : Fld := ⟨.PWR_PACE_STATUS, 19, 19⟩
/-- PWR_PACE_STATUS.sag -/
abbrev PWR_PACE_STATUS_sag : Fld := ⟨.PWR_PACE_STATUS, 18, 18⟩
/-- PWR_PACE_STATUS.shclk_ok -/
abbrev PWR_PACE_STATUS_shclk_ok : Fld := ⟨.PWR_PACE_STATUS, 17, 17⟩
/-- PWR_PACE_STATUS.valid -/
abbrev PWR_PACE_STATUS_valid : Fld := ⟨.PWR_PACE_STATUS, 16, 16⟩
/-- PWR_PACE_STATUS.pace_index -/
abbrev PWR_PACE_STATUS_pace_index : Fld := ⟨.PWR_PACE_STATUS, 15, 0⟩
/-- PWR_PACE_CFG.sag_alert -/
abbrev PWR_PACE_CFG_sag_alert : Fld := ⟨.PWR_PACE_CFG, 9, 9⟩
/-- PWR_PACE_CFG.avs_track -/
abbrev PWR_PACE_CFG_avs_track : Fld := ⟨.PWR_PACE_CFG, 8, 8⟩
/-- PWR_PACE_CFG.sag_count -/
abbrev PWR_PACE_CFG_sag_count : Fld := ⟨.PWR_PACE_CFG, 7, 4⟩
/-- PWR_PACE_CFG.window_exp -/
abbrev PWR_PACE_CFG_window_exp : Fld := ⟨.PWR_PACE_CFG, 3, 0⟩
/-- PWR_PACE_TARGET.avs_target -/
abbrev PWR_PACE_TARGET_avs_target : Fld := ⟨.PWR_PACE_TARGET, 31, 16⟩
/-- PWR_PACE_TARGET.sag_threshold -/
abbrev PWR_PACE_TARGET_sag_threshold : Fld := ⟨.PWR_PACE_TARGET, 15, 0⟩
/-- PWR_PACE_EVENT.avs_limit -/
abbrev PWR_PACE_EVENT_avs_limit : Fld := ⟨.PWR_PACE_EVENT, 3, 3⟩
/-- PWR_PACE_EVENT.avs_fault -/
abbrev PWR_PACE_EVENT_avs_fault : Fld := ⟨.PWR_PACE_EVENT, 2, 2⟩
/-- PWR_PACE_EVENT.shclk_lost -/
abbrev PWR_PACE_EVENT_shclk_lost : Fld := ⟨.PWR_PACE_EVENT, 1, 1⟩
/-- PWR_PACE_EVENT.sag_seen -/
abbrev PWR_PACE_EVENT_sag_seen : Fld := ⟨.PWR_PACE_EVENT, 0, 0⟩
/-- PWR_PACE_RAW.value -/
abbrev PWR_PACE_RAW_value : Fld := ⟨.PWR_PACE_RAW, 31, 0⟩
/-- PWR_PACE_SAG_COUNT.value -/
abbrev PWR_PACE_SAG_COUNT_value : Fld := ⟨.PWR_PACE_SAG_COUNT, 31, 0⟩
/-- TS_CTRL.step_permit -/
abbrev TS_CTRL_step_permit : Fld := ⟨.TS_CTRL, 8, 8⟩
/-- TS_CTRL.step_mode -/
abbrev TS_CTRL_step_mode : Fld := ⟨.TS_CTRL, 7, 7⟩
/-- TS_CTRL.ens_enable -/
abbrev TS_CTRL_ens_enable : Fld := ⟨.TS_CTRL, 6, 6⟩
/-- TS_CTRL.derive_src -/
abbrev TS_CTRL_derive_src : Fld := ⟨.TS_CTRL, 5, 4⟩
/-- TS_CTRL.mode -/
abbrev TS_CTRL_mode : Fld := ⟨.TS_CTRL, 1, 1⟩
/-- TS_CTRL.enable -/
abbrev TS_CTRL_enable : Fld := ⟨.TS_CTRL, 0, 0⟩
/-- TS_STATUS.bound -/
abbrev TS_STATUS_bound : Fld := ⟨.TS_STATUS, 15, 8⟩
/-- TS_STATUS.splice_active -/
abbrev TS_STATUS_splice_active : Fld := ⟨.TS_STATUS, 4, 4⟩
/-- TS_STATUS.slewing -/
abbrev TS_STATUS_slewing : Fld := ⟨.TS_STATUS, 3, 3⟩
/-- TS_STATUS.valid -/
abbrev TS_STATUS_valid : Fld := ⟨.TS_STATUS, 2, 2⟩
/-- TS_STATUS.state -/
abbrev TS_STATUS_state : Fld := ⟨.TS_STATUS, 1, 0⟩
/-- TS_INCR_LO.frac_lo -/
abbrev TS_INCR_LO_frac_lo : Fld := ⟨.TS_INCR_LO, 31, 0⟩
/-- TS_INCR_HI.int_ns -/
abbrev TS_INCR_HI_int_ns : Fld := ⟨.TS_INCR_HI, 19, 16⟩
/-- TS_INCR_HI.frac_hi -/
abbrev TS_INCR_HI_frac_hi : Fld := ⟨.TS_INCR_HI, 15, 0⟩
/-- TS_NOW0.sec_lo -/
abbrev TS_NOW0_sec_lo : Fld := ⟨.TS_NOW0, 31, 0⟩
/-- TS_NOW1.word0_hi -/
abbrev TS_NOW1_word0_hi : Fld := ⟨.TS_NOW1, 31, 0⟩
/-- TS_NOW2.frac -/
abbrev TS_NOW2_frac : Fld := ⟨.TS_NOW2, 31, 0⟩
/-- TS_NOW3.ns -/
abbrev TS_NOW3_ns : Fld := ⟨.TS_NOW3, 31, 0⟩
/-- TS_SLEW_REM_LO.value -/
abbrev TS_SLEW_REM_LO_value : Fld := ⟨.TS_SLEW_REM_LO, 31, 0⟩
/-- TS_SLEW_REM_HI.value -/
abbrev TS_SLEW_REM_HI_value : Fld := ⟨.TS_SLEW_REM_HI, 31, 0⟩
/-- TS_SLEW_RATE.rate -/
abbrev TS_SLEW_RATE_rate : Fld := ⟨.TS_SLEW_RATE, 31, 0⟩
/-- TS_DERIVE_RATE.delta -/
abbrev TS_DERIVE_RATE_delta : Fld := ⟨.TS_DERIVE_RATE, 31, 0⟩
/-- TS_STEP_COUNT.steps -/
abbrev TS_STEP_COUNT_steps : Fld := ⟨.TS_STEP_COUNT, 31, 0⟩
/-- TS_UTC_OFS.known -/
abbrev TS_UTC_OFS_known : Fld := ⟨.TS_UTC_OFS, 16, 16⟩
/-- TS_UTC_OFS.tai_utc -/
abbrev TS_UTC_OFS_tai_utc : Fld := ⟨.TS_UTC_OFS, 15, 0⟩
/-- TS_LEAP_SCHED.pending -/
abbrev TS_LEAP_SCHED_pending : Fld := ⟨.TS_LEAP_SCHED, 18, 18⟩
/-- TS_LEAP_SCHED.dir -/
abbrev TS_LEAP_SCHED_dir : Fld := ⟨.TS_LEAP_SCHED, 17, 16⟩
/-- TS_LEAP_SCHED.day -/
abbrev TS_LEAP_SCHED_day : Fld := ⟨.TS_LEAP_SCHED, 15, 0⟩
/-- TS_VIEW_CFG.corr_bound -/
abbrev TS_VIEW_CFG_corr_bound : Fld := ⟨.TS_VIEW_CFG, 15, 8⟩
/-- TS_VIEW_CFG.source -/
abbrev TS_VIEW_CFG_source : Fld := ⟨.TS_VIEW_CFG, 1, 0⟩
/-- TS_VIEW_CORR.corr -/
abbrev TS_VIEW_CORR_corr : Fld := ⟨.TS_VIEW_CORR, 31, 0⟩
/-- TS_ENS_CFG.w_max -/
abbrev TS_ENS_CFG_w_max : Fld := ⟨.TS_ENS_CFG, 31, 24⟩
/-- TS_ENS_CFG.reacq_rate -/
abbrev TS_ENS_CFG_reacq_rate : Fld := ⟨.TS_ENS_CFG, 23, 16⟩
/-- TS_ENS_CFG.tau_exp -/
abbrev TS_ENS_CFG_tau_exp : Fld := ⟨.TS_ENS_CFG, 15, 8⟩
/-- TS_ENS_CFG.epoch -/
abbrev TS_ENS_CFG_epoch : Fld := ⟨.TS_ENS_CFG, 7, 5⟩
/-- TS_ENS_CFG.weight_mode -/
abbrev TS_ENS_CFG_weight_mode : Fld := ⟨.TS_ENS_CFG, 4, 4⟩
/-- TS_ENS_LOCK.lock_hold -/
abbrev TS_ENS_LOCK_lock_hold : Fld := ⟨.TS_ENS_LOCK, 31, 24⟩
/-- TS_ENS_LOCK.lock_freq -/
abbrev TS_ENS_LOCK_lock_freq : Fld := ⟨.TS_ENS_LOCK, 23, 16⟩
/-- TS_ENS_LOCK.lock_phase -/
abbrev TS_ENS_LOCK_lock_phase : Fld := ⟨.TS_ENS_LOCK, 15, 0⟩
/-- TS_ENS_STATUS.n_phase -/
abbrev TS_ENS_STATUS_n_phase : Fld := ⟨.TS_ENS_STATUS, 31, 28⟩
/-- TS_ENS_STATUS.n_freq -/
abbrev TS_ENS_STATUS_n_freq : Fld := ⟨.TS_ENS_STATUS, 27, 24⟩
/-- TS_ENS_STATUS.tier -/
abbrev TS_ENS_STATUS_tier : Fld := ⟨.TS_ENS_STATUS, 23, 20⟩
/-- TS_ENS_STATUS.grade -/
abbrev TS_ENS_STATUS_grade : Fld := ⟨.TS_ENS_STATUS, 19, 16⟩
/-- TS_ENS_STATUS.lock_count -/
abbrev TS_ENS_STATUS_lock_count : Fld := ⟨.TS_ENS_STATUS, 15, 8⟩
/-- TS_ENS_STATUS.reacq -/
abbrev TS_ENS_STATUS_reacq : Fld := ⟨.TS_ENS_STATUS, 1, 1⟩
/-- TS_ENS_STATUS.forced -/
abbrev TS_ENS_STATUS_forced : Fld := ⟨.TS_ENS_STATUS, 0, 0⟩
/-- TS_ENS_QTHR.thr3 -/
abbrev TS_ENS_QTHR_thr3 : Fld := ⟨.TS_ENS_QTHR, 23, 16⟩
/-- TS_ENS_QTHR.thr2 -/
abbrev TS_ENS_QTHR_thr2 : Fld := ⟨.TS_ENS_QTHR, 15, 8⟩
/-- TS_ENS_QTHR.thr1 -/
abbrev TS_ENS_QTHR_thr1 : Fld := ⟨.TS_ENS_QTHR, 7, 0⟩
/-- TS_BND_REF.value -/
abbrev TS_BND_REF_value : Fld := ⟨.TS_BND_REF, 31, 0⟩
/-- TS_BND_MEAS.value -/
abbrev TS_BND_MEAS_value : Fld := ⟨.TS_BND_MEAS, 31, 0⟩
/-- TS_BND_EST.value -/
abbrev TS_BND_EST_value : Fld := ⟨.TS_BND_EST, 31, 0⟩
/-- TS_BND_HOLD.value -/
abbrev TS_BND_HOLD_value : Fld := ⟨.TS_BND_HOLD, 31, 0⟩
/-- TS_BND_GAP.value -/
abbrev TS_BND_GAP_value : Fld := ⟨.TS_BND_GAP, 31, 0⟩
/-- TS_BND_TOTAL.value -/
abbrev TS_BND_TOTAL_value : Fld := ⟨.TS_BND_TOTAL, 31, 0⟩
/-- TS_ENS_FREQ.y_hat -/
abbrev TS_ENS_FREQ_y_hat : Fld := ⟨.TS_ENS_FREQ, 31, 0⟩
/-- TS_COAST_TIME.seconds -/
abbrev TS_COAST_TIME_seconds : Fld := ⟨.TS_COAST_TIME, 31, 0⟩
/-- TS_ENS_LATE.count -/
abbrev TS_ENS_LATE_count : Fld := ⟨.TS_ENS_LATE, 31, 0⟩
/-- TS_REF_CFG.enable -/
abbrev TS_REF_CFG_enable : Fld := ⟨.TS_REF_CFG, 31, 31⟩
/-- TS_REF_CFG.group -/
abbrev TS_REF_CFG_group : Fld := ⟨.TS_REF_CFG, 27, 24⟩
/-- TS_REF_CFG.tier -/
abbrev TS_REF_CFG_tier : Fld := ⟨.TS_REF_CFG, 23, 22⟩
/-- TS_REF_CFG.freq_only -/
abbrev TS_REF_CFG_freq_only : Fld := ⟨.TS_REF_CFG, 21, 21⟩
/-- TS_REF_CFG.ts -/
abbrev TS_REF_CFG_ts : Fld := ⟨.TS_REF_CFG, 20, 19⟩
/-- TS_REF_CFG.source -/
abbrev TS_REF_CFG_source : Fld := ⟨.TS_REF_CFG, 15, 8⟩
/-- TS_REF_CFG.type -/
abbrev TS_REF_CFG_type : Fld := ⟨.TS_REF_CFG, 3, 0⟩
/-- TS_REF_QUAL.qual_window -/
abbrev TS_REF_QUAL_qual_window : Fld := ⟨.TS_REF_QUAL, 31, 20⟩
/-- TS_REF_QUAL.suspect_timeout -/
abbrev TS_REF_QUAL_suspect_timeout : Fld := ⟨.TS_REF_QUAL, 19, 8⟩
/-- TS_REF_QUAL.suspect_count -/
abbrev TS_REF_QUAL_suspect_count : Fld := ⟨.TS_REF_QUAL, 7, 4⟩
/-- TS_REF_QUAL.loss_timeout -/
abbrev TS_REF_QUAL_loss_timeout : Fld := ⟨.TS_REF_QUAL, 3, 0⟩
/-- TS_REF_LIM.freq_window -/
abbrev TS_REF_LIM_freq_window : Fld := ⟨.TS_REF_LIM, 31, 16⟩
/-- TS_REF_LIM.noise_limit -/
abbrev TS_REF_LIM_noise_limit : Fld := ⟨.TS_REF_LIM, 15, 0⟩
/-- TS_REF_UNC.value -/
abbrev TS_REF_UNC_value : Fld := ⟨.TS_REF_UNC, 31, 0⟩
/-- TS_REF_STATUS.unc_code -/
abbrev TS_REF_STATUS_unc_code : Fld := ⟨.TS_REF_STATUS, 31, 24⟩
/-- TS_REF_STATUS.weight -/
abbrev TS_REF_STATUS_weight : Fld := ⟨.TS_REF_STATUS, 23, 8⟩
/-- TS_REF_STATUS.signal -/
abbrev TS_REF_STATUS_signal : Fld := ⟨.TS_REF_STATUS, 7, 7⟩
/-- TS_REF_STATUS.in_use -/
abbrev TS_REF_STATUS_in_use : Fld := ⟨.TS_REF_STATUS, 6, 6⟩
/-- TS_REF_STATUS.state -/
abbrev TS_REF_STATUS_state : Fld := ⟨.TS_REF_STATUS, 5, 3⟩
/-- TS_REF_OFS.value -/
abbrev TS_REF_OFS_value : Fld := ⟨.TS_REF_OFS, 31, 0⟩
/-- TS_REF_SIGMA.value -/
abbrev TS_REF_SIGMA_value : Fld := ⟨.TS_REF_SIGMA, 31, 0⟩
/-- TS_REF_WPOL.wpol -/
abbrev TS_REF_WPOL_wpol : Fld := ⟨.TS_REF_WPOL, 15, 0⟩
/-- TS_OSC_CFG.dt_assume -/
abbrev TS_OSC_CFG_dt_assume : Fld := ⟨.TS_OSC_CFG, 31, 16⟩
/-- TS_OSC_CFG.temp_src -/
abbrev TS_OSC_CFG_temp_src : Fld := ⟨.TS_OSC_CFG, 7, 6⟩
/-- TS_OSC_CFG.learn -/
abbrev TS_OSC_CFG_learn : Fld := ⟨.TS_OSC_CFG, 5, 5⟩
/-- TS_OSC_CFG.efc -/
abbrev TS_OSC_CFG_efc : Fld := ⟨.TS_OSC_CFG, 4, 4⟩
/-- TS_OSC_CFG.class -/
abbrev TS_OSC_CFG_class : Fld := ⟨.TS_OSC_CFG, 3, 0⟩
/-- TS_OSC_Y0.value -/
abbrev TS_OSC_Y0_value : Fld := ⟨.TS_OSC_Y0, 23, 0⟩
/-- TS_OSC_DRIFT.value -/
abbrev TS_OSC_DRIFT_value : Fld := ⟨.TS_OSC_DRIFT, 23, 0⟩
/-- TS_OSC_TEMPCO.value -/
abbrev TS_OSC_TEMPCO_value : Fld := ⟨.TS_OSC_TEMPCO, 23, 0⟩
/-- TS_OSC_TEMP.value -/
abbrev TS_OSC_TEMP_value : Fld := ⟨.TS_OSC_TEMP, 15, 0⟩
/-- TS_OSC_LEARN.value -/
abbrev TS_OSC_LEARN_value : Fld := ⟨.TS_OSC_LEARN, 31, 0⟩
/-- TS_EFC_CODE.value -/
abbrev TS_EFC_CODE_value : Fld := ⟨.TS_EFC_CODE, 19, 0⟩
/-- TS_EFC_GAIN.value -/
abbrev TS_EFC_GAIN_value : Fld := ⟨.TS_EFC_GAIN, 31, 0⟩
/-- TS_EFC_STEP.value -/
abbrev TS_EFC_STEP_value : Fld := ⟨.TS_EFC_STEP, 15, 0⟩
/-- CLAP_CTRL.auto_cal -/
abbrev CLAP_CTRL_auto_cal : Fld := ⟨.CLAP_CTRL, 16, 16⟩
/-- CLAP_CTRL.cal_dt -/
abbrev CLAP_CTRL_cal_dt : Fld := ⟨.CLAP_CTRL, 15, 8⟩
/-- CLAP_CTRL.cal_interval -/
abbrev CLAP_CTRL_cal_interval : Fld := ⟨.CLAP_CTRL, 7, 0⟩
/-- CLAP_AGG_LOST.value -/
abbrev CLAP_AGG_LOST_value : Fld := ⟨.CLAP_AGG_LOST, 31, 0⟩
/-- CLAP_LANE_STATUS.age -/
abbrev CLAP_LANE_STATUS_age : Fld := ⟨.CLAP_LANE_STATUS, 15, 8⟩
/-- CLAP_LANE_STATUS.cal -/
abbrev CLAP_LANE_STATUS_cal : Fld := ⟨.CLAP_LANE_STATUS, 6, 5⟩
/-- CLAP_LANE_STATUS.map -/
abbrev CLAP_LANE_STATUS_map : Fld := ⟨.CLAP_LANE_STATUS, 4, 0⟩
/-- CLAP_PROBE_LO.value -/
abbrev CLAP_PROBE_LO_value : Fld := ⟨.CLAP_PROBE_LO, 31, 0⟩
/-- CLAP_PROBE_HI.value -/
abbrev CLAP_PROBE_HI_value : Fld := ⟨.CLAP_PROBE_HI, 31, 0⟩
/-- CLAP_CH_CFG.ring -/
abbrev CLAP_CH_CFG_ring : Fld := ⟨.CLAP_CH_CFG, 29, 24⟩
/-- CLAP_CH_CFG.prescale_exp -/
abbrev CLAP_CH_CFG_prescale_exp : Fld := ⟨.CLAP_CH_CFG, 16, 12⟩
/-- CLAP_CH_CFG.limit_alert -/
abbrev CLAP_CH_CFG_limit_alert : Fld := ⟨.CLAP_CH_CFG, 11, 11⟩
/-- CLAP_CH_CFG.limit_en -/
abbrev CLAP_CH_CFG_limit_en : Fld := ⟨.CLAP_CH_CFG, 10, 10⟩
/-- CLAP_CH_CFG.stat_en -/
abbrev CLAP_CH_CFG_stat_en : Fld := ⟨.CLAP_CH_CFG, 9, 9⟩
/-- CLAP_CH_CFG.continuous -/
abbrev CLAP_CH_CFG_continuous : Fld := ⟨.CLAP_CH_CFG, 8, 8⟩
/-- CLAP_CH_CFG.timebase -/
abbrev CLAP_CH_CFG_timebase : Fld := ⟨.CLAP_CH_CFG, 6, 4⟩
/-- CLAP_CH_CFG.function -/
abbrev CLAP_CH_CFG_function : Fld := ⟨.CLAP_CH_CFG, 2, 0⟩
/-- CLAP_CH_IN.term -/
abbrev CLAP_CH_IN_term : Fld := ⟨.CLAP_CH_IN, 19, 18⟩
/-- CLAP_CH_IN.hyst -/
abbrev CLAP_CH_IN_hyst : Fld := ⟨.CLAP_CH_IN, 17, 16⟩
/-- CLAP_CH_IN.diff -/
abbrev CLAP_CH_IN_diff : Fld := ⟨.CLAP_CH_IN, 14, 14⟩
/-- CLAP_CH_IN.slope -/
abbrev CLAP_CH_IN_slope : Fld := ⟨.CLAP_CH_IN, 13, 12⟩
/-- CLAP_CH_IN.threshold -/
abbrev CLAP_CH_IN_threshold : Fld := ⟨.CLAP_CH_IN, 11, 0⟩
/-- CLAP_CH_MEAS.stat_stop -/
abbrev CLAP_CH_MEAS_stat_stop : Fld := ⟨.CLAP_CH_MEAS, 23, 20⟩
/-- CLAP_CH_MEAS.n_stops -/
abbrev CLAP_CH_MEAS_n_stops : Fld := ⟨.CLAP_CH_MEAS, 19, 16⟩
/-- CLAP_CH_MEAS.stop_src -/
abbrev CLAP_CH_MEAS_stop_src : Fld := ⟨.CLAP_CH_MEAS, 15, 12⟩
/-- CLAP_CH_MEAS.start_cue -/
abbrev CLAP_CH_MEAS_start_cue : Fld := ⟨.CLAP_CH_MEAS, 11, 6⟩
/-- CLAP_CH_MEAS.start_src -/
abbrev CLAP_CH_MEAS_start_src : Fld := ⟨.CLAP_CH_MEAS, 4, 0⟩
/-- CLAP_CH_TMO_LO.value -/
abbrev CLAP_CH_TMO_LO_value : Fld := ⟨.CLAP_CH_TMO_LO, 31, 0⟩
/-- CLAP_CH_TMO_HI.value -/
abbrev CLAP_CH_TMO_HI_value : Fld := ⟨.CLAP_CH_TMO_HI, 3, 0⟩
/-- CLAP_CH_STAT.n -/
abbrev CLAP_CH_STAT_n : Fld := ⟨.CLAP_CH_STAT, 24, 0⟩
/-- CLAP_CH_UCAL.value -/
abbrev CLAP_CH_UCAL_value : Fld := ⟨.CLAP_CH_UCAL, 31, 0⟩
/-- CLAP_CH_LIMLO_LO.value -/
abbrev CLAP_CH_LIMLO_LO_value : Fld := ⟨.CLAP_CH_LIMLO_LO, 31, 0⟩
/-- CLAP_CH_LIMLO_HI.value -/
abbrev CLAP_CH_LIMLO_HI_value : Fld := ⟨.CLAP_CH_LIMLO_HI, 31, 0⟩
/-- CLAP_CH_LIMHI_LO.value -/
abbrev CLAP_CH_LIMHI_LO_value : Fld := ⟨.CLAP_CH_LIMHI_LO, 31, 0⟩
/-- CLAP_CH_LIMHI_HI.value -/
abbrev CLAP_CH_LIMHI_HI_value : Fld := ⟨.CLAP_CH_LIMHI_HI, 31, 0⟩
/-- CLAP_CH_NOM_LO.value -/
abbrev CLAP_CH_NOM_LO_value : Fld := ⟨.CLAP_CH_NOM_LO, 31, 0⟩
/-- CLAP_CH_NOM_HI.value -/
abbrev CLAP_CH_NOM_HI_value : Fld := ⟨.CLAP_CH_NOM_HI, 31, 0⟩
/-- CLAP_CH_BUF_LO.value -/
abbrev CLAP_CH_BUF_LO_value : Fld := ⟨.CLAP_CH_BUF_LO, 31, 0⟩
/-- CLAP_CH_BUF_HI.value -/
abbrev CLAP_CH_BUF_HI_value : Fld := ⟨.CLAP_CH_BUF_HI, 31, 0⟩
/-- CLAP_CH_BUF_CFG.size_exp -/
abbrev CLAP_CH_BUF_CFG_size_exp : Fld := ⟨.CLAP_CH_BUF_CFG, 4, 0⟩
/-- CLAP_CH_WIDX.value -/
abbrev CLAP_CH_WIDX_value : Fld := ⟨.CLAP_CH_WIDX, 31, 0⟩
/-- CLAP_CH_RIDX.value -/
abbrev CLAP_CH_RIDX_value : Fld := ⟨.CLAP_CH_RIDX, 31, 0⟩
/-- CLAP_CH_STATUS.lane -/
abbrev CLAP_CH_STATUS_lane : Fld := ⟨.CLAP_CH_STATUS, 12, 8⟩
/-- CLAP_CH_STATUS.ref_bad -/
abbrev CLAP_CH_STATUS_ref_bad : Fld := ⟨.CLAP_CH_STATUS, 5, 5⟩
/-- CLAP_CH_STATUS.notice -/
abbrev CLAP_CH_STATUS_notice : Fld := ⟨.CLAP_CH_STATUS, 4, 4⟩
/-- CLAP_CH_STATUS.limit_out -/
abbrev CLAP_CH_STATUS_limit_out : Fld := ⟨.CLAP_CH_STATUS, 3, 3⟩
/-- CLAP_CH_STATUS.spare -/
abbrev CLAP_CH_STATUS_spare : Fld := ⟨.CLAP_CH_STATUS, 2, 2⟩
/-- CLAP_CH_STATUS.running -/
abbrev CLAP_CH_STATUS_running : Fld := ⟨.CLAP_CH_STATUS, 1, 1⟩
/-- CLAP_CH_STATUS.armed -/
abbrev CLAP_CH_STATUS_armed : Fld := ⟨.CLAP_CH_STATUS, 0, 0⟩
/-- CLAP_CH_MISSED.value -/
abbrev CLAP_CH_MISSED_value : Fld := ⟨.CLAP_CH_MISSED, 31, 0⟩
/-- CLAP_CH_LOST.stamps -/
abbrev CLAP_CH_LOST_stamps : Fld := ⟨.CLAP_CH_LOST, 15, 0⟩
/-- CLAP_CH_LOST.records -/
abbrev CLAP_CH_LOST_records : Fld := ⟨.CLAP_CH_LOST, 31, 16⟩
/-- CLAP_CH_OUTLIM.value -/
abbrev CLAP_CH_OUTLIM_value : Fld := ⟨.CLAP_CH_OUTLIM, 31, 0⟩
/-- DP_CFG.pslope -/
abbrev DP_CFG_pslope : Fld := ⟨.DP_CFG, 19, 16⟩
/-- DP_CFG.det -/
abbrev DP_CFG_det : Fld := ⟨.DP_CFG, 15, 15⟩
/-- DP_CFG.src_idx -/
abbrev DP_CFG_src_idx : Fld := ⟨.DP_CFG, 11, 8⟩
/-- DP_CFG.src_type -/
abbrev DP_CFG_src_type : Fld := ⟨.DP_CFG, 4, 2⟩
/-- DP_CFG.enable -/
abbrev DP_CFG_enable : Fld := ⟨.DP_CFG, 0, 0⟩
/-- DP_BW.value -/
abbrev DP_BW_value : Fld := ⟨.DP_BW, 23, 0⟩
/-- DP_FREQ_LO.value -/
abbrev DP_FREQ_LO_value : Fld := ⟨.DP_FREQ_LO, 31, 0⟩
/-- DP_FREQ_HI.value -/
abbrev DP_FREQ_HI_value : Fld := ⟨.DP_FREQ_HI, 31, 0⟩
/-- DP_PHASE.value -/
abbrev DP_PHASE_value : Fld := ⟨.DP_PHASE, 31, 0⟩
/-- DP_ALIGN.align_div -/
abbrev DP_ALIGN_align_div : Fld := ⟨.DP_ALIGN, 19, 0⟩
/-- DP_LOCK.lock_hold -/
abbrev DP_LOCK_lock_hold : Fld := ⟨.DP_LOCK, 31, 24⟩
/-- DP_LOCK.lock_freq -/
abbrev DP_LOCK_lock_freq : Fld := ⟨.DP_LOCK, 23, 16⟩
/-- DP_LOCK.lock_phase -/
abbrev DP_LOCK_lock_phase : Fld := ⟨.DP_LOCK, 15, 0⟩
/-- DP_STATUS.residual -/
abbrev DP_STATUS_residual : Fld := ⟨.DP_STATUS, 23, 16⟩
/-- DP_STATUS.passes -/
abbrev DP_STATUS_passes : Fld := ⟨.DP_STATUS, 11, 8⟩
/-- DP_STATUS.det_unavail -/
abbrev DP_STATUS_det_unavail : Fld := ⟨.DP_STATUS, 7, 7⟩
/-- DP_STATUS.det_state -/
abbrev DP_STATUS_det_state : Fld := ⟨.DP_STATUS, 6, 5⟩
/-- DP_STATUS.src_present -/
abbrev DP_STATUS_src_present : Fld := ⟨.DP_STATUS, 4, 4⟩
/-- DP_STATUS.slope_limited -/
abbrev DP_STATUS_slope_limited : Fld := ⟨.DP_STATUS, 3, 3⟩
/-- DP_STATUS.state -/
abbrev DP_STATUS_state : Fld := ⟨.DP_STATUS, 2, 0⟩
/-- DP_PERR.value -/
abbrev DP_PERR_value : Fld := ⟨.DP_PERR, 31, 0⟩
/-- DP_FERR.value -/
abbrev DP_FERR_value : Fld := ⟨.DP_FERR, 31, 0⟩
/-- DP_LATE.value -/
abbrev DP_LATE_value : Fld := ⟨.DP_LATE, 31, 0⟩
/-- SYN_OSC_CFG.osc_freq -/
abbrev SYN_OSC_CFG_osc_freq : Fld := ⟨.SYN_OSC_CFG, 2, 0⟩
/-- SYN_GAP_LO.value -/
abbrev SYN_GAP_LO_value : Fld := ⟨.SYN_GAP_LO, 31, 0⟩
/-- SYN_GAP_HI.value -/
abbrev SYN_GAP_HI_value : Fld := ⟨.SYN_GAP_HI, 15, 0⟩
/-- SYN_GAP_STATUS.rebuilds -/
abbrev SYN_GAP_STATUS_rebuilds : Fld := ⟨.SYN_GAP_STATUS, 31, 16⟩
/-- SYN_GAP_STATUS.gap_active -/
abbrev SYN_GAP_STATUS_gap_active : Fld := ⟨.SYN_GAP_STATUS, 3, 3⟩
/-- SYN_GAP_STATUS.rebuilding -/
abbrev SYN_GAP_STATUS_rebuilding : Fld := ⟨.SYN_GAP_STATUS, 2, 2⟩
/-- SYN_GAP_STATUS.overflow -/
abbrev SYN_GAP_STATUS_overflow : Fld := ⟨.SYN_GAP_STATUS, 1, 1⟩
/-- SYN_GAP_STATUS.osc_missing -/
abbrev SYN_GAP_STATUS_osc_missing : Fld := ⟨.SYN_GAP_STATUS, 0, 0⟩
/-- SYN_REFIN_CFG.edge -/
abbrev SYN_REFIN_CFG_edge : Fld := ⟨.SYN_REFIN_CFG, 30, 30⟩
/-- SYN_REFIN_CFG.f_nom -/
abbrev SYN_REFIN_CFG_f_nom : Fld := ⟨.SYN_REFIN_CFG, 29, 0⟩
/-- SYN_REFIN_STATUS.offset -/
abbrev SYN_REFIN_STATUS_offset : Fld := ⟨.SYN_REFIN_STATUS, 31, 8⟩
/-- SYN_REFIN_STATUS.present -/
abbrev SYN_REFIN_STATUS_present : Fld := ⟨.SYN_REFIN_STATUS, 0, 0⟩
/-- AP_CFG.auto_relock -/
abbrev AP_CFG_auto_relock : Fld := ⟨.AP_CFG, 11, 11⟩
/-- AP_CFG.dpll -/
abbrev AP_CFG_dpll : Fld := ⟨.AP_CFG, 10, 8⟩
/-- AP_CFG.ref_div -/
abbrev AP_CFG_ref_div : Fld := ⟨.AP_CFG, 7, 4⟩
/-- AP_CFG.lbw -/
abbrev AP_CFG_lbw : Fld := ⟨.AP_CFG, 3, 2⟩
/-- AP_CFG.enable -/
abbrev AP_CFG_enable : Fld := ⟨.AP_CFG, 0, 0⟩
/-- AP_SS.fmod -/
abbrev AP_SS_fmod : Fld := ⟨.AP_SS, 13, 9⟩
/-- AP_SS.depth -/
abbrev AP_SS_depth : Fld := ⟨.AP_SS, 8, 3⟩
/-- AP_SS.mode -/
abbrev AP_SS_mode : Fld := ⟨.AP_SS, 1, 0⟩
/-- AP_STATUS.lock_us -/
abbrev AP_STATUS_lock_us : Fld := ⟨.AP_STATUS, 31, 16⟩
/-- AP_STATUS.from_table -/
abbrev AP_STATUS_from_table : Fld := ⟨.AP_STATUS, 14, 14⟩
/-- AP_STATUS.band -/
abbrev AP_STATUS_band : Fld := ⟨.AP_STATUS, 13, 5⟩
/-- AP_STATUS.tune_margin -/
abbrev AP_STATUS_tune_margin : Fld := ⟨.AP_STATUS, 4, 4⟩
/-- AP_STATUS.spread_active -/
abbrev AP_STATUS_spread_active : Fld := ⟨.AP_STATUS, 3, 3⟩
/-- AP_STATUS.state -/
abbrev AP_STATUS_state : Fld := ⟨.AP_STATUS, 2, 0⟩
/-- AP_LOSS.value -/
abbrev AP_LOSS_value : Fld := ⟨.AP_LOSS, 31, 0⟩
/-- AP_BTAB.valid -/
abbrev AP_BTAB_valid : Fld := ⟨.AP_BTAB, 31, 31⟩
/-- AP_BTAB.band -/
abbrev AP_BTAB_band : Fld := ⟨.AP_BTAB, 30, 22⟩
/-- AP_BTAB.freq_mhz -/
abbrev AP_BTAB_freq_mhz : Fld := ⟨.AP_BTAB, 21, 8⟩
/-- AP_BTAB.temp -/
abbrev AP_BTAB_temp : Fld := ⟨.AP_BTAB, 7, 0⟩
/-- OUT_CFG.twin_gate -/
abbrev OUT_CFG_twin_gate : Fld := ⟨.OUT_CFG, 31, 31⟩
/-- OUT_CFG.auto_return -/
abbrev OUT_CFG_auto_return : Fld := ⟨.OUT_CFG, 30, 30⟩
/-- OUT_CFG.fb_en -/
abbrev OUT_CFG_fb_en : Fld := ⟨.OUT_CFG, 29, 29⟩
/-- OUT_CFG.idle -/
abbrev OUT_CFG_idle : Fld := ⟨.OUT_CFG, 28, 28⟩
/-- OUT_CFG.fb_apll -/
abbrev OUT_CFG_fb_apll : Fld := ⟨.OUT_CFG, 25, 24⟩
/-- OUT_CFG.cue -/
abbrev OUT_CFG_cue : Fld := ⟨.OUT_CFG, 21, 16⟩
/-- OUT_CFG.class -/
abbrev OUT_CFG_class : Fld := ⟨.OUT_CFG, 12, 12⟩
/-- OUT_CFG.format -/
abbrev OUT_CFG_format : Fld := ⟨.OUT_CFG, 10, 8⟩
/-- OUT_CFG.src -/
abbrev OUT_CFG_src : Fld := ⟨.OUT_CFG, 2, 0⟩
/-- OUT_DIV.div -/
abbrev OUT_DIV_div : Fld := ⟨.OUT_DIV, 24, 0⟩
/-- OUT_COARSE.value -/
abbrev OUT_COARSE_value : Fld := ⟨.OUT_COARSE, 24, 0⟩
/-- OUT_FINE.value -/
abbrev OUT_FINE_value : Fld := ⟨.OUT_FINE, 11, 0⟩
/-- OUT_FB_DIV.div -/
abbrev OUT_FB_DIV_div : Fld := ⟨.OUT_FB_DIV, 24, 0⟩
/-- OUT_FB_COARSE.value -/
abbrev OUT_FB_COARSE_value : Fld := ⟨.OUT_FB_COARSE, 24, 0⟩
/-- OUT_STATUS.apll -/
abbrev OUT_STATUS_apll : Fld := ⟨.OUT_STATUS, 13, 12⟩
/-- OUT_STATUS.reload_pending -/
abbrev OUT_STATUS_reload_pending : Fld := ⟨.OUT_STATUS, 11, 11⟩
/-- OUT_STATUS.forced -/
abbrev OUT_STATUS_forced : Fld := ⟨.OUT_STATUS, 10, 10⟩
/-- OUT_STATUS.stop_cause -/
abbrev OUT_STATUS_stop_cause : Fld := ⟨.OUT_STATUS, 9, 7⟩
/-- OUT_STATUS.switching -/
abbrev OUT_STATUS_switching : Fld := ⟨.OUT_STATUS, 6, 6⟩
/-- OUT_STATUS.fine_slewing -/
abbrev OUT_STATUS_fine_slewing : Fld := ⟨.OUT_STATUS, 5, 5⟩
/-- OUT_STATUS.on_fallback -/
abbrev OUT_STATUS_on_fallback : Fld := ⟨.OUT_STATUS, 4, 4⟩
/-- OUT_STATUS.state -/
abbrev OUT_STATUS_state : Fld := ⟨.OUT_STATUS, 2, 0⟩
/-- OUT_SWITCHES.to_fb -/
abbrev OUT_SWITCHES_to_fb : Fld := ⟨.OUT_SWITCHES, 15, 0⟩
/-- OUT_SWITCHES.returns -/
abbrev OUT_SWITCHES_returns : Fld := ⟨.OUT_SWITCHES, 31, 16⟩
/-- CUE_CFG.ring -/
abbrev CUE_CFG_ring : Fld := ⟨.CUE_CFG, 31, 26⟩
/-- CUE_CFG.ring_evt -/
abbrev CUE_CFG_ring_evt : Fld := ⟨.CUE_CFG, 25, 25⟩
/-- CUE_CFG.core_irq -/
abbrev CUE_CFG_core_irq : Fld := ⟨.CUE_CFG, 24, 21⟩
/-- CUE_CFG.late -/
abbrev CUE_CFG_late : Fld := ⟨.CUE_CFG, 19, 18⟩
/-- CUE_CFG.polarity -/
abbrev CUE_CFG_polarity : Fld := ⟨.CUE_CFG, 17, 17⟩
/-- CUE_CFG.seq_n -/
abbrev CUE_CFG_seq_n : Fld := ⟨.CUE_CFG, 15, 8⟩
/-- CUE_CFG.ts -/
abbrev CUE_CFG_ts : Fld := ⟨.CUE_CFG, 5, 4⟩
/-- CUE_CFG.mode -/
abbrev CUE_CFG_mode : Fld := ⟨.CUE_CFG, 2, 0⟩
/-- CUE_STATUS.end_cause -/
abbrev CUE_STATUS_end_cause : Fld := ⟨.CUE_STATUS, 6, 4⟩
/-- CUE_STATUS.last_late -/
abbrev CUE_STATUS_last_late : Fld := ⟨.CUE_STATUS, 3, 3⟩
/-- CUE_STATUS.state -/
abbrev CUE_STATUS_state : Fld := ⟨.CUE_STATUS, 2, 0⟩
/-- CUE_PAT_LO.value -/
abbrev CUE_PAT_LO_value : Fld := ⟨.CUE_PAT_LO, 31, 0⟩
/-- CUE_PAT_HI.value -/
abbrev CUE_PAT_HI_value : Fld := ⟨.CUE_PAT_HI, 31, 0⟩
/-- CUE_FIRED.value -/
abbrev CUE_FIRED_value : Fld := ⟨.CUE_FIRED, 31, 0⟩
/-- CUE_LATE.skipped -/
abbrev CUE_LATE_skipped : Fld := ⟨.CUE_LATE, 15, 0⟩
/-- CUE_LATE.fired_late -/
abbrev CUE_LATE_fired_late : Fld := ⟨.CUE_LATE, 31, 16⟩
/-- CUE_PIN_CFG.skew -/
abbrev CUE_PIN_CFG_skew : Fld := ⟨.CUE_PIN_CFG, 20, 8⟩
/-- CUE_PIN_CFG.enable -/
abbrev CUE_PIN_CFG_enable : Fld := ⟨.CUE_PIN_CFG, 7, 7⟩
/-- CUE_PIN_CFG.idle -/
abbrev CUE_PIN_CFG_idle : Fld := ⟨.CUE_PIN_CFG, 6, 6⟩
/-- CUE_PIN_CFG.cue -/
abbrev CUE_PIN_CFG_cue : Fld := ⟨.CUE_PIN_CFG, 5, 0⟩
/-- CUE_CAP_CFG.ring -/
abbrev CUE_CAP_CFG_ring : Fld := ⟨.CUE_CAP_CFG, 13, 8⟩
/-- CUE_CAP_CFG.ts -/
abbrev CUE_CAP_CFG_ts : Fld := ⟨.CUE_CAP_CFG, 1, 0⟩
/-- CUE_CAP_BUF_LO.value -/
abbrev CUE_CAP_BUF_LO_value : Fld := ⟨.CUE_CAP_BUF_LO, 31, 0⟩
/-- CUE_CAP_BUF_HI.value -/
abbrev CUE_CAP_BUF_HI_value : Fld := ⟨.CUE_CAP_BUF_HI, 31, 0⟩
/-- CUE_CAP_BUF_CFG.size_exp -/
abbrev CUE_CAP_BUF_CFG_size_exp : Fld := ⟨.CUE_CAP_BUF_CFG, 4, 0⟩
/-- CUE_CAP_WIDX.value -/
abbrev CUE_CAP_WIDX_value : Fld := ⟨.CUE_CAP_WIDX, 31, 0⟩
/-- CUE_CAP_RIDX.value -/
abbrev CUE_CAP_RIDX_value : Fld := ⟨.CUE_CAP_RIDX, 31, 0⟩
/-- CUE_CAP_LOST.value -/
abbrev CUE_CAP_LOST_value : Fld := ⟨.CUE_CAP_LOST, 31, 0⟩
/-- CUE_TOD_CFG.pps_cue -/
abbrev CUE_TOD_CFG_pps_cue : Fld := ⟨.CUE_TOD_CFG, 31, 26⟩
/-- CUE_TOD_CFG.tx_offset -/
abbrev CUE_TOD_CFG_tx_offset : Fld := ⟨.CUE_TOD_CFG, 25, 16⟩
/-- CUE_TOD_CFG.rx_en -/
abbrev CUE_TOD_CFG_rx_en : Fld := ⟨.CUE_TOD_CFG, 15, 15⟩
/-- CUE_TOD_CFG.tx_en -/
abbrev CUE_TOD_CFG_tx_en : Fld := ⟨.CUE_TOD_CFG, 14, 14⟩
/-- CUE_TOD_CFG.ts -/
abbrev CUE_TOD_CFG_ts : Fld := ⟨.CUE_TOD_CFG, 13, 12⟩
/-- CUE_TOD_CFG.rx_cin -/
abbrev CUE_TOD_CFG_rx_cin : Fld := ⟨.CUE_TOD_CFG, 11, 8⟩
/-- CUE_TOD_CFG.ref -/
abbrev CUE_TOD_CFG_ref : Fld := ⟨.CUE_TOD_CFG, 5, 5⟩
/-- CUE_TOD_CFG.format -/
abbrev CUE_TOD_CFG_format : Fld := ⟨.CUE_TOD_CFG, 3, 0⟩
/-- CUE_TOD_BAUD.baud_div -/
abbrev CUE_TOD_BAUD_baud_div : Fld := ⟨.CUE_TOD_BAUD, 16, 0⟩
/-- CUE_TOD_STATUS.no_pps -/
abbrev CUE_TOD_STATUS_no_pps : Fld := ⟨.CUE_TOD_STATUS, 3, 3⟩
/-- CUE_TOD_STATUS.overrun -/
abbrev CUE_TOD_STATUS_overrun : Fld := ⟨.CUE_TOD_STATUS, 2, 2⟩
/-- CUE_TOD_STATUS.rx_valid -/
abbrev CUE_TOD_STATUS_rx_valid : Fld := ⟨.CUE_TOD_STATUS, 1, 1⟩
/-- CUE_TOD_STATUS.tx_active -/
abbrev CUE_TOD_STATUS_tx_active : Fld := ⟨.CUE_TOD_STATUS, 0, 0⟩
/-- CUE_TOD_RX_CLAIM.value -/
abbrev CUE_TOD_RX_CLAIM_value : Fld := ⟨.CUE_TOD_RX_CLAIM, 31, 0⟩
/-- CUE_TOD_ERR.crc_framing -/
abbrev CUE_TOD_ERR_crc_framing : Fld := ⟨.CUE_TOD_ERR, 15, 0⟩
/-- CUE_TOD_ERR.rejected -/
abbrev CUE_TOD_ERR_rejected : Fld := ⟨.CUE_TOD_ERR, 31, 16⟩
/-- GNSS_CTRL.fe_settle -/
abbrev GNSS_CTRL_fe_settle : Fld := ⟨.GNSS_CTRL, 31, 24⟩
/-- GNSS_STATUS.shed -/
abbrev GNSS_STATUS_shed : Fld := ⟨.GNSS_STATUS, 16, 16⟩
/-- GNSS_STATUS.running -/
abbrev GNSS_STATUS_running : Fld := ⟨.GNSS_STATUS, 15, 8⟩
/-- GNSS_STATUS.hot -/
abbrev GNSS_STATUS_hot : Fld := ⟨.GNSS_STATUS, 4, 4⟩
/-- GNSS_STATUS.retain_valid -/
abbrev GNSS_STATUS_retain_valid : Fld := ⟨.GNSS_STATUS, 3, 3⟩
/-- GNSS_STATUS.pstate -/
abbrev GNSS_STATUS_pstate : Fld := ⟨.GNSS_STATUS, 2, 0⟩
/-- GNSS_WAKE.interval -/
abbrev GNSS_WAKE_interval : Fld := ⟨.GNSS_WAKE, 31, 16⟩
/-- GNSS_WAKE.duration -/
abbrev GNSS_WAKE_duration : Fld := ⟨.GNSS_WAKE, 15, 0⟩
/-- GNSS_MEAS_CFG.ring -/
abbrev GNSS_MEAS_CFG_ring : Fld := ⟨.GNSS_MEAS_CFG, 13, 8⟩
/-- GNSS_MEAS_CFG.interval -/
abbrev GNSS_MEAS_CFG_interval : Fld := ⟨.GNSS_MEAS_CFG, 2, 0⟩
/-- GNSS_MEAS_BUF_LO.value -/
abbrev GNSS_MEAS_BUF_LO_value : Fld := ⟨.GNSS_MEAS_BUF_LO, 31, 0⟩
/-- GNSS_MEAS_BUF_HI.value -/
abbrev GNSS_MEAS_BUF_HI_value : Fld := ⟨.GNSS_MEAS_BUF_HI, 31, 0⟩
/-- GNSS_MEAS_BUF_CFG.size_exp -/
abbrev GNSS_MEAS_BUF_CFG_size_exp : Fld := ⟨.GNSS_MEAS_BUF_CFG, 4, 0⟩
/-- GNSS_MEAS_WIDX.value -/
abbrev GNSS_MEAS_WIDX_value : Fld := ⟨.GNSS_MEAS_WIDX, 31, 0⟩
/-- GNSS_MEAS_RIDX.value -/
abbrev GNSS_MEAS_RIDX_value : Fld := ⟨.GNSS_MEAS_RIDX, 31, 0⟩
/-- GNSS_MEAS_LOST.value -/
abbrev GNSS_MEAS_LOST_value : Fld := ⟨.GNSS_MEAS_LOST, 31, 0⟩
/-- GNSS_NAV_CFG.ring -/
abbrev GNSS_NAV_CFG_ring : Fld := ⟨.GNSS_NAV_CFG, 13, 8⟩
/-- GNSS_NAV_CFG.host -/
abbrev GNSS_NAV_CFG_host : Fld := ⟨.GNSS_NAV_CFG, 0, 0⟩
/-- GNSS_NAV_BUF_LO.value -/
abbrev GNSS_NAV_BUF_LO_value : Fld := ⟨.GNSS_NAV_BUF_LO, 31, 0⟩
/-- GNSS_NAV_BUF_HI.value -/
abbrev GNSS_NAV_BUF_HI_value : Fld := ⟨.GNSS_NAV_BUF_HI, 31, 0⟩
/-- GNSS_NAV_BUF_CFG.size_exp -/
abbrev GNSS_NAV_BUF_CFG_size_exp : Fld := ⟨.GNSS_NAV_BUF_CFG, 4, 0⟩
/-- GNSS_NAV_WIDX.value -/
abbrev GNSS_NAV_WIDX_value : Fld := ⟨.GNSS_NAV_WIDX, 31, 0⟩
/-- GNSS_NAV_RIDX.value -/
abbrev GNSS_NAV_RIDX_value : Fld := ⟨.GNSS_NAV_RIDX, 31, 0⟩
/-- GNSS_NAV_LOST.value -/
abbrev GNSS_NAV_LOST_value : Fld := ⟨.GNSS_NAV_LOST, 31, 0⟩
/-- GNSS_SPOOF_CFG.sol_mask -/
abbrev GNSS_SPOOF_CFG_sol_mask : Fld := ⟨.GNSS_SPOOF_CFG, 31, 30⟩
/-- GNSS_SPOOF_CFG.alert -/
abbrev GNSS_SPOOF_CFG_alert : Fld := ⟨.GNSS_SPOOF_CFG, 29, 29⟩
/-- GNSS_SPOOF_CFG.act -/
abbrev GNSS_SPOOF_CFG_act : Fld := ⟨.GNSS_SPOOF_CFG, 12, 8⟩
/-- GNSS_SPOOF_CFG.enable -/
abbrev GNSS_SPOOF_CFG_enable : Fld := ⟨.GNSS_SPOOF_CFG, 4, 0⟩
/-- GNSS_SPOOF_THR.r_thr -/
abbrev GNSS_SPOOF_THR_r_thr : Fld := ⟨.GNSS_SPOOF_THR, 31, 24⟩
/-- GNSS_SPOOF_THR.mp_db -/
abbrev GNSS_SPOOF_THR_mp_db : Fld := ⟨.GNSS_SPOOF_THR, 23, 16⟩
/-- GNSS_SPOOF_THR.mp_n -/
abbrev GNSS_SPOOF_THR_mp_n : Fld := ⟨.GNSS_SPOOF_THR, 15, 12⟩
/-- GNSS_SPOOF_THR.spoof_epochs -/
abbrev GNSS_SPOOF_THR_spoof_epochs : Fld := ⟨.GNSS_SPOOF_THR, 11, 8⟩
/-- GNSS_SPOOF_THR.cn0_thr -/
abbrev GNSS_SPOOF_THR_cn0_thr : Fld := ⟨.GNSS_SPOOF_THR, 7, 0⟩
/-- GNSS_SPOOF_STATUS.s0_r -/
abbrev GNSS_SPOOF_STATUS_s0_r : Fld := ⟨.GNSS_SPOOF_STATUS, 23, 16⟩
/-- GNSS_SPOOF_STATUS.raw -/
abbrev GNSS_SPOOF_STATUS_raw : Fld := ⟨.GNSS_SPOOF_STATUS, 12, 8⟩
/-- GNSS_SPOOF_STATUS.latched -/
abbrev GNSS_SPOOF_STATUS_latched : Fld := ⟨.GNSS_SPOOF_STATUS, 4, 0⟩
/-- GNSS_OSNMA_CFG.required -/
abbrev GNSS_OSNMA_CFG_required : Fld := ⟨.GNSS_OSNMA_CFG, 1, 1⟩
/-- GNSS_OSNMA_CFG.enable -/
abbrev GNSS_OSNMA_CFG_enable : Fld := ⟨.GNSS_OSNMA_CFG, 0, 0⟩
/-- GNSS_OSNMA_STATUS.sats -/
abbrev GNSS_OSNMA_STATUS_sats : Fld := ⟨.GNSS_OSNMA_STATUS, 31, 24⟩
/-- GNSS_OSNMA_STATUS.time_ok -/
abbrev GNSS_OSNMA_STATUS_time_ok : Fld := ⟨.GNSS_OSNMA_STATUS, 3, 3⟩
/-- GNSS_OSNMA_STATUS.kroot_valid -/
abbrev GNSS_OSNMA_STATUS_kroot_valid : Fld := ⟨.GNSS_OSNMA_STATUS, 2, 2⟩
/-- GNSS_OSNMA_STATUS.chain_ok -/
abbrev GNSS_OSNMA_STATUS_chain_ok : Fld := ⟨.GNSS_OSNMA_STATUS, 1, 1⟩
/-- GNSS_OSNMA_STATUS.running -/
abbrev GNSS_OSNMA_STATUS_running : Fld := ⟨.GNSS_OSNMA_STATUS, 0, 0⟩
/-- GNSS_SOL_CFG.enable -/
abbrev GNSS_SOL_CFG_enable : Fld := ⟨.GNSS_SOL_CFG, 31, 31⟩
/-- GNSS_SOL_CFG.ports -/
abbrev GNSS_SOL_CFG_ports : Fld := ⟨.GNSS_SOL_CFG, 30, 28⟩
/-- GNSS_SOL_CFG.systems -/
abbrev GNSS_SOL_CFG_systems : Fld := ⟨.GNSS_SOL_CFG, 27, 24⟩
/-- GNSS_SOL_CFG.elev_mask -/
abbrev GNSS_SOL_CFG_elev_mask : Fld := ⟨.GNSS_SOL_CFG, 23, 16⟩
/-- GNSS_SOL_CFG.min_sats -/
abbrev GNSS_SOL_CFG_min_sats : Fld := ⟨.GNSS_SOL_CFG, 15, 12⟩
/-- GNSS_SOL_CFG.time_ref -/
abbrev GNSS_SOL_CFG_time_ref : Fld := ⟨.GNSS_SOL_CFG, 11, 10⟩
/-- GNSS_SOL_CFG.pos_mode -/
abbrev GNSS_SOL_CFG_pos_mode : Fld := ⟨.GNSS_SOL_CFG, 9, 9⟩
/-- GNSS_OSNMA_ROOT.value -/
abbrev GNSS_OSNMA_ROOT_value : Fld := ⟨.GNSS_OSNMA_ROOT, 31, 0⟩
/-- GNSS_PORT_CFG.enable -/
abbrev GNSS_PORT_CFG_enable : Fld := ⟨.GNSS_PORT_CFG, 31, 31⟩
/-- GNSS_PORT_CFG.inv -/
abbrev GNSS_PORT_CFG_inv : Fld := ⟨.GNSS_PORT_CFG, 30, 30⟩
/-- GNSS_PORT_CFG.enc -/
abbrev GNSS_PORT_CFG_enc : Fld := ⟨.GNSS_PORT_CFG, 29, 28⟩
/-- GNSS_PORT_CFG.band -/
abbrev GNSS_PORT_CFG_band : Fld := ⟨.GNSS_PORT_CFG, 27, 27⟩
/-- GNSS_PORT_CFG.jam_thr -/
abbrev GNSS_PORT_CFG_jam_thr : Fld := ⟨.GNSS_PORT_CFG, 23, 16⟩
/-- GNSS_PORT_FS.f_s -/
abbrev GNSS_PORT_FS_f_s : Fld := ⟨.GNSS_PORT_FS, 16, 0⟩
/-- GNSS_PORT_LO.lo_hz -/
abbrev GNSS_PORT_LO_lo_hz : Fld := ⟨.GNSS_PORT_LO, 31, 0⟩
/-- GNSS_PORT_STATUS.jam -/
abbrev GNSS_PORT_STATUS_jam : Fld := ⟨.GNSS_PORT_STATUS, 31, 24⟩
/-- GNSS_PORT_STATUS.clip -/
abbrev GNSS_PORT_STATUS_clip : Fld := ⟨.GNSS_PORT_STATUS, 23, 16⟩
/-- GNSS_PORT_STATUS.jam_flag -/
abbrev GNSS_PORT_STATUS_jam_flag : Fld := ⟨.GNSS_PORT_STATUS, 4, 4⟩
/-- GNSS_PORT_STATUS.overrun -/
abbrev GNSS_PORT_STATUS_overrun : Fld := ⟨.GNSS_PORT_STATUS, 3, 3⟩
/-- GNSS_PORT_STATUS.rate_bad -/
abbrev GNSS_PORT_STATUS_rate_bad : Fld := ⟨.GNSS_PORT_STATUS, 2, 2⟩
/-- GNSS_PORT_STATUS.clk_present -/
abbrev GNSS_PORT_STATUS_clk_present : Fld := ⟨.GNSS_PORT_STATUS, 1, 1⟩
/-- GNSS_PORT_STATUS.running -/
abbrev GNSS_PORT_STATUS_running : Fld := ⟨.GNSS_PORT_STATUS, 0, 0⟩
/-- GNSS_PORT_CNREF.value -/
abbrev GNSS_PORT_CNREF_value : Fld := ⟨.GNSS_PORT_CNREF, 7, 0⟩
/-- GNSS_PORT_LOST.value -/
abbrev GNSS_PORT_LOST_value : Fld := ⟨.GNSS_PORT_LOST, 31, 0⟩
/-- GNSS_NOTCH.enable -/
abbrev GNSS_NOTCH_enable : Fld := ⟨.GNSS_NOTCH, 31, 31⟩
/-- GNSS_NOTCH.adaptive -/
abbrev GNSS_NOTCH_adaptive : Fld := ⟨.GNSS_NOTCH, 30, 30⟩
/-- GNSS_NOTCH.width -/
abbrev GNSS_NOTCH_width : Fld := ⟨.GNSS_NOTCH, 29, 28⟩
/-- GNSS_NOTCH.adapt_thr -/
abbrev GNSS_NOTCH_adapt_thr : Fld := ⟨.GNSS_NOTCH, 27, 24⟩
/-- GNSS_NOTCH.centre -/
abbrev GNSS_NOTCH_centre : Fld := ⟨.GNSS_NOTCH, 16, 0⟩
/-- GNSS_NOTCH_ST.active -/
abbrev GNSS_NOTCH_ST_active : Fld := ⟨.GNSS_NOTCH_ST, 31, 31⟩
/-- GNSS_NOTCH_ST.locked -/
abbrev GNSS_NOTCH_ST_locked : Fld := ⟨.GNSS_NOTCH_ST, 30, 30⟩
/-- GNSS_NOTCH_ST.centre -/
abbrev GNSS_NOTCH_ST_centre : Fld := ⟨.GNSS_NOTCH_ST, 16, 0⟩
/-- GNSS_CH_CFG.port -/
abbrev GNSS_CH_CFG_port : Fld := ⟨.GNSS_CH_CFG, 29, 28⟩
/-- GNSS_CH_CFG.signal -/
abbrev GNSS_CH_CFG_signal : Fld := ⟨.GNSS_CH_CFG, 27, 24⟩
/-- GNSS_CH_CFG.svid -/
abbrev GNSS_CH_CFG_svid : Fld := ⟨.GNSS_CH_CFG, 21, 16⟩
/-- GNSS_CH_CFG.glo_k -/
abbrev GNSS_CH_CFG_glo_k : Fld := ⟨.GNSS_CH_CFG, 15, 12⟩
/-- GNSS_CH_CFG.owner -/
abbrev GNSS_CH_CFG_owner : Fld := ⟨.GNSS_CH_CFG, 11, 11⟩
/-- GNSS_CH_CFG.core -/
abbrev GNSS_CH_CFG_core : Fld := ⟨.GNSS_CH_CFG, 10, 9⟩
/-- GNSS_CH_CFG.meas_en -/
abbrev GNSS_CH_CFG_meas_en : Fld := ⟨.GNSS_CH_CFG, 8, 8⟩
/-- GNSS_CH_CFG.nav_en -/
abbrev GNSS_CH_CFG_nav_en : Fld := ⟨.GNSS_CH_CFG, 7, 7⟩
/-- GNSS_CH_CFG.pilot -/
abbrev GNSS_CH_CFG_pilot : Fld := ⟨.GNSS_CH_CFG, 6, 6⟩
/-- GNSS_CH_CORR.mon_ofs -/
abbrev GNSS_CH_CORR_mon_ofs : Fld := ⟨.GNSS_CH_CORR, 31, 24⟩
/-- GNSS_CH_CORR.mon_sweep -/
abbrev GNSS_CH_CORR_mon_sweep : Fld := ⟨.GNSS_CH_CORR, 23, 23⟩
/-- GNSS_CH_CORR.wide -/
abbrev GNSS_CH_CORR_wide : Fld := ⟨.GNSS_CH_CORR, 15, 8⟩
/-- GNSS_CH_CORR.narrow -/
abbrev GNSS_CH_CORR_narrow : Fld := ⟨.GNSS_CH_CORR, 7, 0⟩
/-- GNSS_CH_STATUS.cn0 -/
abbrev GNSS_CH_STATUS_cn0 : Fld := ⟨.GNSS_CH_STATUS, 31, 24⟩
/-- GNSS_CH_STATUS.carrier_lock -/
abbrev GNSS_CH_STATUS_carrier_lock : Fld := ⟨.GNSS_CH_STATUS, 15, 15⟩
/-- GNSS_CH_STATUS.code_lock -/
abbrev GNSS_CH_STATUS_code_lock : Fld := ⟨.GNSS_CH_STATUS, 14, 14⟩
/-- GNSS_CH_STATUS.bit_sync -/
abbrev GNSS_CH_STATUS_bit_sync : Fld := ⟨.GNSS_CH_STATUS, 13, 13⟩
/-- GNSS_CH_STATUS.nav_sync -/
abbrev GNSS_CH_STATUS_nav_sync : Fld := ⟨.GNSS_CH_STATUS, 12, 12⟩
/-- GNSS_CH_STATUS.notch_near -/
abbrev GNSS_CH_STATUS_notch_near : Fld := ⟨.GNSS_CH_STATUS, 3, 3⟩
/-- GNSS_CH_STATUS.state -/
abbrev GNSS_CH_STATUS_state : Fld := ⟨.GNSS_CH_STATUS, 2, 0⟩
/-- GNSS_CH_CODE_LO.value -/
abbrev GNSS_CH_CODE_LO_value : Fld := ⟨.GNSS_CH_CODE_LO, 31, 0⟩
/-- GNSS_CH_CODE_HI.value -/
abbrev GNSS_CH_CODE_HI_value : Fld := ⟨.GNSS_CH_CODE_HI, 15, 0⟩
/-- GNSS_CH_CARR_LO.value -/
abbrev GNSS_CH_CARR_LO_value : Fld := ⟨.GNSS_CH_CARR_LO, 31, 0⟩
/-- GNSS_CH_CARR_HI.value -/
abbrev GNSS_CH_CARR_HI_value : Fld := ⟨.GNSS_CH_CARR_HI, 15, 0⟩
/-- GNSS_CH_CODE_ADJ.value -/
abbrev GNSS_CH_CODE_ADJ_value : Fld := ⟨.GNSS_CH_CODE_ADJ, 31, 0⟩
/-- GNSS_CH_LATE.value -/
abbrev GNSS_CH_LATE_value : Fld := ⟨.GNSS_CH_LATE, 31, 0⟩
/-- PORT_CFG.enable -/
abbrev PORT_CFG_enable : Fld := ⟨.PORT_CFG, 31, 31⟩
/-- PORT_CFG.mode -/
abbrev PORT_CFG_mode : Fld := ⟨.PORT_CFG, 30, 28⟩
/-- PORT_CFG.fec -/
abbrev PORT_CFG_fec : Fld := ⟨.PORT_CFG, 27, 27⟩
/-- PORT_CFG.lpi_en -/
abbrev PORT_CFG_lpi_en : Fld := ⟨.PORT_CFG, 26, 26⟩
/-- PORT_CFG.ovs_fwd -/
abbrev PORT_CFG_ovs_fwd : Fld := ⟨.PORT_CFG, 25, 25⟩
/-- PORT_CFG.stats_reader -/
abbrev PORT_CFG_stats_reader : Fld := ⟨.PORT_CFG, 24, 24⟩
/-- PORT_CFG.ref_apll -/
abbrev PORT_CFG_ref_apll : Fld := ⟨.PORT_CFG, 23, 22⟩
/-- PORT_CFG.ts -/
abbrev PORT_CFG_ts : Fld := ⟨.PORT_CFG, 21, 20⟩
/-- PORT_CFG.esmc_en -/
abbrev PORT_CFG_esmc_en : Fld := ⟨.PORT_CFG, 19, 19⟩
/-- PORT_STATUS.link_down_cause -/
abbrev PORT_STATUS_link_down_cause : Fld := ⟨.PORT_STATUS, 15, 12⟩
/-- PORT_STATUS.src_present -/
abbrev PORT_STATUS_src_present : Fld := ⟨.PORT_STATUS, 11, 11⟩
/-- PORT_STATUS.ref_on_ap0 -/
abbrev PORT_STATUS_ref_on_ap0 : Fld := ⟨.PORT_STATUS, 10, 10⟩
/-- PORT_STATUS.cal_failed -/
abbrev PORT_STATUS_cal_failed : Fld := ⟨.PORT_STATUS, 9, 9⟩
/-- PORT_STATUS.lpi_refused -/
abbrev PORT_STATUS_lpi_refused : Fld := ⟨.PORT_STATUS, 8, 8⟩
/-- PORT_STATUS.lpi_rx -/
abbrev PORT_STATUS_lpi_rx : Fld := ⟨.PORT_STATUS, 7, 7⟩
/-- PORT_STATUS.lpi_tx -/
abbrev PORT_STATUS_lpi_tx : Fld := ⟨.PORT_STATUS, 6, 6⟩
/-- PORT_STATUS.timing_role -/
abbrev PORT_STATUS_timing_role : Fld := ⟨.PORT_STATUS, 5, 5⟩
/-- PORT_STATUS.state -/
abbrev PORT_STATUS_state : Fld := ⟨.PORT_STATUS, 2, 0⟩
/-- PORT_MAXF.max_frame -/
abbrev PORT_MAXF_max_frame : Fld := ⟨.PORT_MAXF, 13, 0⟩
/-- PORT_TS_ADJ_RX.value -/
abbrev PORT_TS_ADJ_RX_value : Fld := ⟨.PORT_TS_ADJ_RX, 31, 0⟩
/-- PORT_TS_ADJ_TX.value -/
abbrev PORT_TS_ADJ_TX_value : Fld := ⟨.PORT_TS_ADJ_TX, 31, 0⟩
/-- PORT_LAT_RX.value -/
abbrev PORT_LAT_RX_value : Fld := ⟨.PORT_LAT_RX, 31, 0⟩
/-- PORT_LAT_TX.value -/
abbrev PORT_LAT_TX_value : Fld := ⟨.PORT_LAT_TX, 31, 0⟩
/-- PORT_LPI_CFG.tw_tx -/
abbrev PORT_LPI_CFG_tw_tx : Fld := ⟨.PORT_LPI_CFG, 31, 16⟩
/-- PORT_LPI_CFG.idle -/
abbrev PORT_LPI_CFG_idle : Fld := ⟨.PORT_LPI_CFG, 15, 8⟩
/-- PORT_TXTS_CFG.ring -/
abbrev PORT_TXTS_CFG_ring : Fld := ⟨.PORT_TXTS_CFG, 5, 0⟩
/-- PORT_TXTS_STATUS.overflow -/
abbrev PORT_TXTS_STATUS_overflow : Fld := ⟨.PORT_TXTS_STATUS, 7, 7⟩
/-- PORT_TXTS_STATUS.fill -/
abbrev PORT_TXTS_STATUS_fill : Fld := ⟨.PORT_TXTS_STATUS, 6, 0⟩
/-- PORT_TXTS_DROP.value -/
abbrev PORT_TXTS_DROP_value : Fld := ⟨.PORT_TXTS_DROP, 31, 0⟩
/-- PORT_ESMC_QL.ql5 -/
abbrev PORT_ESMC_QL_ql5 : Fld := ⟨.PORT_ESMC_QL, 23, 20⟩
/-- PORT_ESMC_QL.ql4 -/
abbrev PORT_ESMC_QL_ql4 : Fld := ⟨.PORT_ESMC_QL, 19, 16⟩
/-- PORT_ESMC_QL.ql3 -/
abbrev PORT_ESMC_QL_ql3 : Fld := ⟨.PORT_ESMC_QL, 15, 12⟩
/-- PORT_ESMC_QL.ql2 -/
abbrev PORT_ESMC_QL_ql2 : Fld := ⟨.PORT_ESMC_QL, 11, 8⟩
/-- PORT_ESMC_QL.ql1 -/
abbrev PORT_ESMC_QL_ql1 : Fld := ⟨.PORT_ESMC_QL, 7, 4⟩
/-- PORT_ESMC_QL.ql0 -/
abbrev PORT_ESMC_QL_ql0 : Fld := ⟨.PORT_ESMC_QL, 3, 0⟩
/-- PORT_ESMC_STATUS.tx_ql -/
abbrev PORT_ESMC_STATUS_tx_ql : Fld := ⟨.PORT_ESMC_STATUS, 11, 8⟩
/-- PORT_ESMC_STATUS.rx_ql -/
abbrev PORT_ESMC_STATUS_rx_ql : Fld := ⟨.PORT_ESMC_STATUS, 7, 4⟩
/-- PORT_ESMC_STATUS.rx_failed -/
abbrev PORT_ESMC_STATUS_rx_failed : Fld := ⟨.PORT_ESMC_STATUS, 1, 1⟩
/-- PORT_ESMC_STATUS.rx_valid -/
abbrev PORT_ESMC_STATUS_rx_valid : Fld := ⟨.PORT_ESMC_STATUS, 0, 0⟩
/-- PORT_MAC_LO.value -/
abbrev PORT_MAC_LO_value : Fld := ⟨.PORT_MAC_LO, 31, 0⟩
/-- PORT_MAC_HI.value -/
abbrev PORT_MAC_HI_value : Fld := ⟨.PORT_MAC_HI, 15, 0⟩
/-- PORT_DLY_CFG.ring -/
abbrev PORT_DLY_CFG_ring : Fld := ⟨.PORT_DLY_CFG, 21, 16⟩
/-- PORT_DLY_CFG.interval -/
abbrev PORT_DLY_CFG_interval : Fld := ⟨.PORT_DLY_CFG, 11, 0⟩
/-- PORT_DLY_BUF_LO.value -/
abbrev PORT_DLY_BUF_LO_value : Fld := ⟨.PORT_DLY_BUF_LO, 31, 0⟩
/-- PORT_DLY_BUF_HI.value -/
abbrev PORT_DLY_BUF_HI_value : Fld := ⟨.PORT_DLY_BUF_HI, 31, 0⟩
/-- PORT_DLY_BUF_CFG.size_exp -/
abbrev PORT_DLY_BUF_CFG_size_exp : Fld := ⟨.PORT_DLY_BUF_CFG, 4, 0⟩
/-- PORT_DLY_WIDX.value -/
abbrev PORT_DLY_WIDX_value : Fld := ⟨.PORT_DLY_WIDX, 31, 0⟩
/-- PORT_DLY_RIDX.value -/
abbrev PORT_DLY_RIDX_value : Fld := ⟨.PORT_DLY_RIDX, 31, 0⟩
/-- PORT_DLY_LOST.value -/
abbrev PORT_DLY_LOST_value : Fld := ⟨.PORT_DLY_LOST, 31, 0⟩
/-- PORT_CNT_LO.value -/
abbrev PORT_CNT_LO_value : Fld := ⟨.PORT_CNT_LO, 31, 0⟩
/-- PORT_CNT_HI.value -/
abbrev PORT_CNT_HI_value : Fld := ⟨.PORT_CNT_HI, 31, 0⟩
/-- PTP_ORG_ID.value -/
abbrev PTP_ORG_ID_value : Fld := ⟨.PTP_ORG_ID, 23, 0⟩
/-- PTP_UNI_USED.value -/
abbrev PTP_UNI_USED_value : Fld := ⟨.PTP_UNI_USED, 16, 0⟩
/-- PTP_PORT_BUDGET.kpps -/
abbrev PTP_PORT_BUDGET_kpps : Fld := ⟨.PTP_PORT_BUDGET, 13, 0⟩
/-- TSE_IP4.value -/
abbrev TSE_IP4_value : Fld := ⟨.TSE_IP4, 31, 0⟩
/-- TSE_IP6.value -/
abbrev TSE_IP6_value : Fld := ⟨.TSE_IP6, 31, 0⟩
/-- PTP_INST_CFG.enable -/
abbrev PTP_INST_CFG_enable : Fld := ⟨.PTP_INST_CFG, 31, 31⟩
/-- PTP_INST_CFG.profile -/
abbrev PTP_INST_CFG_profile : Fld := ⟨.PTP_INST_CFG, 30, 28⟩
/-- PTP_INST_CFG.role -/
abbrev PTP_INST_CFG_role : Fld := ⟨.PTP_INST_CFG, 27, 26⟩
/-- PTP_INST_CFG.one_step -/
abbrev PTP_INST_CFG_one_step : Fld := ⟨.PTP_INST_CFG, 25, 25⟩
/-- PTP_INST_CFG.unicast -/
abbrev PTP_INST_CFG_unicast : Fld := ⟨.PTP_INST_CFG, 24, 24⟩
/-- PTP_INST_CFG.transport -/
abbrev PTP_INST_CFG_transport : Fld := ⟨.PTP_INST_CFG, 23, 22⟩
/-- PTP_INST_CFG.l2_addr -/
abbrev PTP_INST_CFG_l2_addr : Fld := ⟨.PTP_INST_CFG, 21, 21⟩
/-- PTP_INST_CFG.auth_en -/
abbrev PTP_INST_CFG_auth_en : Fld := ⟨.PTP_INST_CFG, 20, 20⟩
/-- PTP_INST_CFG.ports -/
abbrev PTP_INST_CFG_ports : Fld := ⟨.PTP_INST_CFG, 19, 16⟩
/-- PTP_INST_CFG.ts -/
abbrev PTP_INST_CFG_ts : Fld := ⟨.PTP_INST_CFG, 15, 14⟩
/-- PTP_INST_CFG.alt_ts -/
abbrev PTP_INST_CFG_alt_ts : Fld := ⟨.PTP_INST_CFG, 13, 12⟩
/-- PTP_INST_CFG.alt_grade -/
abbrev PTP_INST_CFG_alt_grade : Fld := ⟨.PTP_INST_CFG, 11, 9⟩
/-- PTP_INST_CFG.arb -/
abbrev PTP_INST_CFG_arb : Fld := ⟨.PTP_INST_CFG, 8, 8⟩
/-- PTP_INST_CFG.delay_filt -/
abbrev PTP_INST_CFG_delay_filt : Fld := ⟨.PTP_INST_CFG, 7, 5⟩
/-- PTP_INST_CFG.claim_filter -/
abbrev PTP_INST_CFG_claim_filter : Fld := ⟨.PTP_INST_CFG, 4, 4⟩
/-- PTP_INST_DOM.domain -/
abbrev PTP_INST_DOM_domain : Fld := ⟨.PTP_INST_DOM, 31, 24⟩
/-- PTP_INST_DOM.priority1 -/
abbrev PTP_INST_DOM_priority1 : Fld := ⟨.PTP_INST_DOM, 23, 16⟩
/-- PTP_INST_DOM.priority2 -/
abbrev PTP_INST_DOM_priority2 : Fld := ⟨.PTP_INST_DOM, 15, 8⟩
/-- PTP_INST_DOM.local_priority -/
abbrev PTP_INST_DOM_local_priority : Fld := ⟨.PTP_INST_DOM, 7, 0⟩
/-- PTP_INST_INTV.log_announce -/
abbrev PTP_INST_INTV_log_announce : Fld := ⟨.PTP_INST_INTV, 31, 24⟩
/-- PTP_INST_INTV.log_sync -/
abbrev PTP_INST_INTV_log_sync : Fld := ⟨.PTP_INST_INTV, 23, 16⟩
/-- PTP_INST_INTV.log_delay -/
abbrev PTP_INST_INTV_log_delay : Fld := ⟨.PTP_INST_INTV, 15, 8⟩
/-- PTP_INST_INTV.receipt_timeout -/
abbrev PTP_INST_INTV_receipt_timeout : Fld := ⟨.PTP_INST_INTV, 7, 4⟩
/-- PTP_INST_ID_LO.value -/
abbrev PTP_INST_ID_LO_value : Fld := ⟨.PTP_INST_ID_LO, 31, 0⟩
/-- PTP_INST_ID_HI.value -/
abbrev PTP_INST_ID_HI_value : Fld := ⟨.PTP_INST_ID_HI, 31, 0⟩
/-- PTP_INST_QUAL.variance -/
abbrev PTP_INST_QUAL_variance : Fld := ⟨.PTP_INST_QUAL, 31, 16⟩
/-- PTP_INST_QUAL.acc_floor -/
abbrev PTP_INST_QUAL_acc_floor : Fld := ⟨.PTP_INST_QUAL, 15, 8⟩
/-- PTP_INST_QUAL.class_floor -/
abbrev PTP_INST_QUAL_class_floor : Fld := ⟨.PTP_INST_QUAL, 7, 0⟩
/-- PTP_INST_UNI.min_log_sync -/
abbrev PTP_INST_UNI_min_log_sync : Fld := ⟨.PTP_INST_UNI, 31, 24⟩
/-- PTP_INST_UNI.min_log_announce -/
abbrev PTP_INST_UNI_min_log_announce : Fld := ⟨.PTP_INST_UNI, 23, 16⟩
/-- PTP_INST_UNI.max_duration -/
abbrev PTP_INST_UNI_max_duration : Fld := ⟨.PTP_INST_UNI, 15, 0⟩
/-- PTP_INST_ASYM.value -/
abbrev PTP_INST_ASYM_value : Fld := ⟨.PTP_INST_ASYM, 31, 0⟩
/-- PTP_INST_ASYM_UNC.value -/
abbrev PTP_INST_ASYM_UNC_value : Fld := ⟨.PTP_INST_ASYM_UNC, 31, 0⟩
/-- PTP_INST_AUTH.required -/
abbrev PTP_INST_AUTH_required : Fld := ⟨.PTP_INST_AUTH, 31, 31⟩
/-- PTP_INST_AUTH.active -/
abbrev PTP_INST_AUTH_active : Fld := ⟨.PTP_INST_AUTH, 30, 30⟩
/-- PTP_INST_AUTH.key_id1 -/
abbrev PTP_INST_AUTH_key_id1 : Fld := ⟨.PTP_INST_AUTH, 23, 16⟩
/-- PTP_INST_AUTH.key_id0 -/
abbrev PTP_INST_AUTH_key_id0 : Fld := ⟨.PTP_INST_AUTH, 15, 8⟩
/-- PTP_INST_AUTH.spp -/
abbrev PTP_INST_AUTH_spp : Fld := ⟨.PTP_INST_AUTH, 7, 0⟩
/-- PTP_INST_KEY0.handle -/
abbrev PTP_INST_KEY0_handle : Fld := ⟨.PTP_INST_KEY0, 31, 0⟩
/-- PTP_INST_KEY1.handle -/
abbrev PTP_INST_KEY1_handle : Fld := ⟨.PTP_INST_KEY1, 31, 0⟩
/-- PTP_INST_STATUS.clock_class -/
abbrev PTP_INST_STATUS_clock_class : Fld := ⟨.PTP_INST_STATUS, 31, 24⟩
/-- PTP_INST_STATUS.clock_accuracy -/
abbrev PTP_INST_STATUS_clock_accuracy : Fld := ⟨.PTP_INST_STATUS, 23, 16⟩
/-- PTP_INST_STATUS.port_state -/
abbrev PTP_INST_STATUS_port_state : Fld := ⟨.PTP_INST_STATUS, 15, 0⟩
/-- PTP_INST_INFO.cfg_err -/
abbrev PTP_INST_INFO_cfg_err : Fld := ⟨.PTP_INST_INFO, 31, 24⟩
/-- PTP_INST_INFO.steps_removed -/
abbrev PTP_INST_INFO_steps_removed : Fld := ⟨.PTP_INST_INFO, 23, 16⟩
/-- PTP_INST_INFO.l1sync -/
abbrev PTP_INST_INFO_l1sync : Fld := ⟨.PTP_INST_INFO, 15, 13⟩
/-- PTP_INST_INFO.alt_spliced -/
abbrev PTP_INST_INFO_alt_spliced : Fld := ⟨.PTP_INST_INFO, 0, 0⟩
/-- PTP_INST_MPD.value -/
abbrev PTP_INST_MPD_value : Fld := ⟨.PTP_INST_MPD, 31, 0⟩
/-- PTP_INST_OFS.value -/
abbrev PTP_INST_OFS_value : Fld := ⟨.PTP_INST_OFS, 31, 0⟩
/-- PTP_AUTH_FAIL.value -/
abbrev PTP_AUTH_FAIL_value : Fld := ⟨.PTP_AUTH_FAIL, 31, 0⟩
/-- PTP_SYNC_SKIP.value -/
abbrev PTP_SYNC_SKIP_value : Fld := ⟨.PTP_SYNC_SKIP, 31, 0⟩
/-- PTP_REQ_DROP.value -/
abbrev PTP_REQ_DROP_value : Fld := ⟨.PTP_REQ_DROP, 31, 0⟩
/-- PTP_GRANT_DENY.value -/
abbrev PTP_GRANT_DENY_value : Fld := ⟨.PTP_GRANT_DENY, 31, 0⟩
/-- PTP_CLAIM_REJ.value -/
abbrev PTP_CLAIM_REJ_value : Fld := ⟨.PTP_CLAIM_REJ, 31, 0⟩
/-- NTP_RL_CFG.enable -/
abbrev NTP_RL_CFG_enable : Fld := ⟨.NTP_RL_CFG, 31, 31⟩
/-- NTP_RL_CFG.nts_cost -/
abbrev NTP_RL_CFG_nts_cost : Fld := ⟨.NTP_RL_CFG, 27, 24⟩
/-- NTP_RL_CFG.prefix6 -/
abbrev NTP_RL_CFG_prefix6 : Fld := ⟨.NTP_RL_CFG, 23, 16⟩
/-- NTP_RL_CFG.prefix4 -/
abbrev NTP_RL_CFG_prefix4 : Fld := ⟨.NTP_RL_CFG, 5, 0⟩
/-- NTP_RL_RATE.burst -/
abbrev NTP_RL_RATE_burst : Fld := ⟨.NTP_RL_RATE, 31, 16⟩
/-- NTP_RL_RATE.rate -/
abbrev NTP_RL_RATE_rate : Fld := ⟨.NTP_RL_RATE, 15, 0⟩
/-- NTS_COOKIE_ROOT.value -/
abbrev NTS_COOKIE_ROOT_value : Fld := ⟨.NTS_COOKIE_ROOT, 31, 0⟩
/-- NTS_ROT.period -/
abbrev NTS_ROT_period : Fld := ⟨.NTS_ROT, 19, 0⟩
/-- NTS_EPOCH.value -/
abbrev NTS_EPOCH_value : Fld := ⟨.NTS_EPOCH, 31, 0⟩
/-- NTS_STATUS.ts0_valid -/
abbrev NTS_STATUS_ts0_valid : Fld := ⟨.NTS_STATUS, 2, 2⟩
/-- NTS_STATUS.root_revoked -/
abbrev NTS_STATUS_root_revoked : Fld := ⟨.NTS_STATUS, 1, 1⟩
/-- NTS_STATUS.root_valid -/
abbrev NTS_STATUS_root_valid : Fld := ⟨.NTS_STATUS, 0, 0⟩
/-- NTS_LAUNCH.margin -/
abbrev NTS_LAUNCH_margin : Fld := ⟨.NTS_LAUNCH, 6, 0⟩
/-- NTS_MINTED.value -/
abbrev NTS_MINTED_value : Fld := ⟨.NTS_MINTED, 31, 0⟩
/-- NTP_INST_CFG.enable -/
abbrev NTP_INST_CFG_enable : Fld := ⟨.NTP_INST_CFG, 31, 31⟩
/-- NTP_INST_CFG.smear -/
abbrev NTP_INST_CFG_smear : Fld := ⟨.NTP_INST_CFG, 30, 30⟩
/-- NTP_INST_CFG.plain_en -/
abbrev NTP_INST_CFG_plain_en : Fld := ⟨.NTP_INST_CFG, 29, 29⟩
/-- NTP_INST_CFG.nts_en -/
abbrev NTP_INST_CFG_nts_en : Fld := ⟨.NTP_INST_CFG, 28, 28⟩
/-- NTP_INST_CFG.ip4 -/
abbrev NTP_INST_CFG_ip4 : Fld := ⟨.NTP_INST_CFG, 27, 27⟩
/-- NTP_INST_CFG.ip6 -/
abbrev NTP_INST_CFG_ip6 : Fld := ⟨.NTP_INST_CFG, 26, 26⟩
/-- NTP_INST_CFG.kod_en -/
abbrev NTP_INST_CFG_kod_en : Fld := ⟨.NTP_INST_CFG, 25, 25⟩
/-- NTP_INST_CFG.monitor -/
abbrev NTP_INST_CFG_monitor : Fld := ⟨.NTP_INST_CFG, 24, 24⟩
/-- NTP_INST_CFG.ports -/
abbrev NTP_INST_CFG_ports : Fld := ⟨.NTP_INST_CFG, 19, 16⟩
/-- NTP_INST_CFG.ts -/
abbrev NTP_INST_CFG_ts : Fld := ⟨.NTP_INST_CFG, 15, 14⟩
/-- NTP_INST_STATUS.cfg_err -/
abbrev NTP_INST_STATUS_cfg_err : Fld := ⟨.NTP_INST_STATUS, 31, 24⟩
/-- NTP_INST_STATUS.stratum -/
abbrev NTP_INST_STATUS_stratum : Fld := ⟨.NTP_INST_STATUS, 23, 16⟩
/-- NTP_INST_STATUS.li -/
abbrev NTP_INST_STATUS_li : Fld := ⟨.NTP_INST_STATUS, 15, 14⟩
/-- NTP_INST_STATUS.smearing -/
abbrev NTP_INST_STATUS_smearing : Fld := ⟨.NTP_INST_STATUS, 1, 1⟩
/-- NTP_RX.value -/
abbrev NTP_RX_value : Fld := ⟨.NTP_RX, 31, 0⟩
/-- NTS_RX.value -/
abbrev NTS_RX_value : Fld := ⟨.NTS_RX, 31, 0⟩
/-- NTP_KOD_SENT.value -/
abbrev NTP_KOD_SENT_value : Fld := ⟨.NTP_KOD_SENT, 31, 0⟩
/-- NTS_NAK_SENT.value -/
abbrev NTS_NAK_SENT_value : Fld := ⟨.NTS_NAK_SENT, 31, 0⟩
/-- NTS_AUTH_FAIL.value -/
abbrev NTS_AUTH_FAIL_value : Fld := ⟨.NTS_AUTH_FAIL, 31, 0⟩
/-- NTP_RL_DROP.value -/
abbrev NTP_RL_DROP_value : Fld := ⟨.NTP_RL_DROP, 31, 0⟩
/-- NTP_REQ_DROP.value -/
abbrev NTP_REQ_DROP_value : Fld := ⟨.NTP_REQ_DROP, 31, 0⟩
/-- NTS_REVOKE_DROP.value -/
abbrev NTS_REVOKE_DROP_value : Fld := ⟨.NTS_REVOKE_DROP, 31, 0⟩
/-- NTP_LAUNCH_DROP.value -/
abbrev NTP_LAUNCH_DROP_value : Fld := ⟨.NTP_LAUNCH_DROP, 31, 0⟩
/-- NTP_POLICY_DROP.value -/
abbrev NTP_POLICY_DROP_value : Fld := ⟨.NTP_POLICY_DROP, 31, 0⟩
/-- NTP_PEER_CFG.enable -/
abbrev NTP_PEER_CFG_enable : Fld := ⟨.NTP_PEER_CFG, 31, 31⟩
/-- NTP_PEER_CFG.family -/
abbrev NTP_PEER_CFG_family : Fld := ⟨.NTP_PEER_CFG, 30, 30⟩
/-- NTP_PEER_CFG.port -/
abbrev NTP_PEER_CFG_port : Fld := ⟨.NTP_PEER_CFG, 29, 28⟩
/-- NTP_PEER_CFG.poll -/
abbrev NTP_PEER_CFG_poll : Fld := ⟨.NTP_PEER_CFG, 3, 0⟩
/-- NTP_PEER_ADDR.value -/
abbrev NTP_PEER_ADDR_value : Fld := ⟨.NTP_PEER_ADDR, 31, 0⟩
/-- NTP_PEER_MAC_LO.value -/
abbrev NTP_PEER_MAC_LO_value : Fld := ⟨.NTP_PEER_MAC_LO, 31, 0⟩
/-- NTP_PEER_MAC_HI.value -/
abbrev NTP_PEER_MAC_HI_value : Fld := ⟨.NTP_PEER_MAC_HI, 15, 0⟩
/-- NTP_PEER_STATUS.stratum -/
abbrev NTP_PEER_STATUS_stratum : Fld := ⟨.NTP_PEER_STATUS, 31, 24⟩
/-- NTP_PEER_STATUS.li -/
abbrev NTP_PEER_STATUS_li : Fld := ⟨.NTP_PEER_STATUS, 23, 22⟩
/-- NTP_PEER_STATUS.kiss -/
abbrev NTP_PEER_STATUS_kiss : Fld := ⟨.NTP_PEER_STATUS, 21, 20⟩
/-- NTP_PEER_STATUS.poll -/
abbrev NTP_PEER_STATUS_poll : Fld := ⟨.NTP_PEER_STATUS, 19, 16⟩
/-- NTP_PEER_STATUS.reachable -/
abbrev NTP_PEER_STATUS_reachable : Fld := ⟨.NTP_PEER_STATUS, 0, 0⟩
/-- RAN_CFG.enable -/
abbrev RAN_CFG_enable : Fld := ⟨.RAN_CFG, 31, 31⟩
/-- RAN_CFG.auto_rejoin -/
abbrev RAN_CFG_auto_rejoin : Fld := ⟨.RAN_CFG, 30, 30⟩
/-- RAN_CFG.grade_take -/
abbrev RAN_CFG_grade_take : Fld := ⟨.RAN_CFG, 29, 29⟩
/-- RAN_CFG.grade_thr -/
abbrev RAN_CFG_grade_thr : Fld := ⟨.RAN_CFG, 28, 26⟩
/-- RAN_CFG.grade_hold -/
abbrev RAN_CFG_grade_hold : Fld := ⟨.RAN_CFG, 23, 16⟩
/-- RAN_CFG.align_tol -/
abbrev RAN_CFG_align_tol : Fld := ⟨.RAN_CFG, 15, 8⟩
/-- RAN_CFG.align_bw -/
abbrev RAN_CFG_align_bw : Fld := ⟨.RAN_CFG, 7, 4⟩
/-- RAN_CFG.join_wait -/
abbrev RAN_CFG_join_wait : Fld := ⟨.RAN_CFG, 3, 0⟩
/-- RAN_TMO.silence -/
abbrev RAN_TMO_silence : Fld := ⟨.RAN_TMO, 13, 0⟩
/-- RAN_STATUS.fence_cause -/
abbrev RAN_STATUS_fence_cause : Fld := ⟨.RAN_STATUS, 27, 24⟩
/-- RAN_STATUS.peer_role -/
abbrev RAN_STATUS_peer_role : Fld := ⟨.RAN_STATUS, 23, 22⟩
/-- RAN_STATUS.peer_fresh -/
abbrev RAN_STATUS_peer_fresh : Fld := ⟨.RAN_STATUS, 21, 21⟩
/-- RAN_STATUS.slot_clash -/
abbrev RAN_STATUS_slot_clash : Fld := ⟨.RAN_STATUS, 20, 20⟩
/-- RAN_STATUS.epoch_lost -/
abbrev RAN_STATUS_epoch_lost : Fld := ⟨.RAN_STATUS, 19, 19⟩
/-- RAN_STATUS.sheet_mismatch -/
abbrev RAN_STATUS_sheet_mismatch : Fld := ⟨.RAN_STATUS, 18, 18⟩
/-- RAN_STATUS.key_ok -/
abbrev RAN_STATUS_key_ok : Fld := ⟨.RAN_STATUS, 17, 17⟩
/-- RAN_STATUS.mirror_ok -/
abbrev RAN_STATUS_mirror_ok : Fld := ⟨.RAN_STATUS, 16, 16⟩
/-- RAN_STATUS.align_ok -/
abbrev RAN_STATUS_align_ok : Fld := ⟨.RAN_STATUS, 15, 15⟩
/-- RAN_STATUS.blocked -/
abbrev RAN_STATUS_blocked : Fld := ⟨.RAN_STATUS, 14, 14⟩
/-- RAN_STATUS.raised -/
abbrev RAN_STATUS_raised : Fld := ⟨.RAN_STATUS, 13, 13⟩
/-- RAN_STATUS.permission -/
abbrev RAN_STATUS_permission : Fld := ⟨.RAN_STATUS, 12, 12⟩
/-- RAN_STATUS.lead_out -/
abbrev RAN_STATUS_lead_out : Fld := ⟨.RAN_STATUS, 11, 11⟩
/-- RAN_STATUS.peer_lead -/
abbrev RAN_STATUS_peer_lead : Fld := ⟨.RAN_STATUS, 10, 10⟩
/-- RAN_STATUS.lanes_up -/
abbrev RAN_STATUS_lanes_up : Fld := ⟨.RAN_STATUS, 7, 4⟩
/-- RAN_STATUS.link -/
abbrev RAN_STATUS_link : Fld := ⟨.RAN_STATUS, 3, 2⟩
/-- RAN_STATUS.role -/
abbrev RAN_STATUS_role : Fld := ⟨.RAN_STATUS, 1, 0⟩
/-- RAN_CLAIM.value -/
abbrev RAN_CLAIM_value : Fld := ⟨.RAN_CLAIM, 31, 0⟩
/-- RAN_PEER_CLAIM.value -/
abbrev RAN_PEER_CLAIM_value : Fld := ⟨.RAN_PEER_CLAIM, 31, 0⟩
/-- RAN_EPOCH_MAX.value -/
abbrev RAN_EPOCH_MAX_value : Fld := ⟨.RAN_EPOCH_MAX, 30, 0⟩
/-- RAN_ASYM.value -/
abbrev RAN_ASYM_value : Fld := ⟨.RAN_ASYM, 31, 0⟩
/-- RAN_ASYM_UNC.value -/
abbrev RAN_ASYM_UNC_value : Fld := ⟨.RAN_ASYM_UNC, 31, 0⟩
/-- RAN_OFS.value -/
abbrev RAN_OFS_value : Fld := ⟨.RAN_OFS, 31, 0⟩
/-- RAN_DELAY.value -/
abbrev RAN_DELAY_value : Fld := ⟨.RAN_DELAY, 31, 0⟩
/-- RAN_SIGMA.value -/
abbrev RAN_SIGMA_value : Fld := ⟨.RAN_SIGMA, 31, 0⟩
/-- RAN_EVENT.value -/
abbrev RAN_EVENT_value : Fld := ⟨.RAN_EVENT, 31, 0⟩
/-- RAN_TAKES.takes -/
abbrev RAN_TAKES_takes : Fld := ⟨.RAN_TAKES, 15, 0⟩
/-- RAN_TAKES.fences -/
abbrev RAN_TAKES_fences : Fld := ⟨.RAN_TAKES, 31, 16⟩
/-- RAN_FRAME_ERR.crc -/
abbrev RAN_FRAME_ERR_crc : Fld := ⟨.RAN_FRAME_ERR, 15, 0⟩
/-- RAN_FRAME_ERR.other -/
abbrev RAN_FRAME_ERR_other : Fld := ⟨.RAN_FRAME_ERR, 31, 16⟩
/-- RAN_SHADOW_OFS.value -/
abbrev RAN_SHADOW_OFS_value : Fld := ⟨.RAN_SHADOW_OFS, 31, 0⟩
/-- RAN_SHADOW_BND.value -/
abbrev RAN_SHADOW_BND_value : Fld := ⟨.RAN_SHADOW_BND, 31, 0⟩
/-- HOST_STATUS.width -/
abbrev HOST_STATUS_width : Fld := ⟨.HOST_STATUS, 11, 8⟩
/-- HOST_STATUS.speed -/
abbrev HOST_STATUS_speed : Fld := ⟨.HOST_STATUS, 7, 4⟩
/-- HOST_STATUS.bus_master -/
abbrev HOST_STATUS_bus_master : Fld := ⟨.HOST_STATUS, 1, 1⟩
/-- HOST_STATUS.link_up -/
abbrev HOST_STATUS_link_up : Fld := ⟨.HOST_STATUS, 0, 0⟩
/-- HOST_DB_LO.value -/
abbrev HOST_DB_LO_value : Fld := ⟨.HOST_DB_LO, 31, 0⟩
/-- HOST_DB_HI.value -/
abbrev HOST_DB_HI_value : Fld := ⟨.HOST_DB_HI, 31, 0⟩
/-- HOST_POLL_CFG.max -/
abbrev HOST_POLL_CFG_max : Fld := ⟨.HOST_POLL_CFG, 23, 8⟩
/-- HOST_POLL_CFG.min -/
abbrev HOST_POLL_CFG_min : Fld := ⟨.HOST_POLL_CFG, 7, 0⟩
/-- HOST_NUDGE.value -/
abbrev HOST_NUDGE_value : Fld := ⟨.HOST_NUDGE, 31, 0⟩
/-- HOST_POLL_STATUS.interval -/
abbrev HOST_POLL_STATUS_interval : Fld := ⟨.HOST_POLL_STATUS, 15, 0⟩
/-- HOST_EVT_CFG.enable -/
abbrev HOST_EVT_CFG_enable : Fld := ⟨.HOST_EVT_CFG, 31, 31⟩
/-- HOST_EVT_CFG.ring -/
abbrev HOST_EVT_CFG_ring : Fld := ⟨.HOST_EVT_CFG, 5, 0⟩
/-- HOST_EVT_LOST.value -/
abbrev HOST_EVT_LOST_value : Fld := ⟨.HOST_EVT_LOST, 31, 0⟩
/-- HOST_RX_STARVE.wait -/
abbrev HOST_RX_STARVE_wait : Fld := ⟨.HOST_RX_STARVE, 9, 0⟩
/-- HOST_DMA_ERR.value -/
abbrev HOST_DMA_ERR_value : Fld := ⟨.HOST_DMA_ERR, 31, 0⟩
/-- HOST_RXSTEER.link -/
abbrev HOST_RXSTEER_link : Fld := ⟨.HOST_RXSTEER, 29, 24⟩
/-- HOST_RXSTEER.ntp -/
abbrev HOST_RXSTEER_ntp : Fld := ⟨.HOST_RXSTEER, 21, 16⟩
/-- HOST_RXSTEER.ptp -/
abbrev HOST_RXSTEER_ptp : Fld := ⟨.HOST_RXSTEER, 13, 8⟩
/-- HOST_RXSTEER.dflt -/
abbrev HOST_RXSTEER_dflt : Fld := ⟨.HOST_RXSTEER, 5, 0⟩
/-- HOST_RX_NORING.value -/
abbrev HOST_RX_NORING_value : Fld := ⟨.HOST_RX_NORING, 31, 0⟩
/-- HOST_STAGE_DROP.value -/
abbrev HOST_STAGE_DROP_value : Fld := ⟨.HOST_STAGE_DROP, 31, 0⟩
/-- HOST_RING_CFG.enable -/
abbrev HOST_RING_CFG_enable : Fld := ⟨.HOST_RING_CFG, 31, 31⟩
/-- HOST_RING_CFG.type -/
abbrev HOST_RING_CFG_type : Fld := ⟨.HOST_RING_CFG, 30, 29⟩
/-- HOST_RING_CFG.size_exp -/
abbrev HOST_RING_CFG_size_exp : Fld := ⟨.HOST_RING_CFG, 28, 24⟩
/-- HOST_RING_CFG.cpl_ring -/
abbrev HOST_RING_CFG_cpl_ring : Fld := ⟨.HOST_RING_CFG, 21, 16⟩
/-- HOST_RING_CFG.port -/
abbrev HOST_RING_CFG_port : Fld := ⟨.HOST_RING_CFG, 13, 12⟩
/-- HOST_RING_CFG.tx_offload -/
abbrev HOST_RING_CFG_tx_offload : Fld := ⟨.HOST_RING_CFG, 9, 8⟩
/-- HOST_RING_BASE_LO.value -/
abbrev HOST_RING_BASE_LO_value : Fld := ⟨.HOST_RING_BASE_LO, 31, 0⟩
/-- HOST_RING_BASE_HI.value -/
abbrev HOST_RING_BASE_HI_value : Fld := ⟨.HOST_RING_BASE_HI, 31, 0⟩
/-- HOST_RING_IRQ.irq_en -/
abbrev HOST_RING_IRQ_irq_en : Fld := ⟨.HOST_RING_IRQ, 31, 31⟩
/-- HOST_RING_IRQ.vector -/
abbrev HOST_RING_IRQ_vector : Fld := ⟨.HOST_RING_IRQ, 29, 24⟩
/-- HOST_RING_IRQ.count -/
abbrev HOST_RING_IRQ_count : Fld := ⟨.HOST_RING_IRQ, 23, 16⟩
/-- HOST_RING_IRQ.time -/
abbrev HOST_RING_IRQ_time : Fld := ⟨.HOST_RING_IRQ, 9, 0⟩
/-- HOST_RING_HEAD.index -/
abbrev HOST_RING_HEAD_index : Fld := ⟨.HOST_RING_HEAD, 15, 0⟩
/-- HOST_RING_HEAD.phase -/
abbrev HOST_RING_HEAD_phase : Fld := ⟨.HOST_RING_HEAD, 16, 16⟩
/-- HOST_RING_STATUS.err -/
abbrev HOST_RING_STATUS_err : Fld := ⟨.HOST_RING_STATUS, 15, 8⟩
/-- HOST_RING_STATUS.armed -/
abbrev HOST_RING_STATUS_armed : Fld := ⟨.HOST_RING_STATUS, 3, 3⟩
/-- HOST_RING_STATUS.state -/
abbrev HOST_RING_STATUS_state : Fld := ⟨.HOST_RING_STATUS, 2, 0⟩
/-- HOST_RING_DROP.value -/
abbrev HOST_RING_DROP_value : Fld := ⟨.HOST_RING_DROP, 31, 0⟩
/-- CSHT_CFG.warn -/
abbrev CSHT_CFG_warn : Fld := ⟨.CSHT_CFG, 23, 16⟩
/-- CSHT_CFG.confirm_def -/
abbrev CSHT_CFG_confirm_def : Fld := ⟨.CSHT_CFG, 15, 0⟩
/-- CSHT_POLICY.device_bind -/
abbrev CSHT_POLICY_device_bind : Fld := ⟨.CSHT_POLICY, 1, 1⟩
/-- CSHT_POLICY.sign_required -/
abbrev CSHT_POLICY_sign_required : Fld := ⟨.CSHT_POLICY, 0, 0⟩
/-- CSHT_STATUS.remaining -/
abbrev CSHT_STATUS_remaining : Fld := ⟨.CSHT_STATUS, 31, 16⟩
/-- CSHT_STATUS.revert_cause -/
abbrev CSHT_STATUS_revert_cause : Fld := ⟨.CSHT_STATUS, 15, 12⟩
/-- CSHT_STATUS.undo_valid -/
abbrev CSHT_STATUS_undo_valid : Fld := ⟨.CSHT_STATUS, 8, 8⟩
/-- CSHT_STATUS.prev_valid -/
abbrev CSHT_STATUS_prev_valid : Fld := ⟨.CSHT_STATUS, 7, 7⟩
/-- CSHT_STATUS.staged_valid -/
abbrev CSHT_STATUS_staged_valid : Fld := ⟨.CSHT_STATUS, 6, 6⟩
/-- CSHT_STATUS.fcal_bad -/
abbrev CSHT_STATUS_fcal_bad : Fld := ⟨.CSHT_STATUS, 5, 5⟩
/-- CSHT_STATUS.ucal_dirty -/
abbrev CSHT_STATUS_ucal_dirty : Fld := ⟨.CSHT_STATUS, 4, 4⟩
/-- CSHT_STATUS.partial -/
abbrev CSHT_STATUS_partial : Fld := ⟨.CSHT_STATUS, 3, 3⟩
/-- CSHT_STATUS.restart_pending -/
abbrev CSHT_STATUS_restart_pending : Fld := ⟨.CSHT_STATUS, 2, 2⟩
/-- CSHT_STATUS.applying -/
abbrev CSHT_STATUS_applying : Fld := ⟨.CSHT_STATUS, 1, 1⟩
/-- CSHT_STATUS.confirm_pending -/
abbrev CSHT_STATUS_confirm_pending : Fld := ⟨.CSHT_STATUS, 0, 0⟩
/-- CSHT_ACTIVE_VER.value -/
abbrev CSHT_ACTIVE_VER_value : Fld := ⟨.CSHT_ACTIVE_VER, 31, 0⟩
/-- CSHT_PREV_VER.value -/
abbrev CSHT_PREV_VER_value : Fld := ⟨.CSHT_PREV_VER, 31, 0⟩
/-- CSHT_STAGED_VER.value -/
abbrev CSHT_STAGED_VER_value : Fld := ⟨.CSHT_STAGED_VER, 31, 0⟩
/-- CSHT_UCAL_VER.value -/
abbrev CSHT_UCAL_VER_value : Fld := ⟨.CSHT_UCAL_VER, 31, 0⟩
/-- CSHT_REFUSED.value -/
abbrev CSHT_REFUSED_value : Fld := ⟨.CSHT_REFUSED, 31, 0⟩
/-- CSHT_CLAMPED.value -/
abbrev CSHT_CLAMPED_value : Fld := ⟨.CSHT_CLAMPED, 31, 0⟩
/-- STV_STATUS.nodes -/
abbrev STV_STATUS_nodes : Fld := ⟨.STV_STATUS, 26, 16⟩
/-- STV_STATUS.challenge_locked -/
abbrev STV_STATUS_challenge_locked : Fld := ⟨.STV_STATUS, 6, 6⟩
/-- STV_STATUS.trng_ok -/
abbrev STV_STATUS_trng_ok : Fld := ⟨.STV_STATUS, 5, 5⟩
/-- STV_STATUS.negative_valid -/
abbrev STV_STATUS_negative_valid : Fld := ⟨.STV_STATUS, 4, 4⟩
/-- STV_STATUS.negative_new -/
abbrev STV_STATUS_negative_new : Fld := ⟨.STV_STATUS, 3, 3⟩
/-- STV_STATUS.tampered -/
abbrev STV_STATUS_tampered : Fld := ⟨.STV_STATUS, 2, 2⟩
/-- STV_STATUS.store_open -/
abbrev STV_STATUS_store_open : Fld := ⟨.STV_STATUS, 1, 1⟩
/-- STV_TAMP_CFG.policy -/
abbrev STV_TAMP_CFG_policy : Fld := ⟨.STV_TAMP_CFG, 31, 31⟩
/-- STV_TAMP_CFG.sw_pol -/
abbrev STV_TAMP_CFG_sw_pol : Fld := ⟨.STV_TAMP_CFG, 19, 16⟩
/-- STV_TAMP_CFG.enable -/
abbrev STV_TAMP_CFG_enable : Fld := ⟨.STV_TAMP_CFG, 9, 0⟩
/-- STV_TAMP_STATUS.raw -/
abbrev STV_TAMP_STATUS_raw : Fld := ⟨.STV_TAMP_STATUS, 25, 16⟩
/-- STV_TAMP_STATUS.latched -/
abbrev STV_TAMP_STATUS_latched : Fld := ⟨.STV_TAMP_STATUS, 9, 0⟩
/-- STV_PAIR_KEY.value -/
abbrev STV_PAIR_KEY_value : Fld := ⟨.STV_PAIR_KEY, 31, 0⟩
/-- STV_REVOKE_DROP.value -/
abbrev STV_REVOKE_DROP_value : Fld := ⟨.STV_REVOKE_DROP, 31, 0⟩
/-- STV_TRNG_FAIL.value -/
abbrev STV_TRNG_FAIL_value : Fld := ⟨.STV_TRNG_FAIL, 31, 0⟩
/-- STV_ROLLBACK.counter -/
abbrev STV_ROLLBACK_counter : Fld := ⟨.STV_ROLLBACK, 6, 0⟩
/-- LC_STATE.state -/
abbrev LC_STATE_state : Fld := ⟨.LC_STATE, 2, 0⟩
/-- LC_UNLOCK.raw_perf -/
abbrev LC_UNLOCK_raw_perf : Fld := ⟨.LC_UNLOCK, 2, 2⟩
/-- LC_UNLOCK.full_bist -/
abbrev LC_UNLOCK_full_bist : Fld := ⟨.LC_UNLOCK, 1, 1⟩
/-- LC_UNLOCK.jtag -/
abbrev LC_UNLOCK_jtag : Fld := ⟨.LC_UNLOCK, 0, 0⟩
/-- LC_OWNER_HASH.value -/
abbrev LC_OWNER_HASH_value : Fld := ⟨.LC_OWNER_HASH, 31, 0⟩
/-- GOV_STATUS.raises -/
abbrev GOV_STATUS_raises : Fld := ⟨.GOV_STATUS, 13, 8⟩
/-- GOV_STATUS.floor_bad -/
abbrev GOV_STATUS_floor_bad : Fld := ⟨.GOV_STATUS, 1, 1⟩
/-- GOV_STATUS.sealed_floors -/
abbrev GOV_STATUS_sealed_floors : Fld := ⟨.GOV_STATUS, 0, 0⟩
/-- GOV_VIOLATION.value -/
abbrev GOV_VIOLATION_value : Fld := ⟨.GOV_VIOLATION, 31, 0⟩
/-- GOV_DENIED.value -/
abbrev GOV_DENIED_value : Fld := ⟨.GOV_DENIED, 31, 0⟩
/-- GOV_PERMIT_CFG.life -/
abbrev GOV_PERMIT_CFG_life : Fld := ⟨.GOV_PERMIT_CFG, 11, 0⟩
/-- GOV_TS_SLEW.value -/
abbrev GOV_TS_SLEW_value : Fld := ⟨.GOV_TS_SLEW, 25, 0⟩
/-- GOV_TS_FREQ.value -/
abbrev GOV_TS_FREQ_value : Fld := ⟨.GOV_TS_FREQ, 19, 0⟩
/-- GOV_TS_BFLOOR.value -/
abbrev GOV_TS_BFLOOR_value : Fld := ⟨.GOV_TS_BFLOOR, 31, 0⟩
/-- GOV_TS_CFG.step_allow -/
abbrev GOV_TS_CFG_step_allow : Fld := ⟨.GOV_TS_CFG, 0, 0⟩
/-- GOV_HOLD_Y0.value -/
abbrev GOV_HOLD_Y0_value : Fld := ⟨.GOV_HOLD_Y0, 23, 0⟩
/-- GOV_HOLD_DRIFT.value -/
abbrev GOV_HOLD_DRIFT_value : Fld := ⟨.GOV_HOLD_DRIFT, 23, 0⟩
/-- GOV_HOLD_TEMPCO.value -/
abbrev GOV_HOLD_TEMPCO_value : Fld := ⟨.GOV_HOLD_TEMPCO, 23, 0⟩
/-- GOV_PORT_TXCAP.value -/
abbrev GOV_PORT_TXCAP_value : Fld := ⟨.GOV_PORT_TXCAP, 14, 0⟩
/-- GOV_CUE_OPEN.value -/
abbrev GOV_CUE_OPEN_value : Fld := ⟨.GOV_CUE_OPEN, 29, 0⟩
/-- GOV_CUE_CLOSE.value -/
abbrev GOV_CUE_CLOSE_value : Fld := ⟨.GOV_CUE_CLOSE, 29, 0⟩
/-- PERF_CTRL.ring -/
abbrev PERF_CTRL_ring : Fld := ⟨.PERF_CTRL, 13, 8⟩
/-- PERF_CTRL.enable -/
abbrev PERF_CTRL_enable : Fld := ⟨.PERF_CTRL, 0, 0⟩
/-- PERF_OVF_LO.value -/
abbrev PERF_OVF_LO_value : Fld := ⟨.PERF_OVF_LO, 31, 0⟩
/-- PERF_OVF_HI.value -/
abbrev PERF_OVF_HI_value : Fld := ⟨.PERF_OVF_HI, 15, 0⟩
/-- PERF_SAMPLE_CFG.cores -/
abbrev PERF_SAMPLE_CFG_cores : Fld := ⟨.PERF_SAMPLE_CFG, 31, 28⟩
/-- PERF_SAMPLE_CFG.period -/
abbrev PERF_SAMPLE_CFG_period : Fld := ⟨.PERF_SAMPLE_CFG, 19, 0⟩
/-- PERF_SAMPLE_CLASS.mask -/
abbrev PERF_SAMPLE_CLASS_mask : Fld := ⟨.PERF_SAMPLE_CLASS, 9, 0⟩
/-- PERF_SAMPLE_LOST.value -/
abbrev PERF_SAMPLE_LOST_value : Fld := ⟨.PERF_SAMPLE_LOST, 31, 0⟩
/-- PERF_SEL.enable -/
abbrev PERF_SEL_enable : Fld := ⟨.PERF_SEL, 31, 31⟩
/-- PERF_SEL.user_rd -/
abbrev PERF_SEL_user_rd : Fld := ⟨.PERF_SEL, 30, 30⟩
/-- PERF_SEL.chain -/
abbrev PERF_SEL_chain : Fld := ⟨.PERF_SEL, 29, 29⟩
/-- PERF_SEL.ovf_evt -/
abbrev PERF_SEL_ovf_evt : Fld := ⟨.PERF_SEL, 28, 28⟩
/-- PERF_SEL.filter -/
abbrev PERF_SEL_filter : Fld := ⟨.PERF_SEL, 23, 16⟩
/-- PERF_SEL.event -/
abbrev PERF_SEL_event : Fld := ⟨.PERF_SEL, 15, 0⟩
/-- PERF_CNT_LO.value -/
abbrev PERF_CNT_LO_value : Fld := ⟨.PERF_CNT_LO, 31, 0⟩
/-- PERF_CNT_HI.value -/
abbrev PERF_CNT_HI_value : Fld := ⟨.PERF_CNT_HI, 15, 0⟩
/-- LOG_CFG.strm_en -/
abbrev LOG_CFG_strm_en : Fld := ⟨.LOG_CFG, 31, 31⟩
/-- LOG_CFG.strm_sev -/
abbrev LOG_CFG_strm_sev : Fld := ⟨.LOG_CFG, 26, 24⟩
/-- LOG_CFG.strm_ring -/
abbrev LOG_CFG_strm_ring : Fld := ⟨.LOG_CFG, 13, 8⟩
/-- LOG_STATUS.media_dead -/
abbrev LOG_STATUS_media_dead : Fld := ⟨.LOG_STATUS, 31, 31⟩
/-- LOG_STATUS.media_fault -/
abbrev LOG_STATUS_media_fault : Fld := ⟨.LOG_STATUS, 30, 30⟩
/-- LOG_STATUS.retired -/
abbrev LOG_STATUS_retired : Fld := ⟨.LOG_STATUS, 23, 16⟩
/-- LOG_STATUS.cells_in_service -/
abbrev LOG_STATUS_cells_in_service : Fld := ⟨.LOG_STATUS, 13, 0⟩
/-- LOG_SEQ.value -/
abbrev LOG_SEQ_value : Fld := ⟨.LOG_SEQ, 31, 0⟩
/-- LOG_DROP.value -/
abbrev LOG_DROP_value : Fld := ⟨.LOG_DROP, 31, 0⟩
/-- LOG_LW_VALID_LO.value -/
abbrev LOG_LW_VALID_LO_value : Fld := ⟨.LOG_LW_VALID_LO, 31, 0⟩
/-- LOG_LW_VALID_HI.value -/
abbrev LOG_LW_VALID_HI_value : Fld := ⟨.LOG_LW_VALID_HI, 31, 0⟩
/-- LOG_LW_DROP.value -/
abbrev LOG_LW_DROP_value : Fld := ⟨.LOG_LW_DROP, 31, 0⟩
/-- LOG_STRM_BUF_LO.value -/
abbrev LOG_STRM_BUF_LO_value : Fld := ⟨.LOG_STRM_BUF_LO, 31, 0⟩
/-- LOG_STRM_BUF_HI.value -/
abbrev LOG_STRM_BUF_HI_value : Fld := ⟨.LOG_STRM_BUF_HI, 31, 0⟩
/-- LOG_STRM_BUF_CFG.size_exp -/
abbrev LOG_STRM_BUF_CFG_size_exp : Fld := ⟨.LOG_STRM_BUF_CFG, 4, 0⟩
/-- LOG_STRM_WIDX.value -/
abbrev LOG_STRM_WIDX_value : Fld := ⟨.LOG_STRM_WIDX, 31, 0⟩
/-- LOG_STRM_RIDX.value -/
abbrev LOG_STRM_RIDX_value : Fld := ⟨.LOG_STRM_RIDX, 31, 0⟩
/-- LOG_STRM_LOST.value -/
abbrev LOG_STRM_LOST_value : Fld := ⟨.LOG_STRM_LOST, 31, 0⟩
/-- BIST_CFG.idle_en -/
abbrev BIST_CFG_idle_en : Fld := ⟨.BIST_CFG, 31, 31⟩
/-- BIST_CFG.force_post -/
abbrev BIST_CFG_force_post : Fld := ⟨.BIST_CFG, 30, 30⟩
/-- BIST_CFG.full -/
abbrev BIST_CFG_full : Fld := ⟨.BIST_CFG, 29, 29⟩
/-- BIST_CFG.budget -/
abbrev BIST_CFG_budget : Fld := ⟨.BIST_CFG, 27, 16⟩
/-- BIST_CFG.idle_int -/
abbrev BIST_CFG_idle_int : Fld := ⟨.BIST_CFG, 15, 8⟩
/-- BIST_CFG.slice -/
abbrev BIST_CFG_slice : Fld := ⟨.BIST_CFG, 4, 0⟩
/-- BIST_STATUS.summary_valid -/
abbrev BIST_STATUS_summary_valid : Fld := ⟨.BIST_STATUS, 31, 31⟩
/-- BIST_STATUS.brownout -/
abbrev BIST_STATUS_brownout : Fld := ⟨.BIST_STATUS, 30, 30⟩
/-- BIST_STATUS.tamper_since -/
abbrev BIST_STATUS_tamper_since : Fld := ⟨.BIST_STATUS, 29, 29⟩
/-- BIST_STATUS.post -/
abbrev BIST_STATUS_post : Fld := ⟨.BIST_STATUS, 28, 27⟩
/-- BIST_STATUS.age_h -/
abbrev BIST_STATUS_age_h : Fld := ⟨.BIST_STATUS, 15, 0⟩
/-- BIST_FAIL.fail -/
abbrev BIST_FAIL_fail : Fld := ⟨.BIST_FAIL, 15, 0⟩
/-- BIST_FAIL.not_run -/
abbrev BIST_FAIL_not_run : Fld := ⟨.BIST_FAIL, 31, 16⟩
/-- BIST_IDLE_RET.value -/
abbrev BIST_IDLE_RET_value : Fld := ⟨.BIST_IDLE_RET, 7, 0⟩
/-- BIST_RES.result -/
abbrev BIST_RES_result : Fld := ⟨.BIST_RES, 31, 30⟩
/-- BIST_RES.full_set -/
abbrev BIST_RES_full_set : Fld := ⟨.BIST_RES, 29, 29⟩
/-- BIST_RES.coverage -/
abbrev BIST_RES_coverage : Fld := ⟨.BIST_RES, 25, 16⟩
/-- BIST_RES.duration -/
abbrev BIST_RES_duration : Fld := ⟨.BIST_RES, 15, 0⟩
/-- PWR_RUN.cap -/
abbrev PWR_RUN_cap : Fld := ⟨.PWR_RUN, 31, 24⟩
/-- PWR_RUN.therm_step -/
abbrev PWR_RUN_therm_step : Fld := ⟨.PWR_RUN, 18, 16⟩
/-- PWR_RUN.profile -/
abbrev PWR_RUN_profile : Fld := ⟨.PWR_RUN, 10, 8⟩
/-- PWR_RUN.run_state -/
abbrev PWR_RUN_run_state : Fld := ⟨.PWR_RUN, 2, 0⟩
/-- PWR_CFG.therm_alert -/
abbrev PWR_CFG_therm_alert : Fld := ⟨.PWR_CFG, 9, 9⟩
/-- PWR_CFG.auto_run -/
abbrev PWR_CFG_auto_run : Fld := ⟨.PWR_CFG, 8, 8⟩
/-- PWR_CFG.boot_profile -/
abbrev PWR_CFG_boot_profile : Fld := ⟨.PWR_CFG, 2, 0⟩
/-- PWR_THERM.tj_max -/
abbrev PWR_THERM_tj_max : Fld := ⟨.PWR_THERM, 31, 16⟩
/-- PWR_THERM.tj -/
abbrev PWR_THERM_tj : Fld := ⟨.PWR_THERM, 15, 0⟩
/-- PWR_RAIL.brownouts -/
abbrev PWR_RAIL_brownouts : Fld := ⟨.PWR_RAIL, 31, 16⟩
/-- PWR_RAIL.vbat_ok -/
abbrev PWR_RAIL_vbat_ok : Fld := ⟨.PWR_RAIL, 6, 6⟩
/-- PWR_RAIL.in_range -/
abbrev PWR_RAIL_in_range : Fld := ⟨.PWR_RAIL, 5, 0⟩
/-- PWR_AVS_STATUS.set_mv -/
abbrev PWR_AVS_STATUS_set_mv : Fld := ⟨.PWR_AVS_STATUS, 31, 16⟩
/-- PWR_AVS_STATUS.vcore_mv -/
abbrev PWR_AVS_STATUS_vcore_mv : Fld := ⟨.PWR_AVS_STATUS, 15, 0⟩
/-- PWR_BOOT_OUT.value -/
abbrev PWR_BOOT_OUT_value : Fld := ⟨.PWR_BOOT_OUT, 31, 0⟩
/-- PWR_EVENT.t125 -/
abbrev PWR_EVENT_t125 : Fld := ⟨.PWR_EVENT, 3, 3⟩
/-- PWR_EVENT.brownout -/
abbrev PWR_EVENT_brownout : Fld := ⟨.PWR_EVENT, 2, 2⟩
/-- PWR_EVENT.safe -/
abbrev PWR_EVENT_safe : Fld := ⟨.PWR_EVENT, 1, 1⟩
/-- PWR_EVENT.step -/
abbrev PWR_EVENT_step : Fld := ⟨.PWR_EVENT, 0, 0⟩
/-- PWR_BOOT_TIME.value -/
abbrev PWR_BOOT_TIME_value : Fld := ⟨.PWR_BOOT_TIME, 15, 0⟩
/-- GLOBAL_IDENT.device_id -/
abbrev GLOBAL_IDENT_device_id : Fld := ⟨.GLOBAL_IDENT, 31, 16⟩
/-- GLOBAL_IDENT.vendor_id -/
abbrev GLOBAL_IDENT_vendor_id : Fld := ⟨.GLOBAL_IDENT, 15, 0⟩
/-- GLOBAL_VERSION.arch -/
abbrev GLOBAL_VERSION_arch : Fld := ⟨.GLOBAL_VERSION, 31, 24⟩
/-- GLOBAL_VERSION.member -/
abbrev GLOBAL_VERSION_member : Fld := ⟨.GLOBAL_VERSION, 23, 16⟩
/-- GLOBAL_VERSION.stepping -/
abbrev GLOBAL_VERSION_stepping : Fld := ⟨.GLOBAL_VERSION, 7, 0⟩
/-- GLOBAL_DEVID_LO.value -/
abbrev GLOBAL_DEVID_LO_value : Fld := ⟨.GLOBAL_DEVID_LO, 31, 0⟩
/-- GLOBAL_DEVID_HI.value -/
abbrev GLOBAL_DEVID_HI_value : Fld := ⟨.GLOBAL_DEVID_HI, 31, 0⟩
/-- GLOBAL_FW_VERSION.version -/
abbrev GLOBAL_FW_VERSION_version : Fld := ⟨.GLOBAL_FW_VERSION, 31, 0⟩
/-- GLOBAL_FW_STATE.trial -/
abbrev GLOBAL_FW_STATE_trial : Fld := ⟨.GLOBAL_FW_STATE, 1, 1⟩
/-- GLOBAL_FW_STATE.slot -/
abbrev GLOBAL_FW_STATE_slot : Fld := ⟨.GLOBAL_FW_STATE, 0, 0⟩
/-- GLOBAL_CAP_HOST.msix_vectors -/
abbrev GLOBAL_CAP_HOST_msix_vectors : Fld := ⟨.GLOBAL_CAP_HOST, 15, 8⟩
/-- GLOBAL_CAP_HOST.rings -/
abbrev GLOBAL_CAP_HOST_rings : Fld := ⟨.GLOBAL_CAP_HOST, 7, 0⟩
/-- GLOBAL_CAP_TIME.members -/
abbrev GLOBAL_CAP_TIME_members : Fld := ⟨.GLOBAL_CAP_TIME, 31, 24⟩
/-- GLOBAL_CAP_TIME.ref_slots -/
abbrev GLOBAL_CAP_TIME_ref_slots : Fld := ⟨.GLOBAL_CAP_TIME, 23, 16⟩
/-- GLOBAL_CAP_TIME.views -/
abbrev GLOBAL_CAP_TIME_views : Fld := ⟨.GLOBAL_CAP_TIME, 15, 8⟩
/-- GLOBAL_CAP_TIME.timescales -/
abbrev GLOBAL_CAP_TIME_timescales : Fld := ⟨.GLOBAL_CAP_TIME, 7, 0⟩
/-- GLOBAL_CAP_CLAP.stops -/
abbrev GLOBAL_CAP_CLAP_stops : Fld := ⟨.GLOBAL_CAP_CLAP, 31, 24⟩
/-- GLOBAL_CAP_CLAP.lanes -/
abbrev GLOBAL_CAP_CLAP_lanes : Fld := ⟨.GLOBAL_CAP_CLAP, 23, 16⟩
/-- GLOBAL_CAP_CLAP.probes -/
abbrev GLOBAL_CAP_CLAP_probes : Fld := ⟨.GLOBAL_CAP_CLAP, 15, 8⟩
/-- GLOBAL_CAP_CLAP.clap_channels -/
abbrev GLOBAL_CAP_CLAP_clap_channels : Fld := ⟨.GLOBAL_CAP_CLAP, 7, 0⟩
/-- GLOBAL_CAP_SYN.outs_lvcmos -/
abbrev GLOBAL_CAP_SYN_outs_lvcmos : Fld := ⟨.GLOBAL_CAP_SYN, 31, 24⟩
/-- GLOBAL_CAP_SYN.outs_diff -/
abbrev GLOBAL_CAP_SYN_outs_diff : Fld := ⟨.GLOBAL_CAP_SYN, 23, 16⟩
/-- GLOBAL_CAP_SYN.aplls -/
abbrev GLOBAL_CAP_SYN_aplls : Fld := ⟨.GLOBAL_CAP_SYN, 15, 12⟩
/-- GLOBAL_CAP_SYN.dplls -/
abbrev GLOBAL_CAP_SYN_dplls : Fld := ⟨.GLOBAL_CAP_SYN, 11, 8⟩
/-- GLOBAL_CAP_SYN.refins -/
abbrev GLOBAL_CAP_SYN_refins : Fld := ⟨.GLOBAL_CAP_SYN, 7, 0⟩
/-- GLOBAL_CAP_CUE.captures -/
abbrev GLOBAL_CAP_CUE_captures : Fld := ⟨.GLOBAL_CAP_CUE, 23, 16⟩
/-- GLOBAL_CAP_CUE.cue_pins -/
abbrev GLOBAL_CAP_CUE_cue_pins : Fld := ⟨.GLOBAL_CAP_CUE, 15, 8⟩
/-- GLOBAL_CAP_CUE.cues -/
abbrev GLOBAL_CAP_CUE_cues : Fld := ⟨.GLOBAL_CAP_CUE, 7, 0⟩
/-- GLOBAL_CAP_GNSS.acq_queue -/
abbrev GLOBAL_CAP_GNSS_acq_queue : Fld := ⟨.GLOBAL_CAP_GNSS, 31, 24⟩
/-- GLOBAL_CAP_GNSS.notches -/
abbrev GLOBAL_CAP_GNSS_notches : Fld := ⟨.GLOBAL_CAP_GNSS, 23, 20⟩
/-- GLOBAL_CAP_GNSS.correlators -/
abbrev GLOBAL_CAP_GNSS_correlators : Fld := ⟨.GLOBAL_CAP_GNSS, 19, 16⟩
/-- GLOBAL_CAP_GNSS.gnss_channels -/
abbrev GLOBAL_CAP_GNSS_gnss_channels : Fld := ⟨.GLOBAL_CAP_GNSS, 15, 8⟩
/-- GLOBAL_CAP_GNSS.sample_ports -/
abbrev GLOBAL_CAP_GNSS_sample_ports : Fld := ⟨.GLOBAL_CAP_GNSS, 7, 0⟩
/-- GLOBAL_CAP_NET.txts_entries -/
abbrev GLOBAL_CAP_NET_txts_entries : Fld := ⟨.GLOBAL_CAP_NET, 31, 24⟩
/-- GLOBAL_CAP_NET.ranin_lanes -/
abbrev GLOBAL_CAP_NET_ranin_lanes : Fld := ⟨.GLOBAL_CAP_NET, 23, 20⟩
/-- GLOBAL_CAP_NET.aes_lanes -/
abbrev GLOBAL_CAP_NET_aes_lanes : Fld := ⟨.GLOBAL_CAP_NET, 19, 16⟩
/-- GLOBAL_CAP_NET.ntp_peers -/
abbrev GLOBAL_CAP_NET_ntp_peers : Fld := ⟨.GLOBAL_CAP_NET, 15, 12⟩
/-- GLOBAL_CAP_NET.ntp_instances -/
abbrev GLOBAL_CAP_NET_ntp_instances : Fld := ⟨.GLOBAL_CAP_NET, 11, 8⟩
/-- GLOBAL_CAP_NET.ptp_instances -/
abbrev GLOBAL_CAP_NET_ptp_instances : Fld := ⟨.GLOBAL_CAP_NET, 7, 4⟩
/-- GLOBAL_CAP_NET.ports -/
abbrev GLOBAL_CAP_NET_ports : Fld := ⟨.GLOBAL_CAP_NET, 3, 0⟩
/-- GLOBAL_CAP_CLIENT.client_entries -/
abbrev GLOBAL_CAP_CLIENT_client_entries : Fld := ⟨.GLOBAL_CAP_CLIENT, 16, 0⟩
/-- GLOBAL_CAP_KEYS.key_nodes -/
abbrev GLOBAL_CAP_KEYS_key_nodes : Fld := ⟨.GLOBAL_CAP_KEYS, 26, 16⟩
/-- GLOBAL_CAP_KEYS.rl_buckets -/
abbrev GLOBAL_CAP_KEYS_rl_buckets : Fld := ⟨.GLOBAL_CAP_KEYS, 15, 0⟩
/-- GLOBAL_CAP_CORE.plugins -/
abbrev GLOBAL_CAP_CORE_plugins : Fld := ⟨.GLOBAL_CAP_CORE, 17, 12⟩
/-- GLOBAL_CAP_CORE.perf_counters -/
abbrev GLOBAL_CAP_CORE_perf_counters : Fld := ⟨.GLOBAL_CAP_CORE, 11, 4⟩
/-- GLOBAL_CAP_CORE.cores -/
abbrev GLOBAL_CAP_CORE_cores : Fld := ⟨.GLOBAL_CAP_CORE, 3, 0⟩
/-- GLOBAL_CAP_LOG.bist_blocks -/
abbrev GLOBAL_CAP_LOG_bist_blocks : Fld := ⟨.GLOBAL_CAP_LOG, 26, 22⟩
/-- GLOBAL_CAP_LOG.lw_slots -/
abbrev GLOBAL_CAP_LOG_lw_slots : Fld := ⟨.GLOBAL_CAP_LOG, 21, 14⟩
/-- GLOBAL_CAP_LOG.log_cells -/
abbrev GLOBAL_CAP_LOG_log_cells : Fld := ⟨.GLOBAL_CAP_LOG, 13, 0⟩
/-- GLOBAL_CAP_SRAM.sram_kib -/
abbrev GLOBAL_CAP_SRAM_sram_kib : Fld := ⟨.GLOBAL_CAP_SRAM, 15, 0⟩
/-- GOV_FLR_TS_SLEW.value -/
abbrev GOV_FLR_TS_SLEW_value : Fld := ⟨.GOV_FLR_TS_SLEW, 25, 0⟩
/-- GOV_FLR_TS_FREQ.value -/
abbrev GOV_FLR_TS_FREQ_value : Fld := ⟨.GOV_FLR_TS_FREQ, 19, 0⟩
/-- GOV_FLR_TS_BFLOOR.value -/
abbrev GOV_FLR_TS_BFLOOR_value : Fld := ⟨.GOV_FLR_TS_BFLOOR, 31, 0⟩
/-- GOV_FLR_TS_CFG.step_allow -/
abbrev GOV_FLR_TS_CFG_step_allow : Fld := ⟨.GOV_FLR_TS_CFG, 0, 0⟩
/-- GOV_FLR_HOLD_Y0.value -/
abbrev GOV_FLR_HOLD_Y0_value : Fld := ⟨.GOV_FLR_HOLD_Y0, 23, 0⟩
/-- GOV_FLR_HOLD_DRIFT.value -/
abbrev GOV_FLR_HOLD_DRIFT_value : Fld := ⟨.GOV_FLR_HOLD_DRIFT, 23, 0⟩
/-- GOV_FLR_HOLD_TEMPCO.value -/
abbrev GOV_FLR_HOLD_TEMPCO_value : Fld := ⟨.GOV_FLR_HOLD_TEMPCO, 23, 0⟩
/-- GOV_FLR_PORT_TXCAP.value -/
abbrev GOV_FLR_PORT_TXCAP_value : Fld := ⟨.GOV_FLR_PORT_TXCAP, 14, 0⟩
/-- GOV_FLR_CUE_OPEN.value -/
abbrev GOV_FLR_CUE_OPEN_value : Fld := ⟨.GOV_FLR_CUE_OPEN, 29, 0⟩
/-- GOV_FLR_CUE_CLOSE.value -/
abbrev GOV_FLR_CUE_CLOSE_value : Fld := ⟨.GOV_FLR_CUE_CLOSE, 29, 0⟩
/-- MSIX_ADDR_LO.value -/
abbrev MSIX_ADDR_LO_value : Fld := ⟨.MSIX_ADDR_LO, 31, 0⟩
/-- MSIX_ADDR_HI.value -/
abbrev MSIX_ADDR_HI_value : Fld := ⟨.MSIX_ADDR_HI, 31, 0⟩
/-- MSIX_DATA.value -/
abbrev MSIX_DATA_value : Fld := ⟨.MSIX_DATA, 31, 0⟩
/-- MSIX_CTRL.mask -/
abbrev MSIX_CTRL_mask : Fld := ⟨.MSIX_CTRL, 0, 0⟩
/-- MSIX_PBA.value -/
abbrev MSIX_PBA_value : Fld := ⟨.MSIX_PBA, 31, 0⟩

end F
end Sys2Proof.Machine
end

