-- ==== Sys2Proof/Machine/State.lean ====
section
/-! DEFINITION. The state of the EF-96, as plain data: the register file, what each block holds beside its registers, the
rings, the queue of waiting commands, and the model's own record of what the device does outside itself. -/
namespace Sys2Proof.Machine
open Sys2Proof

/-- Why a step can stop with a fault: it cannot (no command of the table stops the device). -/
inductive Fault where
  /-- Never raised. Safe: it would stop the machine. -/
  | none
  deriving DecidableEq, Repr

/-- Why a command has no outcome. -/
inductive Refusal where
  /-- Raised by the dispatch of a command that has no meaning yet. Safe: the machine stops. -/
  | notModelled (mnemonic : String)
  deriving DecidableEq, Repr

/-- A command fetched from a CMD ring and not yet committed (R323). -/
structure Fetched where
  hdr : CmdHdr
  cmd : HostCmd
  deriving DecidableEq, Repr

/-- A command with trigger AT_TS that waits for its instant on its trigger timescale (R457). -/
structure AtTs where
  hdr : CmdHdr
  cmd : HostCmd
  trigger : Nat
  sec : Nat
  ns : Nat
  frac : Nat
  deriving DecidableEq, Repr

/-- A ring beside its registers (R304-R323). -/
structure Ring where
  /-- CMD: fetched and not yet committed, oldest first. -/
  fetched : List Fetched
  /-- CMD: committed and not yet completed: header and opcode. -/
  running : List (CmdHdr × Nat)
  /-- CMD: ABORTs that wait for their target's completion: target ring and tag, and the abort's own completion. -/
  aborters : List (Nat × Nat × Completion)
  /-- CPL: entries that wait to be written, oldest first (R313). -/
  waiting : List CplEntry
  /-- Last index read from the doorbell page, and its sequence (R307). -/
  hostIdx : Nat
  dbSeq : Nat
  /-- An event or notice was not written since the last one that was (R313). -/
  lost : Bool
  /-- TXD: descriptors fetched and not sent. -/
  txq : List TxDesc
  /-- RXD: descriptors fetched and not consumed. -/
  rxq : List RxDesc
  /-- The RING_STOP that drains the ring (R306), and descriptors it discarded. -/
  stop : Option CmdHdr
  discarded : Nat
  /-- CPL: the ticks at which the entries that are not consumed were written, oldest first, and the tick at which the ring was armed (R322). -/
  wrote : List Nat
  armedAt : Nat
  deriving DecidableEq, Repr

/-- A ring from reset. -/
def Ring.reset : Ring := ⟨[], [], [], [], 0, 0, false, [], [], none, 0, [], 0⟩

/-- The host interface beside its registers. -/
structure HostSt where
  rings : Tbl Ring
  staged : List StagedFrame
  /-- A poll is owed because of a NUDGE during a poll (R309). -/
  repoll : Bool
  /-- An event could not be written because HOST_EVT_CFG named no enabled CPL ring (R329). -/
  evtLost : Bool
  /-- The doorbell reads have failed since the last good one (R330). -/
  dbFailing : Bool
  /-- Commands with trigger AT_TS that wait (R457), oldest first. -/
  atTs : List AtTs
  deriving DecidableEq, Repr

/-- The host interface from reset. -/
def HostSt.reset : HostSt := ⟨[], [], false, false, false, []⟩

/-- The machine. -/
structure State where
  /-- The registers that differ from their reset value, by rising register (R4). -/
  regs : List (Reg × Word)
  hs : HandshakeSt
  time : TimeSt
  ens : EnsSt
  clap : ClapSt
  loops : LoopSt
  outs : Tbl Out
  cues : CueSt
  gnss : GnssSt
  ports : PortsSt
  stv : StvSt
  ptp : PtpSt
  ntp : NtpSt
  ran : RanSt
  areas : Tbl Area
  host : HostSt
  gov : GovSt
  log : LogSt
  sheets : SheetSt
  fw : FwSt
  perf : PerfSt
  wrap : WrapSt
  pwr : PwrSt
  /-- SHCLK ticks and idle steps since reset: the model's clock. -/
  ticks : Nat
  /-- The model's counter of free values (notes/assumptions/2.md). -/
  fresh : Nat
  /-- What the device did outside itself, newest first (the model's own record). -/
  out : List Emit
  /-- The commands that wait, first in first out. -/
  pending : List Instr
  deriving DecidableEq, Repr

/-- The machine right after reset. -/
def State.reset : State :=
  { regs := [], hs := .reset, time := .reset, ens := .reset, clap := .reset, loops := .reset, outs := [], cues := .reset, gnss := .reset, ports := .reset, stv := .reset, ptp := .reset, ntp := .reset, ran := .reset, areas := [], host := .reset, gov := .reset, log := .reset, sheets := .reset, fw := .reset, perf := .reset, wrap := .reset, pwr := .reset,
    ticks := 0, fresh := 0, out := [], pending := [] }

end Sys2Proof.Machine
end

