-- ==== Sys2Proof/Machine/Ops.lean ====
section
/-! DEFINITION. The named operations: tables, fields and registers (R4-R8), bounds (R55, R56), time (R44-R53), slates, the
log queue (R391-R393, R399), CPL entries, events, notices and completions (R312-R314, R328, R329), governor refusals
(R456). -/
namespace Sys2Proof.Machine
open Sys2Proof

/-! ### Tables -/

/-- Entry `i` of a table whose default is `d`. -/
def tget {α : Type} (t : Tbl α) (d : α) (i : Nat) : α :=
  match t with
  | [] => d
  | (k, v) :: r => if k = i then v else tget r d i

/-- The table with entry `i` set. -/
def tset {α : Type} (t : Tbl α) (i : Nat) (v : α) : Tbl α :=
  match t with
  | [] => [(i, v)]
  | (k, w) :: r => if k = i then (i, v) :: r else if i < k then (i, v) :: (k, w) :: r else (k, w) :: tset r i v

/-- The list without its first element that meets `p`. -/
def dropFirst {α : Type} (p : α → Bool) : List α → List α
  | [] => []
  | x :: r => if p x then r else x :: dropFirst p r

/-! ### Words and fields -/

/-- Bits [hi:lo] of a word, as a number. -/
def fget (w : Word) (hi lo : Nat) : Nat := (w.toNat / 2 ^ lo) % 2 ^ (hi - lo + 1)

/-- A word with bits [hi:lo] set to `v`, taken modulo the field's width. -/
def fput (w : Word) (hi lo v : Nat) : Word :=
  BitVec.ofNat 32 (w.toNat - fget w hi lo * 2 ^ lo + (v % 2 ^ (hi - lo + 1)) * 2 ^ lo)

/-- Two's complement value of the low `bits` bits of a number. -/
def sext (bits v : Nat) : Int :=
  let u := v % 2 ^ bits
  if u < 2 ^ (bits - 1) then (u : Int) else (u : Int) - (2 ^ bits : Nat)

/-- The low `bits` bits of an integer in two's complement. -/
def twos (bits : Nat) (x : Int) : Nat := (x % (2 ^ bits : Nat)).toNat

/-- An integer held within the range of a signed field (saturating). -/
def satInt (bits : Nat) (x : Int) : Int :=
  max (-(2 ^ (bits - 1) : Nat)) (min x ((2 ^ (bits - 1) : Nat) - 1))

/-- A number held within an unsigned field (saturating). -/
def satNat (bits x : Nat) : Nat := min x (2 ^ bits - 1)

/-- `n` bytes of the factory calibration from byte `a`, little-endian (R345, R3). -/
def fcal (a n : Nat) : Nat := (List.range n).foldr (fun k v => (Config.fcalByte (a + k)).toNat + 256 * v) 0

/-- The factory reference count of the pace monitor for a window exponent (R31, R345). -/
def refCount (e : Nat) : Nat := fcal (1280 + 4 * e) 4

/-- Ceiling of a quotient. -/
def cdiv (a b : Nat) : Nat := (a + b - 1) / b

/-- Nearest integer of a rational, halves up. -/
def roundRat (q : Rat) : Int := (2 * q.num + q.den) / (2 * q.den)

/-- Truth as a bit. -/
def bit (b : Bool) : Nat := if b then 1 else 0

/-! ### The register file -/

/-- The order of the register file: by kind, then first index, then second index. -/
def Reg.lt (a b : Reg) : Bool :=
  if a.name.ctorIdx = b.name.ctorIdx then (if a.i = b.i then decide (a.j < b.j) else decide (a.i < b.i))
  else decide (a.name.ctorIdx < b.name.ctorIdx)

/-- The value listed for a register. -/
def regFind (l : List (Reg × Word)) (r : Reg) : Option Word :=
  match l with
  | [] => none
  | (q, w) :: t => if q = r then some w else regFind t r

/-- The list with a register's value put in its place. -/
def regPut (l : List (Reg × Word)) (r : Reg) (v : Word) : List (Reg × Word) :=
  match l with
  | [] => [(r, v)]
  | (q, w) :: t => if q = r then (r, v) :: t else if r.lt q then (r, v) :: (q, w) :: t else (q, w) :: regPut t r v

/-- The list without a register. -/
def regDrop (l : List (Reg × Word)) (r : Reg) : List (Reg × Word) :=
  match l with
  | [] => []
  | (q, w) :: t => if q = r then regDrop t r else (q, w) :: regDrop t r

/-- The canonical form: registers strictly rising, none listed with its reset value. -/
def regsWf : List (Reg × Word) → Bool
  | [] => true
  | [(q, w)] => w != resetVal q.name q.i
  | (q, w) :: (q', w') :: t => (w != resetVal q.name q.i) && q.lt q' && regsWf ((q', w') :: t)

/-- The value of a register: what is listed, else its reset value (R4). -/
def State.rg (s : State) (n : RegName) (i : Nat := 0) (j : Nat := 0) : Word :=
  (regFind s.regs ⟨n, i, j⟩).getD (resetVal n i)

/-- The state with a register set. -/
def State.wr (s : State) (n : RegName) (i j : Nat) (v : Word) : State :=
  { s with regs := if v = resetVal n i then regDrop s.regs ⟨n, i, j⟩ else regPut s.regs ⟨n, i, j⟩ v }

/-- The value of a field, as a number. -/
def State.f (s : State) (d : Fld) (i : Nat := 0) (j : Nat := 0) : Nat := fget (s.rg d.reg i j) d.hi d.lo

/-- A one-bit field. -/
def State.fb (s : State) (d : Fld) (i : Nat := 0) (j : Nat := 0) : Bool := s.f d i j != 0

/-- The value of a field in two's complement of its width. -/
def State.fi (s : State) (d : Fld) (i : Nat := 0) (j : Nat := 0) : Int := sext (d.hi - d.lo + 1) (s.f d i j)

/-- The state with a field set, the rest of its register kept. -/
def State.setF (s : State) (d : Fld) (v : Nat) (i : Nat := 0) (j : Nat := 0) : State :=
  s.wr d.reg i j (fput (s.rg d.reg i j) d.hi d.lo v)

/-- The state with a one-bit field set. -/
def State.setB (s : State) (d : Fld) (b : Bool) (i : Nat := 0) (j : Nat := 0) : State := s.setF d (bit b) i j

/-- The state with a field set to an integer in two's complement. -/
def State.setI (s : State) (d : Fld) (x : Int) (i : Nat := 0) (j : Nat := 0) : State := s.setF d (twos (d.hi - d.lo + 1) x) i j

/-- Add to a counter field, saturating at its width (R5's RC counters). -/
def State.incF (s : State) (d : Fld) (i : Nat := 0) (j : Nat := 0) (k : Nat := 1) : State :=
  s.setF d (satNat (d.hi - d.lo + 1) (s.f d i j + k)) i j

/-- Add to a counter register, saturating. -/
def State.inc (s : State) (n : RegName) (i : Nat := 0) (k : Nat := 1) : State :=
  s.wr n i 0 (BitVec.ofNat 32 (satNat 32 ((s.rg n i).toNat + k)))

/-- A 64-bit value from a LO/HI pair of registers. -/
def State.pair (s : State) (lo hi : RegName) (i : Nat := 0) : Nat := (s.rg hi i).toNat * 2 ^ 32 + (s.rg lo i).toNat

/-- Record something the device does outside itself. -/
def State.emit (s : State) (e : Emit) : State := { s with out := e :: s.out }

/-- A fresh free value's index, and the state with the counter advanced. -/
def State.nextFresh (s : State) : State := { s with fresh := s.fresh + 1 }

/-! ### Performance counters (R383) -/

/-- Counter `c` is the upper one of a chained pair (R383): it counts the carries of counter c − 1 alone. -/
def perfUpper (s : State) (c : Nat) : Bool := c % 2 == 1 && s.fb F.PERF_SEL_chain (c - 1)

/-- The counter counts this occurrence (R383, R386): enabled, the event named, the instance let through. -/
def perfMatches (s : State) (c ev inst : Nat) : Bool :=
  s.fb F.PERF_SEL_enable c && !perfUpper s c && s.f F.PERF_SEL_event c == ev && (s.f F.PERF_SEL_filter c == 0xFF || s.f F.PERF_SEL_filter c == inst)

/-- Counter `c`, 48 bits. -/
def perfCount (s : State) (c : Nat) : Nat := s.f F.PERF_CNT_HI_value c * 2 ^ 32 + s.f F.PERF_CNT_LO_value c

/-- Set counter `c`. -/
def setPerfCount (s : State) (c v : Nat) : State :=
  (s.setF F.PERF_CNT_LO_value (v % 2 ^ 32) c).setF F.PERF_CNT_HI_value (v / 2 ^ 32 % 2 ^ 16) c

/-- The overflow bit of counter `c` is set (R383). -/
def perfOverflow (s : State) (c : Nat) : State :=
  if c < 32 then s.setF ⟨.PERF_OVF_LO, c, c⟩ 1 else s.setF ⟨.PERF_OVF_HI, c - 32, c - 32⟩ 1

/-- Counter `c` comes to `v`, wrapping to 0 after 2^48 − 1; it then sets its overflow bit (R383) and owes its event, which is the row PERF_OVF. -/
def perfPut (s : State) (c v : Nat) : State :=
  if v < 2 ^ 48 then setPerfCount s c (v % 2 ^ 48)
  else
    let s := perfOverflow (setPerfCount s c (v % 2 ^ 48)) c
    { s with perf := { s.perf with wrapped := s.perf.wrapped ++ [c] } }

/-- Counter `c` advanced by `k` (R383). -/
def perfBump1 (s : State) (c k : Nat) : State := perfPut s c (perfCount s c + k)

/-- The lower counter of a chained pair comes to `v`: its carry goes to the upper one while that is enabled, and sets no overflow bit of its own
(R383). -/
def perfPutLower (s : State) (c v : Nat) : State :=
  if v < 2 ^ 48 ∨ s.fb F.PERF_SEL_enable (c + 1) = false then setPerfCount s c (v % 2 ^ 48) else perfBump1 (setPerfCount s c (v % 2 ^ 48)) (c + 1) 1

/-- Counter `c` advanced by `k`, by whether it is the lower one of a chained pair (R383). -/
def perfBump (s : State) (c k : Nat) : State :=
  if c % 2 = 0 ∧ s.fb F.PERF_SEL_chain c = true then perfPutLower s c (perfCount s c + k) else perfBump1 s c k

/-- Count `k` occurrences of a performance event of one instance. -/
def perf (s : State) (ev inst : Nat) (k : Nat := 1) : State :=
  if s.fb F.PERF_CTRL_enable then
    (List.range 48).foldl (fun t c => if perfMatches s c ev inst then perfBump t c k else t) s
  else s

/-- The engine numbers of R453. -/
def engineNumber : Engine → Nat
  | .timescales => 0
  | .clapper => 1
  | .synthesis => 2
  | .outputs => 3
  | .cues => 4
  | .gnss => 5
  | .port p => 6 + p % 4
  | .tse => 10
  | .ranin => 11
  | .host => 12
  | .cores => 13
  | .stavris => 14
  | .log => 15

/-- A write is refused: GOV_VIOLATION counts it (R5, R8, R454), and performance event 0x0041 with it. -/
def violation (s : State) : State := perf (s.inc .GOV_VIOLATION) 0x0041 0

/-! ### Bound codes (R55, R56) -/

/-- The bound of a code in ps; none for 0xFF, which is unbounded (R55). -/
def boundPs (c : Nat) : Option Nat := if c = 0xFF then none else some ((16 + c % 16) * 4 ^ (c / 16))

/-- The smallest code at exponent `e` or above whose bound reaches `b` ps (R56). -/
def boundCodeFrom (b : Nat) : Nat → Nat → Nat
  | _, 0 => 0xFF
  | e, fuel + 1 =>
    let k := cdiv b (4 ^ e)
    if k ≤ 31 then min 0xFF (e * 16 + (k - 16)) else boundCodeFrom b (e + 1) fuel

/-- The code of a bound of `b` ps (R56). -/
def boundCode (b : Nat) : Nat := boundCodeFrom b 0 16

/-- The code of a bound that may be unbounded. -/
def boundCodeOpt : Option Nat → Nat
  | none => 0xFF
  | some b => boundCode b

/-- Sum of two bounds in ps: unbounded absorbs (R56). -/
def addBound : Option Nat → Option Nat → Option Nat
  | some a, some b => some (a + b)
  | _, _ => none

/-! ### Time -/

/-- 2^-48 ns in a second. -/
def unitsPerSec : Nat := 10 ^ 9 * 2 ^ 48

/-- A counter as a number of 2^-48 ns (R44). -/
def counterUnits (c : Counter) : Nat := (c.sec * 10 ^ 9 + c.ns) * 2 ^ 48 + c.frac

/-- The counter that holds a number of 2^-48 ns; the seconds wrap after 2^48 (R44). -/
def counterOf (u : Nat) : Counter := ⟨u / unitsPerSec % 2 ^ 48, u / 2 ^ 48 % 10 ^ 9, u % 2 ^ 48⟩

/-- A counter moved by a signed amount, modulo 2^48 s. -/
def counterAdd (c : Counter) (d : Int) : Counter :=
  counterOf (((counterUnits c : Int) + d) % ((2 ^ 48 * unitsPerSec : Nat) : Int)).toNat

/-- Picoseconds to 2^-48 ns, to the nearest unit (DEDUCED, notes/assumptions/8.md). -/
def psToUnits (ps : Int) : Int := (ps * 2 ^ 48 + 500) / 1000

/-- 2^-48 ns to picoseconds, rounded away from zero: a remainder is never shown as 0 before it is. -/
def unitsToPs (u : Int) : Int :=
  if 0 ≤ u then ((u * 1000 + (2 ^ 48 - 1)) / 2 ^ 48) else -((-u * 1000 + (2 ^ 48 - 1)) / 2 ^ 48)

/-- Timescale `n` beside its registers. -/
def tsc (s : State) (n : Nat) : Tscale := tget s.time.tbl Tscale.reset n

/-- Set timescale `n`. -/
def setTsc (s : State) (n : Nat) (t : Tscale) : State := { s with time := { s.time with tbl := tset s.time.tbl n t } }

/-- Timescale `n` is DERIVED: TS0 never is (R49). -/
def tsDerived (s : State) (n : Nat) : Bool := n != 0 && s.fb F.TS_CTRL_mode n

/-- The source of a DERIVED timescale: always a lower one (R49). -/
def tsSource (s : State) (n : Nat) : Nat := min (s.f F.TS_CTRL_derive_src n) (n - 1)

/-- Timescale `n` runs: enabled, and a DERIVED one only while its source runs (R50). -/
def tsRunsAux (s : State) : Nat → Nat → Bool
  | 0, n => s.fb F.TS_CTRL_enable n
  | k + 1, n => s.fb F.TS_CTRL_enable n && (!tsDerived s n || tsRunsAux s k (tsSource s n))

/-- Timescale `n` runs (R50). -/
def tsRuns (s : State) (n : Nat) : Bool := tsRunsAux s 4 n

/-- The timescale that `n` is derived from in the end: itself when INDEPENDENT. -/
def tsRootAux (s : State) : Nat → Nat → Nat
  | 0, n => n
  | k + 1, n => if tsDerived s n then tsRootAux s k (tsSource s n) else n

/-- The INDEPENDENT timescale behind `n`. -/
def tsRoot (s : State) (n : Nat) : Nat := tsRootAux s 4 n

/-- The valid flag without the clock: an INDEPENDENT timescale's own; a DERIVED one counts as set once a TS_SET loaded it since
it last resumed, and needs its source valid (R50). -/
def tsSetAux (s : State) : Nat → Nat → Bool
  | 0, n => (tsc s n).valid
  | k + 1, n => if tsDerived s n then (tsc s n).setSinceResume && tsSetAux s k (tsSource s n) else (tsc s n).valid

/-- The slate valid flag of timescale `n`: enabled, set and clocked (R51); between the return of SHCLK
and the rebuild of R138 the counter is still held (DEDUCED, notes/assumptions/12.md). -/
def tsValid (s : State) (n : Nat) : Bool := tsRuns s n && tsSetAux s 4 n && s.hs.shclk && !s.fb F.SYN_GAP_STATUS_rebuilding

/-- The valid flag as TS_STATUS and the permit rules read it: the absence of SHCLK aside. -/
def tsLoaded (s : State) (n : Nat) : Bool := tsRuns s n && tsSetAux s 4 n

/-- The state timescale `n` reports: a DERIVED one its source's, FREE while it does not run (R49, R50). -/
def tsStateOf (s : State) (n : Nat) : TsState := if tsRuns s n then (tsc s (tsRoot s n)).state else .free

/-- The bound code timescale `n` reports (R49, R50); every bound reads 0xFF while the governor's floors are bad (R377), with a bad factory
calibration (R345), and in thermal step 5 until the timescale's next epoch after it (R416, R418). -/
def tsBound (s : State) (n : Nat) : Nat :=
  if tsRuns s n && !s.fb F.GOV_STATUS_floor_bad && !s.fb F.CSHT_STATUS_fcal_bad && !s.pwr.boundHeld.contains (tsRoot s n) then (tsc s (tsRoot s n)).bnd else 0xFF

/-- The increment in force, 52 bits (R45): the register pair holds it. -/
def tsIncr (s : State) (n : Nat) : Nat := s.f F.TS_INCR_HI_int_ns n * 2 ^ 48 + s.f F.TS_INCR_HI_frac_hi n * 2 ^ 32 + s.f F.TS_INCR_LO_frac_lo n

/-- The ensemble of timescale `n` beside its registers. -/
def ens (s : State) (n : Nat) : Ens := tget s.ens.tbl Ens.reset n

/-- Set the ensemble of timescale `n`. -/
def setEns (s : State) (n : Nat) (x : Ens) : State := { s with ens := { s.ens with tbl := tset s.ens.tbl n x } }

/-- The bound of timescale `n` in ps before encoding (R56): the total its ensemble reports, or what the code it holds stands for; none while its
time is not valid or has no bound. -/
def tsBoundPs (s : State) (n : Nat) : Option Nat :=
  if tsValid s n && tsBound s n != 0xFF then (ens s (tsRoot s n)).total.orElse (fun _ => boundPs (tsBound s n)) else none

/-- The slate of timescale `n` for a destination at `sub` 2^-48 ns after the last edge (R51-R54). -/
def slateAt (s : State) (n : Nat) (d : Dest) (sub : Int) : Slate :=
  let c := counterAdd (tsc s n).cnt sub
  let v := tsValid s n
  ⟨if v then tsBound s n else 0xFF, v, s.fb F.TS_LEAP_SCHED_pending, tsStateOf s n == .coasting,
    (tsc s n).stepped.contains d, n, c.sec, c.ns, c.frac / 2 ^ 16⟩

/-- The slate of timescale `n` at the last edge. -/
def slateOf (s : State) (n : Nat) (d : Dest) : Slate := slateAt s n d 0

/-- A slate whose timestamp point adds `w` ps: added to the timescale's bound in ps and encoded once (R56, R86). -/
def slateWide (s : State) (n : Nat) (d : Dest) (sub : Int) (w : Nat) : Slate :=
  let x := slateAt s n d sub
  { x with bnd := if w = 0 then x.bnd else boundCodeOpt (addBound (tsBoundPs s n) (some w)) }

/-- The state after a slate of timescale `n` is sent to a destination: its stepped-since bit is clear (R54). -/
def sentTo (s : State) (n : Nat) (d : Dest) : State :=
  setTsc s n { tsc s n with stepped := (tsc s n).stepped.filter (fun x => x != d) }

/-- Every slate destination (R54). -/
def allDests : List Dest :=
  (List.range 64).map Dest.ring ++ (List.range 4).map Dest.txq ++ [.log, .tod, .now] ++ (List.range 3).map Dest.mark

/-- Timescale `n` was stepped: set the stepped-since bit of every destination (R54). -/
def setStepped (s : State) (n : Nat) : State := setTsc s n { tsc s n with stepped := allDests }

/-! ### CPL rings (R312-R314, R328, R329) -/

/-- Bytes that a layout uses. -/
def layoutLen (d : Layout) : Nat := d.foldl (fun m x => max m (x.1 + x.2.1)) 0

/-- Ring `r` beside its registers. -/
def ring (s : State) (r : Nat) : Ring := tget s.host.rings Ring.reset r

/-- Set ring `r`. -/
def setRing (s : State) (r : Nat) (x : Ring) : State := { s with host := { s.host with rings := tset s.host.rings r x } }

/-- Ring types (R304). -/
def ringType (s : State) (r : Nat) : Nat := s.f F.HOST_RING_CFG_type r

/-- Ring states of HOST_RING_STATUS (R306). -/
def ringState (s : State) (r : Nat) : Nat := s.f F.HOST_RING_STATUS_state r

/-- Slots of a ring (R304). -/
def ringSize (s : State) (r : Nat) : Nat := 2 ^ s.f F.HOST_RING_CFG_size_exp r

/-- Ring `r` is an enabled CPL ring. -/
def cplEnabled (s : State) (r : Nat) : Bool := r < 64 && ringType s r == 1 && ringState s r == 1

/-- Entries written and not yet consumed, as of the last head read. -/
def cplPending (s : State) (r : Nat) : Nat := (s.f F.HOST_RING_HEAD_index r + ringSize s r - (ring s r).hostIdx) % ringSize s r

/-- Free slots of a CPL ring: at most 2^size_exp − 1 entries are unconsumed (R304). -/
def cplRoom (s : State) (r : Nat) : Nat := ringSize s r - 1 - cplPending s r

/-- An entry has been written: the next slot's index and phase, which alternates with each pass (R312), and the instant (R322). -/
def cplStep (s : State) (r : Nat) : State :=
  let s := setRing s r { ring s r with wrote := (ring s r).wrote ++ [s.ticks] }
  let i := s.f F.HOST_RING_HEAD_index r
  if i + 1 < ringSize s r then s.setF F.HOST_RING_HEAD_index (i + 1) r
  else (s.setF F.HOST_RING_HEAD_index 0 r).setF F.HOST_RING_HEAD_phase (1 - s.f F.HOST_RING_HEAD_phase r) r

/-- Write one entry into the next slot. -/
def cplWrite1 (s : State) (r : Nat) (e : CplEntry) : State :=
  cplStep (s.emit (.cpl r (s.f F.HOST_RING_HEAD_index r) (s.f F.HOST_RING_HEAD_phase r) e)) r

/-- Slots that an entry takes: a payload beyond P+24 continues in a second slot (R312, R314). -/
def cplSlots : CplEntry → Nat
  | .command c => if 24 < layoutLen c.payload then 2 else 1
  | _ => 1

/-- Write an entry with its continuation; the second slot becomes valid before the first (R312), so it is recorded first. -/
def cplWrite (s : State) (r : Nat) (e : CplEntry) : State :=
  match e with
  | .command c =>
    if 24 < layoutLen c.payload then
      let i := s.f F.HOST_RING_HEAD_index r
      let p := s.f F.HOST_RING_HEAD_phase r
      let t := cplStep s r
      cplStep ((t.emit (.cpl r (t.f F.HOST_RING_HEAD_index r) (t.f F.HOST_RING_HEAD_phase r)
        (.continuation c.tag (c.payload.filter (fun x => 24 ≤ x.1))))).emit (.cpl r i p (.command c))) r
    else cplWrite1 s r e
  | e => cplWrite1 s r e

/-- An event or notice for ring `r` with the slate of timescale `n`: written when the ring is an enabled CPL ring with room and the
device may write host memory, else counted in HOST_EVT_LOST and flagged in the next one (R302, R313, R329). -/
def postTo (s : State) (r code : Nat) (data : Layout) (slate : Slate) (n : Nat) : State :=
  if cplEnabled s r && decide (0 < cplRoom s r) && s.fb F.HOST_STATUS_bus_master then
    let t := cplWrite s r (.event code (ring s r).lost data slate)
    sentTo (setRing t r { ring t r with lost := false }) n (.ring r)
  else
    setRing (s.inc .HOST_EVT_LOST) r { ring s r with lost := true }

/-- A notice or cue event to its own ring, with the TS0 slate (R328). -/
def notice (s : State) (r code : Nat) (data : Layout) : State := postTo s r code data (slateOf s 0 (.ring r)) 0

/-- An event to the event CPL ring with the TS0 slate (R328, R329). -/
def event (s : State) (code : Nat) (data : Layout) : State :=
  let r := s.f F.HOST_EVT_CFG_ring
  if s.fb F.HOST_EVT_CFG_enable && cplEnabled s r then
    let s := if s.host.evtLost then setRing { s with host := { s.host with evtLost := false } } r { ring s r with lost := true } else s
    notice s r code data
  else { s.inc .HOST_EVT_LOST with host := { (s.inc .HOST_EVT_LOST).host with evtLost := true } }

/-! ### The log queue (R391-R393, R399) -/

/-- The length field of a record with this data: multiples of 8 from 32 to 64 (R391). -/
def logLen (d : Layout) : Nat := min 64 (max 32 (cdiv (28 + layoutLen d) 8 * 8))

/-- Sequence `a` was issued before `b` (R393): serial arithmetic modulo 2^32. -/
def seqBefore (a b : Nat) : Bool := a % 2 ^ 32 != b % 2 ^ 32 && decide ((b + 2 ^ 32 - a % 2 ^ 32) % 2 ^ 32 < 2 ^ 31)

/-- The lowest free last-words slot, or the slot of the oldest record whose severity is equal to or higher than `sev` (R399). -/
def lwSlot (s : State) (sev : Nat) : Option Nat :=
  match (List.range 64).find? (fun k => (tget s.log.lastWords none k).isNone) with
  | some k => some k
  | none =>
    (List.range 64).foldl (fun (b : Option Nat) k =>
      match tget s.log.lastWords none k with
      | none => b
      | some w =>
        if w.record.sev < sev then b
        else match b with
          | none => some k
          | some q =>
            match tget s.log.lastWords none q with
            | none => some k
            | some v => if seqBefore w.record.seq v.record.seq then some k else b) none

/-- The valid bits of the last-words slots (LOG_LW_VALID). -/
def setLwValid (s : State) (k : Nat) (b : Bool) : State :=
  if k < 32 then s.setF ⟨.LOG_LW_VALID_LO, k, k⟩ (bit b) else s.setF ⟨.LOG_LW_VALID_HI, k - 32, k - 32⟩ (bit b)

/-- The RTC: its seconds and 1/32,768 s since it was last loaded (R399). -/
def rtcNow (s : State) : Nat × Nat :=
  let d := s.ticks - s.log.rtcAt
  ((s.log.rtcSec + d / 625000000) % 2 ^ 32, d % 625000000 * 32768 / 625000000)

/-- The last words become unusable (R402). -/
def mediaDead (s : State) : State :=
  if s.fb F.LOG_STATUS_media_dead then s else event (s.setB F.LOG_STATUS_media_dead true) 0x0F02 []

/-- Write a record into the last words, or count it in LOG_LW_DROP (R399); a write that finds VBAT absent makes them unusable (R402). -/
def lwWrite (s : State) (r : LogRec) : State :=
  if s.fb F.LOG_STATUS_media_dead then s
  else if !s.fb F.PWR_RAIL_vbat_ok then mediaDead s
  else match lwSlot s r.sev with
  | none => s.inc .LOG_LW_DROP
  | some k =>
    setLwValid { s with log := { s.log with lastWords := tset s.log.lastWords k (some ⟨r, (rtcNow s).1, (rtcNow s).2⟩) } } k true

/-- A record enters the write queue: it takes the next sequence number, and is dropped and counted when the queue of 256 is
full (R392, R393). Severities 0 and 1 go to the last words too (R399). -/
def logPut (s : State) (sev source code : Nat) (data : Layout) (slate : Slate) : State :=
  let seq := (s.rg .LOG_SEQ).toNat
  let r : LogRec := ⟨sev, source, seq, slate, code, data, logLen data, false⟩
  let s := s.wr .LOG_SEQ 0 0 (BitVec.ofNat 32 (seq + 1))
  let s := if s.log.queue.length < 256 then { s with log := { s.log with queue := s.log.queue ++ [r] } }
           else s.inc .LOG_DROP sev
  if sev ≤ 1 then lwWrite s r else s

/-- A record of the device's own, whose source is in its code, with the TS0 slate of the instant (R391). A record that the full queue drops counts
as a slate sent to the log (DESIGN CHOICE, notes/assumptions/64.md). -/
def logRec (s : State) (sev code : Nat) (data : Layout) : State :=
  sentTo (logPut s sev (code / 256) code data (slateOf s 0 .log)) 0 .log

/-- An occurrence that posts an event and writes a record with the event's code and data (R455). -/
def logEvent (s : State) (sev code : Nat) (data : Layout) : State := event (logRec s sev code data) code data

/-! ### Completions (R314, R325) -/

/-- Append an entry to those that wait for a CPL ring. -/
def cplQueue (s : State) (r : Nat) (e : CplEntry) : State :=
  setRing s r { ring s r with waiting := (ring s r).waiting ++ [e] }

/-- The completions of ABORTs that waited for a command follow its own (R326): each gets the target's opcode and status. -/
def releaseAborts (s : State) (h : CmdHdr) (op : Nat) (st : Status) : State :=
  let x := ring s h.ring
  let mine := x.aborters.filter (fun a => a.1 == h.ring && a.2.1 == h.tag)
  let rest := x.aborters.filter (fun a => !(a.1 == h.ring && a.2.1 == h.tag))
  mine.foldl (fun t a =>
    cplQueue t (t.f F.HOST_RING_CFG_cpl_ring a.2.2.ring)
      (.command { a.2.2 with payload := [(0, 1, op), (1, 1, st.code)] })) (setRing s h.ring { x with aborters := rest })

/-- The splice that PTP instance `i` asked for ends (R244): on OK alt_spliced is set, otherwise it is asked for again. The device's own
splice has no ring: its header carries ring 64 + i. -/
def altDone (s : State) (i : Nat) (st : Status) : State :=
  let s := { s with ptp := { s.ptp with inst := tset s.ptp.inst i { tget s.ptp.inst PtpInst.reset i with altOut := false, altRun := 0 } } }
  if st = .ok then s.setB F.PTP_INST_INFO_alt_spliced true i else s

/-- A command completes: its completion waits for the CPL ring of its CMD ring (R313, R314, R323). -/
def complete (s : State) (h : CmdHdr) (op : Nat) (st : Status) (p : Layout) : State :=
  if 64 ≤ h.ring then altDone s (h.ring - 64) st
  else releaseAborts (cplQueue s (s.f F.HOST_RING_CFG_cpl_ring h.ring) (.command ⟨st, h.tag, h.ring, op, p⟩)) h op st

/-- A command that completes later has begun: it is committed and not completed (R323). -/
def begins (s : State) (h : CmdHdr) (op : Nat) : State :=
  setRing s h.ring { ring s h.ring with running := (ring s h.ring).running ++ [(h, op)] }

/-- The command is committed and not completed. -/
def isRunning (s : State) (h : CmdHdr) (op : Nat) : Bool := (ring s h.ring).running.contains (h, op)

/-- A command that has begun completes; after R301 it runs on without a completion. -/
def finish (s : State) (h : CmdHdr) (op : Nat) (st : Status) (p : Layout) : State :=
  if isRunning s h op then
    complete (setRing s h.ring { ring s h.ring with running := (ring s h.ring).running.erase (h, op) }) h op st p
  else s

/-- A BAD_ARG completion: nothing else changes (R9). -/
def badArg (s : State) (h : CmdHdr) (op : Nat) : State := complete s h op .badArg []

/-- The guard of every host command: bytes that must be 0 are 0 (R70, R310). -/
def guarded (s : State) (h : CmdHdr) (op : Nat) (t : State) : State := if h.mbz then t else badArg s h op

/-! ### Governor refusals (R20, R456) -/

/-- A request that the governor refuses writes a record of severity 3, and posts GOV_DENIED unless one with the same limit was
posted in the preceding second (625,000,000 ticks of the model's clock). -/
def governorRefuses (s : State) (op limit : Nat) : State :=
  let d : Layout := [(0, 1, op), (1, 1, limit)]
  let s := logRec s 3 0x0E01 d
  let recent := match tget s.gov.lastDenied none limit with
    | none => false
    | some k => decide (s.ticks < k + 625000000)
  if recent then s
  else event { s with gov := { s.gov with lastDenied := tset s.gov.lastDenied limit (some s.ticks) } } 0x0E01 d

/-- A command completes with DENIED_GOVERNOR: GOV_DENIED counts it (R456). -/
def deniedBy (s : State) (h : CmdHdr) (op limit : Nat) : State :=
  complete (governorRefuses (s.inc .GOV_DENIED) op limit) h op .deniedGovernor []

end Sys2Proof.Machine
end

