-- ==== Sys2Proof/Machine/Areas.lean ====
section
/-! DEFINITION. The record areas in host memory that share R114's rules: a circular area of 2^size_exp records, a free-running write
index, and a read index that the host writes. -/
namespace Sys2Proof.Machine
open Sys2Proof

/-- Records written and not yet consumed. -/
def areaUsed (s : State) (wi ri : RegName) (i : Nat) : Nat :=
  ((s.rg wi i).toNat + 2 ^ 32 - (s.rg ri i).toNat) % 2 ^ 32

/-- The area is full (R114). -/
def areaFull (s : State) (wi ri : RegName) (i size : Nat) : Bool := decide (2 ^ size ≤ areaUsed s wi ri i)

/-- Write a record of `bytes` bytes to its slot, then advance the write index (R114). -/
def areaPut (s : State) (wi : RegName) (i base size bytes : Nat) (r : Layout) : State :=
  let w := (s.rg wi i).toNat
  (s.emit (.mem (base + bytes * (w % 2 ^ size)) bytes r)).wr wi i 0 (BitVec.ofNat 32 (w + 1))

/-- A read index that is not behind its previous value nor ahead of the write index (R114). -/
def ridxOk (s : State) (wi ri : RegName) (i : Nat) (v : Word) : Bool :=
  decide ((v.toNat + 2 ^ 32 - (s.rg ri i).toNat) % 2 ^ 32 ≤ areaUsed s wi ri i)

/-- The registers and sizes of an area: write index, read index, lost counter, their index, base address, size exponent, record
bytes, the ring, code and first data bytes of its notice (none: no notice). -/
structure AreaSpec where
  wi : RegName
  ri : RegName
  lost : RegName
  i : Nat
  base : Nat
  size : Nat
  bytes : Nat
  note : Option (Nat × Nat × Layout)

/-- The description of an area (R193, R194, R221, R398). -/
def areaSpec (s : State) : AreaId → AreaSpec
  | .meas => ⟨.GNSS_MEAS_WIDX, .GNSS_MEAS_RIDX, .GNSS_MEAS_LOST, 0, s.pair .GNSS_MEAS_BUF_LO .GNSS_MEAS_BUF_HI, s.f F.GNSS_MEAS_BUF_CFG_size_exp, 64,
      some (s.f F.GNSS_MEAS_CFG_ring, 0x0705, [])⟩
  | .nav => ⟨.GNSS_NAV_WIDX, .GNSS_NAV_RIDX, .GNSS_NAV_LOST, 0, s.pair .GNSS_NAV_BUF_LO .GNSS_NAV_BUF_HI, s.f F.GNSS_NAV_BUF_CFG_size_exp, 128,
      some (s.f F.GNSS_NAV_CFG_ring, 0x0706, [])⟩
  | .daily p => ⟨.PORT_DLY_WIDX, .PORT_DLY_RIDX, .PORT_DLY_LOST, p, s.pair .PORT_DLY_BUF_LO .PORT_DLY_BUF_HI p, s.f F.PORT_DLY_BUF_CFG_size_exp p, 128,
      some (s.f F.PORT_DLY_CFG_ring p, 0x0802, [(0, 1, p)])⟩
  | .stream => ⟨.LOG_STRM_WIDX, .LOG_STRM_RIDX, .LOG_STRM_LOST, 0, s.pair .LOG_STRM_BUF_LO .LOG_STRM_BUF_HI, s.f F.LOG_STRM_BUF_CFG_size_exp, 64,
      some (s.f F.LOG_CFG_strm_ring, 0x0F06, [])⟩

/-- An area beside its registers. -/
def area (s : State) (a : AreaId) : Area := tget s.areas Area.reset a.index

/-- Set an area. -/
def setArea (s : State) (a : AreaId) (x : Area) : State := { s with areas := tset s.areas a.index x }

/-- Write a record, or drop and count it where the area is full; a notice is posted unless one is outstanding (R114). -/
def areaWrite (s : State) (a : AreaId) (r : Layout) : State :=
  let d := areaSpec s a
  if areaFull s d.wi d.ri d.i d.size then setArea (s.inc d.lost d.i) a { area s a with dropped := (area s a).dropped + 1 }
  else
    let s := setArea (areaPut s d.wi d.i d.base d.size d.bytes r) a { area s a with dropped := 0 }
    match d.note with
    | some (ring, code, data) =>
      if (area s a).notice then s
      else notice (setArea s a { area s a with notice := true }) ring code (data ++ [(4, 4, (s.rg d.wi d.i).toNat)])
    | none => s

/-- A record is produced: written, or held while Bus Master Enable is 0 (R302). -/
def areaProduce (s : State) (a : AreaId) (r : Layout) : State :=
  let x := area s a
  let s := setArea s a { x with seq := (x.seq + 1) % 2 ^ 32 }
  if s.fb F.HOST_STATUS_bus_master then areaWrite s a r else setArea s a { area s a with held := x.held ++ [r] }

/-- The held records of an area are written (R302). -/
def areaFlush (s : State) (a : AreaId) : State :=
  let x := area s a
  x.held.foldl (fun t r => areaWrite t a r) (setArea s a { x with held := [] })

/-- A write of an area's read index (R114): refused where it is not in range, else it ends the notice. -/
def areaRidx (s : State) (a : AreaId) (v : Word) : State :=
  let d := areaSpec s a
  if ridxOk s d.wi d.ri d.i v then
    let s := s.wr d.ri d.i 0 v
    setArea s a { area s a with notice := false }
  else violation s

end Sys2Proof.Machine
end

