-- ==== Sys2Proof/Machine/RegRules.lean ====
section
/-! DEFINITION. Register writes: the access codes of R5, the assigned values of R8, the rules that limit when a field can be
written, and R454's rule of what is refused and counted. -/
namespace Sys2Proof.Machine
open Sys2Proof

/-- LC_UNLOCK as it reads (R362): every scope in BLANK, none in SCRAPPED. -/
def unlocks (s : State) : Word :=
  match s.f F.LC_STATE_state with
  | 0 => 7
  | 4 => 0
  | _ => s.rg .LC_UNLOCK

/-- Run state SETUP (R422): the only one in which an RWS field takes a write (R5). -/
def inSetup (s : State) : Bool := s.f F.PWR_RUN_run_state == 2

/-- The life cycle has reached SEALED (R5's RWL; LC_STATE codes 2 and above). -/
def reachedSealed (s : State) : Bool := decide (2 ≤ s.f F.LC_STATE_state)

/-- The access code lets a write through now (R5). -/
def accessOk (s : State) : Access → Bool
  | .RWS => inSetup s
  | .RWL => !reachedSealed s
  | .RO | .RC => false
  | .RW | .W1C | .WO => true

/-- The encoding of a field assigns the value (R8). -/
def legalVal (fs : FieldSpec) (v : Nat) : Bool :=
  match fs.legal with
  | .any => true
  | .range lo hi => decide (lo ≤ v) && decide (v ≤ hi)
  | .sint lo hi => decide (lo ≤ sext (fs.hi - fs.lo + 1) v) && decide (sext (fs.hi - fs.lo + 1) v ≤ hi)
  | .oneOf l => l.any (fun p => decide (p.1 ≤ v) && decide (v ≤ p.2))
  | .aligned a => v % a == 0

/-- The register already holds one of the values `l`. -/
def memNat (v : Nat) (l : List Nat) : Bool := l.contains v

/-- The source index lies in the range of the slot's type (R73's table). -/
def slotSourceOk (type src : Nat) : Bool :=
  match type with
  | 1 => decide (src < 8) | 2 => decide (src < 16) | 3 => decide (src < 4) | 4 => decide (src < 8) | 5 => decide (src < 2)
  | 6 => decide (src < 8) | _ => true

/-- The input termination that goes with a single-ended or a differential channel (R99). -/
def inTermOk (diff : Bool) (term : Nat) : Bool := !(term == 1 && diff) && !(term == 2 && !diff)

/-- The threshold that goes with it, in mV (R99). -/
def inThresholdOk (diff : Bool) (v : Nat) : Bool :=
  if diff then decide (-1000 ≤ sext 12 v) && decide (sext 12 v ≤ 1000) else decide (v ≤ 2000)

/-- diff of CLAP_CH_IN can take the value written: the termination and the threshold that the write leaves go with it (R8, R99). -/
def inDiffOk (s : State) (r : Reg) (w : Word) : Bool :=
  let d := fget w 14 14 == 1
  (inTermOk d (fget w 19 18) || inTermOk d (s.f F.CLAP_CH_IN_term r.i)) &&
  (inThresholdOk d (fget w 11 0) || inThresholdOk d (s.f F.CLAP_CH_IN_threshold r.i))

/-- The diff that a write of CLAP_CH_IN leaves. -/
def inDiff (s : State) (r : Reg) (w : Word) : Bool := if inDiffOk s r w then fget w 14 14 == 1 else s.fb F.CLAP_CH_IN_diff r.i

/-- A performance event whose filter is an engine number (R453). -/
def engineEvent (ev : Nat) : Bool := ev == 0x8001 || ev == 0x8004

/-- The filter goes with the event (R453): beyond the last engine's number, 16-254 are unassigned. -/
def perfFilterOk (ev v : Nat) : Bool := !engineEvent ev || decide (v ≤ engineNumber .log) || v == 0xFF

/-- A VCO frequency of 9.6-12.8 GHz in 2^-24 Hz by its halves; a high half of 0 is the pair never written. -/
def dpFreqOk (hi lo : Nat) : Bool := hi == 0 || (decide (37500000 ≤ hi) && decide (hi * 2 ^ 32 + lo ≤ 50000000 * 2 ^ 32))

/-- Assigned values that depend on the index or on another field of the same write (R8): `lo` is the field's lowest bit and `w` the
word written. -/
def crossLegal (s : State) (r : Reg) (lo : Nat) (w : Word) : Bool :=
  match r.name with
  | .TS_CTRL =>
    if lo = 4 then decide (fget w 5 4 < r.i) else if lo = 1 then decide (r.i ≠ 0) else true
  | .TS_REF_CFG => if lo = 0 ∨ lo = 8 then slotSourceOk (fget w 3 0) (fget w 15 8) else true
  | .TS_ENS_QTHR => decide (fget w 7 0 < fget w 15 8) && decide (fget w 15 8 < fget w 23 16) && decide (fget w 23 16 ≠ 0xFF)
  | .CLAP_CH_IN =>
    if lo = 18 then inTermOk (inDiff s r w) (fget w 19 18)
    else if lo = 0 then inThresholdOk (inDiff s r w) (fget w 11 0)
    else if lo = 14 then inDiffOk s r w else true
  | .DP_FREQ_LO => dpFreqOk (s.f F.DP_FREQ_HI_value r.i) w.toNat
  | .DP_FREQ_HI => decide (37500000 ≤ w.toNat) && dpFreqOk w.toNat (s.f F.DP_FREQ_LO_value r.i)
  | .HOST_POLL_CFG => decide (fget w 7 0 ≤ fget w 23 8 * 10)
  | .GNSS_CH_CORR => if lo = 0 ∨ lo = 8 then decide (fget w 7 0 ≤ fget w 15 8) else true
  | .PORT_CFG => if lo = 27 then !(fget w 27 27 == 1 && decide (fget w 30 28 ≤ 2)) else if lo = 28 then !(fget w 27 27 == 1 && decide (fget w 30 28 ≤ 2)) else true
  | .HOST_RING_CFG => if lo = 8 then decide (fget w 9 8 ≠ 3) else true
  | .OUT_CFG => if lo = 8 then (if r.i < 24 then decide (fget w 10 8 ≤ 3) else fget w 10 8 == 4) else true
  | .AP_SS =>
    let lim := if fget w 1 0 = 2 then 25 else 50
    if lo = 3 then decide (fget w 8 3 ≤ lim) else if lo = 0 then decide (fget w 8 3 ≤ lim) || decide (s.f F.AP_SS_depth r.i ≤ lim) else true
  | .DP_CFG =>
    if lo = 2 then fget w 4 2 != 4
    else if lo = 8 then decide (fget w 11 8 < if fget w 4 2 = 1 ∨ fget w 4 2 = 3 then 4 else 8) else true
  | .PERF_SEL =>
    if lo = 29 then r.i % 2 == 0 || fget w 29 29 == 0
    else if lo = 16 then perfFilterOk (fget w 15 0) (fget w 23 16)
    else if lo = 0 then
      (decide (fget w 15 0 < 0x8000) || (unlocks s).getLsbD 2) &&
        (perfFilterOk (fget w 15 0) (fget w 23 16) || perfFilterOk (fget w 15 0) (s.f F.PERF_SEL_filter r.i))
    else true
  | _ => s.regs.length == s.regs.length

/-- Clapper channel `k` is armed. -/
def clapArmed (s : State) (k : Nat) : Bool := s.fb F.CLAP_CH_STATUS_armed k

/-- An enabled reference slot of type `ty` with source `src` (R73). -/
def slotUses (s : State) (ty src : Nat) : Bool :=
  (List.range 32).any (fun k => s.fb F.TS_REF_CFG_enable k && s.f F.TS_REF_CFG_type k == ty && s.f F.TS_REF_CFG_source k == src)

/-- Channel `c` has a consumer (R100). -/
def clapConsumer (s : State) (c : Nat) : Bool :=
  clapArmed s c || slotUses s 2 c ||
  (List.range 16).any (fun k => clapArmed s k && s.f F.CLAP_CH_CFG_function k == 1 &&
    (s.f F.CLAP_CH_MEAS_start_src k == c || s.f F.CLAP_CH_MEAS_stop_src k == c))

/-! ### Loops and outputs (R121, R128, R135, R145, R148) -/

/-- State of output `o`: 0 STOPPED, 1 ARMED, 2 RUNNING, 3 GATED, 4 STOPPING. -/
def outState (s : State) (o : Nat) : Nat := s.f F.OUT_STATUS_state o

/-- Source of output `o`: 0-3 an APLL, 4 CUE. -/
def outSrc (s : State) (o : Nat) : Nat := s.f F.OUT_CFG_src o

/-- Output `o` is fed by APLL `a`: its primary, or its fallback while fb_en = 1 (R145). -/
def outFed (s : State) (o a : Nat) : Bool :=
  outSrc s o != 4 && (outSrc s o == a || (s.fb F.OUT_CFG_fb_en o && s.f F.OUT_CFG_fb_apll o == a))

/-- Some output fed by APLL `a` is running (R135, R141, R145). -/
def outRunningOn (s : State) (a : Nat) : Bool := (List.range 32).any (fun o => outState s o != 0 && outFed s o a)

/-- Spread is on for APLL `a`. -/
def spreadOn (s : State) (a : Nat) : Bool := decide (a < 4) && s.f F.AP_SS_mode a != 0

/-- The APLL that DPLL `d` steers. -/
def steered (s : State) (d : Nat) : Option Nat := if d = 0 then none else [1, 2, 3].find? (fun a => s.f F.AP_CFG_dpll a == d)

/-- Spread may be enabled on APLL `a` (R135): not AP0, and no timing-class output, port or DPLL with det = 1 uses it. -/
def spreadOk (s : State) (a : Nat) : Bool :=
  a != 0 && !(List.range 32).any (fun o => !s.fb F.OUT_CFG_class o && outFed s o a)
  && !(List.range 4).any (fun p => s.f F.PORT_CFG_ref_apll p == a)
  && !(s.f F.AP_CFG_dpll a != 0 && s.fb F.DP_CFG_det (s.f F.AP_CFG_dpll a))

/-- The source that a write of OUT_CFG leaves: an unassigned one keeps the old (R8). -/
def outSrcAfter (s : State) (o : Nat) (w : Word) : Nat := if fget w 2 0 ≤ 4 then fget w 2 0 else outSrc s o

/-- OUT_CFG as `w` would make of output `o` a timing-class user of an APLL with spread (R135). -/
def spreadUser (s : State) (o : Nat) (w : Word) : Bool :=
  outSrcAfter s o w != 4 && fget w 12 12 == 0 && (spreadOn s (outSrcAfter s o w) || (fget w 29 29 == 1 && spreadOn s (fget w 25 24)))

/-- The rules of the chapters that limit when a field can be written: true when it can be written now. -/
def fieldGuard (s : State) (r : Reg) (lo : Nat) (w : Word) : Bool :=
  match r.name with
  | .CLAP_CH_CFG =>
    !clapArmed s r.i && (if lo = 12 then !clapConsumer s r.i else if lo = 0 then !slotUses s 2 r.i else true)
  | .CLAP_CH_MEAS | .CLAP_CH_TMO_LO | .CLAP_CH_TMO_HI | .CLAP_CH_STAT | .CLAP_CH_UCAL | .CLAP_CH_NOM_LO | .CLAP_CH_NOM_HI
  | .CLAP_CH_BUF_LO | .CLAP_CH_BUF_HI | .CLAP_CH_BUF_CFG => !clapArmed s r.i
  | .CLAP_CH_IN => !clapConsumer s r.i
  | .DP_CFG =>
    r.i != 0 && !(lo == 0 && fget w 0 0 == 1 && s.wrap.retired.contains (1, r.i)) && (if lo = 2 ∨ lo = 8 then !s.fb F.DP_CFG_enable r.i
      else if lo = 15 then !(match steered s r.i with | some a => spreadOn s a | none => false) else true)
  | .DP_BW | .DP_PHASE | .DP_LOCK => r.i != 0
  | .DP_FREQ_LO | .DP_FREQ_HI | .DP_ALIGN => r.i != 0 && !s.fb F.DP_CFG_enable r.i
  | .AP_CFG =>
    if lo = 0 then !(fget w 0 0 == 1 && s.wrap.retired.contains (2, r.i)) else if lo = 8 then
      let d := fget w 10 8
      d == 0 || (!([1, 2, 3].any (fun a => a != r.i && s.f F.AP_CFG_dpll a == d)) && !(s.fb F.DP_CFG_det d && spreadOn s r.i))
    else true
  | .AP_SS => !outRunningOn s r.i && (if lo = 0 then fget w 1 0 == 0 || spreadOk s r.i else true)
  | .OUT_CFG => if lo = 0 ∨ lo = 12 ∨ lo = 24 ∨ lo = 29 then !spreadUser s r.i w else true
  | .OUT_DIV | .OUT_COARSE | .OUT_FB_DIV | .OUT_FB_COARSE => outState s r.i == 0
  | .PORT_CFG => if lo = 22 then !spreadOn s (fget w 23 22) else true
  | .HOST_DB_LO | .HOST_DB_HI => (List.range 64).all (fun k => s.f F.HOST_RING_STATUS_state k == 0)
  | .HOST_RING_BASE_LO | .HOST_RING_BASE_HI | .HOST_RING_CFG => s.f F.HOST_RING_STATUS_state r.i == 0
  | .HOST_RXSTEER => let v := fget w (lo + 5) lo
      v == 0 || (s.f F.HOST_RING_CFG_type v == 3 && s.f F.HOST_RING_CFG_port v == r.i)
  | .PERF_CNT_LO | .PERF_CNT_HI => !s.fb F.PERF_SEL_enable r.i
  | .PERF_SAMPLE_CFG => !s.perf.sampling
  | .LOG_CFG => if lo = 31 then fget w 31 31 == 0 || cplEnabled s (fget w 13 8) else true
  | _ => lo == lo && w == w

/-- The bits of a register that a table lets software write. -/
def writable (n : RegName) : Word :=
  n.fields.foldl (fun m fs => if fs.access = .RO ∨ fs.access = .RC then m else fput m fs.hi fs.lo (2 ^ (fs.hi - fs.lo + 1) - 1)) 0

/-- Fields that are read-only at this index whatever their table says (R120, R304): a write there has no effect and is not counted. -/
def roHere (r : Reg) (lo : Nat) : Bool :=
  match r.name with
  | .AP_CFG => r.i == 0 && lo != 2
  | .HOST_RING_CFG => decide (r.i ≤ 1) && lo == 29
  | _ => false

/-- Cue generator `g` is IDLE. -/
def cueIdle (s : State) (g : Nat) : Bool := s.f F.CUE_STATUS_state g == 0

/-- An enabled PTP or NTP instance uses port `p` (R230). -/
def tseUsesPort (s : State) (p : Nat) : Bool :=
  (List.range 4).any (fun i => s.fb F.PTP_INST_CFG_enable i && (s.f F.PTP_INST_CFG_ports i).testBit p)
  || (List.range 4).any (fun i => s.fb F.NTP_INST_CFG_enable i && (s.f F.NTP_INST_CFG_ports i).testBit p)

/-- Registers that a refused field leaves wholly unchanged (R148, R179, R204, R207, R230, R257,
R279). -/
def wholeRefusal (s : State) (r : Reg) (w : Word) : Bool :=
  match r.name with
  | .OUT_CFG => outState s r.i != 0 && fput w 30 30 0 != fput (s.rg .OUT_CFG r.i) 30 30 0
  | .CUE_CFG | .CUE_PAT_LO | .CUE_PAT_HI => !cueIdle s r.i && w != s.rg r.name r.i
  | .CUE_PIN_CFG =>
    (s.fb F.CUE_PIN_CFG_enable r.i || (s.cues.pins.any (fun p => p.1 == r.i && p.2.on))) && fput w 7 7 0 != fput (s.rg .CUE_PIN_CFG r.i) 7 7 0
  | .CUE_TOD_CFG =>
    (s.fb F.CUE_TOD_CFG_rx_en || s.fb F.CUE_TOD_CFG_tx_en) && fput w 15 14 0 != fput (s.rg .CUE_TOD_CFG) 15 14 0
  | .GNSS_PORT_CFG =>
    s.fb F.GNSS_PORT_CFG_enable r.i && fput (fput w 31 31 0) 23 16 0 != fput (fput (s.rg .GNSS_PORT_CFG r.i) 31 31 0) 23 16 0
  | .GNSS_PORT_FS | .GNSS_PORT_LO => s.fb F.GNSS_PORT_CFG_enable r.i && w != s.rg r.name r.i
  | .GNSS_CH_CFG => s.f F.GNSS_CH_STATUS_state r.i != 0 && fput w 8 8 0 != fput (s.rg .GNSS_CH_CFG r.i) 8 8 0
  | .GNSS_CH_CORR => s.f F.GNSS_CH_STATUS_state r.i != 0 && fput w 31 23 0 != fput (s.rg .GNSS_CH_CORR r.i) 31 23 0
  | .PORT_CFG =>
    let keep (x : Word) : Word := fput (fput x 31 31 0) 26 24 0
    s.fb F.PORT_CFG_enable r.i && fput (keep w) 19 19 0 != fput (keep (s.rg .PORT_CFG r.i)) 19 19 0
  | .PTP_INST_CFG => s.fb F.PTP_INST_CFG_enable r.i && fput w 31 31 0 != fput (s.rg .PTP_INST_CFG r.i) 31 31 0
  | .PTP_INST_DOM => s.fb F.PTP_INST_CFG_enable r.i && fget w 31 24 != s.f F.PTP_INST_DOM_domain r.i
  | .PTP_INST_INTV | .PTP_INST_ID_LO | .PTP_INST_ID_HI => s.fb F.PTP_INST_CFG_enable r.i && w != s.rg r.name r.i
  | .PTP_INST_AUTH => s.fb F.PTP_INST_CFG_enable r.i && fput w 31 31 0 != fput (s.rg .PTP_INST_AUTH r.i) 31 31 0
  | .PTP_INST_KEY0 => s.fb F.PTP_INST_CFG_enable r.i && !s.fb F.PTP_INST_AUTH_active r.i && w != s.rg .PTP_INST_KEY0 r.i
  | .PTP_INST_KEY1 => s.fb F.PTP_INST_CFG_enable r.i && s.fb F.PTP_INST_AUTH_active r.i && w != s.rg .PTP_INST_KEY1 r.i
  | .TSE_IP4 => tseUsesPort s r.i && w != s.rg .TSE_IP4 r.i
  | .TSE_IP6 => tseUsesPort s r.i && w != s.rg .TSE_IP6 r.i r.j
  | .NTP_INST_CFG =>
    let keep (x : Word) : Word := fput (fput (fput (fput x 31 31 0) 29 29 0) 25 25 0) 24 24 0
    s.fb F.NTP_INST_CFG_enable r.i && keep w != keep (s.rg .NTP_INST_CFG r.i)
  | .NTP_PEER_CFG => s.fb F.NTP_PEER_CFG_enable r.i && fput w 31 31 0 != fput (s.rg .NTP_PEER_CFG r.i) 31 31 0
  | .NTP_PEER_ADDR | .NTP_PEER_MAC_LO | .NTP_PEER_MAC_HI => s.fb F.NTP_PEER_CFG_enable r.i && w != s.rg r.name r.i r.j
  | .PORT_MAXF | .PORT_MAC_LO | .PORT_MAC_HI => s.fb F.PORT_CFG_enable r.i && w != s.rg r.name r.i
  | .CUE_CAP_CFG => (List.range 16).any (fun c => s.f F.CLAP_CH_CFG_function c == 3) && w != s.rg .CUE_CAP_CFG
  | _ => false

/-- One field of a write: the word so far with the field's outcome, and whether any field was refused. A field written with its own
value is never refused (R454); a read-only one has no effect and is not counted (R5). -/
def writeField (s : State) (r : Reg) (w : Word) (acc : Word × Bool) (fs : FieldSpec) : Word × Bool :=
  let old := fget acc.1 fs.hi fs.lo
  let v := fget w fs.hi fs.lo
  if fs.access = .RO ∨ fs.access = .RC ∨ roHere r fs.lo = true then acc
  else if fs.access = .W1C then (fput acc.1 fs.hi fs.lo (old &&& (v ^^^ (2 ^ (fs.hi - fs.lo + 1) - 1))), acc.2)
  else if v = old then acc
  else if accessOk s fs.access && legalVal fs v && crossLegal s r fs.lo w && fieldGuard s r fs.lo w then
    (fput acc.1 fs.hi fs.lo v, acc.2)
  else (acc.1, true)

/-- What a write of `w` to register `r` makes of it, and whether the write counts as refused. -/
def writeResult (s : State) (r : Reg) (w : Word) : Word × Bool :=
  let old := s.rg r.name r.i r.j
  if wholeRefusal s r (old &&& ~~~(writable r.name) ||| w &&& writable r.name) then (old, true)
  else r.name.fields.foldl (writeField s r w) (old, false)

/-- A write of `w` to register `r` under R5, R8 and R454: the fields that may change do, and a refused write is counted once. -/
def regWrite (s : State) (r : Reg) (w : Word) : State :=
  let res := writeResult s r w
  let s := s.wr r.name r.i r.j res.1
  if res.2 then violation s else s

end Sys2Proof.Machine
end

