-- ==== Sys2Proof/Machine/Governor.lean ====
section
/-! DEFINITION. The governor's limits and sealed floors (R374-R380). -/
namespace Sys2Proof.Machine
open Sys2Proof

/-- The register, index and field width of value `b` of R380's masks. -/
def govFld (b : Nat) : Fld × Nat :=
  if b < 4 then (F.GOV_TS_SLEW_value, b)
  else if b < 8 then (F.GOV_TS_FREQ_value, b - 4)
  else if b < 12 then (F.GOV_TS_BFLOOR_value, b - 8)
  else if b < 16 then (F.GOV_TS_CFG_step_allow, b - 12)
  else if b = 16 then (F.GOV_HOLD_Y0_value, 0)
  else if b = 17 then (F.GOV_HOLD_DRIFT_value, 0)
  else if b = 18 then (F.GOV_HOLD_TEMPCO_value, 0)
  else if b < 23 then (F.GOV_PORT_TXCAP_value, b - 19)
  else if b < 31 then (F.GOV_CUE_OPEN_value, b - 23)
  else (F.GOV_CUE_CLOSE_value, b - 31)

/-- The register that holds the floor of value `b` (R374). -/
def floorFld (b : Nat) : Fld × Nat :=
  if b < 4 then (F.GOV_FLR_TS_SLEW_value, b)
  else if b < 8 then (F.GOV_FLR_TS_FREQ_value, b - 4)
  else if b < 12 then (F.GOV_FLR_TS_BFLOOR_value, b - 8)
  else if b < 16 then (F.GOV_FLR_TS_CFG_step_allow, b - 12)
  else if b = 16 then (F.GOV_FLR_HOLD_Y0_value, 0)
  else if b = 17 then (F.GOV_FLR_HOLD_DRIFT_value, 0)
  else if b = 18 then (F.GOV_FLR_HOLD_TEMPCO_value, 0)
  else if b < 23 then (F.GOV_FLR_PORT_TXCAP_value, b - 19)
  else if b < 31 then (F.GOV_FLR_CUE_OPEN_value, b - 23)
  else (F.GOV_FLR_CUE_CLOSE_value, b - 31)

/-- The value in force. -/
def govVal (s : State) (b : Nat) : Nat := s.f (govFld b).1 (govFld b).2

/-- The sealed floor. -/
def floorVal (s : State) (b : Nat) : Nat := s.f (floorFld b).1 (floorFld b).2

/-- Set a value in force. -/
def setGov (s : State) (b v : Nat) : State := s.setF (govFld b).1 v (govFld b).2

/-- Set a floor. -/
def setFloor (s : State) (b v : Nat) : State := s.setF (floorFld b).1 v (floorFld b).2

/-- The value that permits the most (R375): the floor register's reset value. -/
def loosest (b : Nat) : Nat := fget (resetVal (floorFld b).1.reg (floorFld b).2) (floorFld b).1.hi (floorFld b).1.lo

/-- A value that no encoding assigns (R374, R8). -/
def govLegal (b v : Nat) : Bool :=
  if b < 4 then decide (1000 ≤ v) && decide (v ≤ 50000000)
  else if b < 8 then decide (1 ≤ v) && decide (v ≤ 1000000)
  else if b < 12 then decide (v ≤ 0xFFFFFFFE)
  else if b < 16 then decide (v ≤ 1)
  else if b < 19 then decide (v < 2 ^ 24)
  else if b < 23 then decide (1 ≤ v) && decide (v ≤ 25000)
  else decide (v ≤ 999999999)

/-- Length in ns of a cue window: the whole second when open equals close (R379). -/
def windowLen (o c : Nat) : Nat := if o = c then 1000000000 else (c + 1000000000 - o) % 1000000000

/-- Window `w` lies in window `f` (R379). -/
def windowIn (w f : Nat × Nat) : Bool :=
  f.1 == f.2 || decide ((w.1 + 1000000000 - f.1) % 1000000000 + windowLen w.1 w.2 ≤ windowLen f.1 f.2)

/-- A value looser than the floor, for the values that stand alone (R374): bits 0-22. -/
def looser (b v fl : Nat) : Bool :=
  if b < 8 ∨ (12 ≤ b ∧ b < 16) ∨ 19 ≤ b then decide (fl < v) else decide (v < fl)

/-- A governor value that a sheet sets is applied at its floor where it is looser, counted and logged (R336). Answers the state, and whether a value
was clamped. A window's two values are set together: they are clamped to the floor window once both stand (`clampWindow`). -/
def govApply (s : State) (b v : Nat) : State × Bool :=
  if b < 23 ∧ looser b v (floorVal s b) = true then
    (logRec (setGov s b (floorVal s b)) 3 0x0C81 [(0, 1, b), (4, 4, v), (8, 4, floorVal s b)], true)
  else (setGov s b v, false)

/-- The window of cue pin `p` in force is clamped to its floor window (R379): the values that differ are logged. -/
def clampWindow (s : State) (p : Nat) : State × Nat :=
  let o := 23 + p
  let c := 31 + p
  if windowIn (govVal s o, govVal s c) (floorVal s o, floorVal s c) then (s, 0)
  else
    [o, c].foldl (fun (x : State × Nat) b =>
      if govVal x.1 b = floorVal x.1 b then x
      else (logRec (setGov x.1 b (floorVal x.1 b)) 3 0x0C81 [(0, 1, b), (4, 4, govVal x.1 b), (8, 4, floorVal x.1 b)], x.2 + 1)) (s, 0)

/-- Every value's floor. -/
def allFloors (s : State) : List Nat := (List.range 39).map (floorVal s)

/-- Set every floor from a list. -/
def setFloors (s : State) (l : List Nat) : State := (List.range 39).foldl (fun t b => setFloor t b (l[b]?.getD (loosest b))) s

/-- The floors at a life-cycle transition (R375, R376): entry to SEALED takes the values in force and writes the record; in RETURNED and SCRAPPED
every floor is loosest. -/
def govLifeCycle (s : State) (new : Nat) : State :=
  if new = 2 then
    let s := setFloors s ((List.range 39).map (govVal s))
    { (s.setB F.GOV_STATUS_sealed_floors true).setB F.GOV_STATUS_floor_bad false with
      gov := { s.gov with floorRec := some (s.f F.GOV_STATUS_raises, allFloors s) } }
  else ((setFloors s []).setB F.GOV_STATUS_sealed_floors false).setB F.GOV_STATUS_floor_bad false

/-- A value of the sheet that raises its floor: its raise bit is set and it is stricter than the floor (R376). -/
def raisesFloor (s : State) (g : GovSection) (b : Nat) : Bool :=
  g.set.testBit b && g.raise.testBit b &&
  (let v := g.values[b]?.getD 0
   if b < 23 then looser b (floorVal s b) v
   else
     let p := (b - 23) % 8
     let w := (govVal s (23 + p), govVal s (31 + p))
     let f := (floorVal s (23 + p), floorVal s (31 + p))
     v != floorVal s b && windowIn w f)

/-- A confirm raises the floors (R376, R377): a new record with the count plus 1, one fuse, the event and a record of severity 2. With no valid floors, only
a section that sets and raises every value does. -/
def floorRaise (s : State) (g : GovSection) : State :=
  let n := s.f F.GOV_STATUS_raises
  let bad := s.fb F.GOV_STATUS_floor_bad
  let all := g.set % 2 ^ 39 == 2 ^ 39 - 1 && g.raise % 2 ^ 39 == 2 ^ 39 - 1
  let bs := (List.range 39).filter (raisesFloor s g)
  if n = 32 ∨ (bad = true ∧ all = false) ∨ (bad = false ∧ bs = []) then s
  else
    let s := (if bad then List.range 39 else bs).foldl (fun t b => setFloor t b (g.values[b]?.getD 0)) s
    let s := { s with gov := { s.gov with floorRec := some (n + 1, allFloors s) } }
    let s := ((s.setF F.GOV_STATUS_raises (n + 1)).setB F.GOV_STATUS_floor_bad false).setB F.GOV_STATUS_sealed_floors true
    logEvent s 2 0x0E03 [(0, 1, n + 1)]

/-- The floors at boot (R375-R377): in SEALED the record's, when it verifies and its count is the number of fuses blown. -/
def floorBoot (s : State) (verifies : Bool) : State :=
  if s.f F.LC_STATE_state ≠ 2 then s
  else match s.gov.floorRec with
    | some (n, l) =>
      if verifies = true ∧ n = s.f F.GOV_STATUS_raises then (setFloors s l).setB F.GOV_STATUS_sealed_floors true
      else logRec (s.setB F.GOV_STATUS_floor_bad true) 1 0x0E81 []
    | none => logRec (s.setB F.GOV_STATUS_floor_bad true) 1 0x0E81 []

end Sys2Proof.Machine
end

