-- ==== Sys2Proof/Machine/LoopCore.lean ====
section
/-! DEFINITION. What loops and outputs share with the chapters before them: output requests on a lost clock (R136, R153, R156), DPLL and
APLL states (R126, R131), and the deterministic-phase procedure's start and end (R132, R133). -/
namespace Sys2Proof.Machine
open Sys2Proof

/-- The shutter domain runs on rebuilt time: SHCLK is present, and no rebuild is pending (R138). -/
def clocked (s : State) : Bool := s.hs.shclk && !s.fb F.SYN_GAP_STATUS_rebuilding

/-! ### Outputs -/

/-- Output `o` beside its registers. -/
def outOf (s : State) (o : Nat) : Out := tget s.outs Out.reset o

/-- Set output `o`. -/
def setOut (s : State) (o : Nat) (x : Out) : State := { s with outs := tset s.outs o x }

/-- State of APLL `a`: 0 OFF, 1 SEARCH, 2 HOP, 3 LOCKED, 4 LOST. -/
def apState (s : State) (a : Nat) : Nat := s.f F.AP_STATUS_state a

/-- The fallback APLL of output `o`. -/
def outFb (s : State) (o : Nat) : Option Nat := if s.fb F.OUT_CFG_fb_en o then some (s.f F.OUT_CFG_fb_apll o) else none

/-- A stop without a command becomes due; the first cause stays (R153, R155). -/
def outFault (s : State) (o cause : Nat) : State :=
  let x := outOf s o
  setOut s o { x with fault := some (x.fault.getD cause) }

/-- Output `o` passes to its fallback or back (R156, R157). -/
def outOnFb (s : State) (o : Nat) (fb : Bool) : State :=
  let s := (s.setB F.OUT_STATUS_on_fallback fb o).setF F.OUT_STATUS_apll (if fb then s.f F.OUT_CFG_fb_apll o else outSrc s o) o
  if fb then s.incF F.OUT_SWITCHES_to_fb o else s.incF F.OUT_SWITCHES_returns o

/-- The fallback of output `o` is LOCKED and can be used (R156). -/
def outFbUsable (s : State) (o : Nat) : Bool :=
  match outFb s o with
  | some b => b != outSrc s o && apState s b == 3
  | none => false

/-- The mux move in progress ends without being made. -/
def outMoveEnd (s : State) (o : Nat) : State := setOut (s.setB F.OUT_STATUS_switching false o) o { outOf s o with move := none }

/-- The clock of APLL `a` is lost for output `o` (R136, R153, R156): on the fallback it stops with cause 6; with a LOCKED fallback it
switches, or goes on with the switch in progress, or arms there while no edge has reached the pin; else it stops with cause 2. A stop that is due
stays (R155). The loss of the clock towards which a switch or return is in progress ends it where the clock in use is LOCKED (DESIGN CHOICE,
notes/assumptions/70.md). -/
def outLoss1 (a : Nat) (s : State) (o : Nat) : State :=
  let x := outOf s o
  if outState s o = 0 ∨ outSrc s o = 4 ∨ x.fault.isSome = true then s
  else if s.fb F.OUT_STATUS_on_fallback o then
    (if s.f F.OUT_CFG_fb_apll o = a then outFault s o 6
     else if outSrc s o = a ∧ x.move = some false then outMoveEnd s o
     else s)
  else if outSrc s o = a then
    (if !outFbUsable s o then outFault s o 2
     else if outState s o = 2 ∨ outState s o = 4 then setOut (s.setB F.OUT_STATUS_switching true o) o { x with move := some true }
     else outOnFb s o true)
  else if outFb s o = some a ∧ x.move = some true then
    (if apState s (outSrc s o) = 3 then outMoveEnd s o else outFault s o 2)
  else s

/-- The clock of APLL `a` is lost. -/
def outLoss (s : State) (a : Nat) : State := (List.range 32).foldl (outLoss1 a) s

/-- Every output that is not STOPPED stops without a command (R140, R153). -/
def outStopAll (s : State) (cause : Nat) : State :=
  (List.range 32).foldl (fun t o => if outState t o = 0 then t else outFault t o cause) s

/-! ### DPLLs -/

/-- DPLL `d` beside its registers. -/
def dp (s : State) (d : Nat) : Dpll := tget s.loops.dp Dpll.reset d

/-- Set DPLL `d`. -/
def setDp (s : State) (d : Nat) (x : Dpll) : State := { s with loops := { s.loops with dp := tset s.loops.dp d x } }

/-- APLL `a` beside its registers. -/
def ap (s : State) (a : Nat) : Apll := tget s.loops.ap Apll.reset a

/-- Set APLL `a`. -/
def setAp (s : State) (a : Nat) (x : Apll) : State := { s with loops := { s.loops with ap := tset s.loops.ap a x } }

/-- State of DPLL `d`: 0 OFF, 1 FREERUN, 2 ACQUIRING, 3 LOCKED, 4 HOLDOVER. -/
def dpState (s : State) (d : Nat) : Nat := s.f F.DP_STATUS_state d

/-- OSC_IN frequency in Hz (SYN_OSC_CFG). -/
def oscHz (s : State) : Nat :=
  match s.f F.SYN_OSC_CFG_osc_freq with
  | 0 => 5000000 | 1 => 10000000 | 2 => 20000000 | 3 => 25000000 | 4 => 40000000 | 5 => 50000000 | _ => 100000000

/-- VCO frequency of DPLL `d` in 2^-24 Hz. -/
def dpFreq (s : State) (d : Nat) : Nat := s.pair .DP_FREQ_LO .DP_FREQ_HI d

/-- PFD frequency of APLL `a` in Hz (R131). -/
def pfdHz (s : State) (a : Nat) : Rat := ((oscHz s : Nat) : Rat) / ((s.f F.AP_CFG_ref_div a + 1 : Nat) : Rat)

/-- The PFD frequency lies within 5-100 MHz. -/
def pfdOk (s : State) (a : Nat) : Bool := decide (5000000 ≤ pfdHz s a) && decide (pfdHz s a ≤ 100000000)

/-- The ratio of DP_FREQ on the nominal oscillator, in 2^-40 (R126). -/
def nominalRatio (s : State) (d : Nat) : Nat :=
  (roundRat (((dpFreq s d * 2 ^ 16 : Nat) : Rat) / pfdHz s ((steered s d).getD 0))).toNat

/-- The source of DPLL `d` is present (R126, R224). -/
def dpPresent (s : State) (d : Nat) : Bool :=
  let i := s.f F.DP_CFG_src_idx d
  match s.f F.DP_CFG_src_type d with
  | 1 => s.fb F.TS_CTRL_enable i
  | 2 => s.fb F.SYN_REFIN_STATUS_present i
  | 3 => s.fb F.PORT_STATUS_src_present i
  | 4 => s.loops.osc
  | _ => false

/-- The deterministic-phase procedure is available (R132). -/
def detAvail (s : State) (d : Nat) : Bool :=
  let f := dpFreq s d
  let i := s.f F.DP_CFG_src_idx d
  (match steered s d with
    | some a => !spreadOn s a
    | none => false) &&
  (match s.f F.DP_CFG_src_type d with
    | 1 => f % (2 ^ 24 * s.f F.DP_ALIGN_align_div d) == 0
    | 2 => s.f F.SYN_REFIN_CFG_f_nom i != 0 && f % (2 ^ 24 * s.f F.SYN_REFIN_CFG_f_nom i) == 0
    | _ => false)

/-- The procedure is abandoned or its result no longer holds: det_state NOT_RUN; a DP_ALIGN_RUN in progress completes with BUSY (R126,
R136, R141). -/
def detAbandon (s : State) (d : Nat) : State :=
  let x := dp s d
  let s := (setDp s d { x with active := false, anchor := none, det := none }).setF F.DP_STATUS_det_state 0 d
  match x.det with
  | some h => finish s h 0x32 .busy [(0, 1, 0)]
  | none => s

/-- The residual that a consumer carries now, in 2^-48 ns (R64). -/
def residualOf (s : State) (c : Nat) : Int := (tget s.time.residuals (⟨0, 0, 0, 0⟩ : Residual) c).rem

/-- The time of the source timescale of DPLL `d` as the DPLL follows it (R64, R124), in 2^-48 ns: its residual is its consumer's. -/
def dpSrcTime (s : State) (d : Nat) : Int := (counterUnits (tsc s (s.f F.DP_CFG_src_idx d)).cnt : Int) - residualOf s d

/-- What of that time the source's increments alone do not give (R125): slews, steps and residuals move it. -/
def dpSrcOff (s : State) (d : Nat) : Int :=
  if s.f F.DP_CFG_src_type d = 1 then dpSrcTime s d - (tsc s (s.f F.DP_CFG_src_idx d)).elapsed else 0

/-- DP_PHASE and the corrections added to it (R124, R133), in 1/256,000 ps. -/
def dpPhaseSet (s : State) (d : Nat) : Int := s.fi F.DP_PHASE_value d * 256000 + (dp s d).correction * 1000

/-- The first grid instant of DPLL `d` at least 100 µs ahead (R132, R133): of its source timescale, or the first stamped edge of its REFIN from
there on. -/
def gridAfter (s : State) (d : Nat) : Option GridAt :=
  match s.f F.DP_CFG_src_type d with
  | 1 =>
    let t := counterUnits (tsc s (s.f F.DP_CFG_src_idx d)).cnt + 100000 * 2 ^ 48
    let n := s.f F.DP_ALIGN_align_div d
    some (.ts (cdiv (cdiv (t * n) unitsPerSec * unitsPerSec) n))
  | 2 => some (.tick (((s.ticks + 62500) * 2 ^ 32 : Nat) : Int))
  | _ => none

/-- A grid instant once it has come: a physical edge is the one stamped at or after it; none before there is one (R132). -/
def gridCome (s : State) (d : Nat) : GridAt → Option GridAt
  | .ts u => some (.ts u)
  | .tick t => match (tget s.loops.refin Refin.reset (s.f F.DP_CFG_src_idx d)).last with
    | some e => if t ≤ e then some (.tick e) else none
    | none => none

/-- The procedure is due: its anchor is the first grid instant at least 100 µs ahead (R133). -/
def detBegin (s : State) (d : Nat) (h : Option CmdHdr) : State :=
  (setDp s d { dp s d with active := true, anchor := gridAfter s d, det := h }).setF F.DP_STATUS_passes 0 d

/-- Mean of the ratios of the last `k` updates of a history. -/
def histMean (l : List (Nat × Nat)) (k : Nat) : Nat :=
  let r := l.foldl (fun (acc : Nat × Nat) p => let n := min p.2 acc.2; (acc.1 + n * p.1, acc.2 - n)) (0, k)
  (roundRat (((r.1 : Nat) : Rat) / ((k : Nat) : Rat))).toNat

/-- Updates in 1 s. -/
def updatesPerSec : Nat := 125000

/-- A DPLL transition (R126, R127): posted, and recorded with severity 4 on entry to HOLDOVER and 5 otherwise. FREERUN takes the nominal
ratio, HOLDOVER the holdover ratio; entry to LOCKED with det = 1 begins the procedure where it is available. -/
def dpSet (s : State) (d new : Nat) : State :=
  let old := dpState s d
  if old = new then s
  else
    let s := if old = 3 then detAbandon s d else s
    let x := dp s d
    let hold := if old = 0 then none else if old = 3 ∧ updatesPerSec ≤ x.lockedFor then some (histMean x.hist updatesPerSec) else x.holdRatio
    let r := if new = 1 then nominalRatio s d else if new = 4 then hold.getD x.ratio else x.ratio
    let s := setDp s d { x with ratio := r, goodRun := 0, badRun := 0, hist := [], lockedFor := 0, holdRatio := hold }
    let s := if new = 2 ∧ old ≠ 3 then
      setDp s d { dp s d with samples := [], lag := 0, phaseSeen := dpPhaseSet s d, srcSeen := dpSrcOff s d, fresh := old == 0 || old == 1, portAt := none } else s
    let s := match steered s d with
      | some a => if new = 1 ∨ new = 4 then setAp s a { ap s a with ratio := some r } else s
      | none => s
    let s := s.setF F.DP_STATUS_state new d
    let s := if new = 2 ∨ new = 3 then s else s.setB F.DP_STATUS_slope_limited false d
    let s := logEvent s (if new = 4 then 4 else 5) 0x0401 [(0, 1, d), (1, 1, old), (2, 1, new)]
    if new = 3 && s.fb F.DP_CFG_det d && detAvail s d then detBegin s d none else s

/-- The state that DPLL `d` takes for its enable, its source, its APLL and SHCLK (R126). -/
def dpNext (s : State) (d : Nat) : Nat :=
  let st := dpState s d
  if d = 0 then (if !s.hs.shclk then 4 else if apState s 0 = 3 ∧ s.loops.probe2 = true then 3 else 0)
  else if !s.fb F.DP_CFG_enable d then 0
  else if s.f F.DP_CFG_src_type d = 0 then (if st = 0 then 1 else st)
  else
    let ok := dpPresent s d && clocked s
    let apSt := match steered s d with
      | some a => apState s a
      | none => 3
    if st = 0 ∨ st = 1 then (if dpPresent s d then 2 else st)
    else if st = 4 then (if ok && apSt == 3 then 2 else 4)
    else if !ok || apSt == 4 then 4
    else st

/-- Re-evaluate DPLL `d`: it enters ACQUIRING with its source present, and HOLDOVER from there where its APLL is LOST or SHCLK absent (R126). -/
def dpEval (s : State) (d : Nat) : State :=
  let s := (s.setB F.DP_STATUS_src_present (dpPresent s d) d).setB F.DP_STATUS_det_unavail (s.fb F.DP_CFG_enable d && d != 0 && !detAvail s d) d
  let s := dpSet s d (dpNext s d)
  dpSet s d (dpNext s d)

/-- Re-evaluate every DPLL. -/
def dpEvalAll (s : State) : State := (List.range 6).foldl dpEval s

/-! ### Links of the ports (R208, R212, R222) -/

/-- Port `p` beside its registers. -/
def port (s : State) (p : Nat) : PortSt := tget s.ports.tbl PortSt.reset p

/-- Set port `p`. -/
def setPort (s : State) (p : Nat) (x : PortSt) : State := { s with ports := { s.ports with tbl := tset s.ports.tbl p x } }

/-- State of port `p`: 0 DISABLED, 1 DOWN, 2 CALIBRATING, 3 UP. -/
def portState (s : State) (p : Nat) : Nat := s.f F.PORT_STATUS_state p

/-- A port is the source of an enabled DPLL. -/
def portFeedsDpll (s : State) (p : Nat) : Bool :=
  (List.range 6).any (fun d => d != 0 && s.fb F.DP_CFG_enable d && s.f F.DP_CFG_src_type d == 3 && s.f F.DP_CFG_src_idx d == p)

/-- State of port `p` in PTP instance `i` (PTP_INST_STATUS.port_state): 4 MASTER. -/
def ptpPortState (s : State) (i p : Nat) : Nat := s.f F.PTP_INST_STATUS_port_state i / 16 ^ p % 16

/-- LPI may run on port `p` (R222). -/
def lpiAllowed (s : State) (p : Nat) : Bool :=
  s.fb F.PORT_CFG_lpi_en p && [2, 4, 5].contains (s.f F.PORT_CFG_mode p) && !portFeedsDpll s p
  && !(List.range 4).any (fun i => s.fb F.PTP_INST_CFG_enable i && (s.f F.PTP_INST_CFG_ports i).testBit p
    && (s.f F.PTP_INST_CFG_profile i == 2 || s.f F.PTP_INST_CFG_profile i == 3) && ptpPortState s i p == 4)

/-- A transmitter in LPI wakes at once when a condition of R222 fails. -/
def lpiCheck (s : State) (p : Nat) : State :=
  if s.fb F.PORT_STATUS_lpi_tx p && !lpiAllowed s p then s.setB F.PORT_STATUS_lpi_tx false p else s

/-- The same of every port. -/
def lpiCheckAll (s : State) : State := (List.range 4).foldl lpiCheck s

/-- Set the state of a port of PTP instance `i`: 0 DISABLED, 1 LISTENING, 2 UNCALIBRATED, 3 SLAVE, 4 MASTER, 5 PASSIVE, 6 FAULTY; a transmitter in
LPI wakes where the port becomes MASTER (R222). -/
def setPtpState (s : State) (i p st : Nat) : State :=
  lpiCheck (s.setF F.PTP_INST_STATUS_port_state (s.f F.PTP_INST_STATUS_port_state i - ptpPortState s i p * 16 ^ p + st * 16 ^ p) i) p

/-- The ports of the instances follow the link of port `p` (R238): FAULTY while it is not UP, and LISTENING once it is. -/
def ptpLink (s : State) (p : Nat) : State :=
  (List.range 4).foldl (fun t i =>
    if t.fb F.PTP_INST_CFG_enable i && (t.f F.PTP_INST_CFG_ports i).testBit p then
      (if portState t p ≠ 3 then setPtpState t i p 6 else if ptpPortState t i p = 6 then setPtpState t i p 1 else t)
    else t) s

/-- The source that port `p` gives a DPLL is present while the port is UP, calibrated and out of LPI quiet (R224). -/
def portPresence (s : State) (p : Nat) : State :=
  dpEvalAll (s.setB F.PORT_STATUS_src_present (portState s p == 3 && !s.fb F.PORT_STATUS_cal_failed p && !s.fb F.PORT_STATUS_lpi_rx p) p)

/-- A transition of port `p` (R208): posted and recorded, severity 4 from UP to DOWN and 5 otherwise; the PTP instances follow (R238). -/
def portSet (s : State) (p new : Nat) : State :=
  let old := portState s p
  let s := s.setF F.PORT_STATUS_state new p
  let s := logEvent s (if old = 3 ∧ new = 1 then 4 else 5) 0x0801 [(0, 1, p), (1, 1, old), (2, 1, new), (3, 1, s.f F.PORT_STATUS_link_down_cause p)]
  portPresence (ptpLink s p) p

/-- A measurement waits behind those that waited before, and at one instant in ascending port number (R17). -/
def gearPut (q : List (Nat × Nat)) (tick p : Nat) : List (Nat × Nat) :=
  let q := q.filter (fun e => e.2 != p)
  q.filter (fun e => !(e.1 == tick && decide (p < e.2))) ++ [(tick, p)] ++ q.filter (fun e => e.1 == tick && decide (p < e.2))

/-- Port `p` enters CALIBRATING, or stays in it, and waits for its measurement (R17, R208). -/
def portCalibrate (s : State) (p : Nat) : State :=
  let s := { s with ports := { s.ports with gearQ := gearPut s.ports.gearQ s.ticks p } }
  if portState s p = 2 then s else portSet s p 2

/-- APLL `a` enters LOST (R212): the ports that it times switch to the AP0 tap with their links up, and pass to CALIBRATING. -/
def portsApLost (s : State) (a : Nat) : State :=
  (List.range 4).foldl (fun t p =>
    if a ≠ 0 ∧ t.f F.PORT_CFG_ref_apll p = a ∧ 2 ≤ portState t p ∧ t.fb F.PORT_STATUS_ref_on_ap0 p = false then
      portCalibrate (t.setB F.PORT_STATUS_ref_on_ap0 true p) p
    else t) s

/-! ### APLLs -/

/-- The target VCO frequency of APLL `a` in Hz (R120, R121). -/
def apTarget (s : State) (a : Nat) : Option Rat :=
  let d := s.f F.AP_CFG_dpll a
  if a = 0 then some 10000000000
  else if d ≠ 0 then some (((dpFreq s d : Nat) : Rat) / 16777216)
  else (ap s a).ratio.map (fun r => ((r : Nat) : Rat) / 1099511627776 * pfdHz s a)

/-- An APLL transition (R131): posted; an entry to LOST counts and is recorded with severity 3; an APLL that leaves for LOST or OFF takes
its clock from its outputs; the DPLLs follow. -/
def apSet (s : State) (a new : Nat) : State :=
  let old := apState s a
  if old = new then s
  else
    let d : Layout := [(0, 1, a), (1, 1, old), (2, 1, new)]
    let s := event (s.setF F.AP_STATUS_state new a) 0x0402 d
    let s := if new = 4 then (logRec s 3 0x0402 d).inc .AP_LOSS a else if new = 3 then setAp s a { ap s a with lockedAt := s.ticks } else s
    let s := if a = 0 ∧ new ≠ 3 then { s with loops := { s.loops with probe2 := false } } else s
    let s := s.setB F.AP_STATUS_spread_active (new == 3 && spreadOn s a) a
    let s := if (new = 4 ∨ new = 0) ∧ old ≠ 4 ∧ old ≠ 0 then outLoss s a else s
    let s := if new = 4 then portsApLost s a else s
    dpEvalAll s

/-- The reference that times port `p` is ready (R212). -/
def portRefReady (s : State) (p : Nat) : Bool :=
  let a := s.f F.PORT_CFG_ref_apll p
  apState s a == 3 && (a == 0 || apTarget s a == some 10000000000)

/-- The command that waits for the lock of APLL `a` completes. -/
def apFinish (s : State) (a : Nat) (st : Status) (p : Layout) : State :=
  match (ap s a).cmd with
  | some (h, op) => finish (setAp s a { ap s a with cmd := none }) h op st p
  | none => s

end Sys2Proof.Machine
end

