-- ==== Sys2Proof/Machine/Handshake.lean ====
section
/-! DEFINITION. The handshake domain (02_handshake_fabric.md): the pace monitor, the sag state, AVSBus tracking and timed loads. -/
namespace Sys2Proof.Machine
open Sys2Proof

/-- The VCORE tracking window of a run profile in mV: minimum and maximum (R414, R415). -/
def vcoreWindow (profile : Nat) : Nat × Nat :=
  match profile with
  | 0 => (600, 700) | 1 => (650, 800) | 2 => (700, 850) | _ => (800, 900)

/-- The VCORE set point of a run profile in mV (R415). -/
def vcoreSetPoint (profile : Nat) : Nat :=
  match profile with
  | 0 => 650 | 1 => 750 | 2 => 800 | 3 => 800 | _ => 850

/-- Entry to or exit from the sag state (R32). -/
def sagChange (s : State) (entered : Bool) : State :=
  let s := { s with hs := { s.hs with sag := entered } }
  let s := s.setB F.PWR_PACE_STATUS_sag entered
  let s := if entered then s.setB F.PWR_PACE_EVENT_sag_seen true else s
  logEvent s 4 0x0101 [(0, 1, bit entered)]

/-- The runs of windows after one that was below the threshold or not, and the sag state they give (R32). -/
def sagFilter (s : State) (below : Bool) : State :=
  let b := if below then s.hs.belowRun + 1 else 0
  let a := if below then 0 else s.hs.aboveRun + 1
  let s := { s with hs := { s.hs with belowRun := b, aboveRun := a } }
  let n := s.f F.PWR_PACE_CFG_sag_count
  if !s.hs.sag && decide (n ≤ b) then sagChange s true
  else if s.hs.sag && decide (n ≤ a) then sagChange s false
  else s

/-- Ask the regulator for a voltage (R42, R43). -/
def avsWrite (s : State) (mv : Nat) : State :=
  { s.emit (.avs mv) with hs := { s.hs with avsPending := some (mv, false) } }

/-- SHCLK cycles in a millisecond. -/
def avsStepGap : Nat := 625000

/-- A step of tracking is allowed again: a millisecond has passed since the last one, by the windows completed since or by the model's clock
(R42). -/
def avsMayStep (s : State) : Bool :=
  match s.hs.avsStepped with
  | none => true
  | some (at_, cycles) => decide (avsStepGap ≤ cycles) || decide (at_ + avsStepGap ≤ s.ticks)

/-- A window of the length in force has completed since the last step of tracking (R42). -/
def avsWindow (s : State) : State :=
  { s with hs := { s.hs with avsStepped := s.hs.avsStepped.map (fun p => (p.1, p.2 + 2 ^ (10 + s.hs.windowExp))) } }

/-- A 5 mV step of tracking (R42). -/
def avsStep (s : State) (mv : Nat) : State :=
  { avsWrite s mv with hs := { (avsWrite s mv).hs with avsStepped := some (s.ticks, 0) } }

/-- AVSBus tracking at the end of a valid window in run state RUN (R42): a step that the millisecond withholds is no limit of the window. -/
def avsTrack (s : State) (pace : Nat) : State :=
  if s.fb F.PWR_PACE_CFG_avs_track && s.f F.PWR_RUN_run_state == 3 && !s.hs.avsSuspended && !s.hs.avsProfile
      && s.hs.avsPending.isNone then
    let t := s.f F.PWR_PACE_TARGET_avs_target
    let v := s.f F.PWR_AVS_STATUS_vcore_mv
    let w := vcoreWindow (s.f F.PWR_RUN_profile)
    let low := decide (pace + 64 < t)
    let high := decide (t + 128 < pace)
    if low && decide (v + 5 ≤ w.2) then (if avsMayStep s then avsStep s (v + 5) else s)
    else if high && decide (w.1 + 5 ≤ v) then (if avsMayStep s then avsStep s (v - 5) else s)
    else if low || high then s.setB F.PWR_PACE_EVENT_avs_limit true
    else s
  else s

/-- SHCLK stops (R32, R40): the pending timed loads are discarded, those of output dividers among them (R148). -/
def shclkStop (s : State) : State :=
  let s := (s.setB F.PWR_PACE_STATUS_shclk_ok false).setB F.PWR_PACE_STATUS_valid false
  { s.setB F.PWR_PACE_EVENT_shclk_lost true with
    outs := s.outs.map (fun p => (p.1, { p.2 with reloadAt := none, reloadFb := none })),
    hs := { s.hs with shclk := false, loads := [] } }

/-- SHCLK starts (R32, R40): the first window begins, and the counting of consecutive windows restarts; a cue
pin held low by its ring timer is released, its pulse being over (R169). -/
def shclkStart (s : State) : State :=
  let done (g : Nat) : Bool := s.cues.low.any (fun d => match d with
    | .pin p => s.f F.CUE_PIN_CFG_cue p == g
    | .out o => s.f F.OUT_CFG_cue o == g)
  { s.setB F.PWR_PACE_STATUS_shclk_ok true with
    cues := { s.cues with low := [], gen := s.cues.gen.map (fun q => (q.1, if done q.1 then { q.2 with pulse := none } else q.2)) },
    hs := { s.hs with shclk := true, belowRun := 0, aboveRun := 0, windowExp := s.f F.PWR_PACE_CFG_window_exp } }

/-- PACE_WINDOW_END (R31, R32, R42): no window ends while SHCLK is absent, and the first after its return begins with it.
A change of window_exp takes effect here and restarts the counting (R32). An index beyond 16 bits saturates
(DESIGN CHOICE, notes/assumptions/63.md). -/
def execPaceWindowEnd (ringCount : Nat) (s : State) : Host.Outcome State Fault Refusal :=
  if !s.hs.shclk then .next s
  else
    let pace := min 0xFFFF (4096 * ringCount / refCount s.hs.windowExp)
    let s := ((s.setF F.PWR_PACE_STATUS_pace_index pace).setB F.PWR_PACE_STATUS_valid true).setF F.PWR_PACE_RAW_value (ringCount % 2 ^ 24)
    let s := s.wr .CLAP_PROBE_LO 0 0 (BitVec.ofNat 32 ringCount)
    let below := decide (pace < s.f F.PWR_PACE_TARGET_sag_threshold)
    let s := if below then perf (s.inc .PWR_PACE_SAG_COUNT) 0x0040 0 else s
    let s := sagFilter s below
    let s := avsTrack (avsWindow s) pace
    let e := s.f F.PWR_PACE_CFG_window_exp
    .next (if e = s.hs.windowExp then s else { s with hs := { s.hs with windowExp := e, belowRun := 0, aboveRun := 0 } })

/-- AVS_TRANSACTION_DONE (R43): an acknowledged voltage becomes the confirmed one; a first failure is retried once; a second one
suspends tracking. -/
def execAvsTransactionDone (result : AvsResult) (s : State) : Host.Outcome State Fault Refusal :=
  match s.hs.avsPending with
  | none => .next s
  | some (mv, retried) =>
    if result = .acked then
      let s := s.setF F.PWR_AVS_STATUS_vcore_mv mv
      let s := { s with hs := { s.hs with avsPending := none, avsProfile := false } }
      .next (s.setB F.PWR_PACE_STATUS_avs_tracking (s.fb F.PWR_PACE_CFG_avs_track && !s.hs.avsSuspended && s.f F.PWR_RUN_run_state == 3))
    else if !retried then
      .next { s.emit (.avs mv) with hs := { s.hs with avsPending := some (mv, true) } }
    else
      let s := (s.setB F.PWR_PACE_EVENT_avs_fault true).setB F.PWR_PACE_STATUS_avs_tracking false
      let s := { s with hs := { s.hs with avsPending := none, avsProfile := false, avsSuspended := true } }
      .next (logRec s 3 0x0180 [(0, 2, s.f F.PWR_AVS_STATUS_vcore_mv), (2, 1, if result = .error then 1 else 0)])

/-- AVS_TRACK_ENABLE_WRITE (R43): a write of PWR_PACE_CFG; avs_track from 0 to 1 restarts tracking. -/
def execAvsTrackEnableWrite (value : Word) (s : State) : Host.Outcome State Fault Refusal :=
  let was := s.fb F.PWR_PACE_CFG_avs_track
  let s := regWrite s ⟨.PWR_PACE_CFG, 0, 0⟩ value
  let now := s.fb F.PWR_PACE_CFG_avs_track
  .next (if !was && now then
      { s with hs := { s.hs with avsSuspended := false } }.setB F.PWR_PACE_STATUS_avs_tracking (s.f F.PWR_RUN_run_state == 3)
    else if was && !now then s.setB F.PWR_PACE_STATUS_avs_tracking false
    else s)

end Sys2Proof.Machine
end

