-- ==== Sys2Proof/Machine/Timescale.lean ====
section
/-! DEFINITION. Timescales (03_timescales.md): the counter, increments, slews, steps, splices, views and the leap schedule. -/
namespace Sys2Proof.Machine
open Sys2Proof

/-! ### Increments (R45-R48) -/

/-- The nominal increment as an exact ratio of 2^-48 ns: 1.6 ns. -/
def nominalIncr : Rat := 16 * 2 ^ 48 / 10

/-- An increment within 1.598 400 to 1.601 600 ns (R45). -/
def incrInRange (i : Nat) : Bool := decide (15984 * 2 ^ 48 ≤ i * 10000) && decide (i * 10000 ≤ 16016 * 2 ^ 48)

/-- The fractional offset of an increment from 1.6 ns. -/
def incrOffset (i : Nat) : Rat := (i : Rat) / nominalIncr - 1

/-- Sum over the increments applied since tick `lo`, each offset weighted with its ticks; `hi` is the end of the newest. -/
def histSum : List (Nat × Nat) → Nat → Nat → Rat
  | [], _, _ => 0
  | (t, i) :: r, lo, hi =>
    (if lo < hi then incrOffset i * ((hi - max t lo : Nat) : Rat) else 0) + histSum r lo (min t hi)

/-- Ticks in the 1,024 s of the oscillator model (R374). -/
def modelTicks : Nat := 640000000000

/-- The oscillator model of timescale `n`: the mean fractional offset of the increments applied over the preceding 1,024 s, held
while the timescale is COASTING (R374). -/
def oscModel (s : State) (n : Nat) : Rat :=
  match (tsc s n).frozen with
  | some m => m
  | none => histSum (tsc s n).hist (s.ticks - modelTicks) s.ticks / (modelTicks : Rat)

/-- An increment within the governor's frequency limit of the oscillator model, or the nearest that is (R48). -/
def clampIncr (s : State) (n i : Nat) : Nat :=
  let y := incrOffset i - oscModel s n
  let lim : Rat := (s.f F.GOV_TS_FREQ_value n : Rat) / 1000000000
  if y ≤ lim && -lim ≤ y then i
  else (roundRat ((1 + oscModel s n + (if lim < y then lim else -lim)) * nominalIncr)).toNat

/-- Put an increment in force, clamped, counted and logged under R48 when the governor limits it. Writer: 0 host, 1 firmware, 2
ensemble (R455). -/
def applyIncr (s : State) (n i writer : Nat) : State :=
  let c := clampIncr s n i
  let fs (q : Rat) : Nat := twos 64 (roundRat (q * 1000000000000000))
  let s := if c = i then s
    else logRec (violation s) 3 0x0280
      [(0, 1, n), (1, 1, writer), (4, 8, fs (incrOffset i - oscModel s n)), (12, 8, fs (incrOffset c - oscModel s n))]
  let s := ((s.setF F.TS_INCR_LO_frac_lo (c % 2 ^ 32) n).setF F.TS_INCR_HI_frac_hi (c / 2 ^ 32 % 2 ^ 16) n).setF F.TS_INCR_HI_int_ns (c / 2 ^ 48) n
  setTsc s n { tsc s n with hist := (s.ticks, c) :: (tsc s n).hist }

/-- The host may write the increment of timescale `n` (R47). -/
def hostIncrOk (s : State) (n : Nat) : Bool := !tsDerived s n && !s.fb F.TS_CTRL_ens_enable n

/-- TS_INCR_LO_WRITE (R46, R47): the low half is held until the high half is written. -/
def execTsIncrLoWrite (ts : Nat) (value : Word) (s : State) : Host.Outcome State Fault Refusal :=
  if 4 ≤ ts then .next (violation s)
  else if hostIncrOk s ts then .next (setTsc s ts { tsc s ts with heldLo := some value })
  else .next (if value = s.rg .TS_INCR_LO ts then s else violation s)

/-- TS_INCR_HI_WRITE (R46-R48): both halves apply as one timed load that never misses (R33). While SHCLK is absent, out of
the range of R45, or while the host does not own the increment, nothing applies, the held half is discarded and the write is
counted, unless it writes the values in force (R454). With no low half held, the low half in force goes with the high one
(DESIGN CHOICE, notes/assumptions/64.md). -/
def execTsIncrHiWrite (ts : Nat) (value : Word) (s : State) : Host.Outcome State Fault Refusal :=
  if 4 ≤ ts then .next (violation s)
  else
    let t := tsc s ts
    let lo := (t.heldLo.getD (s.rg .TS_INCR_LO ts)).toNat
    let s := setTsc s ts { t with heldLo := none }
    let i := fget value 19 16 * 2 ^ 48 + fget value 15 0 * 2 ^ 32 + lo
    if i = tsIncr s ts then .next s
    else if hostIncrOk s ts && s.hs.shclk && incrInRange i then .next (applyIncr s ts i 0)
    else .next (violation s)

/-! ### Slews and the tick (R44, R49, R61) -/

/-- The slew quantum of a rate in ps/s: round(rate × 1.6 × 10^-12 × 2^48) units of 2^-48 ns. -/
def slewQuantum (rate : Nat) : Nat := (rate * 16 * 2 ^ 48 * 2 + 10 ^ 13) / (2 * 10 ^ 13)

/-- What a slew adds in `k` ticks: its quantum each tick, never past the amount remaining. -/
def slewMoved (rem : Int) (rate k : Nat) : Int :=
  let m : Int := (k * slewQuantum rate : Nat)
  if 0 ≤ rem then min m rem else max (-m) rem

/-- The slew rate of timescale `n` in force: clamped to the governor's maximum (R374). -/
def slewRateOf (s : State) (n : Nat) : Nat := min (tsc s n).slewRate (s.f F.GOV_TS_SLEW_value n)

/-- What `k` ticks add to the counter of timescale `n`, in 2^-48 ns (R44); a DERIVED one adds its source's, and its own rate (R49). -/
def tickDelta (s : State) : Nat → Nat → Nat → Int
  | 0, n, k => (k * tsIncr s n : Nat) + slewMoved (tsc s n).slewRem (slewRateOf s n) k
  | fuel + 1, n, k =>
    if tsDerived s n then tickDelta s fuel (tsSource s n) k + k * s.fi F.TS_DERIVE_RATE_delta n
    else (k * tsIncr s n : Nat) + slewMoved (tsc s n).slewRem (slewRateOf s n) k

/-- What one tick adds to timescale `n` by its increment and derived rates alone (R49, R104). -/
def rateIncr (s : State) : Nat → Nat → Int
  | 0, n => tsIncr s n
  | fuel + 1, n => if tsDerived s n then rateIncr s fuel (tsSource s n) + s.fi F.TS_DERIVE_RATE_delta n else tsIncr s n

/-- Timescale `n` after `k` ticks. -/
def tickTs (s : State) (k n : Nat) : Tscale :=
  let t := { tsc s n with elapsed := (tsc s n).elapsed + k * rateIncr s 4 n }
  if tsRuns s n then
    let rem := if tsDerived s n then t.slewRem else t.slewRem - slewMoved t.slewRem (slewRateOf s n) k
    { t with cnt := counterAdd t.cnt (tickDelta s 4 n k), slewRem := rem, slewRate := if rem = 0 then 0 else t.slewRate }
  else t

/-- A splice residual after `k` ticks (R64). -/
def tickResidual (k : Nat) (r : Residual) : Residual := { r with rem := r.rem - slewMoved r.rem r.rate k }

/-- A point added to a path that is straight between its points: one on the line through the newest two takes the newest's place. At most 256 points
stay. -/
def pathPut (h : List (Int × Int)) (p : Int × Int) : List (Int × Int) :=
  match h with
  | a :: b :: r =>
    if p = a then a :: b :: r
    else if (p.1 - a.1) * (a.2 - b.2) = (p.2 - a.2) * (a.1 - b.1) ∧ 0 ≤ (p.1 - a.1) * (a.1 - b.1) then p :: b :: r
    else (p :: a :: b :: r).take 256
  | h => if h.head? = some p then h else p :: h

/-- The path's value at `t`: that of the newest stretch that holds `t`, the newest value after it and the oldest before it. -/
def pathAt (h : List (Int × Int)) (t : Int) : Int :=
  match h with
  | [] => 0
  | [a] => a.2
  | a :: b :: r =>
    if a.1 ≤ t then a.2
    else if b.1 ≤ t ∧ b.1 < a.1 then b.2 + (a.2 - b.2) * (t - b.1) / (a.1 - b.1)
    else pathAt (b :: r) t

/-- The ensembles' tables after timescale `n` moved by `d` 2^-48 ns under its own slew or step while its counter went from `u` to `v` (R459). -/
def movedBy (s : State) (t : Tbl Ens) (n : Nat) (d : Int) (u v : Nat) : Tbl Ens :=
  let e := tget s.ens.tbl Ens.reset n
  if d = 0 then t else tset t n { e with moved := e.moved + d, moves := pathPut (pathPut e.moves ((u : Int), e.moved)) ((v : Int), e.moved + d) }

/-- A Clapper measurement takes its start (R105): the stops are the first `n` stamps at or after it that came early. -/
def giveStart (x : ClapCh) (n : Nat) (same : Bool) (st : Stamp) : ClapCh :=
  let stops := if same then [] else (x.early.filter (fun e => decide (st.pos ≤ e.pos))).take n
  { x with start := some st, stops := stops, early := [], lost := st.gap || stops.any (fun e => e.gap),
           lostPos := match stops.find? (fun e => e.gap) with
             | some e => if st.gap then st.pos else e.pos
             | none => st.pos }

/-- Stamps that a later start can still precede, or an end precede: delay corrections differ by less than 2^24 ps. -/
def recentStamp (now : Int) (e : Stamp) : Bool := decide (now - 2 ^ 72 < e.pos)

/-- An interval measurement meets a stamp that is a start event, a stop event or both (R105). What a running measurement does not take waits for
its end, since all orderings are of corrected stamps (R104). -/
def intervalEdge (x : ClapCh) (n : Nat) (isStart isStop : Bool) (e : Stamp) : ClapCh :=
  let wait := { x with later := x.later.filter (fun q => recentStamp e.pos q.2.2) ++ [(isStart, isStop, e)] }
  if x.lost then wait
  else match x.start with
    | none =>
      if isStart && decide (x.armPos ≤ e.pos) then giveStart x n isStop e
      else if isStop then { x with early := x.early.filter (recentStamp e.pos) ++ [e] }
      else x
    | some st =>
      if isStop && decide (x.stops.length < n) then
        (if st.pos ≤ e.pos then { x with stops := x.stops ++ [e], lost := e.gap, lostPos := e.pos } else x)
      else wait

/-- The start event of a whole second of timescale `n` at `u` 2^-48 ns of its counter, where the counter stands at `now` (R105). -/
def secondStamp (s : State) (n c : Nat) (u now pos : Int) : Stamp := ⟨pos, slateAt s n (.ring (s.f F.CLAP_CH_CFG_ring c)) (u - now), false, false⟩

/-- Channel `c` with start source "whole second of the timebase" takes as its start the first whole second that falls in the next `k`
ticks (R105). -/
def secondStart (s : State) (k c : Nat) (x : ClapCh) : ClapCh :=
  let n := s.f F.CLAP_CH_CFG_timebase c
  let d := tickDelta s 4 n k
  let u := counterUnits (tsc s n).cnt
  let b := (u / unitsPerSec + 1) * unitsPerSec
  if s.fb F.CLAP_CH_STATUS_armed c && s.f F.CLAP_CH_CFG_function c == 1 && s.f F.CLAP_CH_MEAS_start_src c == 17
      && tsRuns s n && decide (0 < d) && decide ((b : Int) ≤ u + d) then
    intervalEdge x (s.f F.CLAP_CH_MEAS_n_stops c) true false
      (secondStamp s n c b u (((tsc s n).elapsed + ((b : Int) - u) * (k * rateIncr s 4 n) / d) * 1000))
  else x

/-- `k` SHCLK ticks between the return of SHCLK and the rebuild of R138: the counters are held, and what the increments alone add goes on being
summed, since edges are stamped from S0 on (R104). -/
def tickHeld (s : State) (k : Nat) : TimeSt :=
  { s.time with tbl := (List.range 4).foldl (fun t n => tset t n { tsc s n with elapsed := (tsc s n).elapsed + k * rateIncr s 4 n }) s.time.tbl }

/-- `k` SHCLK ticks: every running timescale advances by its exact update (R44), slews and residuals shrink; while SHCLK is
absent the counters are held and only the model's clock advances. -/
def advance (s : State) (k : Nat) : State :=
  if clocked s then
    { s with
      ens := { s.ens with tbl := (List.range 4).foldl (fun t n => movedBy s t n (if tsRuns s n && !tsDerived s n then
        slewMoved (tsc s n).slewRem (slewRateOf s n) k else 0) (counterUnits (tsc s n).cnt) (counterUnits (tickTs s k n).cnt)) s.ens.tbl },
      time := { s.time with
        tbl := (List.range 4).foldl (fun t n => tset t n (tickTs s k n)) s.time.tbl,
        residuals := s.time.residuals.map (fun p => (p.1, tickResidual k p.2)) },
      clap := { s.clap with ch := s.clap.ch.map (fun p => (p.1, secondStart s k p.1 p.2)) },
      ticks := s.ticks + k }
  else if s.hs.shclk then { s with time := tickHeld s k, ticks := s.ticks + k }
  else { s with ticks := s.ticks + k }

/-- Load a slew at its edge: it replaces the one in progress (R61, R79). -/
def loadSlew (s : State) (n : Nat) (amount : Int) (rate : Nat) (posts : Bool) : State :=
  setTsc s n { tsc s n with slewRem := amount, slewRate := if amount = 0 then 0 else rate, slewPosts := posts && amount != 0 }

/-- Cancel the slew in progress. -/
def cancelSlew (s : State) (n : Nat) : State := loadSlew s n 0 0 false

/-- Timescale `m` is derived from `n`, through any number of sources (R49). -/
def derivesFrom (s : State) : Nat → Nat → Nat → Bool
  | 0, _, _ => false
  | k + 1, m, n => tsDerived s m && (tsSource s m == n || derivesFrom s k (tsSource s m) n)

/-- Move timescale `n` and every running timescale derived from it at the same edge, and set their stepped bits (R49, R54). TS_STEP_COUNT counts
the step of the timescale that the command names alone (DESIGN CHOICE, notes/assumptions/64.md). -/
def stepBy (s : State) (n : Nat) (d : Int) : State :=
  (List.range 4).foldl (fun t m =>
    if m = n || (derivesFrom s 4 m n && tsRuns s m) then
      let t := setStepped (setTsc t m { tsc t m with cnt := counterAdd (tsc t m).cnt d }) m
      { t with ens := { t.ens with tbl := movedBy t t.ens.tbl m d (counterUnits (tsc s m).cnt) (counterUnits (tsc t m).cnt) } }
    else t) s

/-! ### States (R58) -/

/-- Some timescale is COASTING. -/
def anyCoasting (s : State) : Bool := (List.range 4).any (fun n => (tsc s n).state == .coasting)

/-- Default and floor of a class for y0, drift and tempco, in 0.01 ppt, 0.01 ppt/day and 0.01 ppt/K (R83). -/
def classCoeffs (c : Nat) : (Nat × Nat) × (Nat × Nat) × (Nat × Nat) :=
  match c with
  | 0 => ((10000, 5000), (100000, 50000), (500000, 200000))
  | 1 => ((1000, 500), (30000, 10000), (1000, 500))
  | 2 => ((100, 50), (2000, 1000), (50, 20))
  | 3 => ((100, 50), (300, 100), (50, 20))
  | 4 => ((50, 20), (10, 0), (5, 2))
  | _ => ((10, 5), (1, 1), (1, 1))

/-- The floor in force of coefficient `i` (0 y0, 1 drift, 2 tempco): the larger of the class floor and the governor's (R83). -/
def coeffFloor (s : State) (i : Nat) : Nat :=
  let c := classCoeffs (s.f F.TS_OSC_CFG_class)
  match i with
  | 0 => max c.1.2 (s.f F.GOV_HOLD_Y0_value)
  | 1 => max c.2.1.2 (s.f F.GOV_HOLD_DRIFT_value)
  | _ => max c.2.2.2 (s.f F.GOV_HOLD_TEMPCO_value)

/-- The field of coefficient `i`. -/
def coeffFld (i : Nat) : Fld :=
  match i with
  | 0 => F.TS_OSC_Y0_value
  | 1 => F.TS_OSC_DRIFT_value
  | _ => F.TS_OSC_TEMPCO_value

/-- The coefficient writes held while a timescale was COASTING take effect when none is any more, at or above the floor then in force (R83). -/
def applyHeldCoeffs (s : State) : State :=
  if anyCoasting s then s
  else
    let put (t : State) (i : Nat) : State :=
      match tget s.ens.held none i with
      | some v => t.setF (coeffFld i) (max v (coeffFloor s i))
      | none => t
    { put (put (put s 0) 1) 2 with ens := { s.ens with held := [] } }

/-- The provenance sequence of timescale `n` advances: posted and recorded with severity 5 (R95). -/
def advanceProv (s : State) (n cause : Nat) : State :=
  let e := ens s n
  let q := (e.provSeq + 1) % 2 ^ 32
  logEvent (setEns s n { e with provSeq := q, provCause := cause }) 5 0x0204 [(0, 1, n), (4, 4, q)]

/-- The ensemble of a timescale that is FREE (R58, R81, R85, R91): no bound, no tier, no lock count, grade 5, and no consecutive epochs
(notes/assumptions/62.md). -/
def ensFree (s : State) (n : Nat) : State :=
  let s := setEns s n { ens s n with lockRun := 0, loseRun := 0, gradeRuns := [], total := none }
  let s := ((s.setF F.TS_ENS_STATUS_lock_count 0 n).setF F.TS_ENS_STATUS_tier 0xF n).setF F.TS_ENS_STATUS_n_phase 0 n
  let s := (s.setB F.TS_ENS_STATUS_reacq false n).setF F.TS_BND_TOTAL_value 0xFFFFFFFF n
  if s.f F.TS_ENS_STATUS_grade n = 5 then s else advanceProv (s.setF F.TS_ENS_STATUS_grade 5 n) n 3

/-- A state transition: logged with severity 5, or 3 for an entry to COASTING, and posted (R58); the provenance advances (R95). LOCKED is
remembered; FREE has bound 0xFF; COASTING holds the oscillator model (R374), and its end lets the held coefficients in (R83). A DERIVED
timescale reports its source's state and makes no transition of its own (DESIGN CHOICE, notes/assumptions/64.md). -/
def tsTransition (s : State) (n : Nat) (st : TsState) : State :=
  let t := tsc s n
  if t.state = st then s
  else
    let frozen := if st = .coasting then some (oscModel s n) else none
    let s := setTsc s n
      { t with state := st, everLocked := t.everLocked || st == .locked, frozen := frozen, bnd := if st = .free then 0xFF else t.bnd }
    let s := if t.state = .coasting then (applyHeldCoeffs s).wr .TS_COAST_TIME n 0 0 else s
    let s := advanceProv (logEvent s (if st = .coasting then 3 else 5) 0x0201 [(0, 1, n), (1, 1, t.state.code), (2, 1, st.code)]) n 2
    if st = .free then ensFree s n else s

/-- A phase member of timescale `n` is QUALIFIED (R73, R75): an enabled slot of it that is not freq_only. -/
def slotQualified (s : State) (n k : Nat) : Bool :=
  s.fb F.TS_REF_CFG_enable k && s.f F.TS_REF_CFG_ts k == n && !s.fb F.TS_REF_CFG_freq_only k && s.f F.TS_REF_STATUS_state k == 2

/-- Some member of timescale `n` is QUALIFIED. -/
def anyQualified (s : State) (n : Nat) : Bool := (List.range 32).any (slotQualified s n)

/-- Every DERIVED timescale that stops or resumes must be set again (R50): it resumes with valid 0, and a TS_SET that loaded it while it was held
does not count. -/
def dropDerived (before after : State) : State :=
  (List.range 4).foldl (fun t m =>
    if tsDerived after m && tsRuns before m != tsRuns after m then setTsc t m { tsc t m with setSinceResume := false } else t) after

/-- Every cue on a timescale that ran before and does not run now ends with cause 3, after the pulse in progress (R50, R161). -/
def endCues (before after : State) : State :=
  let gone := fun g => tsRuns before (after.f F.CUE_CFG_ts g) && !tsRuns after (after.f F.CUE_CFG_ts g) && after.f F.CUE_STATUS_state g != 0
  { after with cues := { after.cues with gen := after.cues.gen.map (fun q => if gone q.1 && q.2.ending == 0 then (q.1, { q.2 with ending := 3 }) else q) } }

/-- TS_ENABLE_WRITE (R58): a write of TS_CTRL. enable written 0 stops the counter with valid 0, state FREE and bound 0xFF; ens_enable
written 0 gives FREE; both 1 with a QUALIFIED member hands the timescale to the ensemble, which cancels a host slew. -/
def execTsEnableWrite (ts : Nat) (value : Word) (s : State) : Host.Outcome State Fault Refusal :=
  if 4 ≤ ts then .next (violation s)
  else
    let en := s.fb F.TS_CTRL_enable ts
    let ens := s.fb F.TS_CTRL_ens_enable ts
    let u := endCues s (dropDerived s (regWrite s ⟨.TS_CTRL, ts, 0⟩ value))
    let en' := u.fb F.TS_CTRL_enable ts
    let ens' := u.fb F.TS_CTRL_ens_enable ts
    let u := if en && !en' then
        setTsc (tsTransition u ts .free) ts { tsc (tsTransition u ts .free) ts with valid := false, bnd := 0xFF, everLocked := false }
      else if ens && !ens' then tsTransition u ts .free
      else u
    .next (dpEvalAll <| if en' && ens' && !tsDerived u ts && (tsc u ts).state == .free && anyQualified u ts then
        tsTransition (cancelSlew u ts) ts .acquiring
      else u)

/-! ### Step permits (R381, R382) -/

/-- The permit held for timescale `n`. -/
def permitOf (s : State) (n : Nat) : Option Permit := tget s.gov.permits none n

/-- Set or clear the permit of timescale `n`; TS_CTRL.step_permit shows an unused, unexpired one. -/
def setPermit (s : State) (n : Nat) (p : Option Permit) : State :=
  { s with gov := { s.gov with permits := tset s.gov.permits n p } }.setB F.TS_CTRL_step_permit p.isSome n

/-- A permit is held for timescale `n` that is unexpired and not reserved (R381, R382). -/
def permitFree (s : State) (n : Nat) : Bool := (permitOf s n).any (fun p => p.reserved.isNone && decide (s.ticks < p.expires))

/-- The permit `v` is the one held for timescale `n`, unexpired and not reserved (R382). -/
def permitFits (s : State) (n v : Nat) : Bool := permitFree s n && (permitOf s n).any (fun p => p.value == v)

/-- The event and record of a permit issued (0), consumed (1) or expired (2) (R381). -/
def permitEvent (s : State) (n action : Nat) : State := logEvent s 3 0x0E02 [(0, 1, n), (1, 1, action)]

/-- A command reserves the permit of timescale `n` at its commit point. -/
def reservePermit (s : State) (n : Nat) (h : CmdHdr) : State :=
  match permitOf s n with
  | some p => setPermit s n (some { p with reserved := some (h.ring, h.tag) })
  | none => s

/-- A reservation ends without a step: the permit expires now when its lifetime has passed (R382). -/
def releasePermit (s : State) (n : Nat) (h : CmdHdr) : State :=
  match permitOf s n with
  | some p =>
    if p.reserved = some (h.ring, h.tag) then
      if p.expires ≤ s.ticks then permitEvent (setPermit s n none) n 2 else setPermit s n (some { p with reserved := none })
    else s
  | none => s

/-- A permit that is not reserved expires once its lifetime has passed (R381, R382). -/
def permitLapse (s : State) (n : Nat) : State :=
  match permitOf s n with
  | some p => if p.reserved.isNone ∧ p.expires ≤ s.ticks then permitEvent (setPermit s n none) n 2 else s
  | none => s

/-- The step takes effect: the permit is used up (R62, R382). -/
def consumePermit (s : State) (n : Nat) : State :=
  match permitOf s n with
  | some _ => permitEvent (setPermit s n none) n 1
  | none => s

/-! ### TS_SET, TS_STEP, TS_SLEW (R59-R63, R70, R71) -/

/-- A slate's two 64-bit words (R51). -/
def slateWord0 (x : Slate) : Nat :=
  x.bnd * 2 ^ 56 + bit x.valid * 2 ^ 55 + bit x.leapPending * 2 ^ 54 + bit x.holdover * 2 ^ 53 + bit x.stepped * 2 ^ 52 + x.ts * 2 ^ 48 + x.sec

/-- The second word of a slate (R51). -/
def slateWord1 (x : Slate) : Nat := x.ns * 2 ^ 32 + x.frac

/-- A slate laid out from byte `o` (R51). -/
def slateLayout (o : Nat) (x : Slate) : Layout := [(o, 8, slateWord0 x), (o + 8, 8, slateWord1 x)]

/-- The CPL ring that takes the completions of a CMD ring. -/
def cplOf (s : State) (h : CmdHdr) : Nat := s.f F.HOST_RING_CFG_cpl_ring h.ring

/-- A time given as seconds, ns and 2^-32 ns, in 2^-48 ns. -/
def timeUnits (sec ns frac : Nat) : Nat := counterUnits ⟨sec, ns, frac * 2 ^ 16⟩

/-- The instant of an AT_TS command is already past on timescale `n` (R457). -/
def instantPast (s : State) (n sec ns frac : Nat) : Bool :=
  !tsRuns s n || decide (timeUnits sec ns frac ≤ counterUnits (tsc s n).cnt)

/-- Load an absolute time into timescale `n` (R60): on a valid one a step of it and of what derives from it, which
TS_STEP_COUNT counts and the permit pays for; else the counter takes the value and becomes valid. -/
def loadTime (s : State) (n v : Nat) : State :=
  let t := tsc s n
  if tsLoaded s n then
    (stepBy (consumePermit s n) n ((v : Int) - (counterUnits t.cnt : Int))).inc .TS_STEP_COUNT n
  else
    let s := setTsc s n { t with cnt := counterOf v }
    if tsDerived s n then setTsc s n { tsc s n with setSinceResume := true }
    else setTsc s n { tsc s n with valid := true }

/-- The command holds the permit of timescale `n`: it reserved it, or the permit it carries is the one held and not reserved (R382). -/
def permitHeldBy (s : State) (n v : Nat) (h : CmdHdr) : Bool :=
  (match permitOf s n with
  | some p => p.reserved == some (h.ring, h.tag)
  | none => false) || permitFits s n v

/-- A command that has begun ends with DENIED_GOVERNOR (R456). -/
def deniedRunning (s : State) (h : CmdHdr) (op limit : Nat) : State :=
  finish (governorRefuses (s.inc .GOV_DENIED) op limit) h op .deniedGovernor []

/-- The time of TS_SET is loaded, and the completion carries the slate at the load edge (R70). -/
def loadTsSet (s : State) (h : CmdHdr) (a : TsSetArgs) : State :=
  let s := loadTime s a.ts (timeUnits a.sec a.ns a.frac)
  let d := Dest.ring (cplOf s h)
  finish (sentTo s a.ts d) h 0x10 .ok (slateLayout 0 (slateOf s a.ts d))

/-- TS_SET at its load edge (R60, R382): on a timescale that is valid there it is a step, which only a permit of this command pays for; on one
that is not, a permit reserved at acceptance is released unused; on one disabled since, nothing is loaded (R71; DEDUCED,
notes/assumptions/65.md). -/
def applyTsSet (s : State) (h : CmdHdr) (a : TsSetArgs) : State :=
  if s.fb F.TS_CTRL_enable a.ts = false then finish (releasePermit s a.ts h) h 0x10 .badArg []
  else if tsLoaded s a.ts then
    (if permitHeldBy s a.ts a.permit h then loadTsSet s h a else deniedRunning s h 0x10 0x46)
  else loadTsSet (releasePermit s a.ts h) h a

/-- A command waits for its instant on its trigger timescale (R457). -/
def atTsWait (s : State) (w : AtTs) : State := { s with host := { s.host with atTs := s.host.atTs ++ [w] } }

/-- TS_SET (R52, R60, R70, R71, R457): its time values are checked whatever the trigger is, and a trigger timescale that does not exist answers
NOT_FOUND with either trigger, as for OUT_START (DESIGN CHOICE, notes/assumptions/64.md). -/
def execTsSet (h : CmdHdr) (a : TsSetArgs) (s : State) : Host.Outcome State Fault Refusal :=
  if !h.mbz then .next (badArg s h 0x10)
  else if s.log.isolated.contains 5 then .next (complete s h 0x10 .hwFault [])
  else if 4 ≤ a.ts ∨ 4 ≤ a.triggerTs then .next (complete s h 0x10 .notFound [])
  else if 1 < a.trigger ∨ 10 ^ 9 ≤ a.ns ∨ 2 ^ 48 ≤ a.sec ∨ 10 ^ 9 ≤ a.tNs ∨ 2 ^ 48 ≤ a.tSec ∨ s.fb F.TS_CTRL_enable a.ts = false then .next (badArg s h 0x10)
  else if !s.hs.shclk then .next (complete s h 0x10 .busy [])
  else if a.trigger = 1 ∧ (a.triggerTs = a.ts ∨ instantPast s a.triggerTs a.tSec a.tNs a.tFrac = true) then
    .next (badArg s h 0x10)
  else if tsLoaded s a.ts && !permitFits s a.ts a.permit then .next (deniedBy s h 0x10 0x46)
  else
    let s := begins s h 0x10
    if a.trigger = 0 then .next (applyTsSet s h a)
    else
      let s := if tsLoaded s a.ts then reservePermit s a.ts h else s
      .next (atTsWait s ⟨h, .tsSet a, a.triggerTs, a.tSec, a.tNs, a.tFrac⟩)

/-- The amount of a TS_STEP in 2^-48 ns (R70). -/
def stepUnits (a : TsStepArgs) : Int := a.amountNs * 2 ^ 48 + (a.amountFrac * 2 ^ 16 : Nat)

/-- TS_STEP (R62, R70, R71): a step whose result leaves 0 to 2^48 s is not applied, and its permit stays unused. -/
def execTsStep (h : CmdHdr) (a : TsStepArgs) (s : State) : Host.Outcome State Fault Refusal :=
  if !h.mbz then .next (badArg s h 0x11)
  else if s.log.isolated.contains 5 then .next (complete s h 0x11 .hwFault [])
  else if 4 ≤ a.ts then .next (complete s h 0x11 .notFound [])
  else if s.fb F.TS_CTRL_enable a.ts = false ∨ tsDerived s a.ts = true then .next (badArg s h 0x11)
  else if !s.hs.shclk then .next (complete s h 0x11 .busy [])
  else if !permitFits s a.ts a.permit then .next (deniedBy s h 0x11 0x46)
  else
    let v := (counterUnits (tsc s a.ts).cnt : Int) + stepUnits a
    if v < 0 ∨ (2 ^ 48 * unitsPerSec : Nat) ≤ v then .next (badArg s h 0x11)
    else
      let rem := (tsc s a.ts).slewRem
      let s := cancelSlew (consumePermit s a.ts) a.ts
      .next (complete ((stepBy s a.ts (stepUnits a)).inc .TS_STEP_COUNT a.ts) h 0x11 .ok [(0, 8, twos 64 (unitsToPs rem))])

/-- Duration of a slew in ms, rounded up (R70). -/
def slewMs (amount : Int) (rate : Nat) : Nat := satNat 32 (cdiv (amount.natAbs * 1000) rate)

/-- TS_SLEW (R61, R70, R71). -/
def execTsSlew (h : CmdHdr) (a : TsSlewArgs) (s : State) : Host.Outcome State Fault Refusal :=
  if !h.mbz then .next (badArg s h 0x12)
  else if s.log.isolated.contains 5 then .next (complete s h 0x12 .hwFault [])
  else if 4 ≤ a.ts then .next (complete s h 0x12 .notFound [])
  else if s.fb F.TS_CTRL_enable a.ts = false ∨ tsDerived s a.ts = true ∨ (a.rate ≠ 0 ∧ (a.rate < 1000 ∨ 50000000 < a.rate)) then
    .next (badArg s h 0x12)
  else if s.fb F.TS_CTRL_ens_enable a.ts || !s.hs.shclk then .next (complete s h 0x12 .busy [])
  else if s.f F.GOV_TS_SLEW_value a.ts < a.rate then .next (deniedBy s h 0x12 a.ts)
  else
    let rate := if a.rate = 0 then s.f F.GOV_TS_SLEW_value a.ts else a.rate
    let rem := (tsc s a.ts).slewRem
    .next (complete (loadSlew s a.ts (psToUnits a.amount) rate true) h 0x12 .ok
      [(0, 8, twos 64 (unitsToPs rem)), (8, 4, slewMs a.amount rate)])

/-! ### Splices (R64, R65) -/

/-- The timescale that consumer `c` of the splice mask follows: none for a DPLL with another source (R65). -/
def consumerTs (s : State) (c : Nat) : Option Nat :=
  if c < 6 then (if s.f F.DP_CFG_src_type c = 1 then some (s.f F.DP_CFG_src_idx c) else none)
  else if c < 10 then some (s.f F.PORT_CFG_ts (c - 6))
  else if c < 14 then some (s.f F.PTP_INST_CFG_ts (c - 10))
  else if c < 18 then some (s.f F.NTP_INST_CFG_ts (c - 14))
  else if c = 18 then some (s.f F.CUE_TOD_CFG_ts)
  else some (s.f F.CUE_CAP_CFG_ts)

/-- Consumer `c` follows timescale `n` from now on: its own register names it (R65); a new timescale clears alt_spliced
(PTP_INST_INFO). -/
def setConsumerTs (s : State) (c n : Nat) : State :=
  if c < 6 then s.setF F.DP_CFG_src_idx n c
  else if c < 10 then s.setF F.PORT_CFG_ts n (c - 6)
  else if c < 14 then
    let was := s.f F.PTP_INST_CFG_ts (c - 10)
    let s := s.setF F.PTP_INST_CFG_ts n (c - 10)
    if was = n then s else s.setB F.PTP_INST_INFO_alt_spliced false (c - 10)
  else if c < 18 then s.setF F.NTP_INST_CFG_ts n (c - 14)
  else if c = 18 then s.setF F.CUE_TOD_CFG_ts n
  else s.setF F.CUE_CAP_CFG_ts n

/-- The consumers of a mask. -/
def maskConsumers (mask : Nat) : List Nat := (List.range 20).filter (fun c => mask.testBit c)

/-- A consumer carries a residual, or an accepted splice that waits names it (R65). -/
def consumerBusy (s : State) (c : Nat) : Bool :=
  s.time.residuals.any (fun p => p.1 == c && p.2.rem != 0) ||
  s.host.atTs.any (fun w => match w.cmd with
    | .tsSplice a => a.mask.testBit c
    | _ => false)

/-- The slate that consumer `c` takes on the timescale it follows: time TSb − r; its bound is that of b plus |r| and the `w` ps of the consumer's own
timestamp point, added in ps and encoded once (R56, R64, R86). -/
def consumerSlate (s : State) (c : Nat) (d : Dest) (sub : Int) (w : Nat := 0) : Slate :=
  let n := (consumerTs s c).getD 0
  let r := residualOf s c
  let x := slateWide s n d sub (w + (unitsToPs r).natAbs)
  let t := counterAdd (counterAdd (tsc s n).cnt sub) (-r)
  { x with sec := t.sec, ns := t.ns, frac := t.frac / 2 ^ 16 }

/-- Set the residual of a consumer. -/
def setResidual (s : State) (c : Nat) (r : Residual) : State :=
  { s with time := { s.time with residuals := tset s.time.residuals c r } }

/-- A splice takes effect at its instant (R64): d = TSb − TSa; in mode SLEW every consumer starts with residual d, in mode JUMP
with 0, which uses a permit of b, counts a step and sets the stepped bits of b. With nothing to decay SLEW_DONE is posted at once. -/
def applySplice (s : State) (h : CmdHdr) (a : TsSpliceArgs) : State :=
  let d : Int := (counterUnits (tsc s a.to_).cnt : Int) - counterUnits (tsc s a.from_).cnt
  let rate := if a.rate = 0 then s.f F.GOV_TS_SLEW_value a.to_ else a.rate
  let g := s.time.nextGroup
  let r : Int := if a.mode = 0 then d else 0
  let s := (maskConsumers a.mask).foldl (fun t c => setResidual (setConsumerTs t c a.to_) c ⟨g, a.to_, r, rate⟩) s
  let s := (maskConsumers a.mask).foldl (fun t c => if c < 6 then
    setDp t c { dp t c with srcSeen := (dp t c).srcSeen + (tsc s a.from_).elapsed - (tsc s a.to_).elapsed } else t) s
  let s := { s with time := { s.time with nextGroup := g + 1 } }
  let s := if a.mode = 1 then setStepped ((consumePermit s a.to_).inc .TS_STEP_COUNT a.to_) a.to_ else s
  let ms := if a.mode = 0 then slewMs (unitsToPs d) rate else 0
  let s := if r = 0 then event s 0x0202 [(0, 1, a.to_)] else { s with time := { s.time with groups := tset s.time.groups g a.to_ } }
  finish s h 0x13 .ok [(0, 8, twos 64 (unitsToPs d)), (8, 4, ms)]

/-- TS_SPLICE (R64, R65, R70, R457): it waits for its instant on timescale a. -/
def execTsSplice (h : CmdHdr) (a : TsSpliceArgs) (s : State) : Host.Outcome State Fault Refusal :=
  if !h.mbz then .next (badArg s h 0x13)
  else if s.log.isolated.contains 5 then .next (complete s h 0x13 .hwFault [])
  else if 4 ≤ a.from_ ∨ 4 ≤ a.to_ then .next (complete s h 0x13 .notFound [])
  else if 1 < a.mode ∨ a.mask = 0 ∨ 2 ^ 20 ≤ a.mask ∨ a.from_ = a.to_ ∨ 10 ^ 9 ≤ a.ns ∨ 2 ^ 48 ≤ a.sec
      ∨ (a.mode = 0 ∧ a.rate ≠ 0 ∧ (a.rate < 1000 ∨ 50000000 < a.rate)) then .next (badArg s h 0x13)
  else if !s.hs.shclk then .next (complete s h 0x13 .busy [])
  else if !tsRuns s a.to_ || !tsLoaded s a.to_ || (maskConsumers a.mask).any (fun c => consumerTs s c != some a.from_)
      || instantPast s a.from_ a.sec a.ns 0 then .next (badArg s h 0x13)
  else if (maskConsumers a.mask).any (consumerBusy s) then .next (complete s h 0x13 .busy [])
  else if a.mode = 0 && decide (s.f F.GOV_TS_SLEW_value a.to_ < a.rate) then .next (deniedBy s h 0x13 a.to_)
  else if a.mode = 1 && !permitFits s a.to_ a.permit then .next (deniedBy s h 0x13 0x46)
  else
    let s := begins s h 0x13
    let s := if a.mode = 1 then reservePermit s a.to_ h else s
    .next (atTsWait s ⟨h, .tsSplice a, a.from_, a.sec, a.ns, 0⟩)

/-- The first group spliced to timescale `n` whose consumers carry no residual any more. -/
def doneGroup (s : State) (n : Nat) : Option Nat :=
  (s.time.groups.find? (fun g => g.2 == n && !(s.time.residuals.any (fun p => p.2.group == g.1 && p.2.rem != 0)))).map Prod.fst

/-- SLEW_DONE (R61, R64): after `ticks` ticks, a slew started by TS_SLEW whose remaining amount is 0 posts the event; else a
splice to the timescale whose residuals are all 0 does. The end of a re-acquire slew clears reacq (R88). While something remains, nothing is posted. -/
def execSlewDone (ts ticks : Nat) (s : State) : Host.Outcome State Fault Refusal :=
  let s := advance s ticks
  let t := tsc s ts
  let s := if t.slewRem = 0 then s.setB F.TS_ENS_STATUS_reacq false ts else s
  if t.slewPosts && t.slewRem == 0 then
    .next (event (setTsc s ts { t with slewPosts := false }) 0x0202 [(0, 1, ts)])
  else
    match doneGroup s ts with
    | some g => .next (event { s with time := { s.time with groups := s.time.groups.filter (fun p => p.1 != g) } } 0x0202 [(0, 1, ts)])
    | none => .next s

/-! ### The snapshot (R57) -/

/-- TS_NOW_SNAPSHOT (R57): a read of TS_NOW0 latches the slate of the timescale for the TS_NOW destination; while SHCLK is absent the
held value has valid 0. -/
def execTsNowSnapshot (ts : Nat) (s : State) : Host.Outcome State Fault Refusal :=
  if 4 ≤ ts then .next s
  else
    let x := slateOf s ts .now
    .next (setTsc (sentTo s ts .now) ts { tsc (sentTo s ts .now) ts with now := x })

/-! ### Views and the leap schedule (R66-R71) -/

/-- Civil date of a day count from 1970-01-01: year, month, day (the Gregorian calendar). -/
def civil (days : Int) : Int × Nat × Nat :=
  let z := days + 719468
  let era := z / 146097
  let doe := (z % 146097).toNat
  let yoe := (doe - doe / 1460 + doe / 36524 - doe / 146096) / 365
  let doy := doe - (365 * yoe + yoe / 4 - yoe / 100)
  let mp := (5 * doy + 2) / 153
  let d := doy - (153 * mp + 2) / 5 + 1
  let m := if mp < 10 then mp + 3 else mp - 9
  ((yoe : Int) + era * 400 + (if m ≤ 2 then 1 else 0), m, d)

/-- The last day of a UTC month (R67). -/
def monthEnd (day : Nat) : Bool := (civil ((day : Int) + 1)).2.2 == 1

/-- TAI − UTC in force. -/
def taiUtc (s : State) : Int := s.fi F.TS_UTC_OFS_tai_utc

/-- UTC seconds of TS0 as TAI − UTC in force gives them. -/
def utcSec (s : State) : Int := ((tsc s 0).cnt.sec : Int) - taiUtc s

/-- A leap is scheduled (R67). -/
def leapScheduled (s : State) : Bool := s.f F.TS_LEAP_SCHED_dir != 0

/-- The first UTC second after the leap day. -/
def leapDayEnd (s : State) : Int := ((s.f F.TS_LEAP_SCHED_day : Int) + 1) * 86400

/-- The leap that UTC near the present passes through (R67, R68): the TS0 second at which it acts, TAI − UTC before it, and its direction. It is the
scheduled one, or the last one while the offset that it made is in force and TS0 is past it. -/
def leapPoint (s : State) : Option (Int × Int × Nat) :=
  if leapScheduled s then
    some (leapDayEnd s + taiUtc s - (if s.f F.TS_LEAP_SCHED_dir = 2 then 1 else 0), taiUtc s, s.f F.TS_LEAP_SCHED_dir)
  else match s.time.lastLeap with
    | some (t0, a, dir) =>
      let l := t0 + 43200 - (if dir = 2 then 1 else 0)
      if taiUtc s = a + (if dir = 1 then 1 else -1) ∧ l ≤ ((tsc s 0).cnt.sec : Int) then some (l, a, dir) else none
    | none => none

/-- UTC of an instant of TS0, both in 2^-48 ns, and whether the instant lies inside an inserted leap second, which has the count of the following
00:00:00 (R68). -/
def utcOf (s : State) (x : Int) : Int × Bool :=
  match leapPoint s with
  | none => (x - taiUtc s * unitsPerSec, false)
  | some (l, a, dir) =>
    if x < l * unitsPerSec then (x - a * unitsPerSec, false)
    else if dir = 1 then
      (if x < (l + 1) * unitsPerSec then (x - a * unitsPerSec, true) else (x - (a + 1) * unitsPerSec, false))
    else (x - (a - 1) * unitsPerSec, false)

/-- Clear the leap schedule. -/
def clearLeap (s : State) : State := s.wr .TS_LEAP_SCHED 0 0 0

/-- The payload of TS_LEAP (R70). -/
def leapPayload (s : State) : Layout := [(0, 4, (s.rg .TS_LEAP_SCHED).toNat), (4, 2, s.f F.TS_UTC_OFS_tai_utc)]

/-- The device is a STAND_IN: TS0 is in follow mode and the leap schedule is its peer's (R290, R291). -/
def standIn (s : State) : Bool := s.f F.RAN_STATUS_role == 2

/-- TS_LEAP (R67, R70, R71, R291). -/
def execTsLeap (h : CmdHdr) (a : TsLeapArgs) (s : State) : Host.Outcome State Fault Refusal :=
  if !h.mbz ∨ 2 < a.op ∨ (a.op = 0 ∧ a.dir ≠ 1 ∧ a.dir ≠ 2) then .next (badArg s h 0x14)
  else if standIn s then .next (deniedBy s h 0x14 0x41)
  else if a.op = 2 then
    if s.fb F.TS_UTC_OFS_known then .next (deniedBy s h 0x14 0x41)
    else
      let s := (s.setI F.TS_UTC_OFS_tai_utc a.taiUtc).setB F.TS_UTC_OFS_known true
      .next (complete s h 0x14 .ok (leapPayload s))
  else if a.op = 0 then
    if leapScheduled s then .next (complete s h 0x14 .busy [])
    else if (a.day : Int) * 86400 + 86340 ≤ utcSec s then .next (badArg s h 0x14)
    else if !monthEnd a.day || !s.fb F.TS_UTC_OFS_known then .next (deniedBy s h 0x14 0x41)
    else
      let s := (s.setF F.TS_LEAP_SCHED_dir a.dir).setF F.TS_LEAP_SCHED_day a.day
      let s := s.setB F.TS_LEAP_SCHED_pending (decide ((a.day : Int) * 86400 ≤ utcSec s))
      .next (complete s h 0x14 .ok (leapPayload s))
  else if !leapScheduled s then .next (complete s h 0x14 .notFound [])
  else if (s.f F.TS_LEAP_SCHED_day : Int) * 86400 + 86340 ≤ utcSec s then .next (complete s h 0x14 .busy [])
  else .next (complete (clearLeap s) h 0x14 .ok (leapPayload (clearLeap s)))

/-- LEAP_DAY_START (R67): UTC 00:00:00 of the leap day sets leap_pending. -/
def execLeapDayStart (s : State) : Host.Outcome State Fault Refusal :=
  .next (if leapScheduled s then s.setB F.TS_LEAP_SCHED_pending true else s)

/-- The smear window of the scheduled leap (R69): t0 in TS0 seconds, A, and the direction. -/
def leapWindow (s : State) : Int × Int × Nat :=
  ((s.f F.TS_LEAP_SCHED_day : Int) * 86400 + 43200 + taiUtc s, taiUtc s, s.f F.TS_LEAP_SCHED_dir)

/-- LEAP_SECOND_END (R67): the end of 23:59:60, or of 23:59:58 of a deletion, changes TAI − UTC by one and clears the schedule. -/
def execLeapSecondEnd (s : State) : Host.Outcome State Fault Refusal :=
  if leapScheduled s then
    let d : Int := if s.f F.TS_LEAP_SCHED_dir = 1 then 1 else -1
    let s := { s with time := { s.time with lastLeap := some (leapWindow s) } }
    .next (clearLeap (s.setI F.TS_UTC_OFS_tai_utc (taiUtc s + d)))
  else .next s

/-- Epoch of the seconds form of view `v`, in days from 1970-01-01. -/
def viewEpoch (v : Nat) : Int :=
  match v with
  | 1 => 3657
  | 2 => 10825
  | 3 => 13149
  | _ => 0

/-- TS0 with the correction of view `v` (R66), in 2^-48 ns. -/
def viewBase (s : State) (v : Nat) : Int := (counterUnits (tsc s 0).cnt : Int) + psToUnits (s.fi F.TS_VIEW_CORR_corr v)

/-- The time of view `v` in 2^-48 ns from 1970-01-01 of the view, and whether it shows an inserted leap second (R66, R68): the correction comes
first, so that a corrected UTC passes through the leap at its own 23:59:60. -/
def viewTime (s : State) (v : Nat) : Int × Bool :=
  match v with
  | 0 => utcOf s (viewBase s v)
  | 1 | 2 => (viewBase s v - 19 * unitsPerSec, false)
  | 3 => (viewBase s v - 33 * unitsPerSec, false)
  | _ => ((utcOf s (viewBase s v)).1 + 10800 * unitsPerSec, (utcOf s (viewBase s v)).2)

/-- The time of view `v` in ns from 1970-01-01 of the view (R66). -/
def viewNs (s : State) (v : Nat) : Int := (viewTime s v).1 / 2 ^ 48

/-- UTC and GLONASS. -/
def viewIsUtc (v : Nat) : Bool := v == 0 || v == 4

/-- The bound of view `v` in ps: that of TS0 plus the correction's own (R66); none for UTC and GLONASS until TAI − UTC is known. -/
def viewBoundPs (s : State) (v : Nat) : Option Nat :=
  if viewIsUtc v && !s.fb F.TS_UTC_OFS_known then none
  else addBound (tsBoundPs s 0) (boundPs (s.f F.TS_VIEW_CFG_corr_bound v))

/-- The bound code of view `v` (R56, R66). -/
def viewBound (s : State) (v : Nat) : Nat := boundCodeOpt (viewBoundPs s v)

/-- TS_READ_VIEW (R66, R68, R70, R71). -/
def execTsReadView (h : CmdHdr) (view form : Nat) (s : State) : Host.Outcome State Fault Refusal :=
  if !h.mbz then .next (badArg s h 0x15)
  else if 5 ≤ view then .next (complete s h 0x15 .notFound [])
  else if 1 < form then .next (badArg s h 0x15)
  else
    let t := viewNs s view
    let sec := t / 1000000000
    let ns := (t % 1000000000).toNat
    let leap := (viewTime s view).2
    let flags := bit (s.fb F.TS_LEAP_SCHED_pending) + 2 * bit leap + 4 * bit (s.fb F.TS_UTC_OFS_known)
    if form = 0 then
      .next (complete s h 0x15 .ok [(0, 8, twos 64 (sec - viewEpoch view * 86400)), (8, 4, ns), (12, 1, viewBound s view), (13, 1, flags)])
    else
      let c := if leap then sec - 1 else sec
      let day := civil (c / 86400)
      let r := (c % 86400).toNat
      .next (complete s h 0x15 .ok [(0, 2, twos 16 day.1), (2, 1, day.2.1), (3, 1, day.2.2), (4, 1, r / 3600), (5, 1, r / 60 % 60),
        (6, 1, if leap then 60 else r % 60), (7, 1, flags), (8, 4, ns), (12, 1, viewBound s view)])

end Sys2Proof.Machine
end

