-- ==== Sys2Proof/Machine/Ensemble.lean ====
section
/-! DEFINITION. References, the ensemble, holdover and the error bound (04_ensemble_and_bounds.md). -/
namespace Sys2Proof.Machine
open Sys2Proof

/-! ### Slots -/

/-- Slot `k` beside its registers. -/
def slot (s : State) (k : Nat) : Slot := tget s.ens.slots Slot.reset k

/-- Set slot `k`. -/
def setSlot (s : State) (k : Nat) (x : Slot) : State := { s with ens := { s.ens with slots := tset s.ens.slots k x } }

/-- The slot is enabled. -/
def slotOn (s : State) (k : Nat) : Bool := s.fb F.TS_REF_CFG_enable k

/-- The slot is a frequency member (R73). -/
def slotFreq (s : State) (k : Nat) : Bool := s.fb F.TS_REF_CFG_freq_only k

/-- The slot's timescale. -/
def slotTs (s : State) (k : Nat) : Nat := s.f F.TS_REF_CFG_ts k

/-- States of TS_REF_STATUS: 0 ABSENT, 1 QUALIFYING, 2 QUALIFIED, 3 SUSPECT, 4 DISQUALIFIED. -/
def slotState (s : State) (k : Nat) : Nat := s.f F.TS_REF_STATUS_state k

/-- The uncertainty U of a measurement: TS_REF_UNC plus what the measuring block adds; none while either is unknown (R74). -/
def slotUnc (s : State) (k : Nat) (m : Meas) : Option Nat :=
  let d := s.f F.TS_REF_UNC_value k
  if d = 0xFFFFFFFF then none else m.unc.map (fun u => d + u)

/-- U of the last measurement: unknown where there is none. -/
def slotU (s : State) (k : Nat) : Option Nat :=
  match (slot s k).last with
  | some m => slotUnc s k m
  | none => none

/-- The noise limit in the slot's units: 16 ps each for a phase member (TS_REF_LIM), 10^-15 for a frequency member (R458). -/
def noiseLimit (s : State) (k : Nat) : Nat :=
  if slotFreq s k then s.f F.TS_REF_LIM_noise_limit k else 16 * s.f F.TS_REF_LIM_noise_limit k

/-- Integer square root by bits, largest first. -/
def isqrtAux (n : Nat) : Nat → Nat → Nat
  | 0, r => r
  | b + 1, r => let c := r + 2 ^ b; if c * c ≤ n then isqrtAux n b c else isqrtAux n b r

/-- Integer square root of a number below 2^160. -/
def isqrt (n : Nat) : Nat := isqrtAux n 80 0

/-- Square root of a rational to the nearest unit, halves up. -/
def sqrtRat (q : Rat) : Nat := (isqrt (4 * q.num.toNat / q.den) + 1) / 2

/-- Square root of a rational, rounded up to a unit. -/
def sqrtUp (q : Rat) : Nat :=
  let r := isqrt (q.num.toNat / q.den)
  if (r * r : Nat) * q.den = q.num.toNat then r else r + 1

/-- Sum of a list of rationals. -/
def sumRat (l : List Rat) : Rat := l.foldl (fun a b => a + b) 0

/-- Mean square of the residuals of values about their least-squares line over time, or about their mean (R459). -/
def residualMs (h : List (Int × Int)) (line : Bool) : Rat :=
  let n : Rat := (h.length : Nat)
  let tm := sumRat (h.map (fun p => (p.1 : Rat))) / n
  let vm := sumRat (h.map (fun p => (p.2 : Rat))) / n
  let vv := sumRat (h.map (fun p => ((p.2 : Rat) - vm) * ((p.2 : Rat) - vm)))
  let tt := sumRat (h.map (fun p => ((p.1 : Rat) - tm) * ((p.1 : Rat) - tm)))
  let tv := sumRat (h.map (fun p => ((p.1 : Rat) - tm) * ((p.2 : Rat) - vm)))
  if line && tt != 0 then (vv - tv * tv / tt) / n else vv / n

/-- sigma of slot `k` (R459): the noise limit with fewer than 3 values. -/
def slotSigma (s : State) (k : Nat) (h : List (Int × Int)) : Nat :=
  if h.length < 3 then noiseLimit s k else sqrtRat (residualMs h (!slotFreq s k))

/-- A slot's transition (R75): recorded with severity 4 on entry to SUSPECT or DISQUALIFIED and 5 otherwise, posted, and the
provenance of its timescale advanced. Out of QUALIFIED it carries no weight. -/
def slotTransition (s : State) (k st : Nat) : State :=
  let old := slotState s k
  if old = st then s
  else
    let s := s.setF F.TS_REF_STATUS_state st k
    let s := if st = 2 then s else (s.setF F.TS_REF_STATUS_weight 0 k).setB F.TS_REF_STATUS_in_use false k
    let s := setSlot s k { slot s k with failRun := 0, accepted := (slot s k).accepted && st == 2 }
    let s := logEvent s (if st = 3 ∨ st = 4 then 4 else 5) 0x0203 [(0, 1, k), (1, 1, old), (2, 1, st)]
    advanceProv s (slotTs s k) 1

/-- The qualification window of slot `k` restarts (R75): a transition from QUALIFYING to QUALIFYING. -/
def slotRestart (s : State) (k : Nat) : State :=
  advanceProv (logEvent s 5 0x0203 [(0, 1, k), (1, 1, 1), (2, 1, 1)]) (slotTs s k) 1

/-- The return test (R75): |x| ≤ B + U, which an unbounded B or an unknown U always passes. -/
def returnTest (s : State) (k : Nat) (m : Meas) : Bool :=
  match (ens s (slotTs s k)).total, slotUnc s k m with
  | some b, some u => decide (m.value.natAbs ≤ b + u)
  | _, _ => true

/-- The offset of slot `q` referred to the timescale of slot `k` through a same-edge snapshot of both counters (R76). -/
def referredOffset (s : State) (k q : Nat) (x : Int) : Int :=
  x + unitsToPs ((counterUnits (tsc s (slotTs s k)).cnt : Int) - counterUnits (tsc s (slotTs s q)).cnt)

/-- SUSPECT slot `k` agrees with QUALIFIED phase member `q` of another independence group (R76). -/
def agrees (s : State) (k q : Nat) : Bool :=
  slotOn s q && slotState s q == 2 && !slotFreq s q && s.f F.TS_REF_CFG_group q != s.f F.TS_REF_CFG_group k &&
  match (slot s k).last, (slot s q).last with
  | some a, some b =>
    match slotUnc s k a, slotUnc s q b with
    | some ua, some ub => decide ((a.value - referredOffset s k q b.value).natAbs ≤ ua + ub)
    | _, _ => true
  | _, _ => false

/-- A measurement in ppb against the frequency window (R75, R458): a frequency member's own value, a phase member's change since the
last measurement corrected for the timescale's moves (DEDUCED, notes/assumptions/10.md). -/
def outsideWindow (s : State) (k : Nat) (t v : Int) : Bool :=
  let lim : Int := s.f F.TS_REF_LIM_freq_window k
  if slotFreq s k then decide (lim * 1000000 < v.natAbs)
  else match (slot s k).hist with
    | [] => false
    | (t0, v0) :: _ => if t ≤ t0 then false else decide (lim * (t - t0) * 1000 < ((v - v0).natAbs : Int) * 2 ^ 48 * 1000000000)

/-- The value that sigma uses: an offset corrected for what the timescale had moved under its own slews and steps by the instant of measurement `t`
(R459). -/
def correctedValue (s : State) (k : Nat) (m : Meas) (t : Int) : Int :=
  if slotFreq s k then m.value else m.value - unitsToPs (pathAt (ens s (slotTs s k)).moves t)

/-- Keep a measurement of the instant `t` in 2^-48 ns: offset, uncertainty code, sigma and signal are reported; at most 64 values stay (R459). A
further measurement of the same epoch takes the place of the one before. -/
def keepMeas (s : State) (k : Nat) (m : Meas) (t : Int) : State :=
  let x := slot s k
  let h := if x.meas.isSome && s.fb F.TS_CTRL_ens_enable (slotTs s k) then x.hist.tail else x.hist
  let h := ((t, correctedValue s k m t) :: h).take 64
  let s := setSlot s k { x with meas := some m, last := some m, hist := h, out := x.out || outsideWindow s k t (correctedValue s k m t) }
  let s := s.setI F.TS_REF_OFS_value (satInt 32 m.value) k
  let s := s.setF F.TS_REF_SIGMA_value (satNat 32 (slotSigma s k h)) k
  let s := s.setF F.TS_REF_STATUS_unc_code (boundCodeOpt (slotUnc s k m)) k
  s.setB F.TS_REF_STATUS_signal true k

/-! ### The transitions of a slot (R75-R77, R88, R203, R458) -/

/-- The timescale of slot `k` coasts, or its re-acquire slew runs: a member accepted takes no suspect test (R88). Follow mode knows no
re-acquisition (R290). -/
def reacquires (s : State) (k : Nat) : Bool :=
  let n := slotTs s k
  s.fb F.TS_ENS_STATUS_reacq n || ((tsc s n).state == .coasting && !(standIn s && n == 0))

/-- Slot `k` becomes QUALIFIED (R75, R88). -/
def acceptSlot (s : State) (k : Nat) : State :=
  let b := reacquires s k
  let s := slotTransition s k 2
  setSlot s k { slot s k with accepted := b }

/-- The spoofing flag of a solution is latched (R203, R205). -/
def solFlagged (s : State) (sol : Nat) : Bool :=
  (s.f F.GNSS_SPOOF_STATUS_latched != 0 && (s.f F.GNSS_SPOOF_CFG_sol_mask).testBit sol) || s.gnss.raised.testBit sol

/-- Slot `k` is a GNSS slot whose solution is flagged. -/
def slotSpoofed (s : State) (k : Nat) : Bool := s.f F.TS_REF_CFG_type k == 5 && solFlagged s (s.f F.TS_REF_CFG_source k)

/-- The qualification window of slot `k` begins anew: its sigma uses the newest value alone (R459). -/
def restartWindow (s : State) (k : Nat) : State :=
  let x := slot s k
  let s := setSlot s k { x with hist := x.hist.take 1 }
  s.setF F.TS_REF_SIGMA_value (satNat 32 (slotSigma s k (x.hist.take 1))) k

/-- A measurement since the last evaluation is beyond the limits of a window: outside the frequency window, or its noise above the limit (R75, R458). -/
def beyondLimits (s : State) (k : Nat) : Bool :=
  (slot s k).out || ((slot s k).meas.isSome && decide (noiseLimit s k < slotSigma s k (slot s k).hist))

/-- Step of a QUALIFIED phase member with the measurement `m` at an epoch (R75, R88, R90): the return test, except of one accepted while its
timescale re-acquires. At the first epoch after a RELEASE the test alone decides, and one that passes is accepted. -/
def qualifiedStep (s : State) (k : Nat) (m : Meas) : State :=
  if (ens s (slotTs s k)).released then
    (if returnTest s k m then setSlot s k { slot s k with failRun := 0, accepted := reacquires s k } else slotTransition s k 3)
  else if (slot s k).accepted && reacquires s k then s
  else if returnTest s k m then setSlot s k { slot s k with failRun := 0, accepted := false }
  else
    let r := (slot s k).failRun + 1
    if s.f F.TS_REF_QUAL_suspect_count k ≤ r then slotTransition s k 3
    else setSlot s k { slot s k with failRun := r, accepted := false }

/-- A QUALIFYING slot at an evaluation (R75, R458): a measurement beyond the limits restarts the window; at its end a phase member takes the return
test, and a frequency member is QUALIFIED. -/
def qualifyingStep (s : State) (k : Nat) : State :=
  if beyondLimits s k then slotRestart (restartWindow s k) k
  else if !(slot s k).windowDone then s
  else if slotFreq s k then slotTransition s k 2
  else match (slot s k).last with
    | some m => if returnTest s k m then acceptSlot s k else slotTransition s k 3
    | none => s

/-- A SUSPECT slot at an evaluation (R75, R76, R458): a frequency member's window restarts or ends; a phase member is accepted by agreement at an
epoch, unless its solution is flagged (R203). -/
def suspectStep (s : State) (k : Nat) (epoch : Bool) : State :=
  if (slot s k).timedOut then slotTransition s k 4
  else if slotFreq s k then
    (if beyondLimits s k then restartWindow s k else if (slot s k).windowDone then slotTransition s k 2 else s)
  else if epoch && !slotSpoofed s k && (List.range 32).any (fun q => q != k && agrees s k q) then acceptSlot s k
  else s

/-- What an evaluation of slot `k` does, by its state (R75): no measurement for the loss timeout, or a spoofing flag presented to this epoch, come
before everything else (R203, notes/assumptions/67.md). -/
def slotStep (s : State) (k : Nat) (epoch spoofed : Bool) : State :=
  let st := slotState s k
  if spoofed && (st == 1 || st == 2) then slotTransition s k 4
  else if (slot s k).lost && (st == 1 || st == 2 || st == 3) then slotTransition s k 0
  else if st = 0 then (if (slot s k).meas.isSome then slotTransition (restartWindow s k) k 1 else s)
  else if st = 1 then qualifyingStep s k
  else if st = 2 then
    (if (slot s k).out then slotTransition s k 3
      else if slotFreq s k || !epoch then s
      else match (slot s k).meas with
        | some m => qualifiedStep s k m
        | none => s)
  else if st = 3 then suspectStep s k epoch
  else s

/-- One evaluation of slot `k` (R77): it uses up what reached the slot. -/
def slotEval (s : State) (k : Nat) (epoch spoofed : Bool) : State :=
  let s := slotStep s k epoch spoofed
  setSlot s k { slot s k with out := false, lost := false, windowDone := false, timedOut := false }

/-- The timescale of slot `k` runs epochs, and its transitions wait for them (R77). -/
def slotWaits (s : State) (k : Nat) : Bool :=
  let n := slotTs s k
  s.fb F.TS_CTRL_enable n && s.fb F.TS_CTRL_ens_enable n && !tsDerived s n

/-- Something reached slot `k`: its transition waits for the epoch, and where its timescale runs none it is evaluated at once
(notes/assumptions/67.md). -/
def slotNote (s : State) (k : Nat) : State := if slotWaits s k then s else slotEval s k false false

/-- A measurement of the instant `t` reaches an enabled slot (R75, R77, R458, R459). -/
def takeMeasAt (s : State) (k : Nat) (m : Meas) (t : Int) : State := slotNote (keepMeas s k m t) k

/-- A measurement made now. -/
def takeMeas (s : State) (k : Nat) (m : Meas) : State := takeMeasAt s k m (counterUnits (tsc s (slotTs s k)).cnt)

/-- REF_MEASUREMENT (R75, R77): a measurement that arrives after its epoch was evaluated is discarded. -/
def execRefMeasurement (k : Nat) (m : Meas) (late : Bool) (s : State) : Host.Outcome State Fault Refusal :=
  .next (if decide (k < 32) && slotOn s k && !late then takeMeas s k m else s)

/-- Enabled slots of a timescale (R72). -/
def enabledSlots (s : State) (n : Nat) : Nat := ((List.range 32).filter (fun k => slotOn s k && slotTs s k == n)).length

/-- The nominal stream rate of Clapper channel `c` is a whole number of hertz from 1 to 5,000,000 (R111). -/
def refRateOk (s : State) (c : Nat) : Bool :=
  let f := s.pair .CLAP_CH_NOM_LO .CLAP_CH_NOM_HI c
  let p := 2 ^ (32 + s.f F.CLAP_CH_CFG_prescale_exp c)
  f % p == 0 && decide (1 ≤ f / p) && decide (f / p ≤ 5000000)

/-- Arm or disarm REFERENCE channel `c` with the slots (R111); the prescaler restarts with the first consumer (R100). -/
def refArm1 (before s : State) (c : Nat) : State :=
  let x := tget s.clap.ch ClapCh.reset c
  let s := if !clapConsumer before c && clapConsumer s c then
    { s with clap := { s.clap with ch := tset s.clap.ch c { x with presc := 0, refs := [] } } } else s
  if s.f F.CLAP_CH_CFG_function c = 4 then
    (s.setB F.CLAP_CH_STATUS_armed (slotUses s 2 c) c).setB F.CLAP_CH_STATUS_ref_bad (slotUses s 2 c && !refRateOk s c) c
  else s

/-- The Clapper's channels follow a change of the slots (R100, R111). -/
def refArm (before s : State) : State := (List.range 16).foldl (refArm1 before) s

/-- TS_REF_CFG_WRITE (R72, R75, R96): while the slot is enabled only the enable bit takes the written value; a 17th slot of a
timescale stays disabled; enable written 0 makes the slot ABSENT. -/
def execTsRefCfgWrite (k : Nat) (value : Word) (s : State) : Host.Outcome State Fault Refusal :=
  if 32 ≤ k then .next (violation s)
  else
    let s0 := s
    let on := slotOn s k
    let res := writeResult s ⟨.TS_REF_CFG, k, 0⟩ value
    let on' := fget res.1 31 31 == 1
    if on then
      let other := fput (s.rg .TS_REF_CFG k) 31 31 (bit on')
      let s := if res.2 || other != res.1 then violation s else s
      let s := s.wr .TS_REF_CFG k 0 other
      if on' then .next s
      else
        let n := slotTs s k
        let absent := slotState s k == 0
        let s := slotTransition s k 0
        let s := s.setB F.TS_REF_STATUS_signal false k
        let s := setSlot s k Slot.reset
        .next (refArm s0 (if absent then advanceProv s n 1 else s))
    else
      let s := if res.2 then violation s else s
      let s := s.wr .TS_REF_CFG k 0 (fput res.1 31 31 0)
      if !on' then .next s
      else if 16 ≤ enabledSlots s (slotTs s k) then .next (violation s)
      else .next (refArm s0 (advanceProv (s.setB F.TS_REF_CFG_enable true k) (slotTs s k) 1))

/-- REF_LOSS_TIMEOUT (R75): no measurement for the loss timeout. A QUALIFYING, QUALIFIED or SUSPECT slot becomes ABSENT; a DISQUALIFIED one stays
so. -/
def execRefLossTimeout (k : Nat) (s : State) : Host.Outcome State Fault Refusal :=
  let s := s.setB F.TS_REF_STATUS_signal false k
  .next (if slotOn s k then slotNote (setSlot s k { slot s k with lost := true }) k else s)

/-- SUSPECT_TIMEOUT (R75): a SUSPECT slot passes to DISQUALIFIED; a timeout of 0 never ends. -/
def execSuspectTimeout (k : Nat) (s : State) : Host.Outcome State Fault Refusal :=
  .next (if slotOn s k && slotState s k == 3 && s.f F.TS_REF_QUAL_suspect_timeout k != 0 then
    slotNote (setSlot s k { slot s k with timedOut := true }) k else s)

/-- QUALIFICATION_WINDOW_END (R75, R458): of a QUALIFYING slot, or of a SUSPECT frequency member. -/
def execQualificationWindowEnd (k : Nat) (s : State) : Host.Outcome State Fault Refusal :=
  .next (if slotOn s k && (slot s k).last.isSome && (slotState s k == 1 || (slotFreq s k && slotState s k == 3)) then
    slotNote (setSlot s k { slot s k with windowDone := true }) k else s)

/-- Check `i` raises the flag (R203): its bit is latched, recorded with severity 2 and posted. -/
def spoofLatch (s : State) (i : Nat) : State :=
  let m := s.f F.GNSS_SPOOF_STATUS_latched
  if m.testBit i then s
  else
    let s := s.setF F.GNSS_SPOOF_STATUS_latched (m ||| 2 ^ i)
    logEvent s 2 0x0704 [(0, 1, m ||| 2 ^ i)]

/-- One evaluation of check `i` (R203): reported while enabled, and after spoof_epochs consecutive ones it acts. -/
def spoofEval (s : State) (i : Nat) (cond : Bool) : State :=
  let c := cond && (s.f F.GNSS_SPOOF_CFG_enable).testBit i
  let run := if c then min 16 (tget s.gnss.spoofRuns 0 i + 1) else 0
  let s := { s with gnss := { s.gnss with spoofRuns := tset s.gnss.spoofRuns i run } }
  let raw := s.f F.GNSS_SPOOF_STATUS_raw
  let s := s.setF F.GNSS_SPOOF_STATUS_raw (if c then raw ||| 2 ^ i else raw &&& (31 - 2 ^ i))
  if c && decide (s.f F.GNSS_SPOOF_THR_spoof_epochs ≤ run) && (s.f F.GNSS_SPOOF_CFG_act).testBit i then spoofLatch s i else s

/-- The condition of check S3 (R203): a GNSS slot of TS0 fails the return test that a QUALIFIED phase member of another group and type
passes. -/
def spoofS3 (s : State) : Bool :=
  let fails (k : Nat) : Bool := slotOn s k && slotTs s k == 0 && s.f F.TS_REF_CFG_type k == 5 && (match (slot s k).meas with
    | some m => !returnTest s k m
    | none => false)
  let passes (k q : Nat) : Bool := slotQualified s 0 q && s.f F.TS_REF_CFG_group q != s.f F.TS_REF_CFG_group k && s.f F.TS_REF_CFG_type q != 5 &&
    (match (slot s q).meas with
      | some m => returnTest s q m
      | none => false)
  (List.range 32).any (fun k => fails k && (List.range 32).any (passes k))

/-- REF_CONFIRM (R75, R78, R97, R203). -/
def execRefConfirm (h : CmdHdr) (k action : Nat) (s : State) : Host.Outcome State Fault Refusal :=
  if !h.mbz then .next (badArg s h 0x16)
  else if 32 ≤ k then .next (complete s h 0x16 .notFound [])
  else if 2 < action then .next (badArg s h 0x16)
  else if !slotOn s k then .next (complete s h 0x16 .notFound [])
  else
    let st := slotState s k
    let dst := if action = 0 ∧ st = 3 ∧ slotSpoofed s k = false then some 2
      else if action = 1 ∧ (st = 1 ∨ st = 2 ∨ st = 3) then some 4
      else if action = 2 ∧ st = 4 then some 0 else none
    match dst with
    | none => .next (complete s h 0x16 .ok [(0, 1, st), (1, 1, 0), (2, 1, st)])
    | some t =>
      let s := if t = 2 then acceptSlot s k else slotTransition s k t
      .next (complete s h 0x16 .ok [(0, 1, st), (1, 1, 1), (2, 1, t)])

/-- REF_FEED (R97): a measurement for a GNSS or FEED slot; one whose instant lies in an epoch already evaluated is discarded (R77). -/
def execRefFeed (h : CmdHdr) (a : RefFeedArgs) (s : State) : Host.Outcome State Fault Refusal :=
  if !h.mbz then .next (badArg s h 0x18)
  else if s.log.isolated.contains 5 then .next (complete s h 0x18 .hwFault [])
  else if 32 ≤ a.slot then .next (complete s h 0x18 .notFound [])
  else if 10 ^ 9 ≤ a.slate.ns ∨ 3 < a.slate.ts ∨ 2 ^ 48 ≤ a.slate.sec then .next (badArg s h 0x18)
  else if !slotOn s a.slot then .next (complete s h 0x18 .notFound [])
  else if (s.f F.TS_REF_CFG_type a.slot ≠ 5 ∧ s.f F.TS_REF_CFG_type a.slot ≠ 6) ∨ a.slate.ts ≠ slotTs s a.slot ∨ a.slate.valid = false then
    .next (badArg s h 0x18)
  else
    let u := timeUnits a.slate.sec a.slate.ns a.slate.frac
    match (ens s (slotTs s a.slot)).lastEpoch with
    | some e => if u ≤ e then .next (complete s h 0x18 .timeout [])
      else .next (complete (takeMeasAt s a.slot ⟨a.value, if a.unc = 0xFFFFFFFF then none else some a.unc, 0, 0xFF, 0⟩ u) h 0x18 .ok [])
    | none => .next (complete (takeMeasAt s a.slot ⟨a.value, if a.unc = 0xFFFFFFFF then none else some a.unc, 0, 0xFF, 0⟩ u) h 0x18 .ok [])

/-! ### The oscillator (R82-R84) -/

/-- Coefficient `i` takes the value `v`; while a timescale is COASTING a lower value is held until it ends (R83). -/
def putCoeff (s : State) (i v : Nat) : State :=
  if anyCoasting s && decide (v < s.f (coeffFld i)) then { s with ens := { s.ens with held := tset s.ens.held i (some v) } }
  else { s.setF (coeffFld i) v with ens := { s.ens with held := tset s.ens.held i none } }

/-- A write of coefficient `i` (R83): below the floor it stores the floor and is counted. -/
def writeCoeff (s : State) (i v : Nat) : State :=
  putCoeff (if v < coeffFloor s i then violation s else s) i (max v (coeffFloor s i))

/-- The oscillator model of every timescale is set to 0 (R374). -/
def clearModels (s : State) : State :=
  (List.range 4).foldl (fun t n => setTsc t n { tsc t n with hist := [(t.ticks, tsIncr t n)], frozen := (tsc t n).frozen.map (fun _ => 0) }) s

/-- OSC_COEFF_WRITE (R83): a new class loads its defaults, at or above the floors in force, as writes of them would; USER keeps what was written. -/
def execOscCoeffWrite (reg : OscReg) (value : Word) (s : State) : Host.Outcome State Fault Refusal :=
  match reg with
  | .y0 => .next (writeCoeff s 0 (fget value 23 0))
  | .drift => .next (writeCoeff s 1 (fget value 23 0))
  | .tempco => .next (writeCoeff s 2 (fget value 23 0))
  | .cfg =>
    let old := s.f F.TS_OSC_CFG_class
    let s := regWrite s ⟨.TS_OSC_CFG, 0, 0⟩ value
    let c := s.f F.TS_OSC_CFG_class
    if c = old then .next s
    else
      let s := clearModels s
      let d := classCoeffs c
      let v (i dflt : Nat) : Nat := max (coeffFloor s i) (if c = 6 then s.f (coeffFld i) else dflt)
      .next (putCoeff (putCoeff (putCoeff s 0 (v 0 d.1.1)) 1 (v 1 d.2.1.1)) 2 (v 2 d.2.2.1))

/-- TS_EFC_CODE_WRITE (R82): refused in EFC mode. -/
def execTsEfcCodeWrite (value : Word) (s : State) : Host.Outcome State Fault Refusal :=
  if s.fb F.TS_OSC_CFG_efc && fget value 19 0 != s.f F.TS_EFC_CODE_value then .next (violation s)
  else .next (regWrite s ⟨.TS_EFC_CODE, 0, 0⟩ value)

/-- Oscillator temperature in 0.01 K from the source of TS_OSC_CFG.temp_src; none with source "none" (R84). -/
def oscTemp (s : State) : Option Int :=
  match s.f F.TS_OSC_CFG_temp_src with
  | 1 => some (s.fi F.PWR_THERM_tj * 100 / 16)
  | 2 => some (s.fi F.TS_OSC_TEMP_value)
  | _ => none

/-- Length of an ensemble epoch in s (TS_ENS_CFG.epoch). -/
def epochSec (s : State) (n : Nat) : Rat := (2 ^ s.f F.TS_ENS_CFG_epoch n : Nat) / 16

/-- The same in 2^-48 ns. -/
def epochUnits (s : State) (n : Nat) : Nat := 62500000 * 2 ^ 48 * 2 ^ s.f F.TS_ENS_CFG_epoch n

/-- Ceiling of a non-negative rational. -/
def ceilRat (q : Rat) : Nat := ((q.num + (q.den : Int) - 1) / (q.den : Int)).toNat

/-- The weights of the frequency members: the inverse square of U, U at least 1; equal when every U is unknown (R79). -/
def freqWeights (us : List (Option Nat)) : List Rat :=
  let v := us.map (fun u => match u with | none => (0 : Rat) | some u => 1 / ((max 1 u * max 1 u : Nat) : Rat))
  let t := sumRat v
  if t = 0 then us.map (fun _ => 1 / ((us.length : Nat) : Rat)) else v.map (fun x => x / t)

/-- The QUALIFIED frequency members of timescale `n`. -/
def freqMembers (s : State) (n : Nat) : List Nat :=
  (List.range 32).filter (fun k => slotOn s k && slotTs s k == n && slotFreq s k && slotState s k == 2)

/-- U_f of R84 in 10^-15: none when a weighted member's U is unknown. -/
def freqUnc (s : State) (ks : List Nat) : Option Rat :=
  let us := ks.map (slotU s)
  if us.all (fun u => u.isNone) then none
  else some (sumRat ((freqWeights us).zipWith (fun w u => w * ((u.getD 0 : Nat) : Rat)) us))

/-- B_hold in ps after `t` s (R84). -/
def holdBound (s : State) (n : Nat) (t : Rat) : Option Nat :=
  let e := ens s n
  let ks := freqMembers s n
  let dev : Rat := 50 * t / 86400
  if ks.isEmpty then
    let y : Rat := ((max e.yE (s.f F.TS_OSC_Y0_value) : Nat) : Rat) / 100
    let drift : Rat := ((s.f F.TS_OSC_DRIFT_value : Nat) : Rat) / 100 / 86400
    let dT : Rat := (((match oscTemp s with | none => s.f F.TS_OSC_CFG_dt_assume | some _ => e.dtMax) : Nat) : Rat) / 100
    let tc : Rat := ((s.f F.TS_OSC_TEMPCO_value : Nat) : Rat) / 100
    some (ceilRat (y * t + drift * t * t / 2 + tc * dT * t + dev))
  else (freqUnc s ks).map (fun u => ceilRat (u * t / 1000 + dev))

/-! ### The bound (R85) -/

/-- A component in 8 ps units, rounded up; 0xFFFF_FFFF is unbounded. -/
def comp8 : Option Nat → Nat
  | none => 0xFFFFFFFF
  | some b => satNat 32 (cdiv b 8)

/-- The total bound: the larger of the governor's floor and the sum of the components (R85). -/
def boundTotal (s : State) (n : Nat) (e : Ens) : Option Nat :=
  (addBound (addBound (addBound (addBound e.ref e.measured) e.est) e.hold) e.gap).map (fun b => max b (8 * s.f F.GOV_TS_BFLOOR_value n))

/-- Report the components, the total and the bound code of timescale `n` (R85). FREE is unbounded (R58). -/
def reportBound (s : State) (n : Nat) (e : Ens) : State :=
  let total := if (tsc s n).state = .free then none else boundTotal s n e
  let s := setEns s n { e with total := total }
  let s := (s.setF F.TS_BND_REF_value (comp8 e.ref) n).setF F.TS_BND_MEAS_value (comp8 e.measured) n
  let s := (s.setF F.TS_BND_EST_value (comp8 e.est) n).setF F.TS_BND_HOLD_value (comp8 e.hold) n
  let s := (s.setF F.TS_BND_GAP_value (comp8 e.gap) n).setF F.TS_BND_TOTAL_value (comp8 total) n
  setTsc s n { tsc s n with bnd := boundCodeOpt total }

/-! ### The grade (R91) -/

/-- The condition of grade `g` holds (R91). -/
def gradeHolds (st : TsState) (c thr1 thr2 thr3 g : Nat) : Bool :=
  match g with
  | 0 => st == .locked && decide (c ≤ thr1)
  | 1 => (st == .acquiring || st == .coasting) && decide (c ≤ thr1)
  | 2 => st != .free && decide (c ≤ thr2)
  | 3 => st != .free && decide (c ≤ thr3)
  | 4 => st != .free && c != 0xFF && decide (thr3 < c)
  | _ => st == .free || c == 0xFF

/-- The lowest-numbered grade whose condition holds. -/
def qualifyingGrade (st : TsState) (c thr1 thr2 thr3 : Nat) : Nat :=
  ((List.range 6).find? (gradeHolds st c thr1 thr2 thr3)).getD 5

/-- The grade after an epoch, and the runs of the conditions (R91): a worse one takes effect at once, a better one with the epoch that
completes 16 consecutive epochs at which its condition held. -/
def gradeStep (s : State) (n : Nat) (runs : Tbl Nat) (now : Nat) (st : TsState) (c : Nat) : Tbl Nat × Nat :=
  let t1 := s.f F.TS_ENS_QTHR_thr1 n
  let t2 := s.f F.TS_ENS_QTHR_thr2 n
  let t3 := s.f F.TS_ENS_QTHR_thr3 n
  let runs := (List.range 6).map (fun g => (g, if gradeHolds st c t1 t2 t3 g then min 16 (tget runs 0 g + 1) else 0))
  let q := qualifyingGrade st c t1 t2 t3
  (runs, if now < q then q else ((List.range now).find? (fun g => decide (16 ≤ tget runs 0 g))).getD now)

/-- The grade of timescale `n` at an epoch (R91). A change advances the provenance (R95). -/
def updateGrade (s : State) (n : Nat) : State :=
  let now := s.f F.TS_ENS_STATUS_grade n
  let r := gradeStep s n (ens s n).gradeRuns now (tsc s n).state (tsc s n).bnd
  let s := setEns s n { ens s n with gradeRuns := r.1 }
  if r.2 = now then s else advanceProv (s.setF F.TS_ENS_STATUS_grade r.2 n) n 3

/-- The grade of timescale `n` for the services: 5 when FREE or unbounded whatever the last epoch left; a DERIVED timescale has its
source's (R49, R91). -/
def gradeOf (s : State) (n : Nat) : Nat :=
  if tsStateOf s n = .free ∨ tsBound s n = 0xFF then 5 else s.f F.TS_ENS_STATUS_grade (tsRoot s n)

/-! ### Weights (R79) -/

/-- Variance of a member in ps²: none is infinite (R79). -/
def memberVar (sigma : Nat) (unc : Option Nat) : Option Rat :=
  unc.map (fun u => max 1 ((sigma * sigma : Nat) + ((u : Rat) / 3) * ((u : Rat) / 3)))

/-- Scale weights to sum 1; all-zero weights become equal ones (R79). -/
def normalise (w : List Rat) : List Rat :=
  let w := if sumRat w = 0 then w.map (fun _ => 1) else w
  w.map (fun x => x / sumRat w)

/-- One round of the cap: each weight above the cap takes it, and the excess goes to the others in proportion. Where the others all have weight 0
there is no proportion, and the excess goes to none (DESIGN CHOICE, notes/assumptions/67.md). -/
def capRound (cap : Rat) (w : List Rat) : List Rat :=
  let excess := sumRat (w.map (fun x => if cap < x then x - cap else 0))
  let rest := sumRat (w.map (fun x => if cap ≤ x then 0 else x))
  w.map (fun x => if cap ≤ x then cap else if rest = 0 then x else x + excess * x / rest)

/-- Rounds of the cap until no weight exceeds it. -/
def capAll (cap : Rat) : Nat → List Rat → List Rat
  | 0, w => w
  | k + 1, w => if w.all (fun x => decide (x ≤ cap)) then w else capAll cap k (capRound cap w)

/-- The weights of the members of an epoch: inverse variance or policy, normalised, and capped (R79). -/
def memberWeights (policy : Bool) (wmax : Nat) (ms : List (Nat × Option Nat × Nat)) : List Rat :=
  let raw := ms.map (fun m => if policy then ((m.2.2 : Nat) : Rat) / 65536
    else match memberVar m.1 m.2.1 with | none => 0 | some v => 1 / v)
  let w := normalise raw
  let k := ms.length
  if 2 ≤ k ∧ wmax ≠ 0 then
    (if k * wmax < 256 then w.map (fun _ => 1 / ((k : Nat) : Rat)) else capAll (((wmax : Nat) : Rat) / 256) (k + 1) w)
  else w

/-! ### The epoch (R77, R79-R91) -/

/-- The lowest tier with a QUALIFIED phase member. -/
def lowestTier (s : State) (n : Nat) : Option Nat :=
  (List.range 4).find? (fun t => (List.range 32).any (fun k => slotQualified s n k && s.f F.TS_REF_CFG_tier k == t))

/-- The QUALIFIED phase members of a tier with a measurement in this epoch, or in the one before when its load missed (R79, R80). -/
def epochMembers (s : State) (n tier : Nat) : List Nat :=
  (List.range 32).filter (fun k => slotQualified s n k && s.f F.TS_REF_CFG_tier k == tier &&
    ((slot s k).meas.isSome || ((ens s n).missed && (slot s k).carry.isSome)))

/-- The offset a member brings to the epoch: the mean of both epochs' where the last load missed (DEDUCED, notes/assumptions/11.md). -/
def memberX (s : State) (n k : Nat) : Rat :=
  match (slot s k).meas, (if (ens s n).missed then (slot s k).carry else none) with
  | some a, some b => ((a.value : Rat) + b.value) / 2
  | some a, none => a.value
  | none, some b => b.value
  | none, none => 0

/-- The uncertainty a member brings. -/
def memberU (s : State) (n k : Nat) : Option Nat :=
  match (slot s k).meas with
  | some a => slotUnc s k a
  | none => match (if (ens s n).missed then (slot s k).carry else none) with
    | some b => slotUnc s k b
    | none => none

/-- The QUALIFIED frequency members with a measurement in this epoch, or in the one before when its load missed (R79, R80). -/
def epochFreq (s : State) (n : Nat) : List Nat :=
  (freqMembers s n).filter (fun k => (slot s k).meas.isSome || ((ens s n).missed && (slot s k).carry.isSome))

/-- What a combination gives (R79): x_hat in ps and its size rounded up, b_ref, b_meas, y_hat. -/
structure Combined where
  x : Int
  xUp : Nat
  bRef : Option Nat
  bMeas : Nat
  y : Int

/-- Combine members `ks` of timescale `n` (R79). -/
def combine (s : State) (n : Nat) (ks : List Nat) : Combined × List Rat :=
  let ms := ks.map (fun k => (s.f F.TS_REF_SIGMA_value k, memberU s n k, s.f F.TS_REF_WPOL_wpol k))
  let w := memberWeights (s.fb F.TS_ENS_CFG_weight_mode n) (s.f F.TS_ENS_CFG_w_max n) ms
  let xr := sumRat (w.zipWith (fun a k => a * memberX s n k) ks)
  let x := roundRat xr
  let unknown := (w.zip ms).any (fun p => decide (0 < p.1) && p.2.2.1.isNone)
  let bRef := if unknown then none else some (ceilRat (sumRat (w.zipWith (fun a m => a * (((m.2.1.getD 0) : Nat) : Rat)) ms)))
  let bMeas := sqrtUp (9 * sumRat (w.zipWith (fun a m => a * a * ((m.1 * m.1 : Nat) : Rat)) ms))
  let fs := epochFreq s n
  let fw := (freqWeights (fs.map (memberU s n))).zipWith (fun a k => (a, roundRat (memberX s n k))) fs
  (⟨x, ceilRat (if xr < 0 then -xr else xr), bRef, bMeas, Config.freqFilter (ens s n).yHat x fw (4 * 2 ^ s.f F.TS_ENS_CFG_tau_exp n)⟩, w)

/-- Report the weights of an epoch: Q0.16, saturating (TS_REF_STATUS). -/
def reportWeights (s : State) (n : Nat) (ks : List Nat) (w : List Rat) : State :=
  let s := (List.range 32).foldl (fun t k => if slotOn t k && slotTs t k == n && !ks.contains k then
    (t.setF F.TS_REF_STATUS_weight 0 k).setB F.TS_REF_STATUS_in_use false k else t) s
  let s := if w.any (fun a => decide (0 < a)) then setEns s n { ens s n with weighted := some (s.ticks, counterUnits (tsc s n).cnt) } else s
  (ks.zip w).foldl (fun t p => (t.setF F.TS_REF_STATUS_weight (satNat 16 (p.2 * 65536).floor.toNat) p.1).setB F.TS_REF_STATUS_in_use (decide (0 < p.2)) p.1) s

/-- The combination that TS_ENS_STATUS shows: members of `ks`, frequency members, the tier in use. -/
def reportMembers (s : State) (n tier : Nat) (ks : List Nat) : State :=
  ((s.setF F.TS_ENS_STATUS_n_phase (min 15 ks.length) n).setF F.TS_ENS_STATUS_n_freq (min 15 (if ks.isEmpty then freqMembers s n else epochFreq s n).length) n).setF
    F.TS_ENS_STATUS_tier tier n

/-- nominal_incr / (1 + y_hat), to the increment's resolution (R79). -/
def steeredIncr (y : Int) : Nat := (roundRat (nominalIncr / (1 + (y : Rat) / 1000000000000000))).toNat

/-- The DAC move of an epoch in EFC mode (R82): Δcode, toward the code that brings the offset to zero, at most TS_EFC_STEP. A gain of 0 names no
such code, and nothing moves (DESIGN CHOICE, notes/assumptions/67.md). -/
def efcMove (s : State) (y : Int) : Int :=
  let g := s.fi F.TS_EFC_GAIN_value
  let c : Int := s.f F.TS_EFC_CODE_value
  if g = 0 then 0
  else
    let want := max 0 (min 0xFFFFF (c - y * 65536 / (1000 * g)))
    let st : Int := s.f F.TS_EFC_STEP_value
    max (-st) (min st (want - c))

/-- An epoch's load takes effect (R79, R80, R82, R88): the increment with the DAC's change at the same edge, then a slew or a permitted step. -/
def applyEpochLoad (s : State) (n incr : Nat) (slew : Option (Int × Nat)) (step : Option Int) (dac : Int) : State :=
  let s := applyIncr s n incr 2
  let s := if dac = 0 then s else s.setF F.TS_EFC_CODE_value ((s.f F.TS_EFC_CODE_value : Int) + dac).toNat
  let s := match slew with
    | some (a, r) => loadSlew s n a r false
    | none => s
  match step with
  | some d =>
    let s := stepBy (consumePermit (cancelSlew s n) n) n d
    logRec (s.inc .TS_STEP_COUNT n) 3 0x0281 [(0, 1, n), (4, 8, twos 64 (unitsToPs d))]
  | none => s

/-- Set the pending timed load of its target. -/
def queueLoad (s : State) (l : TimedLoad) : State :=
  { s with hs := { s.hs with loads := s.hs.loads.filter (fun x => x.target != l.target) ++ [l] } }

/-- Entry to COASTING (R87, R89, R137): the components freeze, the estimation component of a re-acquisition in progress is the remaining
slew plus lock_phase, B_hold starts from 0. A timescale that was FREE had no finite bound and gets none. `atEpoch`: the entry is the
epoch's own. -/
def coastEntry (s : State) (n : Nat) (atEpoch : Bool) : State :=
  let e := ens s n
  let lead := match e.lastEpoch with
    | some x => if atEpoch then 0 else min (counterUnits (tsc s n).cnt - x) (epochUnits s n)
    | none => 0
  let est := if (tsc s n).state = .free then none else if s.fb F.TS_ENS_STATUS_reacq n then
      some ((unitsToPs (tsc s n).slewRem).natAbs + s.f F.TS_ENS_LOCK_lock_phase n) else e.est
  let s := setEns s n { e with est := est, hold := some 0, coastEpochs := 0, coastGap := 0, coastLead := lead, tEntry := (oscTemp s).getD 0, dtMax := 0,
                               yE := Config.yUncertainty e.yHat, yEntry := e.yHat, lockRun := 0, loseRun := 0 }
  let s := tsTransition ((s.wr .TS_COAST_TIME n 0 0).setF F.TS_ENS_STATUS_lock_count 0 n) n .coasting
  reportBound s n (ens s n)

/-- Timescale `n` has no QUALIFIED phase member any more (R58, R87). -/
def membersLost (s : State) (n : Nat) (atEpoch : Bool) : State :=
  match (tsc s n).state with
  | .free => s
  | .coasting => s
  | .locked => coastEntry s n atEpoch
  | .acquiring => if (tsc s n).everLocked then coastEntry s n atEpoch else tsTransition s n .free

/-- Time from entry to COASTING to the last epoch in s, less than 0 where there was none since: the epochs and the AP0 gaps (R84, R139;
notes/assumptions/62.md). -/
def coastRaw (s : State) (n : Nat) : Rat :=
  let e := ens s n
  epochSec s n * (e.coastEpochs : Nat) + (e.coastGap : Nat) * 16 / 10000000000 - (e.coastLead : Nat) / (unitsPerSec : Nat)

/-- Time since entry to COASTING in s at an epoch. -/
def coastSec (s : State) (n : Nat) : Rat := max 0 (coastRaw s n)

/-- The seconds that TS_COAST_TIME shows between epochs (R87). -/
def coastShown (s : State) (n : Nat) : Nat :=
  let d : Rat := match (ens s n).lastEpoch with
    | some x => ((counterUnits (tsc s n).cnt - x : Nat) : Rat) / (unitsPerSec : Nat)
    | none => 0
  satNat 32 (coastRaw s n + d).floor.toNat

/-- The holdover component and TS_COAST_TIME of a COASTING timescale follow the time since entry. -/
def coastReport (s : State) (n : Nat) : State :=
  let t := coastSec s n
  let s := s.wr .TS_COAST_TIME n 0 (BitVec.ofNat 32 (satNat 32 t.floor.toNat))
  reportBound s n { ens s n with hold := holdBound s n t }

/-- TS_STATUS of timescale `n` (R50, R51, R58, R64). -/
def tsStatusWord (s : State) (n : Nat) : Nat :=
  (tsStateOf s n).code + 4 * bit (tsLoaded s n) + 8 * bit ((tsc s n).slewRem != 0)
    + 16 * bit (s.time.residuals.any (fun p => p.2.to_ == n && p.2.rem != 0)) + 256 * tsBound s n

/-- ENS_FORCE (R90, R97): COAST acts at its commit point as if every member had been lost; after RELEASE the next epoch evaluates as usual, and the
return test applies to every member there. -/
def execEnsForce (h : CmdHdr) (ts op : Nat) (s : State) : Host.Outcome State Fault Refusal :=
  if !h.mbz then .next (badArg s h 0x19)
  else if s.log.isolated.contains 5 then .next (complete s h 0x19 .hwFault [])
  else if 4 ≤ ts then .next (complete s h 0x19 .notFound [])
  else if 1 < op ∨ tsDerived s ts = true ∨ s.fb F.TS_CTRL_ens_enable ts = false then .next (badArg s h 0x19)
  else
    let was := s.fb F.TS_ENS_STATUS_forced ts
    let s := s.setB F.TS_ENS_STATUS_forced (op == 1) ts
    let s := if op = 1 then membersLost s ts false else setEns s ts { ens s ts with released := was || (ens s ts).released }
    .next (complete s h 0x19 .ok [(0, 4, tsStatusWord s ts)])

/-- One epoch of COASTING (R84, R87): the time counts, the largest temperature change is kept, B_hold grows, and the predictor
steers through the increment. -/
def coastEpoch (s : State) (n : Nat) : State :=
  let e := ens s n
  let k := e.coastEpochs + 1
  let dT : Int := match oscTemp s with | none => 0 | some x => x - e.tEntry
  let s := setEns s n { e with coastEpochs := k, dtMax := max e.dtMax dT.natAbs }
  let s := coastReport s n
  if s.f F.RAN_STATUS_role == 2 && n == 0 then s
  else queueLoad s (.epoch n (steeredIncr (Config.predictY e.yEntry e.yHist (s.fi F.TS_OSC_LEARN_value) k dT)) none none 0)

/-- The consecutive epochs that meet the lock criteria, or miss four times them, after a combination (R81). -/
def lockRuns (s : State) (n : Nat) (c : Combined) : State :=
  let e := ens s n
  let ph := s.f F.TS_ENS_LOCK_lock_phase n
  let fr := s.f F.TS_ENS_LOCK_lock_freq n * 1000
  let dy := (c.y - e.yHat).natAbs
  let good := decide (c.x.natAbs ≤ ph) && decide (dy ≤ fr)
  let bad := decide (4 * ph < c.x.natAbs) || decide (4 * fr < dy)
  let e := { e with yHat := c.y, lockRun := if good then min 255 (e.lockRun + 1) else 0, loseRun := if bad then e.loseRun + 1 else 0 }
  ((setEns s n e).setF F.TS_ENS_STATUS_lock_count e.lockRun n).setI F.TS_ENS_FREQ_y_hat (satInt 32 c.y) n

/-- The lock decision (R81): lock_hold consecutive epochs within the criteria lock; 4 consecutive ones beyond four times them lose
lock. -/
def lockStep (s : State) (n : Nat) (c : Combined) : State :=
  let s := lockRuns s n c
  let e := ens s n
  if (tsc s n).state = .acquiring ∧ s.f F.TS_ENS_LOCK_lock_hold n ≤ e.lockRun then tsTransition s n .locked
  else if (tsc s n).state = .locked ∧ 4 ≤ e.loseRun then
    tsTransition (setEns s n { e with lockRun := 0, loseRun := 0 }) n .acquiring
  else s

/-- The ensemble may step at re-acquisition: step_mode and a permit held that no command reserves (R88, R382). -/
def mayStep (s : State) (n : Nat) : Bool :=
  s.fb F.TS_CTRL_step_mode n && permitFree s n

/-- What the predictor's drift is fitted to (R84): y_hat at the epochs in LOCKED of the last 24 h, 86,400 × 625,000,000 ticks. -/
def learnDrift (s : State) (n : Nat) (y : Int) : State :=
  if (tsc s n).state = .locked then
    setEns s n { ens s n with yHist := (s.ticks, y) :: (ens s n).yHist.filter (fun p => decide (s.ticks < p.1 + 86400 * 625000000)) }
  else s

/-- The combination of an epoch with members `ks` of tier `t` (R79-R82, R85, R88, R89). -/
def steer (s : State) (n t : Nat) (ks : List Nat) : State :=
  let (c, w) := combine s n ks
  let s := reportWeights s n ks w
  let s := reportMembers s n t ks
  let was := (tsc s n).state
  let reacqNow := was == .coasting
  let s := if was = .free then tsTransition (cancelSlew s n) n .acquiring
    else if was = .coasting then tsTransition (s.setB F.TS_ENS_STATUS_reacq true n) n .acquiring else s
  let gmax := s.f F.GOV_TS_SLEW_value n
  let step := if reacqNow && mayStep s n then some (psToUnits (-c.x)) else none
  let s := if step.isSome then s.setB F.TS_ENS_STATUS_reacq false n else s
  let slew : Option (Int × Nat) :=
    if step.isSome then none
    else if reacqNow then some (psToUnits (-c.x), min (1000 * s.f F.TS_ENS_CFG_reacq_rate n) gmax)
    else if s.fb F.TS_ENS_STATUS_reacq n then none
    else some (psToUnits (-c.x), min gmax (max 1000 (c.x.natAbs / 2 ^ s.f F.TS_ENS_CFG_tau_exp n)))
  let dc := if s.fb F.TS_OSC_CFG_efc && n == 0 then efcMove s c.y else 0
  let g : Rat := (s.fi F.TS_EFC_GAIN_value : Rat) / 65536 / 1000000000000
  let incr := (roundRat (nominalIncr / (1 + (c.y : Rat) / 1000000000000000) / (1 + g * dc))).toNat
  let s := queueLoad s (.epoch n incr slew step dc)
  let s := learnDrift (lockStep s n c) n c.y
  let lp := s.f F.TS_ENS_LOCK_lock_phase n
  let est := if (tsc s n).state = .locked then c.xUp else c.xUp + lp
  /- the gap component stays until the first epoch after the one that accepts a member (R89) -/
  let gap := if was = .free ∨ was = .coasting then (ens s n).gap else some 0
  let s := reportBound s n { ens s n with ref := c.bRef, measured := some c.bMeas, est := some est, hold := some 0, gap := gap }
  if s.fb F.TS_OSC_CFG_learn && (tsc s n).state == .locked && n == 0 then
    s.setI F.TS_OSC_LEARN_value (satInt 32 (Config.learnTempco (s.fi F.TS_OSC_LEARN_value) c.y (oscTemp s))) else s

/-- The shadow of a STAND_IN's TS0 (R290): the procedure of R79 that loads neither increment nor slew, with the lock rule of R81, the bound
of R85 and the grade of R91 on its own state. -/
def shadowEpoch (s : State) : State :=
  match lowestTier s 0 with
  | none =>
    let s := reportMembers (reportWeights s 0 [] []) 0 0xF []
    let s := ((s.wr .RAN_SHADOW_OFS 0 0 0).setF F.RAN_SHADOW_BND_value 0xFFFFFFFF).setF F.TS_ENS_STATUS_lock_count 0
    setEns s 0 { ens s 0 with shadowGrade := 5, shadowRuns := [], shadowLocked := false, lockRun := 0, loseRun := 0 }
  | some t =>
    let ks := epochMembers s 0 t
    if ks.isEmpty then s
    else
      let (c, w) := combine s 0 ks
      let s := lockRuns (reportMembers (reportWeights s 0 ks w) 0 t ks) 0 c
      let e := ens s 0
      let locked := if e.shadowLocked then decide (e.loseRun < 4) else decide (s.f F.TS_ENS_LOCK_lock_hold ≤ e.lockRun)
      let est := if locked then c.xUp else c.xUp + s.f F.TS_ENS_LOCK_lock_phase
      let b := boundTotal s 0 { e with ref := c.bRef, measured := some c.bMeas, est := some est, hold := some 0, gap := some 0 }
      let s := (s.setI F.RAN_SHADOW_OFS_value (satInt 32 c.x)).setF F.RAN_SHADOW_BND_value (comp8 b)
      let r := gradeStep s 0 e.shadowRuns e.shadowGrade (if locked then .locked else .acquiring) (boundCodeOpt b)
      setEns s 0 { e with shadowRuns := r.1, shadowGrade := r.2, shadowLocked := locked,
                          lockRun := if e.shadowLocked && !locked then 0 else e.lockRun, loseRun := if e.shadowLocked && !locked then 0 else e.loseRun }

/-- The source identity of a solution (R94): constellation mask in the low byte, satellites used above it. -/
def solIdent (s : State) (sol : Nat) : Nat :=
  let u := tget s.gnss.solUsed [] sol
  u.foldl (fun a x => a ||| 2 ^ (x.1 % 8)) 0 + 256 * min 255 u.length

/-- One member entry of a provenance record (R94), at byte `o`. The source of a GNSS slot is the last solution's: constellation mask, satellites used. -/
def provMember (s : State) (o k : Nat) : Layout :=
  let m := (slot s k).last.getD ⟨0, none, 0, 0xFF, 0⟩
  [(o, 1, k), (o + 1, 1, s.f F.TS_REF_CFG_type k), (o + 2, 1, slotState s k),
   (o + 3, 1, s.f F.TS_REF_CFG_tier k * 16 + s.f F.TS_REF_CFG_group k), (o + 4, 2, s.f F.TS_REF_STATUS_weight k),
   (o + 6, 1, s.f F.TS_REF_STATUS_unc_code k), (o + 7, 1, boundCode (3 * s.f F.TS_REF_SIGMA_value k)),
   (o + 8, 4, (s.rg .TS_REF_OFS k).toNat), (o + 12, 8, if s.f F.TS_REF_CFG_type k = 5 then solIdent s (s.f F.TS_REF_CFG_source k) else m.ident), (o + 20, 1, m.upstream), (o + 21, 1, m.steps)]

/-- The provenance record of timescale `n` (R94). -/
def provRecord (s : State) (n cause : Nat) (x : Slate) : Layout :=
  let r := tsRoot s n
  let e := ens s r
  let ks := ((List.range 32).filter (fun k => slotOn s k && slotTs s k == n)).take 16
  [(0, 1, n), (1, 1, (tsStateOf s n).code), (2, 1, gradeOf s n), (3, 1, tsBound s n), (4, 4, (ens s n).provSeq)]
  ++ slateLayout 8 x
  ++ [(24, 4, comp8 e.ref), (28, 4, comp8 e.measured), (32, 4, comp8 e.est), (36, 4, comp8 e.hold), (40, 4, comp8 e.gap),
      (44, 4, s.f F.GOV_TS_BFLOOR_value r), (48, 1, s.f F.TS_OSC_CFG_class), (49, 1, s.f F.TS_OSC_CFG_efc), (50, 1, ks.length),
      (51, 1, cause), (52, 4, (s.rg .CSHT_ACTIVE_VER).toNat), (56, 4, if s.fb F.CSHT_STATUS_ucal_dirty then 2 ^ 32 - 1 else (s.rg .CSHT_UCAL_VER).toNat),
      (60, 4, if tsStateOf s n = .coasting then coastShown s r else 0)]
  ++ (ks.zipIdx.map (fun p => provMember s (64 + 24 * p.2) p.1)).flatten

/-- Write a provenance record and complete the command that asked for it (R95). -/
def provWrite (s : State) (n cause : Nat) (h : CmdHdr) (addr : Nat) : State :=
  let d := Dest.ring (cplOf s h)
  let x := slateOf s n d
  let s := (sentTo s n d).emit (.mem addr 448 (provRecord s n cause x))
  finish s h 0x17 .ok [(0, 4, (ens s n).provSeq)]

/-- ENS_PROV_READ (R95, R97): at the next epoch where one is due, else at once with cause 0. -/
def execEnsProvRead (h : CmdHdr) (ts addr : Nat) (s : State) : Host.Outcome State Fault Refusal :=
  if !h.mbz then .next (badArg s h 0x17)
  else if 4 ≤ ts then .next (complete s h 0x17 .notFound [])
  else if addr = 0 ∨ addr % 64 ≠ 0 then .next (badArg s h 0x17)
  else
    let s := begins s h 0x17
    if s.fb F.TS_CTRL_enable ts && !tsDerived s ts && s.fb F.TS_CTRL_ens_enable ts && s.hs.shclk then
      .next (setEns s ts { ens s ts with provReads := (ens s ts).provReads ++ [(h, addr)] })
    else .next (provWrite s ts 0 h addr)

/-- The measurements of an epoch are used up: they are carried on only where its load missed (R79, R80). -/
def clearMeas (s : State) (n : Nat) : State :=
  (List.range 32).foldl (fun t k => if slotTs t k == n && ((slot t k).meas.isSome || (slot t k).carry.isSome) then
    setSlot t k { slot t k with carry := (slot t k).meas, meas := none } else t) s

/-- The combination, the coasting or the loss of an epoch of timescale `n` (R79, R87, R90, R290), and its grade (R91). At an epoch whose members of the
lowest tier all lack a measurement nothing changes, the grade neither (R79). -/
def epochCombine (s : State) (n : Nat) : State :=
  if standIn s && n == 0 then
    let s := shadowEpoch s
    updateGrade (if (tsc s 0).state = .coasting then coastEpoch s 0 else s) 0
  else
    match (if s.fb F.TS_ENS_STATUS_forced n then none else lowestTier s n) with
    | some t =>
      let ks := epochMembers s n t
      if ks.isEmpty then s
      else
        let s := steer s n t ks
        updateGrade (setEns s n { ens s n with missed := false }) n
    | none =>
      let s := reportMembers (reportWeights s n [] []) n 0xF []
      updateGrade (if (tsc s n).state = .coasting then coastEpoch s n else membersLost s n true) n

/-- The end of an ensemble epoch for timescale `n`, before its load is resolved (R77, R79, R87-R91, R95). -/
def epochStep (s : State) (n : Nat) : State :=
  let s := if (tsc s n).slewRem = 0 then s.setB F.TS_ENS_STATUS_reacq false n else s
  let sp := (List.range 32).filter (slotSpoofed s)
  let s := if n = 0 then spoofEval s 3 (spoofS3 s) else s
  let s := (List.range 32).foldl (fun t k => if slotOn t k && slotTs t k == n then slotEval t k true (sp.contains k) else t) s
  let s := setEns s n { ens s n with released := false }
  let s := epochCombine s n
  let rs := (ens s n).provReads
  let s := setEns s n { ens s n with provReads := [], lastEpoch := some (counterUnits (tsc s n).cnt) }
  let s := rs.foldl (fun t r => provWrite t n (ens t n).provCause r.1 r.2) s
  clearMeas s n

end Sys2Proof.Machine
end

