-- ==== Sys2Proof/Machine/Clapper.lean ====
section
/-! DEFINITION. The Clapper (05_clapper.md): stamps, interval and frequency measurements, statistics, limits, records, and lane
calibration. -/
namespace Sys2Proof.Machine
open Sys2Proof

/-- Channel `c` beside its registers. -/
def clapCh (s : State) (c : Nat) : ClapCh := tget s.clap.ch ClapCh.reset c

/-- Set channel `c`. -/
def setClapCh (s : State) (c : Nat) (x : ClapCh) : State := { s with clap := { s.clap with ch := tset s.clap.ch c x } }

/-- Functions of a channel (R101): 0 OFF, 1 INTERVAL, 2 FREQUENCY, 3 CAPTURE, 4 REFERENCE. -/
def clapFn (s : State) (c : Nat) : Nat := s.f F.CLAP_CH_CFG_function c

/-- The timebase's timescale: TS0 for OSC, as the slates of a record have it. -/
def clapTs (s : State) (c : Nat) : Nat := if s.f F.CLAP_CH_CFG_timebase c < 4 then s.f F.CLAP_CH_CFG_timebase c else 0

/-! ### Lanes and their calibration (R18, R115, R116) -/

/-- Lane `l` is calibrating or retired. -/
def laneOut (s : State) (l : Nat) : Bool := decide (2 ≤ s.f F.CLAP_LANE_STATUS_cal l)

/-- The lowest spare lane that is free. -/
def freeSpare (s : State) : Option Nat :=
  ((List.range 8).map (fun k => 24 + k)).find? (fun l => s.f F.CLAP_LANE_STATUS_map l == 0x1F && !laneOut s l)

/-- The lane 0-23 whose work lane `l` does. -/
def laneWork (s : State) (l : Nat) : Option Nat :=
  let m := s.f F.CLAP_LANE_STATUS_map l
  if l < 24 then (if m = l then some l else none) else (if m = 0x1F then none else some m)

/-- A measurement that uses lane `w` is running (R18): one of the lane's own channel, or an interval of which it stamps the start or the stops. -/
def laneBusy (s : State) (w : Nat) : Bool :=
  (List.range 16).any (fun k => (clapCh s k).start.isSome &&
    (k == w || (clapFn s k == 1 && (s.f F.CLAP_CH_MEAS_start_src k == w || s.f F.CLAP_CH_MEAS_stop_src k == w))))

/-- The work of lane `w` passes from lane `a` to lane `b`. -/
def moveWork (s : State) (w a b : Nat) : State :=
  let s := if 24 ≤ a then s.setF F.CLAP_LANE_STATUS_map 0x1F a else s
  let s := if 24 ≤ b then s.setF F.CLAP_LANE_STATUS_map w b else s
  let s := s.setF F.CLAP_LANE_STATUS_map b w
  if w < 16 then (s.setF F.CLAP_CH_STATUS_lane b w).setB F.CLAP_CH_STATUS_spare (decide (24 ≤ b)) w else s

/-- The test of lane `l` can begin: a spare is free for its work, and no measurement that uses it runs (R18, R115). -/
def laneReady (s : State) (l : Nat) : Bool :=
  !laneOut s l && !s.clap.resume.contains l && (match laneWork s l with
    | none => true
    | some w => (freeSpare s).isSome && !laneBusy s w)

/-- Begin the test of lane `l`. -/
def laneBegin (s : State) (l : Nat) : State :=
  let w := laneWork s l
  let s := match w, freeSpare s with
    | some w, some b => moveWork s w l b
    | _, _ => s
  (({ s with clap := { s.clap with calWait := s.clap.calWait.filter (fun x => x != l), calWork := tset s.clap.calWork l w } }).setF
    F.CLAP_LANE_STATUS_cal 2 l)

/-- The next lane that is granted: probe lanes before the others (R115). -/
def laneNext (s : State) : Option Nat :=
  match s.clap.calWait.find? (fun l => decide (16 ≤ l) && decide (l < 24) && laneReady s l) with
  | some l => some l
  | none => s.clap.calWait.find? (laneReady s)

/-- Grant every request that can be granted now. -/
def laneGrantAux : Nat → State → State
  | 0, s => s
  | k + 1, s => match laneNext s with
    | none => s
    | some l => laneGrantAux k (laneBegin s l)

/-- Lane `l`, which passed, resumes its work where a spare still does it (R115). -/
def laneResume1 (s : State) (l : Nat) : State :=
  match tget s.clap.calWork none l with
  | some w => if 24 ≤ s.f F.CLAP_LANE_STATUS_map w then moveWork s w (s.f F.CLAP_LANE_STATUS_map w) l else s
  | none => s

/-- The lanes that wait to resume do so where no measurement that uses their work runs (R18). -/
def laneResume (s : State) : State :=
  s.clap.resume.foldl (fun t l =>
    let busy := match tget t.clap.calWork none l with
      | some w => laneBusy t w
      | none => false
    if busy then t else laneResume1 { t with clap := { t.clap with resume := t.clap.resume.filter (fun x => x != l) } } l) s

/-- Grant every request that can be granted now, after the lanes that wait to resume have done so. -/
def laneGrant (s : State) : State := laneGrantAux s.clap.calWait.length (laneResume s)

/-- Request a calibration of lane `l`: a lane that waits or is under test is not asked for twice. -/
def laneRequest (s : State) (l : Nat) : State :=
  if laneOut s l || s.clap.calWait.contains l then s else { s with clap := { s.clap with calWait := s.clap.calWait ++ [l] } }

/-- Lane `l` passed or was retired: the CLAP_CAL commands that named it take the result, and one with no lane left completes (R118). -/
def calNote (s : State) (l : Nat) (pass : Bool) : State :=
  let cs := s.clap.cals.map (fun c => if c.lanes.contains l then
    { c with lanes := c.lanes.filter (fun x => x != l), passed := c.passed + (if pass then 1 else 0), retired := c.retired + (if pass then 0 else 1) } else c)
  let s := { s with clap := { s.clap with cals := cs.filter (fun c => !c.lanes.isEmpty) } }
  (cs.filter (fun c => c.lanes.isEmpty)).foldl (fun t c =>
    finish t c.hdr 0x22 (if c.retired = 0 then .ok else .hwFault) [(0, 1, c.passed), (1, 1, c.retired), (4, 4, satNat 32 ((t.ticks - c.since) / 625))]) s

/-- CLAP_CAL (R115, R116, R118): a lane retired already counts as retired. -/
def execClapCal (h : CmdHdr) (lane : Nat) (s : State) : Host.Outcome State Fault Refusal :=
  if !h.mbz then .next (badArg s h 0x22)
  else if 32 ≤ lane ∧ lane ≠ 0xFF then .next (complete s h 0x22 .notFound [])
  else if s.log.isolated.contains 6 then .next (complete s h 0x22 .hwFault [])
  else
    let all := if lane = 0xFF then List.range 24 else [lane]
    let gone := all.filter (fun l => s.f F.CLAP_LANE_STATUS_cal l == 3)
    let s := begins s h 0x22
    let s := { s with clap := { s.clap with cals := s.clap.cals ++ [⟨h, all, 0, 0, s.ticks⟩] } }
    let s := gone.foldl (fun t l => calNote t l false) s
    .next (laneGrant ((all.filter (fun l => !gone.contains l)).foldl laneRequest s))

/-- A runtime calibration of lane `l` is due (R115): the interval has passed or the die temperature has moved since its last one. A lane never
calibrated counts its hours from the model's tick 0 and has no temperature to move from (DESIGN CHOICE, notes/assumptions/68.md). -/
def laneDue (s : State) (l : Nat) : Bool :=
  let c := tget s.clap.lastCal none l
  let since := match c with
    | some k => k.1
    | none => 0
  (s.f F.CLAP_CTRL_cal_interval != 0 && decide (s.f F.CLAP_CTRL_cal_interval * 3600 * 625000000 ≤ s.ticks - since))
  || (match c with
    | some k => s.f F.CLAP_CTRL_cal_dt != 0 && decide (16 * s.f F.CLAP_CTRL_cal_dt ≤ (s.fi F.PWR_THERM_tj - k.2).natAbs)
    | none => false)

/-- LANE_CAL_TRIGGER (R115): with auto_cal, the interval or the temperature trigger asks for a calibration. -/
def execLaneCalTrigger (lane : Nat) (s : State) : Host.Outcome State Fault Refusal :=
  .next (if decide (lane < 32) && s.fb F.CLAP_CTRL_auto_cal && laneDue s lane then laneGrant (laneRequest s lane) else s)

/-- The factory bin widths of lane `l` in 2^-8 ps (R345). -/
def factoryBins (l : Nat) : List Nat := (List.range 14).map (fun b => fcal (64 + 32 * l + 4 + 2 * b) 2)

/-- The factory delay of lane `l` in 2^-8 ps (R345). -/
def factoryDelay (l : Nat) : Int := sext 32 (fcal (64 + 32 * l) 4)

/-- The bin widths in force of lane `l`: its runtime table, else the factory's (R116). -/
def laneBins (s : State) (l : Nat) : List Nat := (tget s.clap.bins none l).getD (factoryBins l)

/-- Measured bin widths pass (R116): each is within ±30 % of its factory value, and their total within 0.5 ps of one SHCLK cycle. -/
def binsPass (l : Nat) (bins : List Nat) : Bool :=
  bins.length == 14
  && (bins.zip (factoryBins l)).all (fun p => decide (10 * ((p.1 : Int) - p.2).natAbs ≤ 3 * p.2))
  && decide (((bins.sum : Int) - 409600).natAbs ≤ 128)

/-- A lane passes with its new table (R116): it resumes its work, at once or at the end of the measurement that runs (R18). -/
def lanePassed (s : State) (lane : Nat) (bins : List Nat) : State :=
  let s := { s.setF F.CLAP_LANE_STATUS_cal 1 lane with clap := { s.clap with
    lastCal := tset s.clap.lastCal lane (some (s.ticks, s.fi F.PWR_THERM_tj)), bins := tset s.clap.bins lane (some bins), resume := s.clap.resume ++ [lane] } }
  laneGrant (calNote s lane true)

/-- A lane fails and is retired until RESET_N: the spare stands in for it (R116). -/
def laneFailed (s : State) (lane : Nat) : State :=
  let s := s.setF F.CLAP_LANE_STATUS_cal 3 lane
  let sp := match tget s.clap.calWork none lane with
    | some w => s.f F.CLAP_LANE_STATUS_map w
    | none => 0xFF
  laneGrant (calNote (logRec s 2 0x0380 [(0, 1, lane), (1, 1, sp)]) lane false)

/-- LANE_CAL_DONE (R116): the code-density test of a lane gave these bin widths, in 2^-8 ps. -/
def execLaneCalDone (lane : Nat) (bins : List Nat) (s : State) : Host.Outcome State Fault Refusal :=
  if s.f F.CLAP_LANE_STATUS_cal lane ≠ 2 ∨ 32 ≤ lane then .next s
  else .next (if binsPass lane bins then lanePassed s lane bins else laneFailed s lane)

/-! ### Records (R105-R110, R114) -/

/-- 2^-48 ps to 2^-8 ps, to nearest. -/
def ps8 (d : Int) : Int := (d + 2 ^ 39) / 2 ^ 40

/-- Nearest integer, ties away from zero (R108). -/
def roundAway (q : Rat) : Int := if q < 0 then -(roundRat (-q)) else roundRat q

/-- A record is produced (R114): it takes the next sequence number and waits to be written. -/
def clapProduce (s : State) (c kind status stops : Nat) (spare : Bool) (slate : Slate) (body : Layout) (cmp : Option Int) : State :=
  let x := clapCh s c
  let r : ClapRec := ⟨kind, status, stops, x.seq, 4 * bit spare + 8 * s.f F.CLAP_CH_CFG_timebase c,
    if clapFn s c = 1 then s.f F.CLAP_CH_MEAS_stop_src c else c, slate, body, cmp⟩
  setClapCh s c { x with seq := (x.seq + 1) % 2 ^ 32, made := x.made + 1, recs := x.recs ++ [r] }

/-- A value enters the accumulator (R108). -/
def accAdd (a : ClapAcc) (v : Int) (slate : Slate) (spare : Bool) : ClapAcc :=
  let f := if a.n = 0 then v else a.first
  ⟨a.n + 1, f, a.sum + (v - f), a.sumSq + (v - f) * (v - f), if a.n = 0 then v else min a.min v, if a.n = 0 then v else max a.max v,
    a.notEntered, slate, a.spare || spare⟩

/-- The mean of the accumulator (R108). -/
def accMean (a : ClapAcc) : Int := roundAway ((a.first : Rat) + (a.sum : Rat) / ((a.n : Nat) : Rat))

/-- The standard deviation of the accumulator (R108): 0 when N = 1. -/
def accStdev (a : ClapAcc) : Nat :=
  if a.n ≤ 1 then 0 else sqrtRat (((a.n * a.sumSq - a.sum * a.sum : Int) : Rat) / ((a.n * (a.n - 1) : Nat) : Rat))

/-- The statistics record of the accumulator (R108). -/
def statRecord (s : State) (c status : Nat) (a : ClapAcc) : State :=
  clapProduce s c 1 status 0 a.spare a.last
    ([(32, 4, a.n), (36, 4, satNat 32 a.notEntered), (40, 8, twos 64 (accMean a)), (48, 8, twos 64 a.min), (56, 8, twos 64 a.max),
      (64, 8, accStdev a), (72, 1, s.f F.CLAP_CH_MEAS_stat_stop c)] ++ slateLayout 80 a.last)
    (some (accMean a))

/-- Disarm a channel. -/
def clapDisarm (s : State) (c : Nat) : State :=
  setClapCh (s.setB F.CLAP_CH_STATUS_armed false c) c { clapCh s c with left := none, early := [], later := [], start := none, stops := [], periods := 0, lost := false }

/-- One measurement, gate or statistics record of the count is done: the channel disarms by itself after the last (R118). -/
def clapCount (s : State) (c : Nat) : State :=
  match (clapCh s c).left with
  | none => s
  | some n => if n ≤ 1 then clapDisarm s c else setClapCh s c { clapCh s c with left := some (n - 1) }

/-- The values of the stops of a measurement in 2^-8 ps, from the start. -/
def stopValues (x : ClapCh) : List Int :=
  match x.start with
  | some st => x.stops.map (fun e => ps8 (e.pos - st.pos))
  | none => []

/-- The single record of an INTERVAL measurement. -/
def intervalRecord (s : State) (c status : Nat) (x : ClapCh) : State :=
  let st := x.start.getD ⟨0, Slate.none, false, false⟩
  let v := stopValues x
  clapProduce s c 0 status (16 * s.f F.CLAP_CH_MEAS_n_stops c + v.length) (st.spare || x.stops.any (fun e => e.spare)) st.slate
    (v.zipIdx.map (fun p => (32 + 8 * p.2, 8, twos 64 p.1))) (v[s.f F.CLAP_CH_MEAS_stat_stop c - 1]?)

/-- The place of an instant `frac` 2^-32 of a cycle after the last edge on the timebase of channel `c`, in 2^-48 ps (R104). -/
def clapPos (s : State) (c : Nat) (frac : Int) : Int :=
  let tb := s.f F.CLAP_CH_CFG_timebase c
  if tb < 4 then (tsc s tb).elapsed * 1000 + rateIncr s 4 tb * frac * 1000 / 2 ^ 32
  else ((s.ticks : Int) * 2 ^ 32 + frac) * 1600 * 2 ^ 48 / 2 ^ 32

/-- Gate time or timeout in 2^-48 ps. -/
def clapTmo (s : State) (c : Nat) : Int := (s.pair .CLAP_CH_TMO_LO .CLAP_CH_TMO_HI c : Nat) * 1000 * 2 ^ 48

/-- The end of a measurement on its timebase (R105-R107): the last stop, the timeout, the place of the lost stamp, or now. -/
def endPos (s : State) (c status : Nat) (x : ClapCh) : Int :=
  match status, x.stops.getLast?, x.start with
  | 0, some e, _ => e.pos
  | 1, _, some st => st.pos + clapTmo s c
  | 2, _, _ => x.lostPos
  | _, _, _ => clapPos s c 0

/-- The stamps that waited for the end of a measurement are met again, in their order (R105). -/
def replayEdges (s : State) (c : Nat) : State :=
  let x := clapCh s c
  if clapArmed s c then
    setClapCh s c (x.later.foldl (fun y q => intervalEdge y (s.f F.CLAP_CH_MEAS_n_stops c) q.1 q.2.1 q.2.2) { x with later := [] })
  else s

/-- An INTERVAL measurement ends (R105-R109): its record, or its value or its count in the accumulator and the statistics record of a full
one. In continuous mode with one source the last stop is the next start. -/
def closeInterval (s : State) (c status : Nat) : State :=
  let x := clapCh s c
  let st := x.start.getD ⟨0, Slate.none, false, false⟩
  let lastStop := x.stops.getLast?
  let same := s.f F.CLAP_CH_MEAS_start_src c == s.f F.CLAP_CH_MEAS_stop_src c
  let carry := if s.fb F.CLAP_CH_CFG_continuous c && same && status == 0 then lastStop else none
  let s := setClapCh s c { x with start := carry, stops := [], lost := false, armPos := endPos s c status x }
  if s.fb F.CLAP_CH_CFG_stat_en c && status != 3 then
    let a := match (stopValues x)[s.f F.CLAP_CH_MEAS_stat_stop c - 1]? with
      | some v => if status = 0 then accAdd x.acc v st.slate (st.spare || x.stops.any (fun e => e.spare)) else { x.acc with notEntered := x.acc.notEntered + 1 }
      | none => { x.acc with notEntered := x.acc.notEntered + 1 }
    if s.f F.CLAP_CH_STAT_n c ≤ a.n then
      clapCount (statRecord (setClapCh s c { clapCh s c with acc := ClapAcc.empty }) c 0 a) c
    else setClapCh s c { clapCh s c with acc := a }
  else clapCount (intervalRecord s c status x) c

/-- Nominal frequency of a channel in 2^-32 Hz. -/
def clapNom (s : State) (c : Nat) : Nat := s.pair .CLAP_CH_NOM_LO .CLAP_CH_NOM_HI c

/-- f of a gate in 2^-32 Hz, exactly, from M periods in `d` 2^-48 ps (R110). -/
def gateFreq (s : State) (c m : Nat) (d : Int) : Rat :=
  ((m * 2 ^ s.f F.CLAP_CH_CFG_prescale_exp c * 2 ^ 80 * 10 ^ 12 : Nat) : Rat) / (d : Rat)

/-- y in 10^-18 (R110): 0 when f_nom is 0. -/
def gateY (s : State) (c : Nat) (f : Rat) : Int :=
  if clapNom s c = 0 then 0 else roundRat ((f / ((clapNom s c : Nat) : Rat) - 1) * 1000000000000000000)

/-- A gate ends (R110); in continuous mode its end edge is the next start. -/
def closeGate (s : State) (c status : Nat) : State :=
  let x := clapCh s c
  let st := x.start.getD ⟨0, Slate.none, false, false⟩
  let carry := if s.fb F.CLAP_CH_CFG_continuous c && status == 0 then x.stops.head? else none
  let s := setClapCh s c { x with start := carry, stops := [], periods := 0, lost := false }
  clapCount (match status, x.stops.head? with
    | 0, some e =>
      let d := e.pos - st.pos
      let f := gateFreq s c x.periods d
      clapProduce s c 2 0 0 (st.spare || e.spare) st.slate
        ([(32, 8, satNat 64 (roundRat f).toNat), (40, 8, twos 64 (gateY s c f)), (48, 4, x.periods), (56, 8, twos 64 (ps8 d))] ++ slateLayout 64 e.slate)
        (some (gateY s c f))
    | _, _ => clapProduce s c 2 status 0 st.spare st.slate [] none) c

/-- A running measurement ends with `status`. -/
def closeRunning (s : State) (c status : Nat) : State :=
  laneGrant (if clapFn s c = 1 then replayEdges (closeInterval s c status) c else closeGate s c status)

/-- INTERVAL_END (R105): the last stop has come. -/
def execIntervalEnd (ch : Nat) (s : State) : Host.Outcome State Fault Refusal :=
  let x := clapCh s ch
  .next (if clapArmed s ch && clapFn s ch == 1 && x.start.isSome && !x.lost && decide (s.f F.CLAP_CH_MEAS_n_stops ch ≤ x.stops.length)
    then closeRunning s ch 0 else s)

/-- FREQUENCY_GATE_END (R110): the end edge is stamped. -/
def execFrequencyGateEnd (ch : Nat) (s : State) : Host.Outcome State Fault Refusal :=
  let x := clapCh s ch
  .next (if clapArmed s ch && clapFn s ch == 2 && !x.lost && !x.stops.isEmpty then closeRunning s ch 0 else s)

/-- STOP_TIMEOUT (R106, R110): an interval whose stops are not all there, or a gate with fewer than two edges; one that has two waits for its end
edge. -/
def execStopTimeout (ch : Nat) (s : State) : Host.Outcome State Fault Refusal :=
  let x := clapCh s ch
  .next (if clapArmed s ch && !x.lost &&
      ((clapFn s ch == 1 && x.start.isSome && decide (x.stops.length < s.f F.CLAP_CH_MEAS_n_stops ch)) || (clapFn s ch == 2 && x.stops.isEmpty && x.periods == 0))
    then closeRunning s ch 1 else s)

/-- MEASUREMENT_LOST (R107): a stamp that the measurement needs carries a gap mark. -/
def execMeasurementLost (ch : Nat) (s : State) : Host.Outcome State Fault Refusal :=
  .next (if clapArmed s ch && (clapCh s ch).lost && (clapFn s ch == 1 || clapFn s ch == 2) then closeRunning s ch 2 else s)

/-- Every running measurement ends with CLOCK_LOST when SHCLK is lost; the channels stay armed (R107). The next capture carries a gap
mark (R172). -/
def clapClockLost (s : State) : State :=
  (List.range 16).foldl (fun t c =>
    if clapArmed t c && (clapCh t c).start.isSome && (clapFn t c == 1 || clapFn t c == 2) then closeRunning t c 4
    else if clapFn t c = 3 then setClapCh t c { clapCh t c with gapNext := true } else t) s

/-! ### Stream edges (R99-R105, R111) -/

/-- The user delay of channel `c` in 2^-48 ps (R104). -/
def ucal (s : State) (c : Nat) : Int := s.fi F.CLAP_CH_UCAL_value c * 2 ^ 40

/-- The stamp of stream `c` for consumer `k`: corrected, with the slate of its corrected instant (R104). -/
def stampFor (s : State) (k c : Nat) (frac : Int) (gap : Bool) : Stamp :=
  let n := clapTs s k
  let sub : Int := rateIncr s 4 n * frac / 2 ^ 32 - s.fi F.CLAP_CH_UCAL_value c * 2 ^ 40 / 1000
  ⟨clapPos s k frac - ucal s c, slateAt s n (.ring (s.f F.CLAP_CH_CFG_ring k)) sub, s.fb F.CLAP_CH_STATUS_spare c, gap⟩

/-- A gate meets a stream edge (R110). -/
def gateEdge (x : ClapCh) (gate : Int) (e : Stamp) : ClapCh :=
  if x.lost || !x.stops.isEmpty then x
  else match x.start with
    | none => if x.armPos ≤ e.pos then { x with start := some e, periods := 0, lost := e.gap, lostPos := e.pos } else x
    | some st => { x with periods := x.periods + 1, lost := e.gap, lostPos := e.pos, stops := if st.pos + gate ≤ e.pos then [e] else [] }

/-- A start event that is no stream edge, a cue's trigger, at `sub` 2^-48 ns after the last edge (R105). -/
def cueStart (s : State) (cue : Nat) (sub : Int) : State :=
  (List.range 16).foldl (fun t c =>
    let x := clapCh t c
    if clapArmed t c && clapFn t c == 1 && t.f F.CLAP_CH_MEAS_start_src c == 16 && t.f F.CLAP_CH_MEAS_start_cue c == cue then
      setClapCh t c (intervalEdge x (t.f F.CLAP_CH_MEAS_n_stops c) true false
        ⟨clapPos t c 0 + sub * 1000, slateAt t (clapTs t c) (.ring (t.f F.CLAP_CH_CFG_ring c)) sub, false, false⟩)
    else t) s

/-- The offset of an edge on timescale `n` from the nearest instant whole second + k/r, in 2^-48 ns (R111). -/
def refOffset (s : State) (n c : Nat) (frac : Int) : Rat :=
  let r := clapNom s c / 2 ^ (32 + s.f F.CLAP_CH_CFG_prescale_exp c)
  let u : Rat := ((counterUnits (tsc s n).cnt : Nat) : Rat) + ((rateIncr s 4 n * frac : Int) : Rat) / 4294967296
    - ((s.fi F.CLAP_CH_UCAL_value c * 2 ^ 40 : Int) : Rat) / 1000
  let p : Rat := ((unitsPerSec : Nat) : Rat) / ((r : Nat) : Rat)
  u - p * ((u / p + 1 / 2).floor : Rat)

/-- An enabled CIN slot that channel `c` feeds is on timescale `n`. -/
def refFeeds (s : State) (c n : Nat) : Bool :=
  (List.range 32).any (fun k => s.fb F.TS_REF_CFG_enable k && s.f F.TS_REF_CFG_type k == 2 && s.f F.TS_REF_CFG_source k == c && s.f F.TS_REF_CFG_ts k == n)

/-- An offset enters the epoch's offsets (R111): after a gap only the edges from there on count. -/
def refAdd (a : RefAcc) (gap : Bool) (o : Rat) : RefAcc :=
  if gap then { RefAcc.empty with sum := o, n := 1, last := some o } else { a with sum := a.sum + o, n := a.n + 1, last := some o }

/-- The stream edge of REFERENCE channel `c` is taken on the timescale of each slot that it feeds (R111). -/
def refEdge (s : State) (c : Nat) (frac : Int) (gap : Bool) : State :=
  let x := clapCh s c
  setClapCh s c { x with refs := (List.range 4).foldl (fun t n =>
    if refFeeds s c n then tset t n (refAdd (tget x.refs RefAcc.empty n) gap (refOffset s n c frac)) else t) x.refs }

/-- The capture stamp of a stream edge of channel `c` (R172): on the timescale of CUE_CAP_CFG, with 6 ps added to its bound. -/
def captureEdge (s : State) (c : Nat) (frac : Int) (falling gap : Bool) : State :=
  let n := s.f F.CUE_CAP_CFG_ts
  let d := Dest.ring (s.f F.CUE_CAP_CFG_ring)
  let sub : Int := rateIncr s 4 n * frac / 2 ^ 32 - s.fi F.CLAP_CH_UCAL_value c * 2 ^ 40 / 1000
  let r : Capture := ⟨c, bit falling + 2 * bit gap + 4 * bit (s.fb F.CLAP_CH_STATUS_spare c), s.cues.capSeq, consumerSlate s 19 d sub 6⟩
  { s with cues := { s.cues with caps := s.cues.caps ++ [r], capSeq := (s.cues.capSeq + 1) % 2 ^ 32 } }

/-- Consumer `k` takes the stream edge of channel `c`. -/
def consumeEdge (s : State) (c : Nat) (frac : Int) (falling gap : Bool) (k : Nat) : State :=
  let x := clapCh s k
  if k = c ∧ clapFn s k = 3 then captureEdge s c frac falling gap
  else if !clapArmed s k then s
  else if clapFn s k = 1 then
    let a := s.f F.CLAP_CH_MEAS_start_src k == c
    let b := s.f F.CLAP_CH_MEAS_stop_src k == c
    if a || b then setClapCh s k (intervalEdge x (s.f F.CLAP_CH_MEAS_n_stops k) a b (stampFor s k c frac gap)) else s
  else if k ≠ c then s
  else if clapFn s k = 2 then setClapCh s k (gateEdge x (clapTmo s k) (stampFor s k c frac gap))
  else if clapFn s k = 4 && !s.fb F.CLAP_CH_STATUS_ref_bad k then refEdge s k frac gap
  else s

/-- Channel `k` runs a measurement that needs the stream edge of channel `c` (R107): a stop that has not come, or an edge of its gate. -/
def edgeNeeded (s : State) (c k : Nat) : Bool :=
  let x := clapCh s k
  clapArmed s k && x.start.isSome
  && ((clapFn s k == 1 && s.f F.CLAP_CH_MEAS_stop_src k == c && decide (x.stops.length < s.f F.CLAP_CH_MEAS_n_stops k))
      || (clapFn s k == 2 && k == c && x.stops.isEmpty))

/-- A stamp is lost (R103): counted, a running measurement that needs it is lost with it (R107), and the lane's next stamp carries a gap mark. -/
def stampLost (s : State) (c : Nat) (path : Bool) : State :=
  let s := (List.range 16).foldl (fun t k => if edgeNeeded t c k && !(clapCh t k).lost then
    setClapCh t k { clapCh t k with lost := true, lostPos := clapPos t k 0 } else t) s
  let s := setClapCh s c { clapCh s c with gapNext := true }
  let s := s.incF F.CLAP_CH_LOST_stamps c
  if path then s.inc .CLAP_AGG_LOST else perf s 0x8004 (engineNumber .clapper)

/-- A message accepted at the ToD port (R178): its claim is remembered for 2 s. -/
def todAccept (s : State) (claim : Nat) : State :=
  let t := s.cues.tod
  { s with cues := { s.cues with tod := { t with claims := (claim, s.ticks) :: t.claims.filter (fun p => decide (s.ticks < p.2 + 1250000000)) } } }

/-- The highest claim accepted in the last 2 s (R178). -/
def todClaim (s : State) : Option Nat :=
  (s.cues.tod.claims.filter (fun p => decide (s.ticks < p.2 + 1250000000))).foldl
    (fun m p => some (match m with | none => p.1 | some q => max p.1 q)) none

/-- The larger of two uncertainties; none: unbounded. -/
def worseUnc : Option Nat → Option Nat → Option Nat
  | some a, some b => some (max a b)
  | _, _ => none

/-- The offset of the last edge is replaced by a labelled one with the sender's uncertainty (R178). -/
def refLabel (a : RefAcc) (o : Rat) (unc : Option Nat) : RefAcc :=
  match a.last with
  | some q => { a with sum := a.sum - q + o, last := some o, unc := worseUnc a.unc unc }
  | none => { a with sum := a.sum + o, n := a.n + 1, last := some o, unc := worseUnc a.unc unc }

/-- An accepted label of the last edge of the ToD port's channel (R178): where a CIN slot uses the channel with f_nom 1 Hz, that edge's offset is the
one from the labelled second, and the sender's bound enters U. -/
def todLabel (s : State) (label bnd : Nat) : State :=
  let c := s.f F.CUE_TOD_CFG_rx_cin
  match s.cues.tod.edge with
  | none => s
  | some e =>
    if clapNom s c = 2 ^ 32 && clapFn s c == 4 && !s.fb F.CLAP_CH_STATUS_ref_bad c then
      let x := clapCh s c
      setClapCh s c { x with refs := (List.range 4).foldl (fun t n => if refFeeds s c n then
        tset t n (refLabel (tget x.refs RefAcc.empty n) (((e.2.getD n 0) - label * unitsPerSec : Int) : Rat) (boundPs bnd)) else t) x.refs }
    else s

/-- A received message is rejected and counted (R178). -/
def todReject (s : State) : State := s.incF F.CUE_TOD_ERR_rejected

/-- A claim is lower than the highest accepted in the last 2 s (R178). -/
def todLow (s : State) (claim : Nat) : Bool :=
  match todClaim s with
  | some c => decide (claim < c)
  | none => false

/-- The ToD port sees the edge of its channel (R178): its time, and the message that waited for it, which a higher claim accepted since rejects. -/
def todEdge (s : State) (c : Nat) (frac : Int) : State :=
  if s.fb F.CUE_TOD_CFG_rx_en && s.f F.CUE_TOD_CFG_rx_cin == c then
    let u (n : Nat) : Int := (counterUnits (tsc s n).cnt : Int) + rateIncr s 4 n * frac / 2 ^ 32 - s.fi F.CLAP_CH_UCAL_value c * 2 ^ 40 / 1000
    let w := s.cues.tod.waits
    let s := { s with cues := { s.cues with tod := { s.cues.tod with edge := some (s.ticks, (List.range 4).map u), waits := none } } }
    match w with
    | some (label, bnd, claim) => if todLow s claim then todReject s else todLabel (todAccept s claim) label bnd
    | none => s
  else s

/-- Lane `l` corrects what it measured, `frac` 2^-32 of a cycle by an interpolator of equal bins, with its bin widths and its factory delay (R104);
the answer is in 2^-32 of a cycle. That the delay is subtracted, as the user delay is, is DEDUCED (notes/assumptions/68.md). -/
def laneFrac (s : State) (l frac : Nat) : Int :=
  let b := laneBins s l
  let k := 14 * frac / 2 ^ 32
  let ps8 : Int := (((b.take k).sum * 2 ^ 32 + b.getD k 0 * (14 * frac % 2 ^ 32) : Nat) : Int) - factoryDelay l * 2 ^ 32
  (ps8 + 204800) / 409600

/-- Room in the FIFO of lane `l` (R103): 16 entries, of which one leaves every 200 ns, 125 SHCLK cycles. -/
def laneHeld (s : State) (l : Nat) : List Nat := (tget s.clap.fifo [] l).filter (fun t => decide (s.ticks < t))

/-- A stamp enters the FIFO of lane `l`: it leaves 200 ns after the one before it, or after now. -/
def lanePush (s : State) (l : Nat) : State :=
  let q := laneHeld s l
  { s with clap := { s.clap with fifo := tset s.clap.fifo l (q ++ [max (q.getLast?.getD 0) s.ticks + 125]) } }

/-- The stream edge of channel `c` that passed the prescaler: ignored and counted inside the dead time, else stamped (R102, R103). -/
def stampEdge (s : State) (c frac : Nat) (falling : Bool) (pathFull : Bool) : State :=
  let p := s.ticks * 2 ^ 32 + frac
  let dead := match (clapCh s c).lastStamp with
    | none => false
    | some q => decide (p < q + 2 * 2 ^ 32)
  if dead then s.inc .CLAP_CH_MISSED c
  else
    let l := s.f F.CLAP_CH_STATUS_lane c
    let s := perf (setClapCh s c { clapCh s c with lastStamp := some p }) 0x0030 l
    if pathFull then stampLost s c true
    else if 16 ≤ (laneHeld s l).length then stampLost s c false
    else
      let gap := (clapCh s c).gapNext
      let f := laneFrac s l frac
      let s := lanePush (setClapCh s c { clapCh s c with gapNext := false }) l
      todEdge ((List.range 16).foldl (fun t k => consumeEdge t c f falling gap k) s) c f

/-- An edge of this direction passes the slope selection of channel `c` (R99). -/
def slopeOk (s : State) (c : Nat) (falling : Bool) : Bool :=
  match s.f F.CLAP_CH_IN_slope c with
  | 0 => !falling
  | 1 => falling
  | _ => true

/-- STREAM_EDGE (R99, R102, R103): an edge of channel `c` at its comparator, `ticks` SHCLK cycles and, as its lane measures it, `frac` 2^-32 of a
cycle on; `pathFull`: the aggregate path, which the other lanes share, has no room. -/
def execStreamEdge (ch ticks frac : Nat) (falling : Bool) (pathFull : Bool) (s : State) : Host.Outcome State Fault Refusal :=
  let s := advance s ticks
  if 16 ≤ ch ∨ s.hs.shclk = false ∨ clapFn s ch = 0 ∨ slopeOk s ch falling = false then .next s
  else
    let x := clapCh s ch
    if x.presc + 1 < 2 ^ s.f F.CLAP_CH_CFG_prescale_exp ch then .next (setClapCh s ch { x with presc := x.presc + 1 })
    else .next (stampEdge (setClapCh s ch { x with presc := 0 }) ch (frac % 2 ^ 32) falling pathFull)

/-- The measurement that the epoch's offsets make: their mean (R111); none without an edge. -/
def refMeas (a : RefAcc) : Option Meas :=
  if a.n = 0 then none else some ⟨unitsToPs (roundRat (a.sum / ((a.n : Nat) : Rat))), a.unc, 0, 0xFF, 0⟩

/-- REFERENCE_OFFSET (R111): each enabled CIN slot of the channel receives the mean offset of the epoch's edges on its own timescale. -/
def execReferenceOffset (ch : Nat) (s : State) : Host.Outcome State Fault Refusal :=
  let x := clapCh s ch
  .next ((List.range 32).foldl (fun t k =>
    if slotOn t k && t.f F.TS_REF_CFG_type k == 2 && t.f F.TS_REF_CFG_source k == ch then
      (match refMeas (tget x.refs RefAcc.empty (s.f F.TS_REF_CFG_ts k)) with
      | some m => takeMeas t k m
      | none => t) else t) (setClapCh s ch { x with refs := [] }))

/-! ### The result area, the limits and the commands (R112-R114, R118, R119) -/

/-- A limit of channel `c`: s64. -/
def clapLimit (s : State) (c : Nat) (upper : Bool) : Int :=
  sext 64 (if upper then s.pair .CLAP_CH_LIMHI_LO .CLAP_CH_LIMHI_HI c else s.pair .CLAP_CH_LIMLO_LO .CLAP_CH_LIMLO_HI c)

/-- Compare a record's value with the limits in force (R112): below 1, above 2, in range 0; none where there is nothing to compare. -/
def limitFlags (s : State) (c : Nat) (v : Option Int) : Option Nat :=
  match v with
  | none => none
  | some x => if s.fb F.CLAP_CH_CFG_limit_en c then
      some (if x < clapLimit s c false then 1 else if clapLimit s c true < x then 2 else 0) else none

/-- The outcome of a comparison: out-of-limit records are counted, and a change between in and out is posted (R112). -/
def limitNote (s : State) (c : Nat) (f : Option Nat) : State :=
  match f with
  | none => s
  | some k =>
    let s := if k = 0 then s else s.inc .CLAP_CH_OUTLIM c
    if s.fb F.CLAP_CH_STATUS_limit_out c == (k != 0) then s
    else event (s.setB F.CLAP_CH_STATUS_limit_out (k != 0) c) 0x0302 [(0, 1, c), (1, 1, bit (k != 0))]

/-- A record as it stands in host memory. -/
def clapLayout (c : Nat) (r : ClapRec) (lim dropped : Nat) : Layout :=
  [(0, 1, c), (1, 1, r.kind), (2, 1, r.status), (3, 1, r.stops), (4, 4, r.seq), (8, 1, r.flags + lim), (9, 1, r.stopSrc), (10, 2, satNat 16 dropped)]
  ++ slateLayout 16 r.slate ++ r.body

/-- CLAP_RECORD_WRITE (R112, R114): the oldest record that waits is compared and written, or dropped and counted where the area is full;
nothing is written while Bus Master Enable is 0 (R302). -/
def execClapRecordWrite (ch : Nat) (s : State) : Host.Outcome State Fault Refusal :=
  let x := clapCh s ch
  match x.recs with
  | [] => .next s
  | r :: rest =>
    if !s.fb F.HOST_STATUS_bus_master then .next s
    else
      let lim := limitFlags s ch r.cmp
      let s := limitNote (setClapCh s ch { x with recs := rest }) ch lim
      let size := s.f F.CLAP_CH_BUF_CFG_size_exp ch
      if areaFull s .CLAP_CH_WIDX .CLAP_CH_RIDX ch size then
        .next (setClapCh (s.incF F.CLAP_CH_LOST_records ch) ch { clapCh s ch with dropped := x.dropped + 1 })
      else
        let s := setClapCh s ch { clapCh s ch with dropped := 0 }
        let s := areaPut s .CLAP_CH_WIDX ch (s.pair .CLAP_CH_BUF_LO .CLAP_CH_BUF_HI ch) size 128 (clapLayout ch r (lim.getD 0) x.dropped)
        .next (if s.fb F.CLAP_CH_STATUS_notice ch then s
          else notice (s.setB F.CLAP_CH_STATUS_notice true ch) (s.f F.CLAP_CH_CFG_ring ch) 0x0301 [(0, 1, ch), (4, 4, (s.rg .CLAP_CH_WIDX ch).toNat)])

/-- CLAP_CH_RIDX_WRITE (R114): releases slots and ends the notice; behind its previous value or ahead of WIDX it is refused. -/
def execClapChRidxWrite (ch : Nat) (value : Word) (s : State) : Host.Outcome State Fault Refusal :=
  .next (if decide (ch < 16) && ridxOk s .CLAP_CH_WIDX .CLAP_CH_RIDX ch value then
    (s.wr .CLAP_CH_RIDX ch 0 value).setB F.CLAP_CH_STATUS_notice false ch else violation s)

/-- CLAP_LIMIT_LO_WRITE (R113): held until the high half is written. -/
def execClapLimitLoWrite (ch : Nat) (upper : Bool) (value : Word) (s : State) : Host.Outcome State Fault Refusal :=
  if 16 ≤ ch then .next (violation s)
  else .next (setClapCh s ch (if upper then { clapCh s ch with heldHi := some value } else { clapCh s ch with heldLo := some value }))

/-- CLAP_LIMIT_HI_WRITE (R112, R113): the new limit is checked against the other one in force; a refused one discards the held half. -/
def execClapLimitHiWrite (ch : Nat) (upper : Bool) (value : Word) (s : State) : Host.Outcome State Fault Refusal :=
  if 16 ≤ ch then .next (violation s)
  else
    let x := clapCh s ch
    let lo := if upper then x.heldHi.getD (s.rg .CLAP_CH_LIMHI_LO ch) else x.heldLo.getD (s.rg .CLAP_CH_LIMLO_LO ch)
    let s := setClapCh s ch (if upper then { x with heldHi := none } else { x with heldLo := none })
    let v := sext 64 (value.toNat * 2 ^ 32 + lo.toNat)
    let ok := if upper then decide (clapLimit s ch false ≤ v) else decide (v ≤ clapLimit s ch true)
    if !ok then .next (violation s)
    else if upper then .next ((s.wr .CLAP_CH_LIMHI_LO ch 0 lo).wr .CLAP_CH_LIMHI_HI ch 0 value)
    else .next ((s.wr .CLAP_CH_LIMLO_LO ch 0 lo).wr .CLAP_CH_LIMLO_HI ch 0 value)

/-- The arguments of an arming that CLAP_ARM refuses with BAD_ARG (R110, R118 and the field tables). -/
def clapArmBad (s : State) (c : Nat) : Bool :=
  let src := s.f F.CLAP_CH_MEAS_start_src c
  (clapFn s c != 1 && clapFn s c != 2)
  || (clapFn s c == 1 && ((decide (src < 16) && clapFn s src == 0) || clapFn s (s.f F.CLAP_CH_MEAS_stop_src c) == 0))
  || s.pair .CLAP_CH_BUF_LO .CLAP_CH_BUF_HI c == 0
  || decide (s.f F.CLAP_CH_MEAS_n_stops c < s.f F.CLAP_CH_MEAS_stat_stop c)
  || (src == 17 && s.f F.CLAP_CH_CFG_timebase c == 4)
  || ringType s (s.f F.CLAP_CH_CFG_ring c) != 1
  || (clapFn s c == 2 && decide (s.pair .CLAP_CH_TMO_LO .CLAP_CH_TMO_HI c < 1000))

/-- The prescalers of the channels that gain their first consumer restart (R100). -/
def restartPrescalers (before s : State) : State :=
  (List.range 16).foldl (fun t c => if !clapConsumer before c && clapConsumer s c then setClapCh t c { clapCh t c with presc := 0 } else t) s

/-- A channel that is armed at a whole second of its timebase takes that second as its start where its start source says so (R105). -/
def armFirst (s : State) (c : Nat) (x : ClapCh) : ClapCh :=
  let n := s.f F.CLAP_CH_CFG_timebase c
  let u : Int := counterUnits (tsc s n).cnt
  if clapFn s c = 1 && s.f F.CLAP_CH_MEAS_start_src c == 17 && tsRuns s n && u % unitsPerSec == 0 then
    intervalEdge x (s.f F.CLAP_CH_MEAS_n_stops c) true false (secondStamp s n c u u x.armPos)
  else x

/-- CLAP_ARM (R110, R116, R118). -/
def execClapArm (h : CmdHdr) (ch count : Nat) (s : State) : Host.Outcome State Fault Refusal :=
  if !h.mbz then .next (badArg s h 0x20)
  else if 16 ≤ ch then .next (complete s h 0x20 .notFound [])
  else if clapArmed s ch then .next (complete s h 0x20 .busy [])
  else if clapArmBad s ch then .next (badArg s h 0x20)
  else if !s.hs.shclk then .next (complete s h 0x20 .busy [])
  else if s.f F.CLAP_LANE_STATUS_cal (s.f F.CLAP_CH_STATUS_lane ch) = 3 ∨ s.log.isolated.contains 6 = true then .next (complete s h 0x20 .hwFault [])
  else
    let x := clapCh s ch
    let t := setClapCh (s.setB F.CLAP_CH_STATUS_armed true ch) ch (armFirst s ch
      { x with armPos := clapPos s ch 0, left := if count = 0 then none else some count, made := 0, early := [], later := [], start := none, stops := [],
               periods := 0, lost := false, acc := ClapAcc.empty })
    .next (complete (restartPrescalers s t) h 0x20 .ok [(0, 4, x.seq)])

/-- CLAP_DISARM (R118, R119): a measurement that has reached its end keeps its own status, a running one ends once with ABORTED, and the
accumulator is written as PARTIAL unless it is empty. A REFERENCE channel is armed by its slot and not by CLAP_ARM: the command answers NOT_FOUND for
it and leaves it armed (DESIGN CHOICE, notes/assumptions/68.md). -/
def execClapDisarm (h : CmdHdr) (ch : Nat) (s : State) : Host.Outcome State Fault Refusal :=
  if !h.mbz then .next (badArg s h 0x21)
  else if 16 ≤ ch ∨ clapArmed s ch = false ∨ clapFn s ch = 4 then .next (complete s h 0x21 .notFound [])
  else
    let x := clapCh s ch
    let done := if clapFn s ch = 1 then x.start.isSome && decide (s.f F.CLAP_CH_MEAS_n_stops ch ≤ x.stops.length) else !x.stops.isEmpty
    let abandoned := x.start.isSome && !done && !x.lost
    let s := if x.lost then closeRunning s ch 2 else if done then closeRunning s ch 0 else if abandoned then closeRunning s ch 3 else s
    let a := (clapCh s ch).acc
    let s := if clapFn s ch = 1 ∧ s.fb F.CLAP_CH_CFG_stat_en ch = true ∧ a.n ≠ 0 then
      statRecord (setClapCh s ch { clapCh s ch with acc := ClapAcc.empty }) ch 5 a else s
    .next (laneGrant (complete (clapDisarm s ch) h 0x21 .ok [(0, 4, satNat 32 (clapCh s ch).made), (4, 1, bit abandoned)]))

/-- CLAP_SNAPSHOT (R109, R118): the accumulator runs on. -/
def execClapSnapshot (h : CmdHdr) (ch : Nat) (s : State) : Host.Outcome State Fault Refusal :=
  if !h.mbz then .next (badArg s h 0x23)
  else if s.log.isolated.contains 6 then .next (complete s h 0x23 .hwFault [])
  else if 16 ≤ ch then .next (complete s h 0x23 .notFound [])
  else if s.fb F.CLAP_CH_CFG_stat_en ch = false then .next (badArg s h 0x23)
  else if clapArmed s ch = false ∨ (clapCh s ch).acc.n = 0 then .next (complete s h 0x23 .notFound [])
  else
    let q := (clapCh s ch).seq
    .next (complete (statRecord s ch 5 (clapCh s ch).acc) h 0x23 .ok [(0, 4, q)])

end Sys2Proof.Machine
end

