-- ==== Sys2Proof/Machine/GnssPath.lean ====
section
/-! DEFINITION. Sample ports and tracking channels of the GNSS baseband as the loss and return of AP0 act on them (09_gnss.md, R184, R185, R191,
R202): channel states, marks, and a sample path that breaks or forms its first mark again. -/
namespace Sys2Proof.Machine
open Sys2Proof

/-- The baseband's power state: pstate 0 OFF, 1 WAKING, 2 ON, 3 SLEEP. -/
def gnssP (s : State) : Nat := s.f F.GNSS_STATUS_pstate

/-- Port `p` beside its registers. -/
def gnssPort (s : State) (p : Nat) : GnssPort := tget s.gnss.ports GnssPort.reset p

/-- Set port `p`. -/
def setGnssPort (s : State) (p : Nat) (x : GnssPort) : State := { s with gnss := { s.gnss with ports := tset s.gnss.ports p x } }

/-- Channel `c` beside its registers. -/
def gnssCh (s : State) (c : Nat) : GnssCh := tget s.gnss.ch GnssCh.reset c

/-- Set channel `c`. -/
def setGnssCh (s : State) (c : Nat) (x : GnssCh) : State := { s with gnss := { s.gnss with ch := tset s.gnss.ch c x } }

/-- State of channel `c`: 0 IDLE, 1 RUNNING, 2 HELD, 3 SHED. -/
def gnssChState (s : State) (c : Nat) : Nat := s.f F.GNSS_CH_STATUS_state c

/-- A channel's transition (R191): entries to HELD and SHED, and the end of SHED, post GNSS_CH. -/
def gnssChSet (s : State) (c st : Nat) : State :=
  let old := gnssChState s c
  if old = st then s
  else
    let s := s.setF F.GNSS_CH_STATUS_state st c
    if st = 2 ∨ st = 3 ∨ old = 3 then event s 0x0702 [(0, 1, c), (1, 1, st)] else s

/-- The channels of port `p` in state `st`. -/
def gnssOn (s : State) (p st : Nat) : List Nat :=
  (List.range 192).filter (fun c => gnssChState s c == st && s.f F.GNSS_CH_CFG_port c == p)

/-- A RUNNING channel enters HELD (R191): its lock indicators clear. -/
def gnssHold (s : State) (c : Nat) : State :=
  let s := (s.setB F.GNSS_CH_STATUS_carrier_lock false c).setB F.GNSS_CH_STATUS_code_lock false c
  gnssChSet (setGnssCh s c { gnssCh s c with gap := true, strong := 0, prompts := [], lockMs := 0 }) c 2

/-- The sample path of port `p` breaks (R185, R191): no marks, and its RUNNING channels enter HELD. -/
def gnssBreak (s : State) (p : Nat) : State :=
  let s := setGnssPort (s.setB F.GNSS_PORT_STATUS_running false p) p { gnssPort s p with broken := true }
  (gnssOn s p 1).foldl gnssHold s

/-- SHCLK stops, so every port's sample path breaks (R185, R202). -/
def gnssShclkLost (s : State) : State :=
  if gnssP s = 2 then (List.range 3).foldl (fun t p => if t.fb F.GNSS_PORT_CFG_enable p then gnssBreak t p else t) s else s

/-- The rebuild load edge (R202), `gap` ticks after SHCLK stopped: a path that nothing else breaks forms its next mark at the first block start; the
blocks lost are counted (R185). -/
def gnssRebuilt (s : State) (gap : Nat) : State :=
  (List.range 3).foldl (fun t p =>
    if (gnssPort t p).broken && t.fb F.GNSS_PORT_STATUS_clk_present p && !t.fb F.GNSS_PORT_STATUS_rate_bad p && !t.fb F.GNSS_PORT_STATUS_overrun p then
      let x := gnssPort t p
      let n := gap / 625000
      let ms := x.marks.map (fun m => { m with sample := m.sample + n * t.f F.GNSS_PORT_FS_f_s p })
      setGnssPort (t.inc .GNSS_PORT_LOST p n) p { x with broken := false, marks := ms.take 1 }
    else t) s

/-- The mark of the sample that begins the next block (R184), `frac` 2^-32 of a tick on; the first two marks after a gap do not bracket it. The HELD
channels return to RUNNING (R191). -/
def gnssMark (s : State) (p n : Nat) (frac : Int) : State :=
  let x := gnssPort s p
  let off := rateIncr s 4 0 * frac / 2 ^ 32
  let m : GnssMark := ⟨n, ((counterUnits (tsc s 0).cnt : Int) + off).toNat, (s.ticks * 2 ^ 32 : Nat) + frac, slateWide s 0 (.mark p) off 10⟩
  let run := s.fb F.GNSS_PORT_STATUS_running p
  let s := sentTo s 0 (.mark p)
  let s := (s.setB F.GNSS_PORT_STATUS_running true p).setB F.GNSS_PORT_STATUS_clk_present true p
  let s := setGnssPort s p { x with broken := false, marks := m :: (if run then x.marks.take 1 else []) }
  (gnssOn s p 2).foldl (fun t c => gnssChSet (setGnssCh t c { gnssCh t c with slip := true }) c 1) s

/-- Samples of a block of port `p` (R184). -/
def blockSamples (s : State) (p : Nat) : Nat := s.f F.GNSS_PORT_FS_f_s p

/-- The instant of sample `n` of port `p` on TS0 in 2^-48 ns (R184): linear between its last two marks, at the declared rate while there is one. -/
def sampleUnits (s : State) (p n : Nat) : Int :=
  let d (a : GnssMark) : Int := (n : Int) - a.sample
  match (gnssPort s p).marks with
  | [] => (counterUnits (tsc s 0).cnt : Int)
  | [a] => a.units + d a * (unitsPerSec : Int) / (1000 * max 1 (blockSamples s p) : Nat)
  | a :: b :: _ => a.units + d a * ((a.units : Int) - b.units) / max 1 ((a.sample : Int) - b.sample)

/-- The first sample of port `p` whose instant on TS0 is at or after `u` (R193), by the same line. -/
def sampleAtOrAfter (s : State) (p : Nat) (u : Int) : Nat :=
  let up (a b : Int) : Int := -((-a) / b)
  match (gnssPort s p).marks with
  | [] => 0
  | [a] => (a.sample + up ((u - a.units) * (1000 * blockSamples s p : Nat)) unitsPerSec).toNat
  | a :: b :: _ => (a.sample + up ((u - a.units) * max 1 ((a.sample : Int) - b.sample)) (max 1 ((a.units : Int) - b.units))).toNat

/-- The slate on TS0 of sample `n` of port `p` for a destination (R184): TS0's bound and 10 ps. -/
def sampleSlate (s : State) (p n : Nat) (d : Dest) : Slate := slateWide s 0 d (sampleUnits s p n - counterUnits (tsc s 0).cnt) 10

end Sys2Proof.Machine
end

