-- ==== Sys2Proof/Machine/Loops.lean ====
section
/-! DEFINITION. The phase-locked loops (06_loops.md): DPLLs, APLLs, deterministic phase, and the loss and rebuild of AP0. -/
namespace Sys2Proof.Machine
open Sys2Proof

/-! ### Band selection (R129-R131) -/

/-- The die temperature rounded to 1 °C, as a band-table entry holds it. -/
def dieTemp (s : State) : Int := (s.fi F.PWR_THERM_tj + 8) / 16

/-- A frequency rounded to 1 MHz. -/
def mhz (q : Rat) : Nat := (roundRat (q / 1000000)).toNat

/-- The entry of APLL `a`'s band table that matches the target (R129). -/
def bandMatch (s : State) (a : Nat) (f : Rat) : Option Nat :=
  (List.range 32).find? (fun j => s.fb F.AP_BTAB_valid a j && s.f F.AP_BTAB_freq_mhz a j == mhz f
    && decide ((16 * s.fi F.AP_BTAB_temp a j - s.fi F.PWR_THERM_tj).natAbs ≤ 320))

/-- The entry that a completed search writes (R129): the one of the same frequency, else the first invalid one, else the one least
recently used. -/
def bandVictim (s : State) (a : Nat) (f : Rat) : Nat :=
  match (List.range 32).find? (fun j => s.fb F.AP_BTAB_valid a j && s.f F.AP_BTAB_freq_mhz a j == mhz f) with
  | some j => j
  | none =>
    match (List.range 32).find? (fun j => !s.fb F.AP_BTAB_valid a j) with
    | some j => j
    | none => (ap s a).lru.getLast?.getD 0

/-- Entry `j` is used. -/
def bandTouch (s : State) (a j : Nat) : State :=
  setAp s a { ap s a with lru := j :: (ap s a).lru.filter (fun x => x != j) }

/-- APLL `a` hops or searches (R129): a hop loads the stored band. -/
def apGo (s : State) (a : Nat) (searchOnly : Bool) : State :=
  match (if searchOnly then none else bandMatch s a ((apTarget s a).getD 0)) with
  | some j => apSet (setAp s a { ap s a with hop := some (j, s.f F.AP_BTAB_band a j) }) a 2
  | none => apSet (setAp s a { ap s a with hop := none }) a 1

/-- APLL `a` starts or relocks by itself (R121, R129, R131): without a target it stays where it is; AP1-AP3 with a PFD frequency out of range go to
LOST, which only enable 0 leaves; while OSC_IN is absent it waits. -/
def apStart (s : State) (a : Nat) (searchOnly : Bool) : State :=
  if (apTarget s a).isNone then s
  else if a != 0 && !pfdOk s a then apSet (setAp s a { ap s a with stuck := true }) a 4
  else if !s.loops.osc then s
  else apGo s a searchOnly

/-- OSC_IN is present again: an enabled APLL that waits for it in OFF starts (R131). -/
def oscBack (s : State) : State :=
  [1, 2, 3].foldl (fun t a => if t.fb F.AP_CFG_enable a && apState t a == 0 then apStart t a false else t)
    { s with loops := { s.loops with osc := true } }

/-- AP_HOP_TIMEOUT (R129): the entry is invalidated and a search starts. -/
def execApHopTimeout (a : Nat) (s : State) : Host.Outcome State Fault Refusal :=
  if 4 ≤ a ∨ apState s a ≠ 2 then .next s
  else
    let s := match (ap s a).hop with
      | some j => s.setB F.AP_BTAB_valid false a j.1
      | none => s
    .next (apSet (setAp s a { ap s a with hop := none }) a 1)

/-- AP_LOCKED (R129-R131, R141): a hop locks on the band that it loaded, a search on `band`; a search writes its entry. -/
def execApLocked (a band : Nat) (l : ApLock) (s : State) : Host.Outcome State Fault Refusal :=
  if 4 ≤ a ∨ (apState s a ≠ 1 ∧ apState s a ≠ 2) then .next s
  else
    let f := (apTarget s a).getD 0
    let (s, band, hopped) := match (ap s a).hop with
      | some j => (bandTouch s a j.1, j.2, 1)
      | none =>
        let j := bandVictim s a f
        let t := ((s.setB F.AP_BTAB_valid true a j).setF F.AP_BTAB_band band a j).setF F.AP_BTAB_freq_mhz (mhz f) a j
        (bandTouch (t.setI F.AP_BTAB_temp (satInt 8 (dieTemp s)) a j) a j, band % 512, 0)
    let s := ((s.setF F.AP_STATUS_band band a).setF F.AP_STATUS_from_table hopped a).setF F.AP_STATUS_lock_us (satNat 16 l.us) a
    let s := s.setB F.AP_STATUS_tune_margin l.margin a
    .next (apFinish (apSet (setAp s a { ap s a with hop := none }) a 3) a .ok [(0, 2, band), (2, 1, hopped), (4, 4, satNat 32 l.us)])

/-- AP_SEARCH_TIMEOUT (R131, R141, R142): the APLL enters LOST. An AP_RELOCK completes with TIMEOUT; a DP_RETUNE waits for the automatic
relock where there is one (DEDUCED, notes/assumptions/13.md). -/
def execApSearchTimeout (a : Nat) (s : State) : Host.Outcome State Fault Refusal :=
  if 4 ≤ a ∨ apState s a ≠ 1 then .next s
  else
    let s := apSet s a 4
    .next (match (ap s a).cmd with
      | some (_, op) => if op = 0x31 ∧ s.fb F.AP_CFG_auto_relock a = true then s else apFinish s a .timeout []
      | none => s)

/-- AP_LOST (R131, R136): AP1-AP3; `osc` tells that OSC_IN is still present. -/
def execApLost (a : Nat) (osc : Bool) (s : State) : Host.Outcome State Fault Refusal :=
  let s := if osc then oscBack s else { s with loops := { s.loops with osc := false } }
  if a = 0 ∨ 4 ≤ a ∨ apState s a ≠ 3 then .next s else .next (apSet s a 4)

/-- AP_AUTO_RELOCK (R131): 100 µs after entry to LOST, with OSC_IN present. -/
def execApAutoRelock (a : Nat) (s : State) : Host.Outcome State Fault Refusal :=
  if a = 0 ∨ 4 ≤ a ∨ apState s a ≠ 4 ∨ s.fb F.AP_CFG_auto_relock a = false ∨ (ap s a).stuck = true ∨ pfdOk s a = false then .next s
  else .next (apStart (oscBack s) a false)

/-- A DPLL whose ratio is fixed, in FREERUN or HOLDOVER, loads it into the APLL that it now steers (R121, R126). -/
def dpLoadFixed (s : State) (d : Nat) : State :=
  match steered s d with
  | none => s
  | some a =>
    if dpState s d = 1 ∨ (dpState s d = 4 ∧ (dp s d).ratio = 0) then
      setAp (setDp s d { dp s d with ratio := nominalRatio s d }) a { ap s a with ratio := some (nominalRatio s d) }
    else if dpState s d = 4 then setAp s a { ap s a with ratio := some (dp s d).ratio }
    else s

/-- AP_CFG_WRITE (R121, R131): an APLL that is enabled starts, or starts once a DPLL named gives it a target; enable 0 turns it off from any state. -/
def execApCfgWrite (a : Nat) (value : Word) (s : State) : Host.Outcome State Fault Refusal :=
  if 4 ≤ a then .next (violation s)
  else
    let was := s.fb F.AP_CFG_enable a
    let named := s.f F.AP_CFG_dpll a
    let s := regWrite s ⟨.AP_CFG, a, 0⟩ value
    let now := s.fb F.AP_CFG_enable a
    let s := if a ≠ 0 ∧ s.f F.AP_CFG_dpll a ≠ named then dpLoadFixed s (s.f F.AP_CFG_dpll a) else s
    let s := if was && !now then apFinish (apSet (setAp s a { ap s a with stuck := false, hop := none }) a 0) a .timeout []
      else if now && apState s a == 0 then apStart s a false else s
    .next (dpEvalAll s)

/-- AP_SS_WRITE (R135). -/
def execApSsWrite (a : Nat) (value : Word) (s : State) : Host.Outcome State Fault Refusal :=
  if 4 ≤ a then .next (violation s)
  else
    let s := regWrite s ⟨.AP_SS, a, 0⟩ value
    .next (dpEvalAll (s.setB F.AP_STATUS_spread_active (apState s a == 3 && spreadOn s a) a))

/-! ### DPLLs (R123-R128, R132, R133) -/

/-- DP_CFG_WRITE (R126, R128): enable starts or stops the DPLL. -/
def execDpCfgWrite (d : Nat) (value : Word) (s : State) : Host.Outcome State Fault Refusal :=
  if 6 ≤ d then .next (violation s) else .next (lpiCheckAll (dpEval (regWrite s ⟨.DP_CFG, d, 0⟩ value) d))

/-- The slope limit of DPLL `d` in ps/s (R125): 6, no limit, acts as 5 while an output fed by its APLL runs. -/
def dpSlope (s : State) (d : Nat) : Nat :=
  let p := s.f F.DP_CFG_pslope d
  let run := match steered s d with
    | some a => outRunningOn s a
    | none => false
  if p = 6 then (if run then 1000 * 10 ^ 5 else 0) else 1000 * 10 ^ p

/-- The applied ratio against DP_FREQ on a nominal oscillator, in 10^-12 (DP_FERR). -/
def dpFerr (s : State) (d : Nat) : Int :=
  let n := nominalRatio s d
  if n = 0 then 0 else satInt 32 (roundRat ((((dp s d).ratio : Rat) / ((n : Nat) : Rat) - 1) * 1000000000000))

/-- In LOCKED the ratio that stands applied for another update enters the history of R127, whether its load was new or the one before stayed. -/
def ratioNote (s : State) (d r : Nat) : State :=
  let x := dp s d
  if dpState s d = 3 then
    setDp s d { x with lockedFor := x.lockedFor + 1, hist := match x.hist with
      | (q, k) :: t => if q = r then (q, k + 1) :: t else (r, 1) :: (q, k) :: t
      | [] => [(r, 1)] }
  else s

/-- A ratio takes effect at DPLL `d` and its APLL (R123). -/
def applyRatio (s : State) (d r : Nat) : State :=
  let s := ratioNote s d r
  let s := setDp s d { dp s d with ratio := r, samples := [] }
  let s := match steered s d with
    | some a => setAp s a { ap s a with ratio := some r }
    | none => s
  s.setI F.DP_FERR_value (dpFerr s d) d

/-- A pending timed load at its instant (R33, R80, R123): with its ready flag at least 4 SHCLK cycles old it takes effect; later it is
discarded, and TS_ENS_LATE or DP_LATE counts it. -/
def resolveLoad (s : State) (t : LoadTarget) (lead : Nat) : State :=
  match s.hs.loads.find? (fun l => l.target == t) with
  | none => s
  | some l =>
    let s := { s with hs := { s.hs with loads := s.hs.loads.filter (fun x => x.target != t) } }
    match l with
    | .epoch n incr slew step dac =>
      if 4 ≤ lead then applyEpochLoad s n incr slew step dac
      else perf (setEns (s.inc .TS_ENS_LATE n) n { ens s n with missed := true }) 0x0032 0
    | .dpll d ratio => if 4 ≤ lead then applyRatio s d ratio else perf (ratioNote (s.inc .DP_LATE d) d (dp s d).ratio) 0x0032 0

/-- TIMED_LOAD_DEADLINE (R33). -/
def execTimedLoadDeadline (target : LoadTarget) (lead : Nat) (s : State) : Host.Outcome State Fault Refusal :=
  .next (resolveLoad s target lead)

/-- An epoch of timescale `n` ends (R77): enabled, INDEPENDENT, with ens_enable, while SHCLK is present. -/
def epochRuns (s : State) (n : Nat) : Bool :=
  decide (n < 4) && s.fb F.TS_CTRL_enable n && s.fb F.TS_CTRL_ens_enable n && !tsDerived s n && s.hs.shclk

/-- The end of an ensemble epoch (R77, R79-R91). With `lead` the load's instant falls in this step: it takes effect when its ready flag was set that
many SHCLK cycles before (R33). -/
def ensembleEpoch (ts : Nat) (lead : Option Nat) (s : State) : State :=
  match lead with
  | some k => resolveLoad (epochStep s ts) (.epoch ts) k
  | none => epochStep s ts

/-- The lock decision of DPLL `d` after an update (R126), by the phase error in ps that counts and the frequency error in 10^-12: criteria met for
lock_hold ms lock it, 16 consecutive updates beyond four times them end LOCKED. -/
def dpLockStep (s : State) (d : Nat) (phase freq : Int) : State :=
  let ph : Nat := s.f F.DP_LOCK_lock_phase d
  let fr : Nat := 100 * s.f F.DP_LOCK_lock_freq d
  let e := phase.natAbs
  let good := decide (e ≤ ph) && decide (freq.natAbs ≤ fr)
  let bad := decide (4 * ph < e) || decide (4 * fr < freq.natAbs)
  let x := dp s d
  let x := { x with goodRun := if good then x.goodRun + 1 else 0, badRun := if bad then x.badRun + 1 else 0 }
  let s := setDp s d x
  if dpState s d = 2 ∧ 125 * s.f F.DP_LOCK_lock_hold d ≤ x.goodRun then dpSet s d 3
  else if dpState s d = 3 ∧ 16 ≤ x.badRun then dpSet s d 2
  else s

/-- A place in the shutter domain, `frac` 2^-32 of a cycle after the last SHCLK edge, in 2^-32 cycles. -/
def tickPlace (s : State) (frac : Int) : Int := (s.ticks * 2 ^ 32 : Nat) + frac

/-- k of R122: a REFIN detector stamps every 2^k-th active edge, at 1 MHz at most. -/
def refinExp (f : Nat) : Nat := ((List.range 30).find? (fun k => decide (f ≤ 1000000 * 2 ^ k))).getD 0

/-- The line rate of a port's mode in Hz (R224). -/
def lineRateHz (s : State) (p : Nat) : Nat :=
  match s.f F.PORT_CFG_mode p with
  | 0 => 1250000000
  | 1 | 2 => 10312500000
  | _ => 25781250000

/-- The ideal place of a VCO edge of a physical source (R124), in 2^-32 cycles: `cycles` VCO cycles at DP_FREQ / f_nom per reference cycle after the
last reference edge, whose spacing from the one before gives the reference's period. -/
def idealFrom (last : Int) (prev : Option Int) (refCycles : Nat) (fNom : Rat) (fVco : Rat) (cycles : Int) : Rat :=
  let perRef : Rat := match prev with
    | some q => ((last - q : Int) : Rat) / ((refCycles : Nat) : Rat)
    | none => 625000000 * 4294967296 / fNom
  (last : Rat) + (cycles : Rat) * perRef * fNom / fVco

/-- The phase error of an update in ps (R124): the stamp of the feedback-divider edge against the ideal edge of the source, DP_PHASE and the
corrections of R133 added. Without a reference edge yet there is no error. -/
def dpPhaseErr (s : State) (d : Nat) (m : DpMeas) : Int :=
  let f : Rat := ((dpFreq s d : Nat) : Rat) / 16777216
  let i := s.f F.DP_CFG_src_idx d
  let x := dp s d
  let set : Rat := ((dpPhaseSet s d : Int) : Rat) / 256000
  if f = 0 then 0
  else match s.f F.DP_CFG_src_type d with
    | 1 =>
      let org : Rat := match x.anchor with
        | some (.ts u) => ((u : Nat) : Rat)
        | _ => 0
      let t : Rat := ((dpSrcTime s d : Int) : Rat) + ((rateIncr s 4 i * m.frac : Int) : Rat) / 4294967296
      roundRat ((t - org - (m.cycles : Rat) * ((unitsPerSec : Nat) : Rat) / f) * 1000 / 281474976710656 - set)
    | 2 =>
      let q := tget s.loops.refin Refin.reset i
      (match q.last with
      | some e => roundRat (((tickPlace s m.frac : Int) - idealFrom e q.prev (2 ^ refinExp (s.f F.SYN_REFIN_CFG_f_nom i)) ((s.f F.SYN_REFIN_CFG_f_nom i : Nat) : Rat) f m.cycles)
          * 1600 / 4294967296 - set)
      | none => 0)
    | _ => roundRat (((tickPlace s m.frac : Int) - idealFrom (tickPlace s m.portFrac) x.portAt m.portCycles ((lineRateHz s i : Nat) : Rat) f m.cycles) * 1600 / 4294967296 - set)

/-- What the slope limit lets the phase move in an update of 8 µs, in 1/256,000 ps; none: no limit (R125). -/
def dpMoveMax (s : State) (d : Nat) : Option Nat := if dpSlope s d = 0 then none else some (dpSlope s d * 2048 / 1000)

/-- The lag of the output phase that only the slope limit causes, after what this update may move (R125): DP_PHASE, the corrections of R133, and what
slews, steps and residuals moved the source add to it. -/
def dpLag (s : State) (d : Nat) : Int :=
  let x := dp s d
  let moved : Int := (dpSrcOff s d - x.srcSeen) * 256000000 / 281474976710656 - (dpPhaseSet s d - x.phaseSeen)
  match dpMoveMax s d with
  | none => 0
  | some k => let l := x.lag + moved
    l - max (-(k : Int)) (min k l)

/-- The next ratio of DPLL `d` in 2^-40 (R123-R126): the frequency part, and a phase part within the slope limit; the first update after OFF or
FREERUN removes the whole phase error where no limit is in force. -/
def dpNextRatio (s : State) (d : Nat) (phase freq : Int) : Nat :=
  let x := dp s d
  let l := x.samples ++ [(phase, freq)]
  let base : Int := Config.loopBase (s.f F.DP_BW_value d) x.ratio l
  let want := Config.loopPhase (s.f F.DP_BW_value d) x.ratio l
  let move : Int := if dpSlope s d = 0 then (if x.fresh then base * phase / 8000000 else want)
    else max (-(base * dpSlope s d / 1000000000000)) (min (base * dpSlope s d / 1000000000000) want)
  (max (64 * 2 ^ 40) (min (2560 * 2 ^ 40 + (2 ^ 40 - 1)) (base + move))).toNat

/-- DPLL_UPDATE (R123-R126): an ACQUIRING or LOCKED DPLL forms its phase error, computes a ratio between 64 and 2,560 and loads it as a timed
load; with `lead` the load's instant falls in this step. -/
def execDpllUpdate (d : Nat) (m : DpMeas) (lead : Option Nat) (s : State) : Host.Outcome State Fault Refusal :=
  let s := if d < 6 then dpEval s d else s
  if 6 ≤ d ∨ d = 0 ∨ (dpState s d ≠ 2 ∧ dpState s d ≠ 3) then .next s
  else
    let e := satInt 32 (dpPhaseErr s d m)
    let lag := dpLag s d
    let r := dpNextRatio s d e m.freq
    let s := (s.setI F.DP_PERR_value e d).setB F.DP_STATUS_slope_limited (lag != 0) d
    let s := match steered s d with
      | some a => s.setB F.AP_STATUS_tune_margin m.margin a
      | none => s
    let x := dp s d
    let s := setDp s d { x with lag := lag, phaseSeen := dpPhaseSet s d, srcSeen := dpSrcOff s d, fresh := false, samples := x.samples ++ [(e, m.freq)],
                                portAt := if s.f F.DP_CFG_src_type d = 3 then some (tickPlace s m.portFrac) else none }
    let s := dpLockStep (queueLoad s (.dpll d r)) d (e - roundRat ((lag : Rat) / 256000)) m.freq
    .next (match lead with
      | some k => resolveLoad s (.dpll d) k
      | none => s)

/-- REFIN_STAMP (R122): a stamped edge, corrected by the detector's factory delay (R345); present reads 1, and the offset of the last second is
reported. A detector that is off stamps nothing. -/
def execRefinStamp (i : Nat) (e : RefinEdge) (s : State) : Host.Outcome State Fault Refusal :=
  let s := advance s e.ticks
  if 8 ≤ i ∨ s.f F.SYN_REFIN_CFG_f_nom i = 0 ∨ s.hs.shclk = false then .next s
  else
    let q := tget s.loops.refin Refin.reset i
    let t := tickPlace s e.frac - sext 32 (fcal (1600 + 4 * i) 4) * 2 ^ 32 / 409600
    let s := { s with loops := { s.loops with refin := tset s.loops.refin i ⟨some t, q.last⟩ } }
    .next (dpEvalAll ((s.setB F.SYN_REFIN_STATUS_present true i).setI F.SYN_REFIN_STATUS_offset (satInt 24 e.ppb) i))

/-- REFIN_ABSENT (R122): no stamp for 2.5 nominal periods. -/
def execRefinAbsent (i : Nat) (s : State) : Host.Outcome State Fault Refusal :=
  if 8 ≤ i then .next s
  else .next (dpEvalAll ({ s with loops := { s.loops with refin := tset s.loops.refin i Refin.reset } }.setB F.SYN_REFIN_STATUS_present false i))

/-- The dividers of APLL `a` that feed no running output are loaded on the grid (R133, R148): a reload that was pending is made with it. -/
def outAnchor (a : Nat) (g : GridAt) (s : State) (o : Nat) : State :=
  let x := outOf s o
  let prim := decide (outSrc s o = a) && outState s o == 0
  let fb := outFb s o == some a && outSrc s o != 4 && !(outState s o != 0 && s.fb F.OUT_STATUS_on_fallback o)
  let y := { x with ref := if prim then some g else x.ref, reloadAt := if prim then none else x.reloadAt,
                    refFb := if fb then some g else x.refFb, reloadFb := if fb then none else x.reloadFb }
  let s := setOut s o y
  if (prim || fb) && y.reloadAt.isNone && y.reloadFb.isNone then s.setB F.OUT_STATUS_reload_pending false o else s

/-- DET_ANCHOR (R133): the dividers of the APLL whose outputs do not run are loaded on the grid, and pass 1 begins. An anchor on a physical edge
needs that edge (R132). -/
def execDetAnchor (d : Nat) (s : State) : Host.Outcome State Fault Refusal :=
  if 6 ≤ d ∨ (dp s d).active = false ∨ dpState s d ≠ 3 ∨ clocked s = false then .next s
  else match (dp s d).anchor.bind (gridCome s d) with
    | none => .next s
    | some g =>
      let s := setDp (s.setF F.DP_STATUS_det_state 1 d) d { dp s d with anchor := some g }
      .next (match steered s d with
        | some a => (List.range 32).foldl (outAnchor a g) s
        | none => s)

/-- A residual in 2^-8 ps as DP_STATUS shows it: s8 ps. -/
def residualPs (r : Int) : Int := satInt 8 ((r + 128) / 256)

/-- What of the corrections of DPLL `d` no update has applied yet (R133): a pass begins only after them. -/
def detCorrecting (s : State) (d : Nat) : Bool := (dp s d).lag != 0 || dpPhaseSet s d != (dp s d).phaseSeen

/-- DET_PASS_END (R133): a pass begins once the correction before is applied; at its end −residual is added to the DPLL phase; within ±2 ps the
procedure is DONE, after four passes beyond it FAILED. -/
def execDetPassEnd (d : Nat) (residual : Int) (s : State) : Host.Outcome State Fault Refusal :=
  if 6 ≤ d ∨ (dp s d).active = false ∨ s.f F.DP_STATUS_det_state d ≠ 1 ∨ clocked s = false ∨ detCorrecting s d = true then .next s
  else
    let x := dp s d
    let k := s.f F.DP_STATUS_passes d + 1
    let s := setDp s d { x with residual := residual, correction := x.correction - residual }
    let s := (s.setF F.DP_STATUS_passes k d).setI F.DP_STATUS_residual (residualPs residual) d
    if 512 < residual.natAbs ∧ k < 4 then .next s
    else
      let failed := decide (512 < residual.natAbs)
      let s := s.setF F.DP_STATUS_det_state (if failed then 3 else 2) d
      let s := if failed then logRec s 3 0x0480 [(0, 1, d), (1, 1, k), (4, 4, twos 32 residual)] else s
      let s := setDp s d { dp s d with active := false, det := none }
      .next (match x.det with
        | some h => finish s h 0x32 .ok [(0, 1, k), (1, 1, bit failed), (4, 4, twos 32 residual)]
        | none => s)

/-! ### The commands (R141, R142) -/

/-- AP_RELOCK (R131, R141, R142): the search of a relock without OSC_IN ends in its timeout. A disabled APLL answers BUSY, and so does one for whose lock
a command waits (DEDUCED, notes/assumptions/14.md). -/
def execApRelock (h : CmdHdr) (a mode : Nat) (s : State) : Host.Outcome State Fault Refusal :=
  if !h.mbz then .next (badArg s h 0x30)
  else if 4 ≤ a then .next (complete s h 0x30 .notFound [])
  else if a = 0 ∨ 1 < mode ∨ (apTarget s a).isNone = true ∨ pfdOk s a = false ∨ (ap s a).stuck = true then .next (badArg s h 0x30)
  else if apState s a = 1 ∨ apState s a = 2 ∨ s.fb F.AP_CFG_enable a = false ∨ (ap s a).cmd.isSome = true then .next (complete s h 0x30 .busy [])
  else if s.log.isolated.contains 8 then .next (complete s h 0x30 .hwFault [])
  else if outRunningOn s a then .next (deniedBy s h 0x30 0x43)
  else .next (apGo (setAp (begins s h 0x30) a { ap s a with cmd := some (h, 0x30) }) a (mode == 1))

/-- VCO frequencies of 9.6 to 12.8 GHz in 2^-24 Hz. -/
def vcoOk (f : Nat) : Bool := decide (9600000000 * 2 ^ 24 ≤ f) && decide (f ≤ 12800000000 * 2 ^ 24)

/-- The ratio of the new frequency on the nominal oscillator goes to the APLL that DPLL `d` steers (R141): a DPLL in FREERUN or HOLDOVER keeps it, the
others update from it. -/
def dpRetuned (s : State) (d : Nat) : State :=
  match steered s d with
  | some a => setAp (setDp s d { dp s d with ratio := nominalRatio s d }) a { ap s a with ratio := some (nominalRatio s d) }
  | none => s

/-- DP_RETUNE (R135, R141, R142): completes when the steered APLL is LOCKED at the new frequency, at once where no enabled APLL is
steered, and with TIMEOUT where that APLL cannot lock for its PFD frequency (DEDUCED, notes/assumptions/69.md). -/
def execDpRetune (h : CmdHdr) (a : DpRetuneArgs) (s : State) : Host.Outcome State Fault Refusal :=
  if !h.mbz then .next (badArg s h 0x31)
  else if 6 ≤ a.dpll then .next (complete s h 0x31 .notFound [])
  else if a.dpll = 0 ∨ vcoOk a.freq = false ∨ a.alignDiv = 0 ∨ 1000000 < a.alignDiv then .next (badArg s h 0x31)
  else if !s.hs.shclk then .next (complete s h 0x31 .busy [])
  else
    let p := steered s a.dpll
    let busy := match p with
      | some q => apState s q == 1 || apState s q == 2 || (ap s q).cmd.isSome
      | none => false
    let runs := match p with
      | some q => outRunningOn s q
      | none => false
    let spread := match p with
      | some q => s.fb F.DP_CFG_det a.dpll && spreadOn s q
      | none => false
    if busy then .next (complete s h 0x31 .busy [])
    else if s.log.isolated.contains 7 then .next (complete s h 0x31 .hwFault [])
    else if runs then .next (deniedBy s h 0x31 0x43)
    else if spread then .next (deniedBy s h 0x31 0x42)
    else
      let s := ((s.setF F.DP_FREQ_LO_value (a.freq % 2 ^ 32) a.dpll).setF F.DP_FREQ_HI_value (a.freq / 2 ^ 32) a.dpll).setF F.DP_ALIGN_align_div a.alignDiv a.dpll
      let s := dpRetuned s a.dpll
      match p with
      | some q =>
        if s.fb F.AP_CFG_enable q && (!pfdOk s q || (ap s q).stuck) then .next (complete (dpEval s a.dpll) h 0x31 .timeout [])
        else if s.fb F.AP_CFG_enable q then .next (apGo (setAp (begins s h 0x31) q { ap s q with cmd := some (h, 0x31) }) q false)
        else .next (complete (dpEval s a.dpll) h 0x31 .ok [])
      | none => .next (complete (dpEval s a.dpll) h 0x31 .ok [])

/-- DP_ALIGN_RUN (R133, R141): completes when the procedure ends. -/
def execDpAlignRun (h : CmdHdr) (d : Nat) (s : State) : Host.Outcome State Fault Refusal :=
  if !h.mbz then .next (badArg s h 0x32)
  else if 6 ≤ d then .next (complete s h 0x32 .notFound [])
  else if d = 0 then .next (badArg s h 0x32)
  else if !s.hs.shclk then .next (complete s h 0x32 .busy [])
  else if s.fb F.DP_CFG_det d = false ∨ detAvail s d = false ∨ dpState s d ≠ 3 then .next (badArg s h 0x32)
  else if (dp s d).active then .next (complete s h 0x32 .busy [])
  else if s.log.isolated.contains 7 then .next (complete s h 0x32 .hwFault [])
  else .next (detBegin (begins s h 0x32) d (some h))

/-- AP_BAND_CLEAR (R129, R141). -/
def execApBandClear (h : CmdHdr) (a : Nat) (s : State) : Host.Outcome State Fault Refusal :=
  if !h.mbz then .next (badArg s h 0x33)
  else if 4 ≤ a then .next (complete s h 0x33 .notFound [])
  else
    let n := ((List.range 32).filter (fun j => s.fb F.AP_BTAB_valid a j)).length
    let s := (List.range 32).foldl (fun t j => t.wr .AP_BTAB a j 0) s
    .next (complete (setAp s a { ap s a with lru := [] }) h 0x33 .ok [(0, 1, n)])

/-! ### Loss and rebuild of AP0 (R137-R140) -/

/-- Entry of every enabled timescale to COASTING at edge L (R58, R137). -/
def coastAll (s : State) : State :=
  (List.range 4).foldl (fun t n =>
    if t.fb F.TS_CTRL_enable n && !tsDerived t n && (tsc t n).state != .coasting then coastEntry t n false else t) s

/-- The commands that wait for an instant complete with TIMEOUT when SHCLK stops; a reserved permit is released (R382, R457). -/
def timeoutAtTs (s : State) (p : AtTs → Bool) : State :=
  let ws := s.host.atTs.filter p
  ws.foldl (fun t w =>
    let t := match w.cmd with
      | .tsSet a => releasePermit t a.ts w.hdr
      | .tsSplice a => releasePermit t a.to_ w.hdr
      | .outStart a => (List.range 32).foldl (fun u o =>
          if a.mask.testBit o && (outOf u o).waits then setOut (u.setF F.OUT_STATUS_state 0 o) o { outOf u o with waits := false } else u) t
      | .outStop a => (List.range 32).foldl (fun u o =>
          if a.mask.testBit o && outState u o == 4 && !(outOf u o).cmdStop then u.setF F.OUT_STATUS_state 2 o else u) t
      | _ => t
    finish t w.hdr w.cmd.opcode .timeout []) { s with host := { s.host with atTs := s.host.atTs.filter (fun w => !p w) } }

/-- The loss of AP0 (R40, R137, R140): SHCLK stops at edge L; `phiLoss` is the time since the last OSC_IN edge in 2^-32 ticks. In role LEAD
every output stops. Where SHCLK is absent already, AP0 is LOST again before its restart (R131, R138). -/
def ap0Lost (oscMissing : Bool) (phiLoss : Nat) (s : State) : State :=
  if !s.hs.shclk then apSet { s with loops := { s.loops with osc := !oscMissing } } 0 (if apState s 0 = 3 then 4 else apState s 0)
  else
    let ran := (List.range 4).filter (fun n => tsRuns s n)
    let s := { s with loops := { s.loops with osc := !oscMissing, phiLoss := phiLoss, ranAtL := ran } }
    let s := gnssShclkLost (clapClockLost s)
    let s := coastAll (shclkStop s)
    let s := ((s.setB F.SYN_GAP_STATUS_gap_active true).setB F.SYN_GAP_STATUS_osc_missing oscMissing).setB F.SYN_GAP_STATUS_overflow false
    let s := s.setB F.SYN_GAP_STATUS_rebuilding false
    let s := if s.f F.RAN_STATUS_role = 1 then outStopAll s 5 else s
    let s := apSet s 0 4
    let s := dpEvalAll s
    timeoutAtTs s (fun _ => true)

/-- AP0_RELOCK_ATTEMPT (R138): by hop, then by search, while OSC_IN is present. -/
def execAp0RelockAttempt (s : State) : Host.Outcome State Fault Refusal :=
  let s := oscBack s
  if apState s 0 = 4 then .next (apStart s 0 false) else .next s

/-- SHCLK_RESTART (R138): AP0 has stayed LOCKED 100 µs; the gap counter stands at `nGap`, phi_res is in 2^-32 ticks. The output dividers of AP0 that
do not run are anchored to the OSC_IN edge E (R134). -/
def execShclkRestart (nGap phiRes : Nat) (oscMissing : Bool) (s : State) : Host.Outcome State Fault Refusal :=
  if s.hs.shclk || apState s 0 != 3 || !s.fb F.SYN_GAP_STATUS_gap_active then .next s
  else
    let s := { s with loops := { s.loops with nGap := nGap, phiRes := phiRes } }
    let s := (List.range 32).foldl (outAnchor 0 (.tick (tickPlace s 0 - phiRes))) s
    let s := (s.setB F.SYN_GAP_STATUS_gap_active false).setB F.SYN_GAP_STATUS_rebuilding true
    let s := if oscMissing then s.setB F.SYN_GAP_STATUS_osc_missing true else s
    .next (shclkStart (s.setB F.SYN_GAP_STATUS_overflow (decide (2 ^ 48 ≤ nGap))))

/-- Ticks from L to the load edge (R138), exactly; `n` is the gap counter's value modulo 2^48. -/
def gapTicks (s : State) : Rat :=
  ((s.loops.nGap % 2 ^ 48 : Nat) : Rat) * 625000000 / ((oscHz s : Nat) : Rat) - ((s.loops.phiLoss : Nat) : Rat) / 4294967296
    + ((s.loops.phiRes : Nat) : Rat) / 4294967296 + 125001

/-- Add the gap to timescale `n`, and set its stepped bits (R54, R138); a cue's pulse is older by the gap. -/
def rebuildTs (s : State) (n : Nat) : State :=
  if s.fb F.TS_CTRL_enable n && s.loops.ranAtL.contains n then
    let d := roundAway (gapTicks s * (rateIncr s 4 n : Rat))
    let s := { s with cues := { s.cues with gen := s.cues.gen.map (fun q =>
      (q.1, if s.f F.CUE_CFG_ts q.1 = n then { q.2 with pulse := q.2.pulse.map (fun e => e - d) } else q.2)) } }
    setStepped (setTsc s n { tsc s n with cnt := counterAdd (tsc s n).cnt d }) n
  else s

/-- The gap component of every enabled timescale (R139), and FREE for one that the ensemble does not own. -/
def rebuildBound (s : State) (n : Nat) : State :=
  if s.fb F.TS_CTRL_enable n && !tsDerived s n then
    let gap := if s.fb F.SYN_GAP_STATUS_osc_missing || s.fb F.SYN_GAP_STATUS_overflow then none else some 24
    let s := coastReport (setEns s n { ens s n with gap := gap, coastGap := (ens s n).coastGap + ceilRat (gapTicks s) }) n
    if s.fb F.TS_CTRL_ens_enable n then s else
      let s := tsTransition s n .free
      reportBound s n (ens s n)
  else s

/-- AP0_REBUILT (R138, R139): the load edge. -/
def execAp0Rebuilt (s : State) : Host.Outcome State Fault Refusal :=
  if !s.hs.shclk || !s.fb F.SYN_GAP_STATUS_rebuilding then .next s
  else
    let n := s.loops.nGap % 2 ^ 48
    let s := (List.range 4).foldl rebuildTs s
    let s := ((s.setF F.SYN_GAP_LO_value (n % 2 ^ 32)).setF F.SYN_GAP_HI_value (n / 2 ^ 32)).setB F.SYN_GAP_STATUS_rebuilding false
    let s := s.incF F.SYN_GAP_STATUS_rebuilds
    let s := logEvent s 2 0x0403 [(0, 8, n)]
    let s := (List.range 4).foldl rebuildBound s
    .next (dpEvalAll (gnssRebuilt s (gapTicks s).floor.toNat))

end Sys2Proof.Machine
end

