-- ==== Sys2Proof/Machine/Cues.lean ====
section
/-! DEFINITION. Cues, captures and the ToD port (08_cues_captures_tod.md). -/
namespace Sys2Proof.Machine
open Sys2Proof

/-! ### Generators (R161-R164) -/

/-- Generator `g` beside its registers. -/
def cue (s : State) (g : Nat) : Cue := tget s.cues.gen Cue.reset g

/-- Set generator `g`. -/
def setCue (s : State) (g : Nat) (c : Cue) : State := { s with cues := { s.cues with gen := tset s.cues.gen g c } }

/-- Pin `p` beside its register. -/
def cuePin (s : State) (p : Nat) : CuePin := tget s.cues.pins CuePin.reset p

/-- Set pin `p`. -/
def setCuePin (s : State) (p : Nat) (x : CuePin) : State := { s with cues := { s.cues with pins := tset s.cues.pins p x } }

/-- The timescale of generator `g`. -/
def cueTs (s : State) (g : Nat) : Nat := s.f F.CUE_CFG_ts g

/-- Instant `k` of a schedule in ps (R162). -/
def cueInstant (c : Cue) (k : Nat) : Nat := c.t0 + (2 * k * c.period + c.div) / (2 * c.div)

/-- The schedule has an instant `k`: a one-shot has one. -/
def cueHas (c : Cue) (k : Nat) : Bool := c.period != 0 || k == 0

/-- The counter of the timescale of generator `g`, in 2^-48 ns. -/
def cueNow (s : State) (g : Nat) : Nat := counterUnits (tsc s (cueTs s g)).cnt

/-- The slate of an instant of the cue's timescale, in 2^-48 ns (R163). -/
def cueSlate (s : State) (g : Nat) (u : Int) (d : Dest) : Slate :=
  slateWide s (cueTs s g) d (u - cueNow s g) 15

/-- The place of an instant, in 2^-48 ns of the cue's timescale (R163): the last SHCLK edge at or before it, and the rest of the way in steps of 1 ps of
1.6 ns divided by the increment in force. -/
def cuePlace (s : State) (g : Nat) (u : Int) : CueEdge :=
  let i := rateIncr s 4 (cueTs s g)
  let r := u - cueNow s g
  if i ≤ 0 then ⟨s.ticks, 0⟩ else ⟨s.ticks + r / i, (r % i * 1600 / i).toNat⟩

/-- The cue is at its active level, by the last firing (R164): a step of the timescale neither repeats nor cuts what is in progress (R168). -/
def cueActive (s : State) (g : Nat) : Bool :=
  match (cue s g).pulse with
  | none => false
  | some t =>
    let d := ((tsc s (cueTs s g)).elapsed - t) * 1000 / 2 ^ 48
    if d < 0 then false
    else
      let d := d.toNat
      let n := s.f F.CUE_CFG_seq_n g
      let c := (cue s g).cell
      match s.f F.CUE_CFG_mode g with
      | 1 => decide (d < (cue s g).width)
      | 2 => decide (d < n * c) && decide (d % c < (cue s g).width)
      | 3 => decide (d < n * c) && (s.pair .CUE_PAT_LO .CUE_PAT_HI g).testBit (n - 1 - d / c)
      | _ => false

/-- The earliest cancel that waits (R170). -/
def cueCancelAt (c : Cue) : Option Nat := (c.cancels.map Prod.snd).min?

/-- Instant `t` is at or after a cancel instant. -/
def cueCancelled (c : Cue) (t : Nat) : Bool := c.cancels.any (fun x => decide (x.2 ≤ t))

/-! ### Pins and outputs (R165, R166, R169, R285, R416) -/

/-- Pin `p` may follow its cue: enabled, with drive permission, below thermal step 5. -/
def cuePinWants (s : State) (p : Nat) : Bool :=
  s.fb F.CUE_PIN_CFG_enable p && s.fb F.RAN_STATUS_permission && s.f F.PWR_RUN_therm_step != 5

/-- Enabling and disabling take effect while the cue level is low (R165, R285). -/
def cuePinSettle (s : State) (p : Nat) : State :=
  if cueActive s (s.f F.CUE_PIN_CFG_cue p) || (cuePin s p).on == cuePinWants s p then s
  else setCuePin s p { cuePin s p with on := cuePinWants s p }

/-- Settle every pin. -/
def cueSettle (s : State) : State := (List.range 8).foldl cuePinSettle s

/-- A pin goes low at once: drive permission is withdrawn, or thermal step 5 (R285, R416). -/
def cuePinCut (s : State) (p : Nat) : State :=
  let x := cuePin s p
  if x.on then
    setCuePin (if cueActive s (s.f F.CUE_PIN_CFG_cue p) then s.emit (.cueLow (.pin p)) else s) p { x with on := false }
  else s

/-- Every pin that may not drive goes low. -/
def cueCutAll (s : State) : State :=
  (List.range 8).foldl (fun t p => if t.fb F.RAN_STATUS_permission && t.f F.PWR_RUN_therm_step != 5 then t else cuePinCut t p) s

/-- The rising instant's ns of the second lie in the window of pin `p` (R379). -/
def cueWindow (s : State) (p ns : Nat) : Bool :=
  let o := s.f F.GOV_CUE_OPEN_value p
  let c := s.f F.GOV_CUE_CLOSE_value p
  if o = c then true
  else if o < c then decide (o ≤ ns) && decide (ns < c)
  else decide (o ≤ ns) || decide (ns < c)

/-- The instant `u` as pin `p` shows it (R165): its skew is added. -/
def cuePinAt (s : State) (p : Nat) (u : Int) : Int := u + psToUnits (s.fi F.CUE_PIN_CFG_skew p)

/-- The ns of the second of an instant on pin `p` (R165, R166). -/
def cuePinNs (s : State) (p : Nat) (u : Int) : Nat := (cuePinAt s p u % unitsPerSec / 2 ^ 48).toNat

/-- Outputs that carry generator `g`. -/
def cueOuts (s : State) (g : Nat) : List Nat :=
  (List.range 32).filter (fun o => outSrc s o == 4 && s.f F.OUT_CFG_cue o == g && (outState s o == 2 || outState s o == 4))

/-- A slate kept from an earlier event of timescale `x.ts` as it is sent to a destination: stepped is the bit of that destination when it is
sent (R54). -/
def keptSlate (s : State) (d : Dest) (x : Slate) : Slate := { x with stepped := (tsc s x.ts).stepped.contains d }

/-- A LOG record of a cue with the slate kept from the first event of its run (R54, R455). -/
def keptRec (s : State) (code : Nat) (data : Layout) (x : Slate) : State :=
  sentTo (logPut s 4 6 code data (keptSlate s .log x)) x.ts .log

/-- The run of firings that the window of pin `p` suppressed ends: its record (R166, R455). -/
def cuePinRunEnd (s : State) (p : Nat) : State :=
  let x := cuePin s p
  if x.supp = 0 then s
  else setCuePin (keptRec s 0x0680 [(0, 1, p), (1, 1, s.f F.CUE_PIN_CFG_cue p), (4, 4, satNat 32 x.supp)] x.suppSlate) p
    { x with supp := 0 }

/-- A firing meets pin `p` (R166): outside the window it drives no edge there and is counted. -/
def cuePinFire (s : State) (p ns : Nat) (x : Slate) : State :=
  if cueWindow s p ns then cuePinRunEnd s p
  else
    let q := cuePin s p
    setCuePin (violation s) p { q with supp := q.supp + 1, suppSlate := if q.supp = 0 then x else q.suppSlate }

/-! ### Firings, late instants and the end (R161, R165-R168, R170) -/

/-- The run of skipped instants ends: its record (R167, R455). -/
def cueSkipEnd (s : State) (g : Nat) : State :=
  let c := cue s g
  if c.skipRun = 0 then s
  else setCue (keptRec s 0x0681 [(0, 1, g), (4, 4, satNat 32 c.skipRun)] c.skipSlate) g { c with skipRun := 0 }

/-- The place of a firing's first edge for an instant: a late firing is made at the last SHCLK edge, with fine delay 0 (R163, R167). -/
def firePlace (s : State) (g : Nat) (u : Int) (late : Bool) : CueEdge := if late then ⟨s.ticks, 0⟩ else cuePlace s g u

/-- The instant of a firing as the ToD port's timescale reads it (R174). -/
def fireTod (s : State) (g : Nat) (u : Int) : Slate :=
  let i := rateIncr s 4 (cueTs s g)
  let n := (consumerTs s 18).getD 0
  consumerSlate s 18 .tod (if i ≤ 0 then 0 else (u - cueNow s g) * rateIncr s 4 n / i) 15

/-- One firing at the instant `u`, in 2^-48 ns of the timescale, on every destination (R163, R165, R166). -/
def cueFire (s : State) (g : Nat) (u : Int) (late : Bool) : State :=
  let n := cueTs s g
  let r := s.f F.CUE_CFG_ring g
  let x := cueSlate s g u .log
  let pins := (List.range 8).filter (fun p => s.f F.CUE_PIN_CFG_cue p == g && (cuePin s p).on)
  let shown := pins.filter (fun p => cueWindow s p (cuePinNs s p u))
  let at_ (p : Nat) : CueEdge := firePlace s g (cuePinAt s p u) late
  let s := pins.foldl (fun v p => cuePinFire v p (cuePinNs v p u) x) s
  let s := shown.foldl (fun v p => setCuePin v p { cuePin v p with edge := some (at_ p) }) s
  let c := cue s g
  let s := setCue s g { c with firings := c.firings + 1, lastAt := some u, last := some (cueSlate s g u (.ring r)), lastTod := some (fireTod s g u),
                               pulse := some ((tsc s n).elapsed + (u - cueNow s g)), edge := some (firePlace s g u late), lateFired := late }
  let s := ((s.inc .CUE_FIRED g).setB F.CUE_STATUS_last_late late g)
  let s := if c.period = 0 then s else s.setF F.CUE_STATUS_state 2 g
  let s := s.emit (.cue g c.k (u * 1000 / 2 ^ 48).toNat
    (shown.map (fun p => (CueDest.pin p, at_ p)) ++ (cueOuts s g).map (fun o => (CueDest.out o, firePlace s g u late))))
  let s := (List.range 4).foldl (fun v i => if (v.f F.CUE_CFG_core_irq g).testBit i then v.emit (.coreIrq i 0x0601 g) else v) s
  let s := if s.fb F.CUE_CFG_ring_evt g then postTo s r 0x0601 [(0, 1, g)] (cueSlate s g u (.ring r)) n else s
  let s := cueStart s g (u - cueNow s g)
  let c := cue s g
  if c.period = 0 ∨ (c.count ≠ 0 ∧ c.count ≤ c.firings) then setCue s g { c with ending := 1 } else s

/-- The timed load of the generator's next instant was ready in time (R33, R167): only the first one crosses from the handshake domain, and its edge
lies at least 4 SHCLK cycles after the arming. -/
def cueLoaded (s : State) (g : Nat) : Bool :=
  let c := cue s g
  c.k != 0 || decide ((c.armedAt : Int) + 4 ≤ (cuePlace s g (psToUnits (cueInstant c 0))).tick)

/-- CUE_FIRING (R162-R167): after `ticks` ticks the edge is the last one at or before the generator's next instant. -/
def execCueFiring (cue_ ticks : Nat) (s : State) : Host.Outcome State Fault Refusal :=
  let s := cueSettle (advance s ticks)
  let c := cue s cue_
  let t := cueInstant c c.k
  let u : Int := psToUnits t
  if 64 ≤ cue_ ∨ cueIdle s cue_ = true ∨ c.ending ≠ 0 ∨ cueHas c c.k = false ∨ cueCancelled c t = true
      ∨ clocked s = false ∨ tsRuns s (cueTs s cue_) = false ∨ cueLoaded s cue_ = false
      ∨ u < cueNow s cue_ ∨ (cueNow s cue_ : Int) + tickDelta s 4 (cueTs s cue_) 1 ≤ u then .next s
  else
    let s := cueFire (cueSkipEnd s cue_) cue_ u false
    .next (setCue s cue_ { cue s cue_ with k := c.k + 1 })

/-- The first instant that a timescale at `now` ps has not passed. -/
def cuePassed (c : Cue) (now : Nat) : Nat :=
  if c.period = 0 then 1
  else
    let k := (now - c.t0) * c.div / c.period
    if cueInstant c (k + 1) < now then k + 2 else if cueInstant c k < now then k + 1 else k

/-- CUE_LATE (R167, R168): the instants that the timescale has passed unfired are skipped and counted, or one late firing is made for the
run. `missed`: the first timed load missed its deadline. -/
def execCueLate (cue_ ticks : Nat) (missed : Bool) (s : State) : Host.Outcome State Fault Refusal :=
  let s := cueSettle (advance s ticks)
  let c := cue s cue_
  let t := cueInstant c c.k
  if 64 ≤ cue_ ∨ cueIdle s cue_ = true ∨ c.ending ≠ 0 ∨ cueHas c c.k = false ∨ cueCancelled c t = true
      ∨ clocked s = false ∨ tsRuns s (cueTs s cue_) = false ∨ (cueNow s cue_ : Int) ≤ psToUnits t then .next s
  else
    let now := cueNow s cue_ * 1000 / 2 ^ 48
    let stop := match cueCancelAt c with
      | some x => min now x
      | none => now
    let k := max (c.k + 1) (cuePassed c stop)
    let s := if (missed ∧ c.k = 0) ∨ cueLoaded s cue_ = false then perf s 0x0032 0 else s
    let s := if c.period = 0 then s else s.setF F.CUE_STATUS_state 2 cue_
    if s.f F.CUE_CFG_late cue_ = 0 then
      let s := s.incF F.CUE_LATE_skipped cue_ 0 (k - c.k)
      let x := if c.skipRun = 0 then cueSlate s cue_ (psToUnits t) .log else c.skipSlate
      .next (setCue s cue_ { c with k := k, skipRun := c.skipRun + (k - c.k), skipSlate := x, ending := if c.period = 0 then 1 else 0 })
    else if c.lateFired then .next (setCue s cue_ { c with k := k })
    else
      let s := cueFire (s.incF F.CUE_LATE_fired_late cue_) cue_ (cueNow s cue_) true
      .next (setCue s cue_ { cue s cue_ with k := k })

/-- A generator returns to IDLE (R161, R170): the runs end, CUE_END is posted to its ring, and its cancels complete. -/
def cueFinish (s : State) (g cause : Nat) : State :=
  let s := cueSkipEnd s g
  let s := (List.range 8).foldl (fun u p => if u.f F.CUE_PIN_CFG_cue p = g then cuePinRunEnd u p else u) s
  let c := cue s g
  let s := (s.setF F.CUE_STATUS_state 0 g).setF F.CUE_STATUS_end_cause cause g
  let s := notice s (s.f F.CUE_CFG_ring g) 0x0602 [(0, 1, g), (1, 1, cause), (4, 4, satNat 32 c.firings)]
  let s := setCue s g { c with ending := 0, cancels := [] }
  c.cancels.foldl (fun u w =>
    match c.last with
    | some x =>
      let d := Dest.ring (cplOf u w.1)
      finish (sentTo u x.ts d) w.1 0x25 .ok ((0, 8, c.firings) :: slateLayout 8 (keptSlate u d x))
    | none => finish u w.1 0x25 .ok [(0, 8, c.firings)]) s

/-- CUE_END (R161, R170): the count is reached, the cancel instant is reached, or the cue's timescale is disabled. -/
def execCueEnd (cue_ ticks : Nat) (s : State) : Host.Outcome State Fault Refusal :=
  let s := advance s ticks
  let c := cue s cue_
  if 64 ≤ cue_ ∨ cueIdle s cue_ = true then .next s
  else if c.ending ≠ 0 then .next (cueSettle (cueFinish s cue_ c.ending))
  else if !tsRuns s (cueTs s cue_) then .next (cueSettle (cueFinish s cue_ 3))
  else match cueCancelAt c with
    | some t => .next (if psToUnits t ≤ cueNow s cue_ ∧ clocked s = true then cueSettle (cueFinish s cue_ 2) else s)
    | none => .next s

/-! ### The commands (R166, R170, R180) -/

/-- The arguments that CUE_ARM refuses with BAD_ARG (R162, R164, R165, R180). -/
def cueArmBad (s : State) (a : CueArmArgs) : Bool :=
  let mode := s.f F.CUE_CFG_mode a.cue
  let n := s.f F.CUE_CFG_seq_n a.cue
  let one := a.period == 0
  /- every length is compared after multiplication by the divider of the period -/
  let d := if one then 1 else a.div
  (mode == 0) || decide (10 ^ 9 ≤ a.ns) || decide (999 < a.ps) || decide (2 ^ 48 ≤ a.sec)
  || (!one && (a.div == 0 || decide (2 ^ 24 < a.div) || decide (a.period < 6400 * a.div) || decide (10 ^ 15 * a.div < a.period)))
  || decide (a.width < 3200) || decide (a.cell < 3200) || decide (2 ^ 32 ≤ a.cell)
  || (mode == 1 && (if one then decide (10 ^ 12 < a.width) else decide (a.period < (a.width + 3200) * d)))
  || (mode == 2 && (n == 0 || decide (a.cell < a.width + 3200)))
  || (mode == 3 && (n == 0 || decide (64 < n)))
  || ((mode == 2 || mode == 3) && !one && decide (a.period < (n * a.cell + 3200) * d))
  || (s.fb F.CUE_CFG_ring_evt a.cue && !one && decide (a.period < 10 ^ 9 * d))

/-- The first instant of a CUE_ARM in ps. -/
def cueT0 (a : CueArmArgs) : Nat := (a.sec * 10 ^ 9 + a.ns) * 1000 + a.ps

/-- CUE_ARM (R40, R161, R166, R180). -/
def execCueArm (h : CmdHdr) (a : CueArmArgs) (s : State) : Host.Outcome State Fault Refusal :=
  if !h.mbz then .next (badArg s h 0x24)
  else if s.log.isolated.contains 10 then .next (complete s h 0x24 .hwFault [])
  else if 64 ≤ a.cue then .next (complete s h 0x24 .notFound [])
  else if cueArmBad s a then .next (badArg s h 0x24)
  else if !cueIdle s a.cue || !tsRuns s (cueTs s a.cue) || !s.hs.shclk then .next (complete s h 0x24 .busy [])
  else if psToUnits (cueT0 a) ≤ cueNow s a.cue then .next (badArg s h 0x24)
  else match (List.range 8).find? (fun p => s.fb F.CUE_PIN_CFG_enable p && s.f F.CUE_PIN_CFG_cue p == a.cue
      && !cueWindow s p (cuePinNs s p (psToUnits (cueT0 a)))) with
    | some p => .next (deniedBy s h 0x24 (23 + p))
    | none =>
      let t := cueT0 a
      let s := setCue s a.cue { Cue.reset with t0 := t, period := a.period, div := max a.div 1, count := if a.period = 0 then 0 else a.count, width := a.width, cell := a.cell, armedAt := s.ticks }
      let s := s.setF F.CUE_STATUS_state 1 a.cue
      let d := Dest.ring (cplOf s h)
      .next (complete (sentTo s (cueTs s a.cue) d) h 0x24 .ok (slateLayout 0 (cueSlate s a.cue (psToUnits t) d)))

/-- The timed load of the generator's next firing is committed: its edge lies within 4 SHCLK cycles (R33, R170). -/
def cueCommitted (s : State) (g : Nat) : Bool :=
  let c := cue s g
  let e := (cuePlace s g (psToUnits (cueInstant c c.k))).tick
  c.ending == 0 && cueHas c c.k && !cueCancelled c (cueInstant c c.k) && clocked s && tsRuns s (cueTs s g) && cueLoaded s g
    && decide ((s.ticks : Int) ≤ e) && decide (e < s.ticks + 4)

/-- CUE_CANCEL (R40, R170, R180): an immediate one takes effect at its commit point, after a firing that is committed already; one AT_TS at its
instant. -/
def execCueCancel (h : CmdHdr) (a : CueCancelArgs) (s : State) : Host.Outcome State Fault Refusal :=
  if !h.mbz then .next (badArg s h 0x25)
  else if 64 ≤ a.cue then .next (complete s h 0x25 .notFound [])
  else if 1 < a.trigger ∨ 10 ^ 9 ≤ a.ns ∨ 2 ^ 48 ≤ a.sec then .next (badArg s h 0x25)
  else if cueIdle s a.cue then .next (complete s h 0x25 .notFound [])
  else
    let t := (a.sec * 10 ^ 9 + a.ns) * 1000
    let c := cue s a.cue
    if a.trigger = 0 ∧ cueCommitted s a.cue = true then
      .next (setCue (begins s h 0x25) a.cue { c with cancels := c.cancels ++ [(h, cueInstant c c.k + 1)] })
    else if a.trigger = 0 then
      let s := setCue (begins s h 0x25) a.cue { c with cancels := c.cancels ++ [(h, t)] }
      .next (cueSettle (cueFinish s a.cue 2))
    else if !s.hs.shclk then .next (complete s h 0x25 .busy [])
    else if instantPast s (cueTs s a.cue) a.sec a.ns 0 then .next (badArg s h 0x25)
    else .next (setCue (begins s h 0x25) a.cue { c with cancels := c.cancels ++ [(h, t)] })

/-- The slate of the next instant of generator `g`, none while it is IDLE or has no instant left. -/
def cueNext (s : State) (g : Nat) (d : Dest) : Option Slate :=
  let c := cue s g
  if cueIdle s g || c.ending != 0 || !cueHas c c.k then none else some (cueSlate s g (psToUnits (cueInstant c c.k)) d)

/-- CUE_QUERY (R180). -/
def execCueQuery (h : CmdHdr) (cue_ : Nat) (s : State) : Host.Outcome State Fault Refusal :=
  if !h.mbz then .next (badArg s h 0x26)
  else if 64 ≤ cue_ then .next (complete s h 0x26 .notFound [])
  else
    let d := Dest.ring (cplOf s h)
    let n : Nat := (cue s cue_).firings
    match cueNext s cue_ d with
    | some x => .next (complete (sentTo s (cueTs s cue_) d) h 0x26 .ok (slateLayout 0 x ++ [(16, 8, n)]))
    | none => .next (complete s h 0x26 .ok [(16, 8, n)])

/-- A pin or output is high by its cue. -/
def cueDestHigh (s : State) : CueDest → Bool
  | .pin p => decide (p < 8) && (cuePin s p).on && cueActive s (s.f F.CUE_PIN_CFG_cue p) != s.fb F.CUE_CFG_polarity (s.f F.CUE_PIN_CFG_cue p)
  | .out o => decide (o < 32) && outSrc s o == 4 && (outState s o == 2 || outState s o == 4)
      && cueActive s (s.f F.OUT_CFG_cue o) != s.fb F.CUE_CFG_polarity (s.f F.OUT_CFG_cue o)

/-- CUE_RING_TIMER_RELEASE (R169): with SHCLK stopped, a high pin or output is driven low after its remaining width and stays low until
SHCLK returns. -/
def execCueRingTimerRelease (dst : CueDest) (s : State) : Host.Outcome State Fault Refusal :=
  .next (if !s.hs.shclk && cueDestHigh s dst && !s.cues.low.contains dst then
    { s.emit (.cueLow dst) with cues := { s.cues with low := s.cues.low ++ [dst] } } else s)

/-- CUE_PIN_CFG_WRITE (R165, R179): enable takes effect while the cue level is low. -/
def execCuePinCfgWrite (pin : Nat) (value : Word) (s : State) : Host.Outcome State Fault Refusal :=
  if 8 ≤ pin then .next (violation s) else .next (cuePinSettle (regWrite s ⟨.CUE_PIN_CFG, pin, 0⟩ value) pin)

/-! ### Captures (R172, R173) -/

/-- CAPTURE_EDGE (R172, R173): the oldest waiting stamp of channel `ch` becomes a record, written or counted as lost; nothing is written
while Bus Master Enable is 0 (R302). -/
def execCaptureEdge (ch : Nat) (s : State) : Host.Outcome State Fault Refusal :=
  match s.cues.caps.find? (fun c => c.ch == ch) with
  | none => .next s
  | some c =>
    if !s.fb F.HOST_STATUS_bus_master then .next s
    else
      let s := { s with cues := { s.cues with caps := dropFirst (fun x => x.ch == ch) s.cues.caps } }
      let size := s.f F.CUE_CAP_BUF_CFG_size_exp
      if areaFull s .CUE_CAP_WIDX .CUE_CAP_RIDX 0 size then
        let s := s.inc .CUE_CAP_LOST
        .next { s with cues := { s.cues with capDropped := s.cues.capDropped + 1 } }
      else
        let body : Layout := [(0, 1, c.ch), (1, 1, c.flags), (2, 2, satNat 16 s.cues.capDropped), (4, 4, c.seq)] ++ slateLayout 16 c.slate
        let s := areaPut s .CUE_CAP_WIDX 0 (s.pair .CUE_CAP_BUF_LO .CUE_CAP_BUF_HI) size 32 body
        let s := { s with cues := { s.cues with capDropped := 0 } }
        .next (if s.cues.capNotice then s
          else notice { s with cues := { s.cues with capNotice := true } } (s.f F.CUE_CAP_CFG_ring) 0x0603 [(4, 4, (s.rg .CUE_CAP_WIDX).toNat)])

/-- A write of CUE_CAP_RIDX (R114, R172). -/
def captureRidx (s : State) (value : Word) : State :=
  if ridxOk s .CUE_CAP_WIDX .CUE_CAP_RIDX 0 value then
    let s := s.wr .CUE_CAP_RIDX 0 0 value
    { s with cues := { s.cues with capNotice := false } }
  else violation s

/-! ### The ToD port (R174-R178) -/

/-- A number as `k` bytes, little-endian (R3). -/
def leBytes : Nat → Nat → List Nat
  | 0, _ => []
  | k + 1, v => v % 256 :: leBytes k (v / 256)

/-- Bytes as a number, little-endian. -/
def leVal : List Nat → Nat
  | [] => 0
  | b :: r => b + 256 * leVal r

/-- A big-endian number as bytes. -/
def beBytes : Nat → Nat → List Nat
  | 0, _ => []
  | k + 1, v => beBytes k (v / 256) ++ [v % 256]

/-- One bit of the CRC of R176. -/
def crcBit (c : Nat) : Nat := if c.testBit 15 then (2 * c ^^^ 0x1021) % 2 ^ 16 else 2 * c

/-- One byte of the CRC of R176. -/
def crcByte (c b : Nat) : Nat := crcBit (crcBit (crcBit (crcBit (crcBit (crcBit (crcBit (crcBit (c ^^^ (b * 256)))))))))

/-- CRC-16 with polynomial 0x1021 and initial value 0xFFFF, without reflection or final XOR (R176). -/
def crc16 (l : List Nat) : Nat := l.foldl crcByte 0xFFFF

/-- The UTC seconds of a pulse and whether it lies in an inserted leap second (R68, R177), from its time in ns. -/
def pulseUtc (s : State) (ns : Int) : Int × Bool :=
  let u := (ns - taiUtc s * 1000000000 + s.fi F.TS_VIEW_CORR_corr 0 / 1000 + 500000000) / 1000000000
  let e := leapDayEnd s
  if s.f F.TS_LEAP_SCHED_dir = 1 then (if u < e then (u, false) else (u - 1, u == e))
  else if s.f F.TS_LEAP_SCHED_dir = 2 ∧ e - 1 ≤ u then (u + 1, false)
  else (u, false)

/-- The 38 bytes of a slate message (R175, R176). -/
def slateMessage (s : State) (x : Slate) (typ seq : Nat) : List Nat :=
  let leap := (pulseUtc s (x.sec * 10 ^ 9 + x.ns : Nat)).2
  let body := [typ, 32] ++ leBytes 8 (slateWord0 x) ++ leBytes 8 (slateWord1 x) ++ leBytes 4 (s.rg .RAN_CLAIM).toNat
    ++ leBytes 2 (s.f F.TS_UTC_OFS_tai_utc)
    ++ [s.f F.TS_LEAP_SCHED_dir + 4 * bit (s.fb F.TS_UTC_OFS_known) + 8 * bit (s.fb F.TS_LEAP_SCHED_pending) + 16 * bit leap,
        gradeOf s x.ts]
    ++ leBytes 2 (if leapScheduled s then s.f F.TS_LEAP_SCHED_day else 0) ++ [s.f F.RAN_STATUS_role, 0] ++ leBytes 4 seq
  [0xC5, 0x3A] ++ body ++ leBytes 2 (crc16 body)

/-- ASCII bytes of a string. -/
def ascii (t : String) : List Nat := t.toList.map Char.toNat

/-- `k` decimal digits of a number. -/
def digits : Nat → Nat → List Nat
  | 0, _ => []
  | k + 1, v => digits k (v / 10) ++ [48 + v % 10]

/-- An upper-case hexadecimal digit. -/
def hexDigit (v : Nat) : Nat := if v < 10 then 48 + v else 55 + v

/-- An NMEA sentence: `$`, the fields, the XOR checksum (R177). -/
def nmea (body : List Nat) : List Nat :=
  let c := body.foldl (fun a b => a ^^^ b) 0
  [36] ++ body ++ [42, hexDigit (c / 16), hexDigit (c % 16), 13, 10]

/-- hhmmss.00 of the UTC seconds of a day; 60 in a leap second (R177). -/
def nmeaTime (u : Int) (leap : Bool) : List Nat :=
  let r := (u % 86400).toNat
  digits 2 (r / 3600) ++ digits 2 (r / 60 % 60) ++ digits 2 (if leap then 60 else r % 60) ++ ascii ".00"

/-- The ZDA sentence of a pulse (R177). -/
def zda (s : State) (x : Slate) : List Nat :=
  let p := pulseUtc s (x.sec * 10 ^ 9 + x.ns : Nat)
  let d := civil (p.1 / 86400)
  nmea (ascii "GNZDA," ++ (if s.fb F.TS_UTC_OFS_known then
    nmeaTime p.1 p.2 ++ [44] ++ digits 2 d.2.2 ++ [44] ++ digits 2 d.2.1 ++ [44] ++ digits 4 d.1.toNat else ascii ",,,") ++ ascii ",00,00")

/-- The RMC sentence of a pulse (R177). -/
def rmc (s : State) (x : Slate) : List Nat :=
  let p := pulseUtc s (x.sec * 10 ^ 9 + x.ns : Nat)
  let d := civil (p.1 / 86400)
  let ok := decide (gradeOf s x.ts ≤ 3)
  let known := s.fb F.TS_UTC_OFS_known
  nmea (ascii "GNRMC," ++ (if known then nmeaTime p.1 p.2 else []) ++ [44, if ok then 65 else 86] ++ ascii ",,,,,,,"
    ++ (if known then digits 2 d.2.2 ++ digits 2 d.2.1 ++ digits 2 (d.1 % 100).toNat else []) ++ ascii ",,," ++ [if ok then 65 else 78])

/-- What is sent for a pulse (R177). -/
def todBytes (s : State) (x : Slate) : List Nat :=
  match s.f F.CUE_TOD_CFG_format with
  | 0 => slateMessage s x (1 + s.f F.CUE_TOD_CFG_ref) s.cues.tod.seq
  | 1 => zda s x
  | 2 => rmc s x
  | _ => zda s x ++ rmc s x

/-- overrun stands until a message has been completed since it was set (R174). -/
def todOverrun (s : State) : Bool :=
  s.fb F.CUE_TOD_STATUS_overrun && !(match s.cues.tod.txEnd with
    | some e => decide (s.cues.tod.overAt ≤ e) && decide (e ≤ s.ticks)
    | none => false)

/-- TOD_MESSAGE_SEND (R174-R177, R285): tx_offset ms after a rising instant of the pps cue. A message that would end more than 950 ms after
its pulse, or whose start falls in another message, is not sent and sets overrun. -/
def execTodMessageSend (ticks : Nat) (s : State) : Host.Outcome State Fault Refusal :=
  let s := advance s ticks
  let g := s.f F.CUE_TOD_CFG_pps_cue
  let c := cue s g
  match c.lastAt with
  | none => .next s
  | some t =>
    if s.fb F.CUE_TOD_CFG_tx_en = false ∨ s.f F.CUE_STATUS_state g ≠ 2 ∨ s.fb F.RAN_STATUS_permission = false ∨ s.hs.shclk = false then .next s
    else
      let x := if s.fb F.CUE_TOD_CFG_ref then fireTod s g (psToUnits (cueInstant c c.k)) else keptSlate s .tod (c.lastTod.getD (fireTod s g t))
      let m := todBytes s x
      let busy := match s.cues.tod.txEnd with
        | some e => decide (s.ticks < e)
        | none => false
      let len := m.length * 10 * s.f F.CUE_TOD_BAUD_baud_div
      if 593750000 < s.f F.CUE_TOD_CFG_tx_offset * 625000 + len ∨ busy = true then
        let s := s.setB F.CUE_TOD_STATUS_overrun true
        .next { s with cues := { s.cues with tod := { s.cues.tod with overAt := s.ticks } } }
      else
        let s := sentTo (s.emit (.tod m)) (s.f F.CUE_TOD_CFG_ts) .tod
        let s := s.setB F.CUE_TOD_STATUS_overrun (todOverrun s)
        .next { s with cues := { s.cues with tod := { s.cues.tod with seq := (s.cues.tod.seq + 1) % 2 ^ 32, txEnd := some (s.ticks + len) } } }

/-- The whole second that a received slate labels: the nearest. -/
def todSecond (l : List Nat) : Nat :=
  let w0 := leVal (l.take 8)
  let w1 := leVal ((l.drop 8).take 8)
  w0 % 2 ^ 48 + (if 500000000 ≤ w1 / 2 ^ 32 then 1 else 0)

/-- TOD_MESSAGE_RECEIVE (R175, R176, R178): the bytes of a message on TOD_RX up to its last. -/
def execTodMessageReceive (bytes : List Nat) (s : State) : Host.Outcome State Fault Refusal :=
  if !s.fb F.CUE_TOD_CFG_rx_en then .next s
  else if bytes.length ≠ 38 ∨ bytes.take 2 ≠ [0xC5, 0x3A] ∨ bytes[3]? ≠ some 32 ∨ leVal (bytes.drop 36) ≠ crc16 ((bytes.drop 2).take 34) then
    .next (s.incF F.CUE_TOD_ERR_crc_framing)
  else
    let typ := bytes[2]?.getD 0
    let claim := leVal ((bytes.drop 20).take 4)
    let label := todSecond (bytes.drop 4)
    let bnd := bytes[11]?.getD 255
    if (typ ≠ 1 ∧ typ ≠ 2) ∨ todLow s claim = true then .next (todReject s)
    else if typ = 2 then
      let s := if s.cues.tod.waits.isSome then todReject s else s
      .next { s with cues := { s.cues with tod := { s.cues.tod with waits := some (label, bnd, claim) } } }
    else match s.cues.tod.edge with
      | some e => if s.ticks ≤ e.1 + 625000000 then .next (todLabel (todAccept s claim) label bnd) else .next (todReject s)
      | none => .next (todReject s)

end Sys2Proof.Machine
end

