-- ==== Sys2Proof/Machine/Outputs.lean ====
section
/-! DEFINITION. The clock outputs (07_outputs.md): the start and stop sequencer, the fallback mux, delays and edge slates. -/
namespace Sys2Proof.Machine
open Sys2Proof

/-! ### Frequencies and delays (R144, R146, R147, R156) -/

/-- VCO frequency of APLL `a` in Hz, 0 before it has a target; AP0 counts as 10 GHz (R156). -/
def vcoHz (s : State) (a : Nat) : Rat := (apTarget s a).getD 0

/-- The maximum frequency of an output format in Hz (R144). -/
def formatHz (f : Nat) : Nat :=
  match f with
  | 0 => 1600000000
  | 1 | 2 => 700000000
  | 3 => 12800000000
  | _ => 250000000

/-- The configuration of output `o` that OUT_START refuses with BAD_ARG (R144, R147, R156). -/
def outCfgBad (s : State) (o : Nat) : Bool :=
  if outSrc s o = 4 then false
  else
    let a := outSrc s o
    let div := s.f F.OUT_DIV_div o
    let fdiv := s.f F.OUT_FB_DIV_div o
    let fb := s.f F.OUT_CFG_fb_apll o
    decide (((formatHz (s.f F.OUT_CFG_format o) * div : Nat) : Rat) < vcoHz s a) || decide (2 * div ≤ s.f F.OUT_COARSE_value o)
    || (s.fb F.OUT_CFG_fb_en o && (decide (2 * fdiv ≤ s.f F.OUT_FB_COARSE_value o) || fb == a
      || decide (vcoHz s a * ((fdiv : Nat) : Rat) ≠ vcoHz s fb * ((div : Nat) : Rat))))

/-- The APLL that feeds output `o`, and its divider and coarse delay. -/
def outFeed (s : State) (o : Nat) : Nat × Nat × Nat :=
  if s.fb F.OUT_STATUS_on_fallback o then (s.f F.OUT_CFG_fb_apll o, s.f F.OUT_FB_DIV_div o, s.f F.OUT_FB_COARSE_value o)
  else (outSrc s o, s.f F.OUT_DIV_div o, s.f F.OUT_COARSE_value o)

/-- Output period in 2^-48 ns; 0 for a CUE output. -/
def outPeriod (s : State) (o : Nat) : Rat :=
  let d := outFeed s o
  if outSrc s o = 4 ∨ vcoHz s d.1 = 0 then 0 else ((unitsPerSec * d.2.1 : Nat) : Rat) / vcoHz s d.1

/-- Programmed delay in 2^-48 ns (R147). -/
def outDelay (s : State) (o : Nat) : Rat :=
  let d := outFeed s o
  (if vcoHz s d.1 = 0 then 0 else ((unitsPerSec * d.2.2 : Nat) : Rat) / (2 * vcoHz s d.1)) + ((psToUnits (outOf s o).fine : Int) : Rat)

/-! ### Edge slates (R151, R152, R158) -/

/-- The instant at which the divider in use was last loaded. -/
def outRef (s : State) (o : Nat) : Option GridAt := if s.fb F.OUT_STATUS_on_fallback o then (outOf s o).refFb else (outOf s o).ref

/-- The source timescale of the DPLL in use, when its phase is determined: a timescale source, LOCKED, det with its procedure DONE, and the grid instant
of the divider's load (R146, R158). -/
def outGrid (s : State) (o : Nat) : Option (Nat × Nat × Nat) :=
  let a := (outFeed s o).1
  let d := s.f F.AP_CFG_dpll a
  if outSrc s o = 4 ∨ a = 0 ∨ d = 0 ∨ s.f F.DP_CFG_src_type d ≠ 1 ∨ dpState s d ≠ 3 ∨ s.fb F.DP_CFG_det d = false ∨ s.f F.DP_STATUS_det_state d ≠ 2 then none
  else match outRef s o with
    | some (.ts r) => some (s.f F.DP_CFG_src_idx d, d, r)
    | _ => none

/-- The OSC_IN edge to which AP0's divider is anchored (R134), on TS0 as its increment in force places it, in 2^-48 ns. -/
def outOscRef (s : State) (o : Nat) : Option Rat :=
  match outRef s o with
  | some (.tick t) => if (outFeed s o).1 = 0 then
      some (((counterUnits (tsc s 0).cnt : Nat) : Rat) + ((t - tickPlace s 0 : Int) : Rat) / 4294967296 * (rateIncr s 4 0 : Rat)) else none
  | _ => none

/-- The first rising edge of a divided clock at or after `t`, or after it when `strict`, with edges at `r` + k·`p`. -/
def edgeFrom (r p t : Rat) (strict : Bool) : Rat :=
  if p = 0 then t else
    let q := (t - r) / p
    r + p * (if strict then ((q.floor + 1 : Int) : Rat) else ((q.ceil : Int) : Rat))

/-- The slate of an edge of output `o`, for a start or a stop, at once or at the instant `at_` 2^-48 ns of timescale `n` (R151, R152, R158).
Where no grid fixes the divided clock the slate is on TS0 and its bound is 0xFF; its phase is a free value but for AP0's dividers. -/
def outSlate (s : State) (o : Nat) (stop : Bool) (at_ : Option (Nat × Nat)) (d : Dest) : Slate :=
  let p := outPeriod s o
  let g := outGrid s o
  let m := match g with
    | some x => x.1
    | none => 0
  let now : Rat := ((counterUnits (tsc s m).cnt : Nat) : Rat)
  let ref : Rat := match g with
    | some x => ((x.2.2 : Nat) : Rat) + ((psToUnits (s.fi F.DP_PHASE_value x.2.1) : Int) : Rat)
    | none => (outOscRef s o).getD (now + ((Config.dividerPhase s.fresh : Nat) : Rat))
  let half := if stop then p / 2 else 0
  let t : Rat := match at_ with
    | none => edgeFrom ref p now true + 2 * p + half
    | some (n, i) => edgeFrom (ref + half) p (now + (((i : Int) - counterUnits (tsc s n).cnt : Int) : Rat)) false
  let sub := if tsRuns s m then roundRat (t + outDelay s o - now) else 0
  match g with
  | some y => slateWide s m d sub (8 + (s.fi F.DP_PERR_value y.2.1).natAbs)
  | none => { slateAt s m d sub with bnd := 0xFF }

/-- The payload slate of output `o`: a CUE output states its cue's next or last rising instant (R158, R165). -/
def outPayload (s : State) (o : Nat) (stop : Bool) (at_ : Option (Nat × Nat)) (d : Dest) : Layout :=
  if outSrc s o = 4 then
    let g := s.f F.OUT_CFG_cue o
    match (if stop then (cue s g).lastAt.map (fun u => cueSlate s g u d) else cueNext s g d) with
    | some x => slateLayout 0 x
    | none => []
  else slateLayout 0 (outSlate s o stop at_ d)

/-- The state after a payload slate: a free value is used up where no grid fixes the clock, and the destination has its slate. -/
def outSlateSent (s : State) (o : Nat) (d : Dest) : State :=
  match outGrid s o with
  | some x => sentTo s x.1 d
  | none => (sentTo s (if outSrc s o = 4 then cueTs s (s.f F.OUT_CFG_cue o) else 0) d).nextFresh

/-! ### States (R150, R153-R155) -/

/-- Output `o` may drive its pin (R154). -/
def outPermitted (s : State) (o : Nat) : Bool := !s.fb F.OUT_CFG_twin_gate o || s.fb F.RAN_STATUS_permission

/-- Entry to RUNNING (R150, R151). -/
def outRun (s : State) (o : Nat) : State :=
  event ((s.setF F.OUT_STATUS_state 2 o).emit (.outPin o true)) 0x0501 [(0, 1, o), (1, 1, 2), (2, 1, s.f F.OUT_STATUS_stop_cause o)]

/-- Entry to STOPPED (R150, R153, R155): the switch in progress ends, and a fine delay still moving takes its value. A stop that no command
asked for writes a record of severity 4. -/
def outStopped (s : State) (o cause : Nat) (forced : Bool) : State :=
  let was := outState s o
  let s := if s.fb F.OUT_CFG_idle o then s.emit (.outFloat o) else if was = 2 ∨ was = 4 then s.emit (.outPin o false) else s
  let s := setOut s o { outOf s o with cmdStop := false, fault := none, move := none, waits := false, fine := s.fi F.OUT_FINE_value o }
  let s := ((s.setF F.OUT_STATUS_state 0 o).setF F.OUT_STATUS_stop_cause cause o).setB F.OUT_STATUS_forced forced o
  let s := ((s.setB F.OUT_STATUS_switching false o).setB F.OUT_STATUS_on_fallback false o).setB F.OUT_STATUS_fine_slewing false o
  let s := s.setF F.OUT_STATUS_apll (outSrc s o) o
  let d : Layout := [(0, 1, o), (2, 1, cause)]
  if cause = 1 then event s 0x0501 d else logEvent s 4 0x0501 d

/-- The outputs of a mask. -/
def maskOuts (mask : Nat) : List Nat := (List.range 32).filter (fun o => mask.testBit o)

/-! ### The commands (R151, R152, R159) -/

/-- The instant of an AT_TS request, in 2^-48 ns of its trigger timescale. -/
def outAt (a : OutArgs) : Option (Nat × Nat) := if a.trigger = 1 then some (a.ts, timeUnits a.sec a.ns 0) else none

/-- The instant of the timed load: three periods of the slowest output of the mask before the instant (R151, R152). -/
def outLoadAt (s : State) (a : OutArgs) : Counter :=
  let p := (maskOuts a.mask).foldl (fun m o => max m (outPeriod s o)) 0
  counterOf ((timeUnits a.sec a.ns 0 : Int) - (3 * p).ceil).toNat

/-- An accepted start reaches the outputs of its mask (R150, R151, R154): those without drive permission enter GATED, and the command
completes with the scheduled edge. -/
def outStartDone (s : State) (h : CmdHdr) (a : OutArgs) : State :=
  let os := (maskOuts a.mask).filter (fun o => outState s o == 1)
  let s := os.foldl (fun t o =>
    let t := setOut t o { outOf t o with waits := false }
    if outPermitted t o then t else t.setF F.OUT_STATUS_state 3 o) s
  let gated := os.foldl (fun m o => if outState s o = 3 then m + 2 ^ o else m) 0
  let d := Dest.ring (cplOf s h)
  match os.head? with
  | none => finish s h 0x34 .ok []
  | some o =>
    if outState s o = 3 then finish s h 0x34 .ok [(16, 4, gated)]
    else finish (outSlateSent s o d) h 0x34 .ok (outPayload s o false (outAt a) d ++ [(16, 4, gated)])

/-- An output of a mask that cannot start now (R148, R159). -/
def outBusy (s : State) (o : Nat) : Bool :=
  let a := outSrc s o
  let d := s.f F.AP_CFG_dpll a
  outState s o != 0 || (a != 4 && (s.fb F.OUT_STATUS_reload_pending o || apState s a != 3
    || (a != 0 && d != 0 && s.fb F.DP_CFG_det d && s.f F.DP_STATUS_det_state d != 2)))

/-- Junction temperature at or above 125 °C (R153, R159). -/
def tjLimit (s : State) : Bool := decide (2000 ≤ s.fi F.PWR_THERM_tj)

/-- An output of timing class whose APLL has spread on (R135). -/
def outSpreads (s : State) (o : Nat) : Bool :=
  outSrc s o != 4 && !s.fb F.OUT_CFG_class o && (List.range 4).any (fun a => outFed s o a && spreadOn s a)

/-- Output `o` enters ARMED (R150, R151): its fine delay in force is the register's, and a pin in high impedance is driven low; `waits`: for an
instant. -/
def outArm (waits : Bool) (t : State) (o : Nat) : State :=
  let t := if t.fb F.OUT_CFG_idle o then t.emit (.outPin o false) else t
  setOut ((t.setF F.OUT_STATUS_state 1 o).setF F.OUT_STATUS_apll (outSrc t o) o) o
    { outOf t o with cmdStop := false, fault := none, move := none, fine := t.fi F.OUT_FINE_value o, waits := waits }

/-- OUT_START (R144, R147, R148, R150, R151, R159). -/
def execOutStart (h : CmdHdr) (a : OutArgs) (s : State) : Host.Outcome State Fault Refusal :=
  let os := maskOuts a.mask
  if !h.mbz ∨ a.mask = 0 ∨ 1 < a.trigger then .next (badArg s h 0x34)
  else if 4 ≤ a.ts then .next (complete s h 0x34 .notFound [])
  else if 10 ^ 9 ≤ a.ns ∨ 2 ^ 48 ≤ a.sec ∨ os.any (outCfgBad s) = true then .next (badArg s h 0x34)
  else if !s.hs.shclk then .next (complete s h 0x34 .busy [])
  else if a.trigger = 1 ∧ instantPast s a.ts a.sec a.ns 0 = true then .next (badArg s h 0x34)
  else if os.any (outBusy s) then .next (complete s h 0x34 .busy [])
  else if s.log.isolated.contains 9 then .next (complete s h 0x34 .hwFault [])
  else if tjLimit s then .next (deniedBy s h 0x34 0x44)
  else if os.any (outSpreads s) then .next (deniedBy s h 0x34 0x42)
  else
    let s := begins s h 0x34
    let s := os.foldl (outArm (a.trigger == 1)) s
    if a.trigger = 0 then .next (outStartDone s h a)
    else
      let c := outLoadAt s a
      .next (atTsWait s ⟨h, .outStart a, a.ts, c.sec, c.ns, c.frac / 2 ^ 16⟩)

/-- A command stop reaches the outputs of its mask (R150, R152): the ARMED and GATED ones stop with no further edge, the others close at
their falling edge, and the command completes with the last edge. -/
def outStopDone (s : State) (h : CmdHdr) (a : OutArgs) : State :=
  let os := maskOuts a.mask
  let armed := os.filter (fun o => outState s o == 1)
  let shut := os.filter (fun o => outState s o == 3)
  let run := os.filter (fun o => outState s o == 2 || outState s o == 4)
  let d := Dest.ring (cplOf s h)
  let p : Layout := match run.head? with
    | some o => outPayload s o true (outAt a) d
    | none => []
  let s := match run.head? with
    | some o => outSlateSent s o d
    | none => s
  let s := (armed ++ shut).foldl (fun t o => outStopped t o 1 false) s
  let s := run.foldl (fun t o => setOut t o { outOf t o with cmdStop := true }) s
  finish s h 0x35 .ok (p ++ [(16, 4, armed.foldl (fun m o => m + 2 ^ o) 0)])

/-- OUT_STOP (R40, R150, R152, R159): an immediate one acts while SHCLK is absent too; a mask without a running output, a zero mask too, answers
NOT_FOUND. -/
def execOutStop (h : CmdHdr) (a : OutArgs) (s : State) : Host.Outcome State Fault Refusal :=
  let os := (maskOuts a.mask).filter (fun o => outState s o != 0)
  if !h.mbz ∨ 1 < a.trigger then .next (badArg s h 0x35)
  else if 4 ≤ a.ts then .next (complete s h 0x35 .notFound [])
  else if 10 ^ 9 ≤ a.ns ∨ 2 ^ 48 ≤ a.sec then .next (badArg s h 0x35)
  else if os.isEmpty then .next (complete s h 0x35 .notFound [])
  else if a.trigger = 0 then .next (outStopDone (begins s h 0x35) h a)
  else if !s.hs.shclk then .next (complete s h 0x35 .busy [])
  else if instantPast s a.ts a.sec a.ns 0 then .next (badArg s h 0x35)
  else
    let c := outLoadAt s a
    let s := begins s h 0x35
    let s := os.foldl (fun t o => if outState t o = 2 then t.setF F.OUT_STATUS_state 4 o else t) s
    .next (atTsWait s ⟨h, .outStop a, a.ts, c.sec, c.ns, c.frac / 2 ^ 16⟩)

/-- OUT_SWITCH (R156, R157, R159): the payload is OUT_STATUS as it stands once the switch has been made. -/
def execOutSwitch (h : CmdHdr) (out dir : Nat) (s : State) : Host.Outcome State Fault Refusal :=
  if !h.mbz then .next (badArg s h 0x36)
  else if 32 ≤ out then .next (complete s h 0x36 .notFound [])
  else if 1 < dir then .next (badArg s h 0x36)
  else if outState s out ≠ 2 then .next (complete s h 0x36 .notFound [])
  else if s.fb F.OUT_CFG_fb_en out = false ∨ outSrc s out = 4 ∨ (dir = 0) = (s.fb F.OUT_STATUS_on_fallback out = true) then .next (badArg s h 0x36)
  else
    let target := if dir = 0 then s.f F.OUT_CFG_fb_apll out else outSrc s out
    if s.fb F.OUT_STATUS_switching out = true ∨ apState s target ≠ 3 then .next (complete s h 0x36 .busy [])
    else
      let after := (s.setB F.OUT_STATUS_on_fallback (dir == 0) out).setF F.OUT_STATUS_apll target out
      let p : Layout := [(0, 4, (after.rg .OUT_STATUS out).toNat)]
      let s := setOut (s.setB F.OUT_STATUS_switching true out) out { outOf s out with move := some (dir == 0) }
      .next (complete s h 0x36 .ok p)

/-! ### Gates (R151-R155) -/

/-- The clock that feeds output `o` runs; the gate of a CUE output moves only while its cue is low (R165). -/
def outClocked (s : State) (o : Nat) : Bool :=
  if outSrc s o = 4 then clocked s && !cueActive s (s.f F.OUT_CFG_cue o) else apState s (outFeed s o).1 == 3

/-- OUT_GATE_OPEN (R150, R151, R154). -/
def execOutGateOpen (out : Nat) (s : State) : Host.Outcome State Fault Refusal :=
  .next (if decide (out < 32) && (outState s out == 1 || outState s out == 3) && !(outOf s out).waits && (outOf s out).fault.isNone
      && outPermitted s out && outClocked s out then outRun s out else s)

/-- OUT_GATE_CLOSE (R152, R165): the falling edge that a command stop waits for; the gate of a CUE output closes only while the cue is low. -/
def execOutGateClose (out : Nat) (s : State) : Host.Outcome State Fault Refusal :=
  .next (if decide (out < 32) && (outState s out == 2 || outState s out == 4) && (outOf s out).cmdStop
      && !(outSrc s out == 4 && cueActive s (s.f F.OUT_CFG_cue out)) then outStopped s out 1 false else s)

/-- OUT_FAULT_STOP (R153): the stop that is due takes effect; `forced`: the ring timer forced the pin low. -/
def execOutFaultStop (out : Nat) (forced : Bool) (s : State) : Host.Outcome State Fault Refusal :=
  if 32 ≤ out ∨ outState s out = 0 then .next s
  else match (outOf s out).fault with
    | some c => .next (outStopped s out c (forced && decide (outState s out ≠ 1) && decide (outState s out ≠ 3)))
    | none => .next (if tjLimit s then outStopped s out 4 (forced && decide (outState s out ≠ 1) && decide (outState s out ≠ 3)) else s)

/-- OUT_INTERLOCK_GATE (R150, R154, R155): withdrawn permission closes the gate, which ends a stop that a command asked for; permission
opens it again. A withdrawal ends a switch in progress; an output whose primary is LOST is then fed by its usable fallback. -/
def execOutInterlockGate (out : Nat) (s : State) : Host.Outcome State Fault Refusal :=
  if 32 ≤ out ∨ s.fb F.OUT_CFG_twin_gate out = false then .next s
  else if s.fb F.RAN_STATUS_permission then
    .next (if outState s out = 3 ∧ (outOf s out).fault = none ∧ outClocked s out = true then outRun s out else s)
  else if outState s out = 4 ∨ (outState s out = 2 ∧ (outOf s out).cmdStop = true) then .next (outStopped s out 3 false)
  else if outState s out = 2 then
    let s := outMoveEnd ((s.emit (.outPin out false)).setF F.OUT_STATUS_state 3 out) out
    .next (if !s.fb F.OUT_STATUS_on_fallback out && apState s (outSrc s out) == 4 && outFbUsable s out then outOnFb s out true else s)
  else if outState s out = 1 ∧ (outOf s out).waits = false then .next (s.setF F.OUT_STATUS_state 3 out)
  else .next s

/-! ### The fallback mux (R156, R157) -/

/-- The mux has moved output `o` to the fallback or back. -/
def outMoved (s : State) (o : Nat) (fb : Bool) : State :=
  let s := setOut (outOnFb s o fb) o { outOf s o with move := none }
  s.setB F.OUT_STATUS_switching false o

/-- FALLBACK_SWITCH (R155, R156). -/
def execFallbackSwitch (out : Nat) (s : State) : Host.Outcome State Fault Refusal :=
  let x := outOf s out
  let due := x.move == some true || (x.move.isNone && outSrc s out != 4 && apState s (outSrc s out) == 4 && outFbUsable s out)
  .next (if decide (out < 32) && (outState s out == 2 || outState s out == 4) && !s.fb F.OUT_STATUS_on_fallback out && x.fault.isNone && due
    then outMoved s out true else s)

/-- FALLBACK_RETURN (R157): with auto_return once the primary has been LOCKED for 1 s, with det = 1 after its procedure ended DONE. -/
def execFallbackReturn (out : Nat) (s : State) : Host.Outcome State Fault Refusal :=
  let x := outOf s out
  let a := outSrc s out
  let d := s.f F.AP_CFG_dpll a
  let due := x.move == some false || (x.move.isNone && s.fb F.OUT_CFG_auto_return out && apState s a == 3 && decide ((ap s a).lockedAt + 625000000 ≤ s.ticks)
    && (a == 0 || d == 0 || !s.fb F.DP_CFG_det d || s.f F.DP_STATUS_det_state d == 2))
  .next (if decide (out < 32) && outState s out != 0 && s.fb F.OUT_STATUS_on_fallback out && x.fault.isNone && due
    then outMoved s out false else s)

/-! ### Delays and reloads (R147, R148) -/

/-- A write of OUT_FINE: at once while the output is not running, else in steps (R147). -/
def outFineWrite (s : State) (o : Nat) (value : Word) : State :=
  let s := regWrite s ⟨.OUT_FINE, o, 0⟩ value
  let v := s.fi F.OUT_FINE_value o
  if outState s o = 0 ∨ outState s o = 1 then setOut (s.setB F.OUT_STATUS_fine_slewing false o) o { outOf s o with fine := v }
  else s.setB F.OUT_STATUS_fine_slewing ((outOf s o).fine != v) o

/-- OUT_FINE_STEP (R147). -/
def execOutFineStep (out : Nat) (s : State) : Host.Outcome State Fault Refusal :=
  let x := outOf s out
  let v := s.fi F.OUT_FINE_value out
  if 32 ≤ out ∨ outState s out = 0 ∨ x.fine = v then .next s
  else
    let f := if x.fine < v then x.fine + 1 else x.fine - 1
    .next (setOut (s.setB F.OUT_STATUS_fine_slewing (f != v) out) out { x with fine := f })

/-- The instant at which a divider fed by APLL `a` reloads (R148): on the grid of its DPLL with det = 1 and DONE; none: at once. -/
def reloadGrid (s : State) (a : Nat) : Option GridAt :=
  let d := s.f F.AP_CFG_dpll a
  if a < 4 ∧ a ≠ 0 ∧ d ≠ 0 ∧ s.fb F.DP_CFG_det d = true ∧ s.f F.DP_STATUS_det_state d = 2 then gridAfter s d else none

/-- A permitted write of an output's configuration (R148): the primary divider, the fallback divider or both reload on the grid of the DPLL of their own
APLL, or at once. -/
def outReload (s : State) (prim fb : Bool) (o : Nat) : State :=
  let x := outOf s o
  let p := if outSrc s o = 4 then none else reloadGrid s (outSrc s o)
  let q := if outSrc s o = 4 then none else (outFb s o).bind (reloadGrid s)
  let y := if prim then { x with reloadAt := p, ref := if p.isNone then none else x.ref } else x
  let y := if fb then { y with reloadFb := q, refFb := if q.isNone then none else y.refFb } else y
  setOut ((s.setF F.OUT_STATUS_apll (outSrc s o) o).setB F.OUT_STATUS_reload_pending (y.reloadAt.isSome || y.reloadFb.isSome) o) o y

/-- A write of OUT_CFG, OUT_DIV, OUT_COARSE, OUT_FB_DIV or OUT_FB_COARSE (R148): one that changes a field or is wholly permitted reloads; what changes
only auto_return reloads nothing. -/
def outCfgWrite (s : State) (n : RegName) (o : Nat) (value : Word) : State :=
  let r : Reg := ⟨n, o, 0⟩
  let t := regWrite s r value
  let took := if n = .OUT_CFG then fput (t.rg n o) 30 30 0 != fput (s.rg n o) 30 30 0 else t.rg n o != s.rg n o || !(writeResult s r value).2
  if outState s o = 0 ∧ took = true then
    outReload t (n == .OUT_CFG || n == .OUT_DIV || n == .OUT_COARSE) (n == .OUT_CFG || n == .OUT_FB_DIV || n == .OUT_FB_COARSE) o else t

/-- The pending load of a divider fed by APLL `a` is made where its instant has come (R132, R148): the instant it was loaded at, and the one still to
come. -/
def reloadMake (s : State) (a : Nat) (at_ ref : Option GridAt) : Option GridAt × Option GridAt :=
  match at_ with
  | none => (ref, none)
  | some g => match gridCome s (s.f F.AP_CFG_dpll a) g with
    | some e => (some e, none)
    | none => (ref, some g)

/-- OUT_DIVIDER_RELOAD (R40, R148): a timed load, which needs SHCLK. The pending loads of both dividers are made. -/
def execOutDividerReload (out : Nat) (s : State) : Host.Outcome State Fault Refusal :=
  let x := outOf s out
  if 32 ≤ out ∨ s.fb F.OUT_STATUS_reload_pending out = false ∨ s.hs.shclk = false ∨ (x.reloadAt = none ∧ x.reloadFb = none) then .next s
  else
    let p := reloadMake s (outSrc s out) x.reloadAt x.ref
    let q := reloadMake s (s.f F.OUT_CFG_fb_apll out) x.reloadFb x.refFb
    .next (setOut (s.setB F.OUT_STATUS_reload_pending (p.2.isSome || q.2.isSome) out) out { x with ref := p.1, reloadAt := p.2, refFb := q.1, reloadFb := q.2 })

end Sys2Proof.Machine
end

