-- ==== Sys2Proof/Machine/Gnss.lean ====
section
/-! DEFINITION. The GNSS baseband (09_gnss.md): sample ports, notches and jamming, acquisition, tracking channels, records, OSNMA,
spoofing checks, solutions, and power states. -/
namespace Sys2Proof.Machine
open Sys2Proof

/-! ### Signals (R182) -/

/-- Carrier of a signal in Hz (R182). -/
def gnssCarrier (signal : Nat) (k : Int) : Int :=
  match signal with
  | 0 | 2 => 1575420000
  | 1 | 3 | 5 => 1176450000
  | 4 => 1561098000
  | _ => 1602000000 + 562500 * k

/-- Chips in 1 ms of a signal (R182). -/
def gnssChips (signal : Nat) : Nat :=
  match signal with
  | 0 | 2 => 1023
  | 1 | 3 | 5 => 10230
  | 4 => 2046
  | _ => 511

/-- Length of the primary code in ms. -/
def gnssPeriodMs (signal : Nat) : Nat := if signal = 2 then 4 else 1

/-- Minimum f_s in kHz. -/
def gnssMinFs (signal : Nat) : Nat :=
  match signal with
  | 1 | 3 | 5 => 20000
  | 2 => 8000
  | _ => 4000

/-- The signal has a pilot component. -/
def gnssPilot (signal : Nat) : Bool := signal == 1 || signal == 2 || signal == 3 || signal == 5

/-- f_s of port `p` in Hz. -/
def gnssFs (s : State) (p : Nat) : Nat := 1000 * s.f F.GNSS_PORT_FS_f_s p

/-- Signal `g` is usable on port `p` (R182). -/
def gnssUsable (s : State) (p g : Nat) (k : Int) : Bool :=
  decide (p < 3) && decide (g < 7) && (s.fb F.GNSS_PORT_CFG_band p == (g == 1 || g == 3 || g == 5))
  && decide (gnssMinFs g ≤ s.f F.GNSS_PORT_FS_f_s p)
  && decide (100 * (gnssCarrier g k - s.f F.GNSS_PORT_LO_lo_hz p).natAbs ≤ 45 * gnssFs s p)

/-! ### Ports, channels and power states -/

/-- Every channel that runs or is held goes to IDLE (R191, R199). -/
def gnssStopAll (s : State) : State :=
  (List.range 192).foldl (fun t c => if gnssChState t c = 1 ∨ gnssChState t c = 2 then gnssChSet t c 0 else t) s

/-- The baseband leaves ON for SLEEP or OFF (R199): channels stop, ports stop, searches end with TIMEOUT. -/
def gnssDown (s : State) (st : Nat) : State :=
  let s := gnssStopAll s
  let s := (List.range 3).foldl (fun t p => setGnssPort (t.setB F.GNSS_PORT_STATUS_running false p) p GnssPort.reset) s
  let q := s.gnss.acqQ
  let s := { s with gnss := { s.gnss with acqQ := [], plan := [], periodic := false, since := counterUnits (tsc s 0).cnt } }
  let s := q.foldl (fun t a => match a.1 with
    | some h => finish t h 0x70 .timeout []
    | none => t) s
  s.setF F.GNSS_STATUS_pstate st

/-- Entry to run profile COAST and its end (R199). A baseband that was ON at entry is ON after it: a periodic wake under way is no longer one. -/
def gnssCoast (s : State) (enter : Bool) : State :=
  if enter then
    let on := gnssP s == 2
    let s := { s with gnss := { s.gnss with onAtCoast := on } }
    if on then gnssDown s 3 else s
  else if s.gnss.onAtCoast then
    let s := { s with gnss := { s.gnss with onAtCoast := false, periodic := false } }
    if gnssP s = 3 then s.setF F.GNSS_STATUS_pstate 1 else s
  else s

/-- Thermal shedding of channels 64-191 and its end (R201). -/
def gnssShed (s : State) (shed : Bool) : State :=
  (List.range 128).foldl (fun t k =>
    let c := 64 + k
    if shed then gnssChSet t c 3 else if gnssChState t c = 3 then gnssChSet t c 0 else t) (s.setB F.GNSS_STATUS_shed shed)

/-- Firmware's searches enter the queue while there is room, up to four of them for the four search units, each once its port runs (R189, R190). -/
def acqRefill (s : State) : State :=
  let room := min (16 - s.gnss.acqQ.length) (4 - (s.gnss.acqQ.filter (fun q => q.1.isNone)).length)
  let ready := s.gnss.plan.filter (fun a => s.fb F.GNSS_PORT_STATUS_running a.port)
  let now := ready.take room
  { s with gnss := { s.gnss with plan := now.foldl (fun l a => l.erase a) s.gnss.plan, acqQ := s.gnss.acqQ ++ now.map (fun a => (none, a)) } }

/-- The intake of port `p` stops (R183, R191): its RUNNING channels enter HELD, and what it measured of its clock is gone. -/
def gnssPortStop (s : State) (p : Nat) : State :=
  let s := gnssBreak s p
  let s := ((s.setB F.GNSS_PORT_STATUS_rate_bad false p).setB F.GNSS_PORT_STATUS_overrun false p).setB F.GNSS_PORT_STATUS_clk_present false p
  setGnssPort s p { gnssPort s p with marks := [] }

/-- GNSS_PORT_ENABLE_WRITE (R183, R204): a write of GNSS_PORT_CFG; enable 0 stops the intake, enable 1 starts it, and the first mark returns the HELD
channels. -/
def execGnssPortEnableWrite (port : Nat) (value : Word) (s : State) : Host.Outcome State Fault Refusal :=
  if 3 ≤ port then .next (violation s)
  else
    let was := s.fb F.GNSS_PORT_CFG_enable port
    let s := regWrite s ⟨.GNSS_PORT_CFG, port, 0⟩ value
    let now := s.fb F.GNSS_PORT_CFG_enable port
    .next (if was && !now then gnssPortStop s port
      else if now && !was then setGnssPort s port { GnssPort.reset with minutes := (gnssPort s port).minutes } else s)

/-- A component of a sample as the front end delivers it in 4 bits (R183, GNSS_PORT_CFG.enc): two's complement, offset binary, sign-magnitude with
D3 the sign. -/
def sampleComponent (enc v : Nat) : Int :=
  let v := v % 16
  match enc with
  | 0 => sext 4 v
  | 1 => (v : Int) - 8
  | _ => if v.testBit 3 then -((v % 8 : Nat) : Int) else (v : Int)

/-- A sample (R183): I in bits [3:0] and Q in bits [7:4] of `raw`; with inv = 1 the sign of Q is inverted. -/
def decodeSample (enc : Nat) (inv : Bool) (raw : Nat) : Int × Int :=
  let q := sampleComponent enc (raw / 16)
  (sampleComponent enc raw, if inv then -q else q)

/-- A component stands at full scale (R204). -/
def fullScale (enc : Nat) (v : Nat) : Bool :=
  let x := sampleComponent enc v
  if enc = 2 then x.natAbs == 7 else x == 7 || x == -8

/-- Per cent of the samples of a block at full scale in I or Q (GNSS_PORT_STATUS.clip). -/
def blockClip (enc : Nat) (raw : List Nat) : Nat :=
  100 * (raw.filter (fun v => fullScale enc v || fullScale enc (v / 16))).length / max 1 raw.length

/-- The largest k of 255 at most with 8 × 10 × log10 (a / b) of at least k − 1/2 (R188): 80 log10 r reaches k − 1/2 where r^160 reaches 10^(2k − 1). -/
def excessSteps (a b : Nat) : Nat :=
  if a = 0 then 0 else if b = 0 then 255
  else ((List.range 255).filter (fun k => decide (b ^ 160 * 10 ^ (2 * k + 1) ≤ a ^ 160))).length

/-- The spectral excess E of a power spectrum of 1,024 bins in steps of 0.125 dB (R188): total power over 1,024 times the median bin. -/
def spectralExcess (bins : List Nat) : Nat :=
  let middle (v : Nat) : Bool := decide ((bins.filter (fun b => decide (b < v))).length ≤ bins.length / 2 ∧ bins.length / 2 < (bins.filter (fun b => decide (b ≤ v))).length)
  excessSteps bins.sum (1024 * (bins.find? middle).getD 0)

/-- The C/N0 of the channels of port `p` that have carrier lock. -/
def lockedCn0 (s : State) (p : Nat) : List Nat :=
  ((gnssOn s p 1).filter (fun c => s.fb F.GNSS_CH_STATUS_carrier_lock c)).map (fun c => s.f F.GNSS_CH_STATUS_cn0 c)

/-- The C/N0 deficit D of port `p` in steps of 0.125 dB (R188); 0 when no channel has lock. -/
def cn0Deficit (s : State) (p : Nat) : Nat :=
  let cs := lockedCn0 s p
  if cs.isEmpty then 0
  else (roundRat (2 * (((s.f F.GNSS_PORT_CNREF_value p : Nat) : Rat) - ((cs.sum : Nat) : Rat) / ((cs.length : Nat) : Rat)))).toNat

/-- The active notches of port `p` with their width codes and centres in kHz (R187). -/
def activeNotches (s : State) (p : Nat) : List (Nat × Int) :=
  ((List.range 4).filter (fun j => s.fb F.GNSS_NOTCH_ST_active p j)).map (fun j => (s.f F.GNSS_NOTCH_width p j, s.fi F.GNSS_NOTCH_ST_centre p j))

/-- The minute's mean C/N0 ends (R188): GNSS_PORT_CNREF is the highest of the last 24 h. -/
def cnrefMinute (s : State) (p : Nat) : State :=
  let x := gnssPort s p
  if x.blocks < 60000 then s
  else
    let kept := x.minutes.filter (fun m => decide (s.ticks < m.1 + 54000000000000))
    let ms := if x.locked = 0 then kept else (s.ticks, (x.cn0Sum / x.locked + 128) / 256) :: kept
    let s := s.setF F.GNSS_PORT_CNREF_value (min 255 ((ms.map (fun m => m.2)).foldl max 0)) p
    setGnssPort s p { x with blocks := 0, locked := 0, cn0Sum := 0, minutes := ms }

/-- What a block of samples shows (R188, R204): clipping, the jamming indicator of the last 100 blocks, and the C/N0 of the minute. -/
def blockSeen (s : State) (p : Nat) (raw : List Nat) : State :=
  let enc := s.f F.GNSS_PORT_CFG_enc p
  let bins := Config.gnssSpectrum (activeNotches s p) (raw.map (decodeSample enc (s.fb F.GNSS_PORT_CFG_inv p)))
  let cs := lockedCn0 s p
  let x := gnssPort s p
  let jams := (min 255 (max (spectralExcess bins) (cn0Deficit s p)) :: x.jams).take 100
  let s := s.setF F.GNSS_PORT_STATUS_clip (blockClip enc raw) p
  let s := s.setF F.GNSS_PORT_STATUS_jam ((2 * jams.sum + jams.length) / (2 * jams.length)) p
  cnrefMinute (setGnssPort s p { x with jams := jams, blocks := x.blocks + 1, locked := x.locked + bit (!cs.isEmpty), cn0Sum := x.cn0Sum + 256 * cs.sum / max 1 cs.length }) p

/-- The measured sample rate differs from the declared one by more than 100 ppm (R183): `d` is what a block took in 2^-32 ticks. -/
def rateOff (d : Int) : Bool := decide (d < (625000 * 2 ^ 32 - d).natAbs * 10000)

/-- SAMPLE_EPOCH_MARK (R183, R184): after `ticks` SHCLK cycles a block of f_s / 1000 samples ends and the next begins. A clock more than 100 ppm off
breaks the path. -/
def execSampleEpochMark (port ticks : Nat) (b : BlockEnd) (s : State) : Host.Outcome State Fault Refusal :=
  let s := advance s ticks
  let x := gnssPort s port
  let fr : Int := (b.frac % 2 ^ 32 : Nat)
  if 3 ≤ port ∨ s.fb F.GNSS_PORT_CFG_enable port = false ∨ gnssP s ≠ 2 ∨ x.broken = true ∨ clocked s = false then .next s
  else match (if s.fb F.GNSS_PORT_STATUS_running port then x.marks.head? else none) with
    | none => .next (acqRefill (gnssMark s port ((x.marks.head?.map (fun m => m.sample + blockSamples s port)).getD 0) fr))
    | some m =>
      if rateOff ((s.ticks * 2 ^ 32 : Nat) + fr - m.place) then .next (gnssBreak (s.setB F.GNSS_PORT_STATUS_rate_bad true port) port)
      else .next (acqRefill (gnssMark (blockSeen s port b.raw) port (m.sample + blockSamples s port) fr))

/-- The sample rates of the ports of the RUNNING channels go beyond what the correlators sustain at the present pace (R186). -/
def correlatorsBehind (s : State) : Bool :=
  let load := ((List.range 3).map (fun p => (gnssOn s p 1).length * s.f F.GNSS_PORT_FS_f_s p)).sum
  decide (19200000 * min 40960 (13 * s.f F.PWR_PACE_STATUS_pace_index) < 40960 * load)

/-- SAMPLE_PATH_BREAK (R185, R186): the clock absent for 2 µs, its rate off, SHCLK absent, or the correlators behind, which they fall only under a load
that they cannot sustain. -/
def execSamplePathBreak (port : Nat) (why : PathBreak) (s : State) : Host.Outcome State Fault Refusal :=
  if 3 ≤ port ∨ gnssP s ≠ 2 ∨ s.fb F.GNSS_PORT_CFG_enable port = false then .next s
  else match why with
    | .clock => .next (gnssBreak (s.setB F.GNSS_PORT_STATUS_clk_present false port) port)
    | .rate => .next (gnssBreak (s.setB F.GNSS_PORT_STATUS_rate_bad true port) port)
    | .overrun => .next (if correlatorsBehind s then gnssBreak (s.setB F.GNSS_PORT_STATUS_overrun true port) port else s)
    | .shclk => .next (if s.hs.shclk then s else gnssBreak s port)

/-- SAMPLE_PATH_RECOVER (R185, R191, R202): at a block start, after `lost` whole blocks: the first mark is formed. -/
def execSamplePathRecover (port lost : Nat) (s : State) : Host.Outcome State Fault Refusal :=
  if 3 ≤ port ∨ (gnssPort s port).broken = false ∨ s.fb F.GNSS_PORT_CFG_enable port = false ∨ clocked s = false then .next s
  else
    let s := (s.setB F.GNSS_PORT_STATUS_rate_bad false port).setB F.GNSS_PORT_STATUS_overrun false port
    let s := s.inc .GNSS_PORT_LOST port lost
    .next (gnssMark s port (((gnssPort s port).marks.head?.map (fun m => m.sample + (lost + 1) * blockSamples s port)).getD 0) 0)

/-! ### Notches and jamming (R187, R188) -/

/-- A notch of port `p` is active within ±2 MHz of the carrier of channel `c` (R187). -/
def notchNear (s : State) (p c : Nat) : Bool :=
  s.f F.GNSS_CH_CFG_port c == p && (List.range 4).any (fun j => s.fb F.GNSS_NOTCH_ST_active p j &&
    decide ((s.f F.GNSS_PORT_LO_lo_hz p + 1000 * s.fi F.GNSS_NOTCH_ST_centre p j
      - gnssCarrier (s.f F.GNSS_CH_CFG_signal c) (s.fi F.GNSS_CH_CFG_glo_k c)).natAbs ≤ 2000000))

/-- NOTCH_CHANGE (R187): at the next 1 ms block the notch takes its configuration; `locked` and `centre` are the adaptive search's, within ±f_s / 2. -/
def execNotchChange (port notch : Nat) (locked : Bool) (centre : Int) (s : State) : Host.Outcome State Fault Refusal :=
  if 3 ≤ port ∨ 4 ≤ notch then .next s
  else
    let on := s.fb F.GNSS_NOTCH_enable port notch
    let ad := s.fb F.GNSS_NOTCH_adaptive port notch
    let half : Int := (s.f F.GNSS_PORT_FS_f_s port / 2 : Nat)
    let s := s.setB F.GNSS_NOTCH_ST_active (on && (!ad || locked)) port notch
    let s := s.setB F.GNSS_NOTCH_ST_locked (on && ad && locked) port notch
    .next (s.setI F.GNSS_NOTCH_ST_centre (if ad then max (-half) (min half centre) else s.fi F.GNSS_NOTCH_centre port notch) port notch)

/-- GNSS_JAM (R188): after `ticks` ticks, the averaged indicator above jam_thr sets the flag, at jam_thr − 16 or below it clears it. -/
def execGnssJam (port ticks : Nat) (s : State) : Host.Outcome State Fault Refusal :=
  let s := advance s ticks
  if 3 ≤ port then .next s
  else
    let v := s.f F.GNSS_PORT_STATUS_jam port
    let thr := s.f F.GNSS_PORT_CFG_jam_thr port
    let flag := s.fb F.GNSS_PORT_STATUS_jam_flag port
    if !flag && decide (thr < v) && thr != 255 then
      .next (logEvent (s.setB F.GNSS_PORT_STATUS_jam_flag true port) 4 0x0701 [(0, 1, port), (1, 1, v), (2, 1, 1)])
    else if flag && decide (v + 16 ≤ thr) then
      .next (logRec (s.setB F.GNSS_PORT_STATUS_jam_flag false port) 4 0x0701 [(0, 1, port), (1, 1, v)])
    else .next s

/-! ### Acquisition (R189, R205) -/

/-- GNSS_ACQ (R182, R189, R205). -/
def execGnssAcq (h : CmdHdr) (a : GnssAcqArgs) (s : State) : Host.Outcome State Fault Refusal :=
  if !h.mbz then .next (badArg s h 0x70)
  else if s.log.isolated.contains 11 then .next (complete s h 0x70 .hwFault [])
  else if 3 ≤ a.port then .next (complete s h 0x70 .notFound [])
  else if gnssUsable s a.port a.signal a.gloK = false ∨ a.svid = 0 ∨ 63 < a.svid ∨ (a.signal = 6 ∧ (a.gloK < -7 ∨ 6 < a.gloK))
      ∨ a.coherent = 0 ∨ 20 < a.coherent ∨ (a.signal = 2 ∧ a.coherent % 4 ≠ 0) ∨ a.count = 0 ∨ 64 < a.count ∨ 1 < a.mode ∨ 20000 < a.dopHalf
      ∨ (a.mode = 1 ∧ a.codeHalf = 0 ∧ a.dopHalf = 0) then .next (badArg s h 0x70)
  else if gnssP s ≠ 2 ∨ s.fb F.GNSS_PORT_STATUS_running a.port = false then .next (complete s h 0x70 .busy [])
  else if 16 ≤ s.gnss.acqQ.length then .next (complete s h 0x70 .noResource [])
  else .next { begins s h 0x70 with gnss := { s.gnss with acqQ := s.gnss.acqQ ++ [(some h, a)] } }

/-- GNSS_ACQ_DONE (R189, R205): the search at place `pos` of the queue ends; found above 2.5 times the mean. A search of firmware has no command to
complete. -/
def execGnssAcqDone (pos : Nat) (r : AcqResult) (s : State) : Host.Outcome State Fault Refusal :=
  match (if s.f F.PWR_RUN_run_state = 4 then none else s.gnss.acqQ[pos]?) with
  | none => .next s
  | some (h, a) =>
    let g := s.gnss
    let s := acqRefill { s with gnss := { g with acqQ := g.acqQ.eraseIdx pos } }
    if r.broke then .next (match h with
      | some h => finish s h 0x70 .timeout []
      | none => s)
    else
      let found := decide (640 < r.ratio)
      let id := g.nextAcq
      let done := if found then ⟨id, s.ticks, r.code, r.doppler, sampleUnits s a.port r.sample⟩ :: g.acqDone.filter (fun x => x.id != id) else g.acqDone
      let s := { s with gnss := { s.gnss with nextAcq := (id + 1) % 2 ^ 16, acqDone := done } }
      .next (match h with
        | some h =>
          let d := Dest.ring (cplOf s h)
          finish (sentTo s 0 d) h 0x70 .ok
            ([(0, 2, id), (2, 1, bit found), (3, 1, min 255 r.cn0), (4, 4, r.code % 2 ^ 32), (8, 4, twos 32 r.doppler), (12, 2, min 65535 r.ratio)]
              ++ slateLayout 16 (sampleSlate s a.port r.sample d))
        | none => s)

/-! ### Tracking channels (R191, R192, R205) -/

/-- Code rate word of a signal at a Doppler in 2^-4 Hz (R192), in 2^-40 chips per sample: the code follows the carrier's Doppler. -/
def codeWord (s : State) (p g : Nat) (k dop : Int) : Nat :=
  let f : Rat := ((gnssChips g * 1000 : Nat) : Rat) * (1 + ((dop : Int) : Rat) / 16 / ((gnssCarrier g k : Int) : Rat))
  (roundRat (f * 1099511627776 / ((gnssFs s p : Nat) : Rat))).toNat

/-- Carrier rate word at a Doppler in 2^-4 Hz (R192), in 2^-48 cycles per sample. -/
def carrWord (s : State) (p g : Nat) (k dop : Int) : Int :=
  let f : Rat := ((gnssCarrier g k - s.f F.GNSS_PORT_LO_lo_hz p : Int) : Rat) + ((dop : Int) : Rat) / 16
  roundRat (f * 281474976710656 / ((gnssFs s p : Nat) : Rat))

/-- Primary code length of a signal in 2^-40 chips. -/
def codeLen (g : Nat) : Nat := gnssChips g * gnssPeriodMs g * 2 ^ 40

/-- The path of the channel's port is broken, or its port is not in use (R185). -/
def pathOff (s : State) (p : Nat) : Bool := (gnssPort s p).broken || !s.fb F.GNSS_PORT_CFG_enable p

/-- GNSS_CH_START (R40, R182, R191, R205): code phase and Doppler are propagated from their instant to the start sample, the first at or after now. On a
port whose path is broken the channel enters HELD at once. -/
def execGnssChStart (h : CmdHdr) (a : GnssStartArgs) (s : State) : Host.Outcome State Fault Refusal :=
  if !h.mbz then .next (badArg s h 0x71)
  else if s.log.isolated.contains 11 then .next (complete s h 0x71 .hwFault [])
  else if 192 ≤ a.ch then .next (complete s h 0x71 .notFound [])
  else if s.wrap.retired.contains (3, a.ch) then .next (complete s h 0x71 .hwFault [])
  else
    let p := s.f F.GNSS_CH_CFG_port a.ch
    let g := s.f F.GNSS_CH_CFG_signal a.ch
    let k := s.fi F.GNSS_CH_CFG_glo_k a.ch
    let st := gnssChState s a.ch
    if 1 < a.source ∨ 10 ^ 9 ≤ a.slate.ns ∨ 4 ≤ a.slate.ts ∨ gnssUsable s p g k = false ∨ st = 1 ∨ st = 2 then .next (badArg s h 0x71)
    else if gnssP s ≠ 2 ∨ st = 3 ∨ s.hs.shclk = false then .next (complete s h 0x71 .busy [])
    else
      let acq := s.gnss.acqDone.find? (fun x => x.id == a.acqId)
      let at_ (n : Nat) (u : Int) : Int := (counterUnits (tsc s n).cnt : Int) - u
      let from_ : Option (Nat × Int × Int) :=
        if a.source = 1 then some (a.code, a.doppler, at_ a.slate.ts (timeUnits a.slate.sec a.slate.ns a.slate.frac))
        else acq.map (fun x => (x.code, x.doppler, at_ 0 x.at_))
      match from_ with
      | none => .next (complete s h 0x71 .notFound [])
      | some (code, dop, age) =>
        let old := match acq with
          | some x => a.source == 0 && decide (x.tick + 625000000 < s.ticks)
          | none => false
        if (old || a.missed) = true then .next (complete s h 0x71 .timeout [])
        else
          let n := sampleAtOrAfter s p (counterUnits (tsc s 0).cnt)
          let dt : Rat := ((age + sampleUnits s p n - counterUnits (tsc s 0).cnt : Int) : Rat) / ((unitsPerSec : Nat) : Rat)
          let w := codeWord s p g k dop
          let moved := roundRat (dt * ((gnssFs s p * w : Nat) : Rat))
          let ph := ((code * 2 ^ 32 : Int) + moved) % (codeLen g : Int)
          let x := gnssCh s a.ch
          let c := carrWord s p g k dop
          let s := setGnssCh s a.ch { GnssCh.reset with nco := ⟨n, w, c, ph.toNat, 0, 0⟩, heldCode := x.heldCode, heldCarr := x.heldCarr, adj := x.adj }
          let s := ((s.setF F.GNSS_CH_CODE_LO_value (w % 2 ^ 32) a.ch).setF F.GNSS_CH_CODE_HI_value (w / 2 ^ 32) a.ch)
          let s := ((s.setF F.GNSS_CH_CARR_LO_value (twos 48 c % 2 ^ 32) a.ch).setF F.GNSS_CH_CARR_HI_value (twos 48 c / 2 ^ 32) a.ch)
          let s := gnssChSet s a.ch 1
          let s := if pathOff s p then gnssHold s a.ch else s
          let d := Dest.ring (cplOf s h)
          .next (complete (sentTo s 0 d) h 0x71 .ok (slateLayout 0 (sampleSlate s p n d)))

/-- GNSS_CH_STOP (R191, R205): a commit that waits is discarded. -/
def execGnssChStop (h : CmdHdr) (ch : Nat) (s : State) : Host.Outcome State Fault Refusal :=
  if !h.mbz then .next (badArg s h 0x72)
  else if 192 ≤ ch ∨ (gnssChState s ch ≠ 1 ∧ gnssChState s ch ≠ 2) then .next (complete s h 0x72 .notFound [])
  else
    let n := (gnssCh s ch).epochs
    let s := setGnssCh s ch { gnssCh s ch with pend := none }
    .next (complete (gnssChSet s ch 0) h 0x72 .ok [(0, 4, n % 2 ^ 32)])

/-- Samples that the code NCO takes to its next 1 ms boundary (R191); none while its rate is 0. -/
def epochSamples (s : State) (c : Nat) : Option Nat :=
  let x := (gnssCh s c).nco
  let ms := gnssChips (s.f F.GNSS_CH_CFG_signal c) * 2 ^ 40
  if x.code = 0 then none else some (cdiv (ms - x.phase % ms) x.code)

/-- The NCOs of a signal after `n` samples (R192). -/
def ncoAdvance (g n : Nat) (x : NcoPoint) : NcoPoint :=
  let len := codeLen g
  let p := x.phase + n * x.code
  { x with sample := x.sample + n, phase := p % len, periods := x.periods + p / len, cycles := x.cycles + n * x.carr }

/-- A commit due at this boundary takes effect (R192). -/
def ncoApply (g : Nat) (x : GnssCh) : GnssCh × Bool :=
  match x.pend with
  | none => (x, false)
  | some q =>
    if q.wait ≠ 0 then ({ x with pend := some { q with wait := q.wait - 1 } }, false)
    else
      let p := ((x.nco.phase : Int) + q.adj * 2 ^ 24) % (codeLen g : Int)
      ({ x with nco := { x.nco with code := q.code.getD x.nco.code, carr := q.carr.getD x.nco.carr, phase := p.toNat }, pend := none }, true)

/-- The prompt arm that the carrier loop uses: arm 5 on the pilot, else arm 0 (R191). -/
def promptArm (s : State) (c : Nat) : Nat := if s.fb F.GNSS_CH_CFG_pilot c && gnssPilot (s.f F.GNSS_CH_CFG_signal c) then 5 else 0

/-- The I and Q sums of arm `i` (R191). -/
def armSum (sums : List Int) (i : Nat) : Int × Int := ((sums[2 * i]?).getD 0, (sums[2 * i + 1]?).getD 0)

/-- The power of an arm. -/
def armPower (a : Int × Int) : Nat := (a.1 * a.1 + a.2 * a.2).toNat

/-- The phase-lock indicator cos 2φ of a prompt sum (R193); 0 where there is no power. -/
def cos2phi (a : Int × Int) : Rat := if armPower a = 0 then 0 else ((a.1 * a.1 - a.2 * a.2 : Int) : Rat) / ((armPower a : Nat) : Rat)

/-- Carrier lock (R193): cos 2φ, averaged over 100 ms, is at least 0.8. -/
def carrierLocked (ps : List (Int × Int)) : Bool := ps.length == 100 && decide (80 ≤ ((ps.map cos2phi).foldl (fun a b => a + b) 0))

/-- Where the monitor arm stands in this epoch, in quarter chips, 8 added (R191): at mon_ofs, or sweeping ±2 chips, one step per epoch. -/
def monPlace (s : State) (c epochs : Nat) : Nat :=
  if s.fb F.GNSS_CH_CORR_mon_sweep c then epochs % 17 else (s.fi F.GNSS_CH_CORR_mon_ofs c + 8).toNat

/-- What a valid epoch shows of a channel's locks and of its monitor arm (R193, R203). -/
def epochSeen (s : State) (c : Nat) (e : EpochIn) (x : GnssCh) : GnssCh :=
  let ps := (armSum e.sums (promptArm s c) :: x.prompts).take 100
  { x with strong := if 100 ≤ e.cn0 then x.strong + 1 else 0, prompts := ps, lockMs := if carrierLocked ps then x.lockMs + 1 else 0, half := e.halfCycle,
           mon := tset x.mon (monPlace s c x.epochs) (armPower (armSum e.sums 7), armPower (armSum e.sums 0)) }

/-- GNSS_CHANNEL_EPOCH (R191-R193): the code NCO passes a 1 ms boundary; a dump is written, which is invalid while the channel is HELD; a commit that
waits for this boundary takes effect, and the next dump says so. -/
def execGnssChannelEpoch (ch : Nat) (e : EpochIn) (s : State) : Host.Outcome State Fault Refusal :=
  let st := gnssChState s ch
  match epochSamples s ch with
  | none => .next s
  | some n =>
    if 192 ≤ ch ∨ (st ≠ 1 ∧ st ≠ 2) then .next s
    else
      let run := st == 1
      let g := s.f F.GNSS_CH_CFG_signal ch
      let x := gnssCh s ch
      let x := if run then epochSeen s ch e x else x
      let dump : Dump := ⟨x.epochs % 2 ^ 32, n, run, x.gap, x.updated, if run then e.sums else []⟩
      let y := ncoApply g { x with nco := ncoAdvance g n x.nco, back := some x.nco }
      let s := setGnssCh s ch { y.1 with epochs := x.epochs + 1, updated := y.2, dumps := (dump :: x.dumps).take 2, dumped := true, gap := !run }
      let s := perf s 0x0031 (s.f F.GNSS_CH_CFG_port ch)
      .next (if run then
        let s := (s.setF F.GNSS_CH_STATUS_cn0 (min 255 e.cn0) ch).setB F.GNSS_CH_STATUS_code_lock (decide (100 ≤ x.strong)) ch
        let s := (s.setB F.GNSS_CH_STATUS_carrier_lock (carrierLocked x.prompts) ch).setB F.GNSS_CH_STATUS_bit_sync e.bitSync ch
        s.setB F.GNSS_CH_STATUS_nav_sync e.navSync ch
      else s)

/-- GNSS_DUMP_INTERRUPT (R191, R194): every 1 ms of TS0 each core named by a channel with a new dump receives one interrupt, and firmware takes the
navigation records that wait. -/
def execGnssDumpInterrupt (ticks : Nat) (s : State) : Host.Outcome State Fault Refusal :=
  let s := advance s ticks
  let cs := (List.range 192).filter (fun c => (gnssCh s c).dumped)
  let s := (List.range 4).foldl (fun t i => if cs.any (fun c => t.f F.GNSS_CH_CFG_core c == i) then t.emit (.coreIrq i 0x0031 0) else t) s
  let s := { s with gnss := { s.gnss with navQ := [] } }
  .next (cs.foldl (fun t c => setGnssCh t c { gnssCh t c with dumped := false }) s)

/-- The agent owns channel `c` (R192): the host where owner is 1, control-core firmware where it is 0. -/
def ncoOwner (s : State) (c : Nat) (host : Bool) : Bool := s.fb F.GNSS_CH_CFG_owner c == host

/-- GNSS_NCO_LO_WRITE (R192). -/
def execGnssNcoLoWrite (ch : Nat) (carrier : Bool) (value : Word) (host : Bool) (s : State) : Host.Outcome State Fault Refusal :=
  if 192 ≤ ch ∨ ncoOwner s ch host = false then .next (violation s)
  else .next (setGnssCh s ch (if carrier then { gnssCh s ch with heldCarr := some value } else { gnssCh s ch with heldCode := some value }))

/-- GNSS_CODE_ADJ_WRITE (R192). -/
def execGnssCodeAdjWrite (ch : Nat) (value : Word) (host : Bool) (s : State) : Host.Outcome State Fault Refusal :=
  if 192 ≤ ch ∨ ncoOwner s ch host = false then .next (violation s)
  else .next (setGnssCh s ch { gnssCh s ch with adj := sext 32 value.toNat })

/-- GNSS_NCO_COMMIT (R192): the high half commits the rate with the pending shift at the next epoch boundary; `late`: the correlators have
begun the epoch after it, so it waits one more, and is counted. A commit while the channel is IDLE is discarded. -/
def execGnssNcoCommit (ch : Nat) (carrier : Bool) (value : Word) (late host : Bool) (s : State) : Host.Outcome State Fault Refusal :=
  if 192 ≤ ch ∨ ncoOwner s ch host = false then .next (violation s)
  else
    let x := gnssCh s ch
    let lo := if carrier then x.heldCarr.getD (s.rg .GNSS_CH_CARR_LO ch) else x.heldCode.getD (s.rg .GNSS_CH_CODE_LO ch)
    let hi := value.toNat % 2 ^ 16
    let w := hi * 2 ^ 32 + lo.toNat
    let s := if carrier then (s.setF F.GNSS_CH_CARR_LO_value lo.toNat ch).setF F.GNSS_CH_CARR_HI_value hi ch
      else (s.setF F.GNSS_CH_CODE_LO_value lo.toNat ch).setF F.GNSS_CH_CODE_HI_value hi ch
    let x := if carrier then { x with heldCarr := none } else { x with heldCode := none }
    if gnssChState s ch ≠ 1 ∧ gnssChState s ch ≠ 2 then .next (setGnssCh s ch x)
    else
      let q : NcoPend := x.pend.getD ⟨none, none, 0, 0⟩
      let q := { q with adj := q.adj + x.adj, wait := max q.wait (bit late) }
      let q := if carrier then { q with carr := some (sext 48 w) } else { q with code := some w }
      let s := if late then s.inc .GNSS_CH_LATE ch else s
      .next (setGnssCh s ch { x with adj := 0, pend := some q })

/-! ### Measurements and spoofing checks (R193, R203) -/

/-- The NCO state of channel `c` at sample `n` of its port (R193): from the epoch that holds it, the one before where the correlators are past it. -/
def ncoAt (s : State) (c n : Nat) : NcoPoint :=
  let x := gnssCh s c
  let b := match x.back with
    | some b => if n < x.nco.sample then b else x.nco
    | none => x.nco
  ncoAdvance (s.f F.GNSS_CH_CFG_signal c) (n - b.sample) b

/-- Channel `c` shows a monitor-arm peak (R203): at some offset within ±2 chips but 0 the monitor arm's power is no more than mp_db dB below prompt, and no
less than beside it where the sweep has been. -/
def monPeak (s : State) (c : Nat) : Bool :=
  let t := (gnssCh s c).mon
  let pow (k : Nat) : Nat := (tget t (0, 0) k).1
  t.any (fun q => q.1 != 8 && decide (q.1 ≤ 16 ∧ 0 < q.2.1 ∧ q.2.2 ^ 10 ≤ q.2.1 ^ 10 * 10 ^ s.f F.GNSS_SPOOF_THR_mp_db
    ∧ pow (q.1 + 1) ≤ q.2.1 ∧ (q.1 = 0 ∨ pow (q.1 - 1) ≤ q.2.1)))

/-- The Doppler of an NCO state of channel `c` relative to the nominal carrier in 2^-8 Hz (R193). -/
def ncoDoppler (s : State) (c : Nat) (x : NcoPoint) : Int :=
  let p := s.f F.GNSS_CH_CFG_port c
  let hz : Rat := ((x.carr * (gnssFs s p : Nat) : Int) : Rat) / 281474976710656
  roundRat (256 * (hz - ((gnssCarrier (s.f F.GNSS_CH_CFG_signal c) (s.fi F.GNSS_CH_CFG_glo_k c) - s.f F.GNSS_PORT_LO_lo_hz p : Int) : Rat)))

/-- A measurement record of channel `c` at sample `n` (R193). -/
def measRecord (s : State) (c n : Nat) : Layout :=
  let g := s.f F.GNSS_CH_CFG_signal c
  let p := s.f F.GNSS_CH_CFG_port c
  let k := s.fi F.GNSS_CH_CFG_glo_k c
  let y := gnssCh s c
  let x := ncoAt s c n
  let run := gnssChState s c == 1
  let flags := bit (s.fb F.GNSS_CH_STATUS_code_lock c) + 2 * bit (s.fb F.GNSS_CH_STATUS_carrier_lock c) + 4 * bit (run && y.half)
    + 8 * bit (promptArm s c == 5) + 16 * bit y.slip + 32 * bit (!run) + 64 * bit (notchNear s p c) + 128 * bit (run && monPeak s c)
  [(0, 1, c), (1, 1, g), (2, 1, s.f F.GNSS_CH_CFG_svid c), (3, 1, p), (4, 4, (area s .meas).seq), (8, 1, flags), (9, 1, s.f F.GNSS_CH_STATUS_cn0 c),
   (10, 1, if g = 6 then s.f F.GNSS_CH_CFG_glo_k c + (if k < 0 then 240 else 0) else 0), (12, 4, x.periods % 2 ^ 32), (16, 8, x.phase),
   (24, 8, twos 64 (x.cycles / 65536)), (32, 4, twos 32 (ncoDoppler s c x)), (36, 4, satNat 32 y.lockMs)]
  ++ slateLayout 40 (sampleSlate s p n (.ring (s.f F.GNSS_MEAS_CFG_ring))) ++ [(56, 8, n)]

/-- The measurement interval in ms (GNSS_MEAS_CFG). -/
def measInterval (s : State) : Nat := ([10, 20, 50, 100, 200, 500, 1000][s.f F.GNSS_MEAS_CFG_interval]?).getD 1000

/-- The last multiple of the measurement interval on TS0, in 2^-48 ns (R193). -/
def measInstant (s : State) : Nat :=
  let i := measInterval s * 10 ^ 6 * 2 ^ 48
  counterUnits (tsc s 0).cnt / i * i

/-- 2π in 10^-18. -/
def twoPi : Rat := 6.283185307179586477

/-- The cosine and the sine of a turn fraction of −1/2 to 1/2, from the first 34 terms of their series. -/
def turnCosSin (x : Rat) : Rat × Rat :=
  let θ := x * twoPi
  let step (a : (Rat × Rat) × Rat) (k : Nat) : (Rat × Rat) × Rat :=
    let t := a.2
    ((match k % 4 with
      | 0 => (a.1.1 + t, a.1.2)
      | 1 => (a.1.1, a.1.2 + t)
      | 2 => (a.1.1 - t, a.1.2)
      | _ => (a.1.1, a.1.2 - t)), t * θ / ((k + 1 : Nat) : Rat))
  ((List.range 34).foldl step ((0, 0), 1)).1

/-- The concentration R of carrier single differences in 2^-48 cycles, in 1/256 and rounded down (R203, check S0). -/
def concentration (ds : List Int) : Nat :=
  let turn (d : Int) : Rat := (((d + 2 ^ 47) % 2 ^ 48 - 2 ^ 47 : Int) : Rat) / 281474976710656
  let v := ds.map (fun d => turnCosSin (turn d))
  let c := (v.map (fun a => a.1)).foldl (fun a b => a + b) 0
  let q := (v.map (fun a => a.2)).foldl (fun a b => a + b) 0
  let r2 := (c * c + q * q) * 65536
  let n : Rat := ((ds.length : Nat) : Rat)
  if ds.isEmpty then 0 else ((List.range 256).filter (fun k => decide ((((k + 1) ^ 2 : Nat) : Rat) * n * n ≤ r2))).length

/-- The carrier single differences of the satellites that GSP2 and another port of the same band track with carrier lock (R203, check S0). -/
def carrierDiffs (s : State) (u : Int) : List Int :=
  let locked (p : Nat) : List Nat := (gnssOn s p 1).filter (fun c => s.fb F.GNSS_CH_STATUS_carrier_lock c)
  let cyc (c : Nat) : Int := (ncoAt s c (sampleAtOrAfter s (s.f F.GNSS_CH_CFG_port c) u)).cycles
  let same (a b : Nat) : Bool := s.f F.GNSS_CH_CFG_signal a == s.f F.GNSS_CH_CFG_signal b && s.f F.GNSS_CH_CFG_svid a == s.f F.GNSS_CH_CFG_svid b
  let ps := [0, 1].filter (fun p => s.fb F.GNSS_PORT_CFG_band p == s.fb F.GNSS_PORT_CFG_band 2)
  (locked 2).filterMap (fun a => ((ps.flatMap locked).find? (same a)).map (fun b => cyc a - cyc b))

/-- Check S1 (R203): at least mp_n channels show a monitor-arm peak. -/
def spoofS1 (s : State) : Bool :=
  decide (s.f F.GNSS_SPOOF_THR_mp_n ≤ ((List.range 192).filter (fun c => gnssChState s c == 1 && monPeak s c)).length)

/-- Check S2 (R203) on some port: no jamming, and every carrier-locked channel strong and within 1.5 dB of the others. -/
def spoofS2 (s : State) : Bool :=
  (List.range 3).any (fun p =>
    let cs := lockedCn0 s p
    !cs.isEmpty && decide (s.f F.GNSS_PORT_STATUS_jam p < s.f F.GNSS_PORT_CFG_jam_thr p)
    && cs.all (fun a => decide (s.f F.GNSS_SPOOF_THR_cn0_thr ≤ a) && cs.all (fun b => decide (a ≤ b + 6))))

/-- Satellites authenticated for ADKD 0 in the last 5 min (R203). -/
def osnmaAuth (s : State) : Nat := (s.gnss.auth.filter (fun a => decide (s.ticks < a.2 + 187500000000))).length

/-- The satellites that solution `k` last used (R94, R196). -/
def solUsed (s : State) (k : Nat) : List (Nat × Nat) := tget s.gnss.solUsed [] k

/-- The Galileo satellite is in an enabled solution (R196). -/
def inSolution (s : State) (sat : Nat) : Bool := (List.range 2).any (fun k => s.fb F.GNSS_SOL_CFG_enable k && (solUsed s k).contains (1, sat))

/-- Fewer than 2 Galileo satellites of an enabled solution that uses Galileo are authenticated for ADKD 0 within 5 min (R203, check S4). -/
def osnmaShort (s : State) : Bool :=
  (List.range 2).any (fun k => s.fb F.GNSS_SOL_CFG_enable k && (s.f F.GNSS_SOL_CFG_systems k).testBit 1 &&
    decide ((s.gnss.auth.filter (fun a => decide (s.ticks < a.2 + 187500000000) && (solUsed s k).contains (1, a.1))).length < 2))

/-- Check S4 (R196, R203). -/
def spoofS4 (s : State) : Bool := s.gnss.s4 || (s.fb F.GNSS_OSNMA_CFG_required && osnmaShort s)

/-- The records of a measurement instant `u` (R193): one for each RUNNING or HELD channel with meas_en. -/
def measRecords (s : State) (u : Int) : State :=
  ((List.range 192).filter (fun c => s.fb F.GNSS_CH_CFG_meas_en c && (gnssChState s c == 1 || gnssChState s c == 2))).foldl (fun t c =>
    let t := areaProduce t .meas (measRecord t c (sampleAtOrAfter t (t.f F.GNSS_CH_CFG_port c) u))
    sentTo (setGnssCh t c { gnssCh t c with slip := false }) 0 (.ring (t.f F.GNSS_MEAS_CFG_ring))) s

/-- GNSS_MEAS (R193, R203): once for each multiple of the interval on TS0, which is reached after `ticks` ticks, the records and the checks S0, S1, S2
and S4; they come when the measurement sample of each port has come, some ticks later for each. -/
def execGnssMeas (ticks wait0 wait1 wait2 : Nat) (s : State) : Host.Outcome State Fault Refusal :=
  let s := advance s ticks
  let u := measInstant s
  let s := advance s (max wait0 (max wait1 wait2))
  if gnssP s ≠ 2 ∨ s.gnss.measAt = some u then .next s
  else
    let s := measRecords { s with gnss := { s.gnss with measAt := some u } } u
    let ds := carrierDiffs s u
    let r := concentration ds
    let s := if s.f F.GNSS_SPOOF_CFG_enable % 2 = 1 then s.setF F.GNSS_SPOOF_STATUS_s0_r (min 255 r) else s
    let s := spoofEval s 0 (decide (4 ≤ ds.length) && decide (s.f F.GNSS_SPOOF_THR_r_thr ≤ r))
    let s := spoofEval (spoofEval s 1 (spoofS1 s)) 2 (spoofS2 s)
    let s := spoofEval s 4 (spoofS4 s)
    .next { s with gnss := { s.gnss with s4 := false } }

/-- The spoofing flag of solutions is raised by command (R203, R205): it acts as a check with act = 1. -/
def spoofRaise (s : State) (sols : Nat) : State :=
  logEvent { s with gnss := { s.gnss with raised := s.gnss.raised ||| sols } } 2 0x0704 [(0, 1, s.f F.GNSS_SPOOF_STATUS_latched)]

/-- GNSS_SPOOF (R203, R205). A flag that RAISE set is released by any CLEAR (DESIGN CHOICE, notes/assumptions/15.md). -/
def execGnssSpoof (h : CmdHdr) (op checks sols : Nat) (s : State) : Host.Outcome State Fault Refusal :=
  if !h.mbz ∨ 1 < op ∨ (op = 0 ∧ (checks = 0 ∨ 32 ≤ checks)) ∨ (op = 1 ∧ (sols = 0 ∨ 4 ≤ sols)) then .next (badArg s h 0x74)
  else if op = 0 then
    let m := s.f F.GNSS_SPOOF_STATUS_latched
    let s := s.setF F.GNSS_SPOOF_STATUS_latched (m &&& (31 - checks))
    let runs := (List.range 5).foldl (fun t i => if checks.testBit i then tset t i 0 else t) s.gnss.spoofRuns
    let s := { s with gnss := { s.gnss with raised := 0, spoofRuns := runs } }
    let s := logRec s 3 0x0780 [(0, 1, m &&& checks), (1, 1, m &&& (31 - checks))]
    .next (complete s h 0x74 .ok [(0, 4, (s.rg .GNSS_SPOOF_STATUS).toNat)])
  else
    let s := spoofRaise s sols
    .next (complete s h 0x74 .ok [(0, 4, (s.rg .GNSS_SPOOF_STATUS).toNat)])

/-! ### Navigation and OSNMA (R194-R196) -/

/-- Unit type and bit count of the navigation unit of channel `c` (R182, R194). -/
def navUnit (signal svid : Nat) : Nat × Nat :=
  match signal with
  | 0 => (0, 300) | 1 => (1, 300) | 2 => (2, 228) | 3 => (3, 238)
  | 4 => (if svid ≤ 5 ∨ 59 ≤ svid then 5 else 4, 300)
  | 5 => (6, 288) | _ => (7, 85)

/-- A navigation record reaches the cores' queue of 256 and, with host = 1, the navigation area (R194). A record that finds the queue full is
not queued (DESIGN CHOICE, notes/assumptions/16.md). -/
def navDeliver (s : State) (r : Layout) : State :=
  let s := if s.gnss.navQ.length < 256 then { s with gnss := { s.gnss with navQ := s.gnss.navQ ++ [r] } } else s
  if s.fb F.GNSS_NAV_CFG_host then sentTo (areaProduce s .nav r) 0 (.ring (s.f F.GNSS_NAV_CFG_ring))
  else setArea s .nav { area s .nav with seq := ((area s .nav).seq + 1) % 2 ^ 32 }

/-- A word or a unit as its check judges it (R182, R194): passed, passed after a single-error correction where the signal's check corrects one, or
failed. -/
inductive NavCheck where
  | pass | corrected | fail
  deriving DecidableEq, Repr

/-- The check of word `i` of a unit, or of the whole unit where `i` is none (R182): BCH and the Hamming bits correct a single error. -/
def navCheck (kind : Nat) (i : Option Nat) (symbols : Nat) : NavCheck :=
  if Config.navPass kind i symbols then .pass
  else if (kind = 4 ∨ kind = 5 ∨ kind = 7) ∧ Config.navCorrects kind i symbols then .corrected
  else .fail

/-- The checks of a unit's words where it has words, else of the unit (R194). -/
def navChecks (kind symbols : Nat) : List NavCheck :=
  if kind = 0 ∨ kind = 4 ∨ kind = 5 then (List.range 10).map (fun i => navCheck kind (some i) symbols) else [navCheck kind none symbols]

/-- check of a navigation record: 0 pass, 1 pass after correction, 2 fail (R194). -/
def navVerdict (cs : List NavCheck) : Nat := if cs.contains .fail then 2 else if cs.contains .corrected then 1 else 0

/-- word mask of a navigation record: bit i where word i passed (R194). -/
def navWordMask (kind : Nat) (cs : List NavCheck) : Nat :=
  if kind = 0 ∨ kind = 4 ∨ kind = 5 then (cs.zipIdx.map (fun c => if c.1 = .fail then 0 else 2 ^ c.2)).sum else 0

/-- The bits of a navigation record (R194): `v` of `n` bits, the first transmitted in bit 7 of byte 32. -/
def navBits (n v : Nat) : Layout :=
  let w := (v % 2 ^ n) * 2 ^ (512 - n)
  (List.range 64).map (fun i => (32 + i, 1, w / 256 ^ (63 - i) % 256))

/-- GNSS_NAV (R194): a unit that fails its check is delivered too. -/
def execGnssNav (ch : Nat) (u : NavIn) (s : State) : Host.Outcome State Fault Refusal :=
  if 192 ≤ ch ∨ gnssChState s ch ≠ 1 ∨ s.fb F.GNSS_CH_CFG_nav_en ch = false then .next s
  else
    let g := s.f F.GNSS_CH_CFG_signal ch
    let v := s.f F.GNSS_CH_CFG_svid ch
    let t := navUnit g v
    let cs := navChecks t.1 u.symbols
    .next (navDeliver s ([(0, 1, ch), (1, 1, g), (2, 1, v), (3, 1, t.1), (4, 4, (area s .nav).seq), (8, 1, navVerdict cs), (9, 1, bit u.inverted),
      (10, 2, t.2), (12, 2, navWordMask t.1 cs)] ++ slateLayout 16 (sampleSlate s (s.f F.GNSS_CH_CFG_port ch) u.sample (.ring (s.f F.GNSS_NAV_CFG_ring)))
        ++ navBits t.2 (Config.navBits t.1 u.symbols)))

/-- Verification counts as time-synchronised (R196). -/
def osnmaTimeOk (s : State) : Bool :=
  tsStateOf s 0 != .free && (match viewBoundPs s 2 with
    | some b => decide (b ≤ 10 ^ 12)
    | none => false)

/-- The Merkle tree root in GNSS_OSNMA_ROOT, word 0 first in hash byte order (R195). -/
def osnmaRoot (s : State) : Nat := (List.range 8).foldl (fun a i => a * 2 ^ 32 + (s.rg .GNSS_OSNMA_ROOT i).toNat) 0

/-- The root that a public key and the siblings on its path give (R195). -/
def merkleRoot (key : Nat) (path : List (Bool × Nat)) : Nat :=
  path.foldl (fun a b => Config.osnmaHash (if b.1 then [b.2, a] else [a, b.2])) (Config.osnmaHash [key])

/-- Steps 1 and 2 of R195: the public key stands in the Merkle tree, and its signature of KROOT is good. -/
def osnmaRootGood (s : State) (r : OsnmaRoot) : Bool :=
  merkleRoot r.key r.path == osnmaRoot s && Config.osnmaSignature r.p521 r.key r.kroot r.signature

/-- A key of the chain hashed back `n` steps from its place (R195). -/
def teslaBack (sha3 : Bool) : Nat → Nat → Nat → Nat
  | 0, _, key => key
  | n + 1, place, key => teslaBack sha3 n (place - 1) (Config.teslaStep sha3 place key)

/-- Step 3 of R195: the disclosed key leads back to the last verified key or to KROOT. -/
def osnmaKeyGood (o : OsnmaSt) (t : OsnmaTag) : Bool :=
  (match o.key with
    | some (p, k) => decide (p ≤ t.place) && teslaBack t.sha3 (t.place - p) t.place t.key == k
    | none => false)
  || (match o.kroot with
    | some k => teslaBack t.sha3 t.place t.place t.key == k
    | none => false)

/-- What a new public key and KROOT leave (R195): the chain begins anew. -/
def osnmaRooted (s : State) (t : OsnmaTag) : OsnmaSt :=
  match t.root with
  | none => s.gnss.osnma
  | some r => if osnmaRootGood s r then (if s.gnss.osnma.kroot = some r.kroot then s.gnss.osnma else ⟨some r.kroot, none⟩) else ⟨none, none⟩

/-- The result code of a tag (R195, R196), its steps in order: 3 without time synchronisation, 4 without a good KROOT, 2 where the key chain fails, 1 where the tag fails. -/
def osnmaResult (timeOk : Bool) (o : OsnmaSt) (t : OsnmaTag) : Nat :=
  if !timeOk then 3
  else if o.kroot.isNone then 4
  else if !osnmaKeyGood o t then 2
  else if Config.osnmaMac t.cmac t.key t.message != t.tag then 1
  else 0

/-- OSNMA_TAG_RESULT (R195, R196). -/
def execOsnmaTagResult (tag : OsnmaTag) (s : State) : Host.Outcome State Fault Refusal :=
  if !s.fb F.GNSS_OSNMA_CFG_enable then .next s
  else
    let o := osnmaRooted s tag
    let r := osnmaResult (osnmaTimeOk s) o tag
    let good := osnmaKeyGood o tag
    let s := s.setB F.GNSS_OSNMA_STATUS_kroot_valid o.kroot.isSome
    let s := if o.kroot.isSome then s.setB F.GNSS_OSNMA_STATUS_chain_ok good else s
    let g := s.gnss
    let newest := match o.key with
      | some (p, _) => decide (p < tag.place)
      | none => true
    let s := { s with gnss := { g with
      osnma := if o.kroot.isSome && good && newest then { o with key := some (tag.place, tag.key) } else o,
      auth := if r = 0 ∧ tag.adkd = 0 then (tag.sat, s.ticks) :: g.auth.filter (fun a => a.1 != tag.sat) else g.auth,
      s4 := g.s4 || (inSolution s tag.sat && (r == 1 || r == 2 || r == 4)) } }
    let s := s.setF F.GNSS_OSNMA_STATUS_sats (min 255 (osnmaAuth s))
    .next (navDeliver s ([(0, 1, 0xFF), (1, 1, 2), (2, 1, tag.sat), (3, 1, 8), (4, 4, (area s .nav).seq)]
      ++ slateLayout 16 (slateWide s 0 (.ring (s.f F.GNSS_NAV_CFG_ring)) 0 10)
      ++ [(32, 1, tag.sat), (33, 1, tag.adkd), (34, 2, tag.first), (36, 2, tag.last), (38, 1, r)]))

/-! ### Power states (R199, R200, R205) -/

/-- The baseband begins to wake. -/
def gnssWaking (s : State) : State := s.setF F.GNSS_STATUS_pstate 1

/-- GNSS_POWER (R199, R200, R205). -/
def execGnssPower (h : CmdHdr) (op retain : Nat) (s : State) : Host.Outcome State Fault Refusal :=
  if !h.mbz ∨ 2 < op ∨ 1 < retain then .next (badArg s h 0x73)
  else if s.log.isolated.contains 11 then .next (complete s h 0x73 .hwFault [])
  else if gnssP s = 1 then .next (complete s h 0x73 .busy [])
  else
    let done (t : State) : State := complete t h 0x73 .ok [(0, 1, gnssP t), (1, 1, bit (t.fb F.GNSS_STATUS_hot))]
    if op = 1 then
      if gnssP s = 2 then .next (done s)
      else
        let s := begins s h 0x73
        .next (gnssWaking { s with gnss := { s.gnss with wakers := s.gnss.wakers ++ [h], periodic := false } })
    else
      let dst := if op = 0 then 3 else 0
      let s := if gnssP s = dst then s else if gnssP s = 2 then gnssDown s dst else { s.setF F.GNSS_STATUS_pstate dst with gnss := { s.gnss with since := counterUnits (tsc s 0).cnt } }
      let s := if retain = 0 then { s with gnss := { s.gnss with image := none } } else s
      .next (done s)

/-- A stored ephemeris is at most 4 h old (R190). -/
def ephFresh (s : State) (x : ImageSat) : Bool :=
  match x.ephemeris with
  | some t => decide (counterUnits (tsc s 0).cnt ≤ (t + 14400) * unitsPerSec)
  | none => false

/-- The conditions of R190 on the wake as a whole: a valid image, TS0 not FREE with a bound of 2 µs at most, a valid position. -/
def hotWake (s : State) (img : Option GnssImage) : Bool :=
  tsStateOf s 0 != .free && (match tsBoundPs s 0 with
    | some b => decide (b ≤ 2000000)
    | none => false) && (match img with
    | some i => i.position.isSome
    | none => false)

/-- The system of a signal: 0 GPS, 1 Galileo, 2 BeiDou, 3 GLONASS (R182). -/
def gnssSystem (g : Nat) : Nat := if g ≤ 1 then 0 else if g ≤ 3 then 1 else if g ≤ 5 then 2 else 3

/-- The ports and signals that firmware searches: the enabled solutions' ports and systems (R190). -/
def searchPairs (s : State) : List (Nat × Nat) :=
  ((List.range 3).flatMap (fun p => (List.range 7).map (fun g => (p, g)))).filter (fun q =>
    gnssUsable s q.1 q.2 0 && s.fb F.GNSS_PORT_CFG_enable q.1 && (List.range 2).any (fun k =>
      s.fb F.GNSS_SOL_CFG_enable k && (s.f F.GNSS_SOL_CFG_ports k).testBit q.1 && (s.f F.GNSS_SOL_CFG_systems k).testBit (gnssSystem q.2)))

/-- A full search (R189, R190): every code phase, ±5 kHz, four coherent intervals of a primary period. -/
def fullSearch (p g v : Nat) (k : Int) : GnssAcqArgs := ⟨p, g, v, k, gnssPeriodMs g, 4, 0, 0, 0, 0, 5000⟩

/-- The searches of firmware for a port and a signal (R190): a window of ±4 chips and ±250 Hz where the wake is hot and the satellite's ephemeris fresh;
else a full search for the satellites that the almanac predicts; without an almanac for every satellite. -/
def searches (s : State) (img : Option GnssImage) (p g : Nat) : List GnssAcqArgs :=
  let now := counterUnits (tsc s 0).cnt
  let sats := ((img.map (fun i => i.sats)).getD []).filter (fun x => gnssSystem x.signal == gnssSystem g)
  let hot := if hotWake s img then sats.filter (ephFresh s) else []
  let rest := (sats.filter (fun x => x.almanac.isSome && !hot.contains x)).filter (fun x => Config.gnssUp g x.svid now)
  let window (x : ImageSat) : GnssAcqArgs :=
    ⟨p, g, x.svid, x.gloK, gnssPeriodMs g, 4, 1, Config.gnssCode g x.svid now, 8, Config.gnssDoppler g x.svid now, 250⟩
  if sats.any (fun x => x.almanac.isSome) || !hot.isEmpty then hot.map window ++ rest.map (fun x => fullSearch p g x.svid x.gloK)
  else if g = 6 then (List.range 14).map (fun k => fullSearch p g (k + 1) ((k : Int) - 7))
  else (List.range 63).map (fun v => fullSearch p g (v + 1) 0)

/-- GNSS_SETTLE_END (R190, R199, R200): the baseband is ON and firmware begins its searches. It does so `ticks` ticks
from now. `crcOk`: the CRC of the retention image matches. -/
def execGnssSettleEnd (crcOk : Bool) (ticks : Nat) (s : State) : Host.Outcome State Fault Refusal :=
  let s := advance s ticks
  if gnssP s ≠ 1 then .next s
  else
    let img := if crcOk then s.gnss.image else none
    let s := s.setB F.GNSS_STATUS_retain_valid img.isSome
    let s := s.setB F.GNSS_STATUS_hot (hotWake s img && (match img with
      | some i => i.sats.any (ephFresh s)
      | none => false))
    let s := s.setF F.GNSS_STATUS_pstate 2
    let w := s.gnss.wakers
    let s := { s with gnss := { s.gnss with wakers := [], plan := (searchPairs s).flatMap (fun q => searches s img q.1 q.2) } }
    .next (w.foldl (fun t h => finish t h 0x73 .ok [(0, 1, 2), (1, 1, bit (t.fb F.GNSS_STATUS_hot))]) s)

/-- `sec` seconds have passed on TS0 since the entry to SLEEP or the periodic wake (R199). -/
def wakePassed (s : State) (sec : Nat) : Bool := decide (s.gnss.since + sec * unitsPerSec ≤ counterUnits (tsc s 0).cnt)

/-- GNSS_WAKE (R199): the interval from the entry to SLEEP has passed on TS0, or the duration of a periodic wake. -/
def execGnssWake (s : State) : Host.Outcome State Fault Refusal :=
  if gnssP s = 3 ∧ s.f F.GNSS_WAKE_interval ≠ 0 ∧ wakePassed s (60 * s.f F.GNSS_WAKE_interval) = true then
    .next (event (gnssWaking { s with gnss := { s.gnss with periodic := true, since := counterUnits (tsc s 0).cnt } }) 0x0703 [(0, 1, 1)])
  else if gnssP s = 2 ∧ s.gnss.periodic = true ∧ wakePassed s (s.f F.GNSS_WAKE_duration) = true then .next (event (gnssDown s 3) 0x0703 [])
  else .next s

/-! ### Solutions (R197, R198) -/

/-- A view correction that firmware writes (R198): source 3 is never overwritten, and the GPS view takes no source 1. -/
def feedView (s : State) (f : ViewFeed) : State :=
  if f.view = 0 ∨ 5 ≤ f.view ∨ s.f F.TS_VIEW_CFG_source f.view = 3 then s
  else if 2 ≤ f.sats then
    ((s.setI F.TS_VIEW_CORR_corr (satInt 32 f.estimate) f.view).setF F.TS_VIEW_CFG_corr_bound (boundCode f.sigma3) f.view).setF F.TS_VIEW_CFG_source 2 f.view
  else match (if f.view = 1 then none else f.broadcast) with
    | some b =>
      let bnd := boundCodeOpt (addBound (viewBoundPs s 1) (some 20000))
      ((s.setI F.TS_VIEW_CORR_corr (satInt 32 (s.fi F.TS_VIEW_CORR_corr 1 + b)) f.view).setF F.TS_VIEW_CFG_corr_bound bnd f.view).setF F.TS_VIEW_CFG_source 1 f.view
    | none => (s.setF F.TS_VIEW_CFG_corr_bound 0xFF f.view).setF F.TS_VIEW_CFG_source 0 f.view

/-- The last tracked satellites with their Doppler in 2^-8 Hz (R200). -/
def trackedSats (s : State) : List (Nat × Nat × Int) :=
  ((List.range 192).filter (fun c => gnssChState s c == 1 && s.fb F.GNSS_CH_STATUS_carrier_lock c)).map (fun c =>
    (s.f F.GNSS_CH_CFG_signal c, s.f F.GNSS_CH_CFG_svid c, ncoDoppler s c (gnssCh s c).nco))

/-- SOLUTION_FEED (R197-R200): once per ensemble epoch while the baseband is ON firmware writes the views and the retention image and feeds the solution's
slots; too few satellites or a latched flag feeds nothing. -/
def execSolutionFeed (sol : Nat) (x : SolutionIn) (s : State) : Host.Outcome State Fault Refusal :=
  if 2 ≤ sol ∨ s.fb F.GNSS_SOL_CFG_enable sol = false ∨ gnssP s ≠ 2 then .next s
  else
    let img : GnssImage := ⟨x.sats, x.position, x.iono, x.utc, trackedSats s⟩
    let s := x.views.foldl feedView { s with gnss := { s.gnss with image := some img, solUsed := tset s.gnss.solUsed sol x.used } }
    let need := if s.f F.GNSS_SOL_CFG_min_sats sol = 0 then 4 else s.f F.GNSS_SOL_CFG_min_sats sol
    if x.used.length < need ∨ solFlagged s sol = true then .next s
    else
      let m : Meas := ⟨x.offset, some (3 * x.sigma + x.utcUnc + x.notch), 0, 0xFF, 0⟩
      .next ((List.range 32).foldl (fun t k =>
        if slotOn t k && t.f F.TS_REF_CFG_type k == 5 && t.f F.TS_REF_CFG_source k == sol then takeMeas t k m else t) s)

end Sys2Proof.Machine
end

