-- ==== Sys2Proof/Machine/Ports.lean ====
section
/-! DEFINITION. The Ethernet ports (10_ports.md), with the frames of the host's TXD and RXD rings (R315-R321). -/
namespace Sys2Proof.Machine
open Sys2Proof

/-! ### State and counters (R208, R219) -/

/-- Counter `i` of port `p` (R219). -/
def portCnt (s : State) (p i : Nat) : Nat := tget (port s p).cnt 0 i

/-- Add to a counter, saturating at 2^64 − 1 (R219). -/
def portCount (s : State) (p i k : Nat) : State :=
  setPort s p { port s p with cnt := tset (port s p).cnt i (satNat 64 (portCnt s p i + k)) }

/-- Port `p` has a timing role (R209). -/
def timingRole (s : State) (p : Nat) : Bool :=
  (List.range 4).any (fun i => s.fb F.PTP_INST_CFG_enable i && (s.f F.PTP_INST_CFG_ports i).testBit p)
  || (List.range 4).any (fun i => s.fb F.NTP_INST_CFG_enable i && (s.f F.NTP_INST_CFG_ports i).testBit p)
  || portFeedsDpll s p || s.fb F.PORT_CFG_esmc_en p

/-! ### TX timestamps (R217, R218) -/

/-- The slate of a frame not sent. -/
def unsentSlate (s : State) (p : Nat) : Slate := { Slate.none with ts := s.f F.PORT_CFG_ts p }

/-- An entry of the queue falls due (R217, R218). -/
def txtsPut (s : State) (p : Nat) (e : TxStamp) : State :=
  let x := port s p
  if 64 ≤ x.txts.length then (s.inc .PORT_TXTS_DROP p).setB F.PORT_TXTS_STATUS_overflow true p
  else (setPort s p { x with txts := x.txts ++ [e] }).setF F.PORT_TXTS_STATUS_fill (x.txts.length + 1) p

/-- Requests whose frames are discarded give entries with status 1 (R218). -/
def txtsAbort (s : State) (p : Nat) : State :=
  let ids := (port s p).stamps
  ids.foldl (fun t i => txtsPut t p ⟨i, false, unsentSlate t p⟩) (setPort s p { port s p with stamps := [] })

/-- The place of a timestamp point from the last edge on timescale `n` in 2^-48 ns: `frac` 2^-32 of a cycle, and a latency in 2^-8 ps. -/
def pointSub (s : State) (n frac : Nat) (lat : Int) : Int := rateIncr s 4 n * frac / 2 ^ 32 + lat * 2 ^ 40 / 1000

/-- The same on the timescale of port `p`. -/
def portSub (s : State) (p frac : Nat) (lat : Int) : Int := pointSub s (s.f F.PORT_CFG_ts p) frac lat

/-- PORT_MAC of port `p`. -/
def portMac (s : State) (p : Nat) : Nat := s.f F.PORT_MAC_HI_value p * 2 ^ 32 + s.f F.PORT_MAC_LO_value p

/-- The clock that times port `p` gives its edges a bound (R136): AP0, or an APLL that is LOCKED with its DPLL LOCKED and, with det = 1, DONE. -/
def portClockFine (s : State) (p : Nat) : Bool :=
  let a := s.f F.PORT_CFG_ref_apll p
  let d := s.f F.AP_CFG_dpll a
  a == 0 || s.fb F.PORT_STATUS_ref_on_ap0 p
    || (apState s a == 3 && (d == 0 || (dpState s d == 3 && (!s.fb F.DP_CFG_det d || s.f F.DP_STATUS_det_state d == 2))))

/-- The slates of port `p` state its timestamps with a bound: UP, calibrated, and its clock fine (R136, R211, R212). -/
def portFine (s : State) (p : Nat) : Bool := portState s p == 3 && !s.fb F.PORT_STATUS_cal_failed p && portClockFine s p

/-- The port component of R86 in ps. -/
def portPs (s : State) (p : Nat) : Nat := if s.fb F.PORT_CFG_fec p then 12 else 4

/-- The slate of a timestamp point of port `p` on the timescale that consumer `c` follows (R64, R210). -/
def pointSlate (s : State) (c p : Nat) (d : Dest) (sub : Int) : Slate :=
  let x := consumerSlate s c d sub (portPs s p)
  if portFine s p then x else { x with bnd := 0xFF }

/-- The slate of a timestamp point (R210). -/
def portSlate (s : State) (p : Nat) (d : Dest) (sub : Int) : Slate := pointSlate s (6 + p) p d sub

/-- The slate of a message that passes port `p` at `frac` 2^-32 of a cycle after the last edge, received or sent, as service instance consumer `c`
takes it (R64, R210): PTP instance i is consumer 10 + i, NTP instance i consumer 14 + i. -/
def serviceSlate (s : State) (c p frac : Nat) (rx : Bool) : Slate :=
  let lat : Int := if rx then -(s.f F.PORT_LAT_RX_value p : Int) else s.f F.PORT_LAT_TX_value p
  pointSlate s c p .log (pointSub s ((consumerTs s c).getD 0) frac lat)

/-- TX_TIMESTAMP (R210, R217, R218): the SFD of the oldest frame with a stamp request leaves the transmit ball. -/
def execTxTimestamp (port_ ticks frac : Nat) (s : State) : Host.Outcome State Fault Refusal :=
  let s := advance s ticks
  match (port s port_).stamps with
  | [] => .next s
  | i :: r =>
    let d := Dest.txq port_
    let x := portSlate s port_ d (portSub s port_ frac (s.f F.PORT_LAT_TX_value port_))
    let s := setPort s port_ { port s port_ with stamps := r }
    .next (sentTo (txtsPut s port_ ⟨i, true, x⟩) x.ts d)

/-- TX_TIMESTAMP_DRAIN (R217, R316): the oldest entry goes to the ring of PORT_TXTS_CFG. -/
def execTxTimestampDrain (port_ : Nat) (s : State) : Host.Outcome State Fault Refusal :=
  let r := s.f F.PORT_TXTS_CFG_ring port_
  match (port s port_).txts with
  | [] => .next s
  | e :: l =>
    if cplEnabled s r && decide (0 < cplRoom s r) && s.fb F.HOST_STATUS_bus_master then
      let s := (setPort s port_ { port s port_ with txts := l }).setF F.PORT_TXTS_STATUS_fill l.length port_
      .next (cplWrite s r (.txStamp (if e.sent then .ok else .aborted) e.id port_ e.slate))
    else .next s

/-! ### TXD chains (R214-R216, R315-R317) -/

/-- The descriptors of the first chain of a TXD ring, through its EOP; none until the EOP is fetched. -/
def firstChain : List TxDesc → Option (List TxDesc)
  | [] => none
  | d :: r => if d.eop then some [d] else (firstChain r).map (fun c => d :: c)

/-- Bytes of a frame on the wire: padded to 60, and the FCS (R214). -/
def wireLen (n : Nat) : Nat := max 60 n + 4

/-- The bytes of a chain (R315): the buffers of its descriptors in order. -/
def chainData (c : List TxDesc) : List Nat := c.flatMap (fun d => (d.data ++ List.replicate d.length 0).take d.length)

/-- Byte `o` of a frame. -/
def frameByte (f : List Nat) (o : Nat) : Nat := (f[o]?).getD 0

/-- A big-endian field of two bytes. -/
def be16 (f : List Nat) (o : Nat) : Nat := frameByte f o * 256 + frameByte f (o + 1)

/-- A frame with the bytes from `o` on replaced. -/
def putBytes (f : List Nat) (o : Nat) (b : List Nat) : List Nat := f.take o ++ b ++ f.drop (o + b.length)

/-- Where the EtherType stands after at most `k` VLAN tags (R215). -/
def etherTypeAt (f : List Nat) : Nat → Nat → Nat
  | 0, o => o
  | k + 1, o => if be16 f o = 0x8100 ∨ be16 f o = 0x88A8 then etherTypeAt f k (o + 4) else o

/-- The parser of R215: up to two VLAN tags, IPv4 with options or IPv6 without extension headers, TCP or UDP. -/
def parseIp (f : List Nat) : Option IpAt :=
  let t := etherTypeAt f 2 12
  let l3 := t + 2
  let v6 := be16 f t == 0x86DD
  let proto := frameByte f (l3 + if v6 then 6 else 9)
  let l4 := l3 + if v6 then 40 else 4 * (frameByte f l3 % 16)
  let ok := if v6 then frameByte f l3 / 16 == 6 else be16 f t == 0x0800 && frameByte f l3 / 16 == 4 && decide (5 ≤ frameByte f l3 % 16)
  if ok && (proto == 6 || proto == 17) && decide (l4 + (if proto = 6 then 20 else 8) ≤ f.length) then some ⟨l3, l4, v6, proto == 6⟩ else none

/-- The ones' complement sum of bytes taken as big-endian 16-bit words. -/
def onesSum (b : List Nat) : Nat :=
  let rec go : List Nat → Nat
    | [] => 0
    | [x] => x * 256
    | x :: y :: r => x * 256 + y + go r
  let t := go b
  if t = 0 then 0 else (t - 1) % 65535 + 1

/-- The checksums of CSUM (R215): the IPv4 header's, and the TCP or UDP checksum over the pseudo-header; a UDP checksum over IPv4 that computes to 0
is sent as 0xFFFF. -/
def insertChecksums (f : List Nat) (a : IpAt) : List Nat :=
  let part (o n : Nat) (g : List Nat) : List Nat := (g.drop o).take n
  let f := if a.v6 then f else
    let g := putBytes f (a.l3 + 10) [0, 0]
    putBytes g (a.l3 + 10) (beBytes 2 (65535 - onesSum (part a.l3 (a.l4 - a.l3) g)))
  let len := if a.v6 then be16 f (a.l3 + 4) - (a.l4 - a.l3 - 40) else be16 f (a.l3 + 2) - (a.l4 - a.l3)
  let at_ := a.l4 + if a.tcp then 16 else 6
  let g := putBytes f at_ [0, 0]
  let pseudo := (if a.v6 then part (a.l3 + 8) 32 g else part (a.l3 + 12) 8 g) ++ [0, if a.tcp then 6 else 17] ++ beBytes 2 len
  let c := 65535 - onesSum (pseudo ++ part a.l4 len g)
  putBytes g at_ (beBytes 2 (if c = 0 ∧ a.tcp = false ∧ a.v6 = false then 65535 else c))

/-- Segment `i` of `n` of a chain (R216): a copy of the headers with its own lengths, IPv4 identification, sequence number and flags, at most MSS bytes of
the payload, and the checksums. -/
def segmentFrame (f : List Nat) (a : IpAt) (hdr mss n i : Nat) : List Nat :=
  let pay := ((f.drop hdr).drop (i * mss)).take mss
  let g := f.take hdr ++ pay
  let g := if a.v6 then putBytes g (a.l3 + 4) (beBytes 2 (hdr + pay.length - a.l3 - 40))
    else putBytes (putBytes g (a.l3 + 2) (beBytes 2 (hdr + pay.length - a.l3))) (a.l3 + 4) (beBytes 2 (be16 f (a.l3 + 4) + i))
  let g := putBytes g (a.l4 + 4) (beBytes 4 (be16 f (a.l4 + 4) * 65536 + be16 f (a.l4 + 6) + i * mss))
  let keep := 0x76 + (if i + 1 = n then 0x09 else 0) + (if i = 0 then 0x80 else 0)
  insertChecksums (putBytes g (a.l4 + 13) [frameByte f (a.l4 + 13) &&& keep]) a

/-- How many frames port `p` sends for a chain, or none for BAD_ARG (R214-R217, R315). -/
def chainCount (s : State) (p ofl : Nat) (c : List TxDesc) : Option Nat :=
  let total := (c.map TxDesc.length).sum
  let maxf := s.f F.PORT_MAXF_max_frame p
  match c.head? with
  | none => none
  | some h =>
    if 64 < c.length ∨ c.any (fun d => d.length == 0 || !d.mbz) = true ∨ total < 14 then none
    else if h.stamp = true ∧ ringType s (s.f F.PORT_TXTS_CFG_ring p) ≠ 1 then none
    else if ofl ≠ 2 then (if maxf < wireLen total then none else some 1)
    else match parseIp (chainData c) with
      | none => none
      | some a =>
        if a.tcp = false ∨ h.stamp = true ∨ 256 < h.hdrLen ∨ total < h.hdrLen ∨ h.hdrLen < a.l4 + 20 ∨ 262144 < total - h.hdrLen ∨ h.mss < 64
            ∨ 9000 < h.mss ∨ maxf < h.hdrLen + h.mss + 4 then none
        else some (max 1 (cdiv (total - h.hdrLen) h.mss))

/-- Frame `i` of the `n` of a chain as the port sends it, up to the FCS (R214-R216): offloaded, and padded to 60 bytes. -/
def chainFrame (ofl n : Nat) (c : List TxDesc) (i : Nat) : List Nat :=
  let f := chainData c
  let g := match ofl, parseIp f with
    | 1, some a => insertChecksums f a
    | 2, some a => segmentFrame f a ((c.head?.map TxDesc.hdrLen).getD 0) ((c.head?.map TxDesc.mss).getD 1) n i
    | _, _ => f
  g ++ List.replicate (60 - g.length) 0

/-- Bytes of a chain on the wire, FCS and padding included (R214, R316). -/
def chainBytes (ofl n : Nat) (c : List TxDesc) : Nat :=
  let total := (c.map TxDesc.length).sum
  if ofl ≠ 2 then wireLen total
  else
    let hdr := (c.head?.map TxDesc.hdrLen).getD 0
    let mss := (c.head?.map TxDesc.mss).getD 1
    (n - 1) * wireLen (hdr + mss) + wireLen (total - (n - 1) * mss)

/-- A chain completes (R316): its completion waits for the ring's CPL ring. -/
def chainDone (s : State) (r : Nat) (c : List TxDesc) (st : Status) (bytes segs : Nat) : State :=
  let x := ring s r
  let s := setRing s r { x with txq := x.txq.drop c.length }
  cplQueue s (s.f F.HOST_RING_CFG_cpl_ring r) (.txd st c.length r ((c.getLast?.map TxDesc.cookie).getD 0) bytes segs)

/-- A frame that the port discards before it started: ABORTED, and an entry for its stamp request (R208, R218). -/
def chainAbort (s : State) (r : Nat) (c : List TxDesc) : State :=
  let p := s.f F.HOST_RING_CFG_port r
  let s := match c.head? with
    | some h => if h.stamp then txtsPut s p ⟨h.stampId, false, unsentSlate s p⟩ else s
    | none => s
  chainDone s r c .aborted 0 0

/-- Every chain of a TXD ring completes with ABORTED. -/
def abortChains (s : State) (r : Nat) : Nat → State
  | 0 => s
  | k + 1 => match firstChain (ring s r).txq with
    | some c => abortChains (chainAbort s r c) r k
    | none => s

/-- The TXD rings of port `p` that may send. -/
def txdRings (s : State) (p : Nat) : List Nat :=
  (List.range 64).filter (fun r => ringType s r == 2 && (ringState s r == 1 || ringState s r == 2) && s.f F.HOST_RING_CFG_port r == p)

/-- The ring whose turn it is at port `p`: in ascending ring order after the one that sent last (R317); a ring whose CPL ring is full stops sending
(R313). -/
def txdTurn (s : State) (p : Nat) : Option Nat :=
  let ready := (txdRings s p).filter (fun r => (firstChain (ring s r).txq).isSome && cplRoom s (s.f F.HOST_RING_CFG_cpl_ring r) != 0)
  match ready.find? (fun r => (port s p).lastTxd < r) with
  | some r => some r
  | none => ready.head?

/-- Tokens of port `p` in 1/625 bit (R378): a bucket of cap × 1 ms that fills at the cap. -/
def txTokens (s : State) (p : Nat) : Nat :=
  let cap := s.f F.GOV_PORT_TXCAP_value p
  625000 * cap - ((port s p).spent - (s.ticks - (port s p).spentAt) * cap)

/-- Tokens that a frame takes in 1/625 bit: its bits from preamble to FCS (R378). -/
def frameTokens (bytes : Nat) : Nat := 625 * 8 * (8 + bytes)

/-- The bucket of port `p` lets a frame go (R378); one that the whole bucket cannot hold goes from a full one (DESIGN CHOICE, notes/assumptions/78.md). -/
def txAllowed (s : State) (p bytes : Nat) : Bool :=
  decide (min (frameTokens bytes) (625000 * s.f F.GOV_PORT_TXCAP_value p) ≤ txTokens s p)

/-- The bucket after a frame. -/
def txSpend (s : State) (p bytes : Nat) : State :=
  let x := port s p
  setPort s p { x with spent := x.spent - (s.ticks - x.spentAt) * s.f F.GOV_PORT_TXCAP_value p + frameTokens bytes, spentAt := s.ticks }

/-- The frame at the head of the ring whose turn it is could leave port `p` now (R253, R302, R317, R378, R417): its ring, chain, frames and the number of this one. -/
def txdReady (s : State) (p : Nat) : Option (Nat × List TxDesc × Nat × Nat) :=
  if portState s p < 2 ∨ s.fb F.PORT_STATUS_lpi_tx p = true ∨ s.f F.PWR_RUN_run_state = 4 ∨ s.fb F.HOST_STATUS_bus_master = false then none
  else match txdTurn s p with
    | none => none
    | some r => match firstChain (ring s r).txq with
      | none => none
      | some c => match chainCount s p (s.f F.HOST_RING_CFG_tx_offload r) c with
        | none => none
        | some n =>
          let i := tget (port s p).segs 0 r
          if txAllowed s p ((chainFrame (s.f F.HOST_RING_CFG_tx_offload r) n c i).length + 4) then some (r, c, n, i) else none

/-- Frame `i` of the `n` of the chain at the head of ring `r` leaves port `p` (R214-R218, R316, R378); the last one completes the chain. -/
def txdSend (s : State) (p r : Nat) (c : List TxDesc) (n i : Nat) : State :=
  let ofl := s.f F.HOST_RING_CFG_tx_offload r
  let f := chainFrame ofl n c i
  let x := port s p
  let want := match c.head? with
    | some h => if h.stamp then [h.stampId] else []
    | none => []
  let s := setPort s p { x with stamps := x.stamps ++ want, lastTxd := r, tseRun := 0, segs := tset x.segs r (if i + 1 < n then i + 1 else 0) }
  let s := txSpend s p (f.length + 4)
  let s := portCount (portCount s p 8 1) p 9 (f.length + 4)
  let s := if ofl = 2 then portCount s p 10 1 else s
  let s := s.emit (.hostFrame p r f)
  if i + 1 < n then s else chainDone s r c .ok (chainBytes ofl n c) n

/-- TXD_CHAIN (R208, R214-R217, R315-R317, R378): the next frame of ring `ring`, `ticks` ticks from now. On a DISABLED port its chain completes with ABORTED; while the port is
DOWN, its transmitter is in LPI, too few tokens are there, or the run state is SAFE (R417), it waits. -/
def execTxdChain (ring_ ticks : Nat) (s : State) : Host.Outcome State Fault Refusal :=
  let s := advance s ticks
  let p := s.f F.HOST_RING_CFG_port ring_
  match firstChain (ring s ring_).txq with
  | none => .next s
  | some c =>
    if 64 ≤ ring_ ∨ ringType s ring_ ≠ 2 ∨ (ringState s ring_ ≠ 1 ∧ ringState s ring_ ≠ 2) ∨ s.f F.PWR_RUN_run_state = 4 then .next s
    else match chainCount s p (s.f F.HOST_RING_CFG_tx_offload ring_) c with
      | none => .next (chainDone s ring_ c .badArg 0 0)
      | some _ =>
        if portState s p = 0 then .next (chainAbort s ring_ c)
        else match txdReady s p with
          | some (r, c, n, i) => .next (if r = ring_ then txdSend s p r c n i else s)
          | none => .next s

/-- The transmitter of port `p` wakes for a frame that does not come from a ring (R223): the wake time passes. -/
def portAwake (s : State) (p : Nat) : State :=
  if s.fb F.PORT_STATUS_lpi_tx p then (advance s (max (s.f F.PORT_LPI_CFG_tw_tx p) 12 * 625)).setB F.PORT_STATUS_lpi_tx false p else s

/-- A TSE frame leaves port `p` (R219, R253): counted as one frame; where a TXD frame waits too, every eighth frame is a TXD frame. -/
def tseOut (s : State) (p bytes : Nat) (f : Pdu) : State :=
  let s := match txdReady s p with
    | some (r, c, n, i) => if 7 ≤ (port s p).tseRun then txdSend s p r c n i else s
    | none => s
  let run := if (txdReady s p).isSome then (port s p).tseRun + 1 else 0
  let s := setPort s p { port s p with tseRun := run }
  portCount (portCount (s.emit (.frame p f)) p 8 1) p 9 bytes

/-! ### Link states (R208, R211, R212, R17) -/

/-- The link of port `p` goes DOWN or DISABLED from where it is: LPI ends, a measurement is abandoned, frames in flight are lost. -/
def portLeave (s : State) (p : Nat) : State :=
  let s := { s with ports := { s.ports with gearQ := s.ports.gearQ.filter (fun q => q.2 != p) } }
  txtsAbort ((s.setB F.PORT_STATUS_lpi_tx false p).setB F.PORT_STATUS_lpi_rx false p) p

/-- Port `p` goes DOWN by `cause` (R208). -/
def portDown (s : State) (p cause : Nat) : State :=
  let st := portState s p
  if st = 0 then s
  else
    let s := s.setF F.PORT_STATUS_link_down_cause cause p
    let s := if st = 1 then s else portCount s p 11 1
    portSet (portLeave s p) p 1

/-- PORT_CFG_WRITE (R207, R208, R220). -/
def execPortCfgWrite (port_ : Nat) (value : Word) (s : State) : Host.Outcome State Fault Refusal :=
  if 4 ≤ port_ then .next (violation s)
  else
    let was := s.fb F.PORT_CFG_enable port_
    let dly := s.fb F.PORT_CFG_stats_reader port_
    let s := regWrite s ⟨.PORT_CFG, port_, 0⟩ value
    let s := if s.fb F.PORT_CFG_stats_reader port_ = dly then s else setPort s port_ { port s port_ with dlyFirst := !dly }
    let now := s.fb F.PORT_CFG_enable port_
    let s := if now && !was then portSet (if portRefReady s port_ then s else s.setF F.PORT_STATUS_link_down_cause 7 port_) port_ 1
      else if was && !now then
        let s := s.setF F.PORT_STATUS_link_down_cause 1 port_
        let s := portSet (portLeave s port_) port_ 0
        let s := s.setB F.PORT_STATUS_ref_on_ap0 false port_
        (List.range 64).foldl (fun t r =>
          if ringType t r == 2 && t.f F.HOST_RING_CFG_port r == port_ then abortChains t r (ring t r).txq.length else t) s
      else s
    .next (lpiCheckAll (dpEvalAll s))

/-- AP0's loss takes down every enabled port (R137, R208). -/
def portsAp0Lost (s : State) : State := (List.range 4).foldl (fun t p => portDown t p 5) s

/-- PORT_BLOCK_LOCK (R208, R212, R418): block lock after any training; without its reference the port stays DOWN with cause 7. A port that the
thermal limit holds down stays DOWN. -/
def execPortBlockLock (port_ : Nat) (s : State) : Host.Outcome State Fault Refusal :=
  if 4 ≤ port_ ∨ portState s port_ ≠ 1 ∨ (3 ≤ s.f F.PWR_RUN_therm_step ∧ timingRole s port_ = false) then .next s
  else if !portRefReady s port_ then .next (s.setF F.PORT_STATUS_link_down_cause 7 port_)
  else
    let s := (s.setB F.PORT_STATUS_cal_failed false port_).setB F.PORT_STATUS_ref_on_ap0 false port_
    .next (portCalibrate (setPort s port_ { port s port_ with fails := 0 }) port_)

/-- Auto-negotiation and training run only in the KR and CR modes (R206). -/
def modeTrains (s : State) (p : Nat) : Bool := [2, 4, 5].contains (s.f F.PORT_CFG_mode p)

/-- PORT_LINK_DOWN (R206, R208): signal or block lock lost, training failed, AP0 lost, or the thermal limit. -/
def execPortLinkDown (port_ cause : Nat) (s : State) : Host.Outcome State Fault Refusal :=
  if 4 ≤ port_ ∨ cause < 2 ∨ 6 < cause ∨ (cause = 4 ∧ modeTrains s port_ = false) then .next s else .next (portDown s port_ cause)

/-- The thermal limit takes down the ports without a timing role (R209). -/
def portThermal (s : State) : State :=
  (List.range 4).foldl (fun t p => if portState t p = 0 ∨ timingRole t p = true then t else portDown t p 6) s

/-- PORT_REF_SWITCH (R212): to the AP0 tap when the selected APLL enters LOST, and back when it and its DPLL are LOCKED again, with
det_state DONE where det = 1. Either way an UP port passes through CALIBRATING. -/
def execPortRefSwitch (port_ : Nat) (s : State) : Host.Outcome State Fault Refusal :=
  let a := s.f F.PORT_CFG_ref_apll port_
  let d := s.f F.AP_CFG_dpll a
  let onAp0 := s.fb F.PORT_STATUS_ref_on_ap0 port_
  let back := onAp0 && apState s a == 3 && (d == 0 || (dpState s d == 3 && (!s.fb F.DP_CFG_det d || s.f F.DP_STATUS_det_state d == 2)))
  if 4 ≤ port_ ∨ a = 0 ∨ portState s port_ < 2 ∨ ((onAp0 = true ∨ apState s a ≠ 4) ∧ back = false) then .next s
  else
    .next (portCalibrate (s.setB F.PORT_STATUS_ref_on_ap0 (!onAp0) port_) port_)

/-! ### Gearbox measurements and probes (R17, R210, R211) -/

/-- The latency registers from the last measurement and PORT_TS_ADJ (R210). -/
def portLat (s : State) (p : Nat) : State :=
  match (port s p).base with
  | none => s
  | some (rx, tx) =>
    (s.setI F.PORT_LAT_RX_value (rx + s.fi F.PORT_TS_ADJ_RX_value p) p).setI F.PORT_LAT_TX_value (tx + s.fi F.PORT_TS_ADJ_TX_value p) p

/-- A write of PORT_TS_ADJ_RX or PORT_TS_ADJ_TX (R210). -/
def portAdjWrite (s : State) (n : RegName) (p : Nat) (value : Word) : State := portLat (regWrite s ⟨n, p, 0⟩ value) p

/-- A probe result (CLAP_PROBE_LO, CLAP_PROBE_HI), s64 in 2^-8 ps. -/
def setProbe (s : State) (k : Nat) (v : Int) : State :=
  let u := twos 64 v
  (s.wr .CLAP_PROBE_LO k 0 (BitVec.ofNat 32 u)).wr .CLAP_PROBE_HI k 0 (BitVec.ofNat 32 (u / 2 ^ 32))

/-- GEARBOX_MEASUREMENT_DONE (R17, R208, R210, R211): the first port of the queue, with the rms and the phases of probes 6 and 7 in 2^-8 ps. An
rms over 5 ps fails: the port waits again, and after three failures it is UP with cal_failed. -/
def execGearboxMeasurementDone (port_ rms rxPhase txPhase : Nat) (s : State) : Host.Outcome State Fault Refusal :=
  if s.ports.gearQ.head?.map (fun e => e.2) ≠ some port_ ∨ portState s port_ ≠ 2 then .next s
  else
    let s := setProbe (setProbe s 6 rxPhase) 7 txPhase
    let x := port s port_
    let s := { s with ports := { s.ports with gearQ := s.ports.gearQ.drop 1 } }
    if rms ≤ 1280 then
      let d (rx : Bool) : Nat := Config.portDelay port_ (s.f F.PORT_CFG_mode port_) (s.fb F.PORT_CFG_fec port_) rx
      let s := setPort s port_ { x with fails := 0, base := some (d true + rxPhase, d false + txPhase) }
      .next (portSet (portLat s port_) port_ 3)
    else if x.fails < 2 then
      let s := setPort s port_ { x with fails := x.fails + 1 }
      .next { s with ports := { s.ports with gearQ := s.ports.gearQ ++ [(s.ticks, port_)] } }
    else
      let s := logRec s 2 0x0880 [(0, 1, port_), (1, 1, 3), (4, 4, satNat 32 rms)]
      let s := (setPort s port_ { x with fails := 0 }).setB F.PORT_STATUS_cal_failed true port_
      .next (portSet s port_ 3)

/-- Probe 2 has measured AP0's output (R126, R134): DP0 reports the residual without correcting it, and is LOCKED while AP0 is. -/
def probe2Done (s : State) (value : Int) : State :=
  if apState s 0 = 3 then
    dpEval ({ s with loops := { s.loops with probe2 := true } }.setI F.DP_STATUS_residual (residualPs value) 0) 0
  else s

/-- PROBE_MEASUREMENT_DONE (R16): probes 1 to 5; probe 1 measures in role STAND_IN only. -/
def execProbeMeasurementDone (probe : Nat) (value : Int) (s : State) : Host.Outcome State Fault Refusal :=
  if probe = 0 ∨ 5 < probe ∨ (probe = 1 ∧ standIn s = false) then .next s
  else .next (if probe = 2 then probe2Done (setProbe s probe value) value else setProbe s probe value)

/-! ### Receive (R213, R226, R318-R321) -/

/-- The RXD ring of port `p` for a steering class (R319): 1 PTP, 2 NTP, 3 link, 4 default. -/
def steerRing (s : State) (p cls : Nat) : Nat :=
  let r := match cls with
    | 1 => s.f F.HOST_RXSTEER_ptp p
    | 2 => s.f F.HOST_RXSTEER_ntp p
    | 3 => s.f F.HOST_RXSTEER_link p
    | _ => 0
  if r = 0 then s.f F.HOST_RXSTEER_dflt p else r

/-- Bytes of a frame that buffers hold. -/
def stagedWritten (x : StagedFrame) : Nat := (x.used.map Prod.snd).sum

/-- Bytes of port `p` in staging. -/
def stagedBytes (s : State) (p : Nat) : Nat :=
  (s.host.staged.map (fun x => if x.port = p then x.length - stagedWritten x else 0)).sum

/-- CPL entries owed to ring `c` by buffers already consumed, and entries that wait for it. -/
def cplOwed (s : State) (c : Nat) : Nat :=
  (s.host.staged.map (fun x => if s.f F.HOST_RING_CFG_cpl_ring x.ring = c then x.used.length else 0)).sum
  + ((ring s c).waiting.map cplSlots).sum

/-- A buffer of RXD ring `r` is available (R302, R320). -/
def bufferReady (s : State) (r : Nat) : Bool :=
  let c := s.f F.HOST_RING_CFG_cpl_ring r
  s.fb F.HOST_STATUS_bus_master && (ringState s r == 1 || ringState s r == 2) && ringType s r == 3 && !(ring s r).rxq.isEmpty
  && cplEnabled s c && decide (cplOwed s c < cplRoom s c)

/-- Staged frame `k` takes the buffers it needs, until it is complete or finds none and its wait begins (R320). -/
def stageFill (s : State) (k : Nat) : Nat → State
  | 0 => s
  | fuel + 1 =>
    match s.host.staged[k]? with
    | none => s
    | some x =>
      let left := x.length - stagedWritten x
      if left = 0 then s
      else match (ring s x.ring).rxq with
        | d :: rest =>
          if bufferReady s x.ring then
            let s := setRing s x.ring { ring s x.ring with rxq := rest }
            let y := { x with used := x.used ++ [(d, min left d.length)], waiting := none }
            stageFill { s with host := { s.host with staged := s.host.staged.set k y } } k fuel
          else { s with host := { s.host with staged := s.host.staged.set k { x with waiting := some (x.waiting.getD s.ticks) } } }
        | [] => { s with host := { s.host with staged := s.host.staged.set k { x with waiting := some (x.waiting.getD s.ticks) } } }

/-- The staged frames of a ring take buffers in order. -/
def stageRing (s : State) (r : Nat) : State :=
  (List.range s.host.staged.length).foldl (fun t k =>
    match t.host.staged[k]? with
    | some x => if x.ring = r then stageFill t k (cdiv x.length 64 + 1) else t
    | none => t) s

/-- A staged frame is dropped (R320): its consumed descriptors go back unused. -/
def stageDrop (s : State) (k : Nat) : State :=
  match s.host.staged[k]? with
  | none => s
  | some x =>
    let c := s.f F.HOST_RING_CFG_cpl_ring x.ring
    let s := { s with host := { s.host with staged := s.host.staged.eraseIdx k } }
    let n := x.used.length
    let s := (List.range n).foldl (fun t j =>
      match x.used[j]? with
      | some (d, _) => cplQueue t c (.rxd .droppedNobuf 0 x.ring (if j = 0 then 2 else 0) x.steer d.cookie 0 x.port none)
      | none => t) s
    s.inc .HOST_RING_DROP x.ring

/-- The staged frame of port `p` that waits longest. -/
def longestWait (s : State) (p : Nat) : Option Nat :=
  (List.range s.host.staged.length).foldl (fun (b : Option Nat) k =>
    match s.host.staged[k]? with
    | some x => match x.waiting with
      | some t => if x.port = p then (match b with
          | some q => match s.host.staged[q]? with
            | some y => if (y.waiting.getD t) ≤ t then b else some k
            | none => some k
          | none => some k) else b
      | none => b
    | none => b) none

/-- Frames that wait are dropped, longest wait first, until `n` more bytes fit (R321). -/
def stageRoom (s : State) (p n : Nat) : Nat → State
  | 0 => s
  | fuel + 1 =>
    if stagedBytes s p + n ≤ 262144 then s
    else match longestWait s p with
      | some k => stageRoom (stageDrop s k) p n fuel
      | none => s

/-- A frame goes to the RXD rings of its port (R319-R321); in SAFE it is dropped (R417). -/
def rxDeliver (s : State) (p cls length : Nat) (oversize : Bool) (frac : Nat) (data : List Nat) : State :=
  let r := steerRing s p cls
  if r = 0 then s.inc .HOST_RX_NORING p
  else if s.f F.PWR_RUN_run_state = 4 then s.inc .HOST_STAGE_DROP p
  else
    let s := stageRoom s p length s.host.staged.length
    if 262144 < stagedBytes s p + length then s.inc .HOST_STAGE_DROP p
    else
      let x := portSlate s p (.ring (s.f F.HOST_RING_CFG_cpl_ring r)) (portSub s p frac (-(s.f F.PORT_LAT_RX_value p : Int)))
      stageRing { s with host := { s.host with staged := s.host.staged ++ [⟨r, p, length, cls, oversize, oversize, x, [], none, (data ++ List.replicate length 0).take length⟩] } } r

/-- Steering class of a frame that no TSE rule claims (R319). -/
def steerClass : RxKind → Nat
  | .ptp => 1
  | .ntp => 2
  | .link _ => 3
  | .other => 4

/-- RX_FRAME (R210, R213, R219, R226, R319-R321). -/
def execRxFrame (port_ : Nat) (f : RxFrame) (s : State) : Host.Outcome State Fault Refusal :=
  let s := advance s f.ticks
  let st := portState s port_
  if 4 ≤ port_ ∨ (st ≠ 2 ∧ st ≠ 3) then .next s
  else
    let s := portCount (portCount s port_ 6 f.fecCorr) port_ 7 f.fecUncorr
    let maxf := s.f F.PORT_MAXF_max_frame port_
    if f.length < 64 then .next (portCount s port_ 2 1)
    else if maxf < f.length then
      let s := portCount s port_ 3 1
      .next (if s.fb F.PORT_CFG_ovs_fwd port_ then rxDeliver s port_ 4 maxf true f.frac f.data else s)
    else if f.fcsOk = false ∨ f.fecUncorr ≠ 0 then .next (portCount s port_ 4 1)
    else
      let s := portCount (portCount s port_ 0 1) port_ 1 f.length
      let s := match f.kind with
        | .link (some q) =>
          ((s.setF F.PORT_ESMC_STATUS_rx_ql q port_).setB F.PORT_ESMC_STATUS_rx_valid true port_).setB F.PORT_ESMC_STATUS_rx_failed false port_
        | _ => s
      if f.claim = true ∧ st = 3 ∧ s.fb F.PORT_STATUS_cal_failed port_ = false then .next (portCount s port_ 5 1)
      else .next (rxDeliver s port_ (steerClass f.kind) f.length false f.frac f.data)

/-- The data of a frame fills its buffers in order (R318): each write, before the completions that tell of it (R324). -/
def putFrame (s : State) : List (RxDesc × Nat) → List Nat → State
  | [], _ => s
  | (b, k) :: l, f => putFrame (s.emit (.mem b.addr k [(0, k, leVal (f.take k))])) l (f.drop k)

/-- The completions of a delivered frame (R318). -/
def rxComplete (s : State) (x : StagedFrame) : State :=
  let c := s.f F.HOST_RING_CFG_cpl_ring x.ring
  let d := Dest.ring c
  let sl := { x.slate with stepped := (tsc s x.slate.ts).stepped.contains d }
  let n := x.used.length
  let s := putFrame s x.used x.data
  let s := (List.range n).foldl (fun t j =>
    match x.used[j]? with
    | some (b, k) =>
      let last := j + 1 == n
      let fl := bit last + 2 * bit (j == 0) + 4 * bit x.oversize + 8 * bit x.fcsNotChecked
      cplQueue t c (.rxd .ok k x.ring fl x.steer b.cookie (if last then x.length else 0) x.port (some sl))
    | none => t) s
  sentTo s sl.ts d

/-- The oldest staged frame of a ring. -/
def stagedFront (s : State) (r : Nat) : Option Nat :=
  (List.range s.host.staged.length).find? (fun k => match s.host.staged[k]? with
    | some x => x.ring == r
    | none => false)

/-- RXD_DELIVERY (R318, R320): the oldest frame staged for ring `ring` is delivered once every buffer it needs is available. -/
def execRxdDelivery (ring_ : Nat) (s : State) : Host.Outcome State Fault Refusal :=
  let s := stageRing s ring_
  match stagedFront s ring_ with
  | none => .next s
  | some k => match s.host.staged[k]? with
    | none => .next s
    | some x =>
      if stagedWritten x < x.length then .next s
      else .next (rxComplete { s with host := { s.host with staged := s.host.staged.eraseIdx k } } x)

/-- RX_STARVE_TIMEOUT (R320): HOST_RX_STARVE has passed since the wait of the ring's oldest waiting frame began. -/
def execRxStarveTimeout (ring_ : Nat) (s : State) : Host.Outcome State Fault Refusal :=
  match (List.range s.host.staged.length).find? (fun k => match s.host.staged[k]? with
    | some x => x.ring == ring_ && (match x.waiting with
      | some t => decide (t + s.f F.HOST_RX_STARVE_wait * 625 ≤ s.ticks)
      | none => false)
    | none => false) with
  | some k => .next (stageRing (stageDrop s k) ring_)
  | none => .next s

/-! ### Statistics and dailies (R219-R221) -/

/-- PORT_COUNTER_READ (R7, R219, R220): a read of the low word returns it, latches the upper half, and clears the counter in REGISTER mode. -/
def execPortCounterRead (port_ counter : Nat) (s : State) : Host.Outcome State Fault Refusal :=
  if 4 ≤ port_ ∨ 12 ≤ counter then .next s
  else
    let s := s.emit (.read (Reg.addr ⟨.PORT_CNT_LO, port_, counter⟩) (BitVec.ofNat 32 (portCnt s port_ counter)))
    let s := s.wr .PORT_CNT_HI port_ counter (BitVec.ofNat 32 (portCnt s port_ counter / 2 ^ 32))
    .next (if s.fb F.PORT_CFG_stats_reader port_ then s else setPort s port_ { port s port_ with cnt := tset (port s port_).cnt counter 0 })

/-- PORT_DAILY (R220, R221): at a TS0 second that is a multiple of the interval, with stats_reader = DAILIES. -/
def execPortDaily (port_ ticks : Nat) (s : State) : Host.Outcome State Fault Refusal :=
  let s := advance s ticks
  let n := s.f F.PORT_DLY_CFG_interval port_
  if 4 ≤ port_ ∨ s.fb F.PORT_CFG_stats_reader port_ = false ∨ clocked s = false ∨ (tsc s 0).cnt.sec % n ≠ 0 then .next s
  else
    let a := AreaId.daily port_
    let d := Dest.ring (s.f F.PORT_DLY_CFG_ring port_)
    let x := slateOf s 0 d
    let body : Layout := [(0, 1, port_), (1, 1, 1), (2, 1, bit (port s port_).dlyFirst), (4, 4, (area s a).seq), (8, 4, n)] ++ slateLayout 16 x
      ++ (List.range 12).map (fun i => (32 + 8 * i, 8, portCnt s port_ i))
    let s := setPort s port_ { port s port_ with cnt := [], dlyFirst := false }
    .next (areaProduce (sentTo s 0 d) a body)

/-! ### Low-power idle (R222, R223) -/

/-- LPI_ENTER (R222, R223): the transmit path has been idle for PORT_LPI_CFG.idle µs; or (`rx`) the link partner enters LPI. -/
def execLpiEnter (port_ : Nat) (rx : Bool) (s : State) : Host.Outcome State Fault Refusal :=
  if 4 ≤ port_ ∨ portState s port_ < 2 then .next s
  else if rx then .next (portPresence (s.setB F.PORT_STATUS_lpi_rx true port_) port_)
  else .next (if lpiAllowed s port_ then s.setB F.PORT_STATUS_lpi_tx true port_ else s)

/-- LPI_WAKE (R222, R223): the wake time has passed for a frame that waits, a condition of R222 fails, or the partner wakes. -/
def execLpiWake (port_ : Nat) (rx : Bool) (s : State) : Host.Outcome State Fault Refusal :=
  if 4 ≤ port_ then .next s
  else if rx then .next (portPresence (s.setB F.PORT_STATUS_lpi_rx false port_) port_)
  else .next (s.setB F.PORT_STATUS_lpi_tx false port_)

/-! ### ESMC (R225, R226, R285) -/

/-- Entry of PORT_ESMC_QL for a grade. -/
def esmcEntry (s : State) (p g : Nat) : Nat := (s.rg .PORT_ESMC_QL p).toNat / 16 ^ g % 16

/-- The transmitted QL of port `p` (R225, R285). -/
def esmcQl (s : State) (p : Nat) : Nat :=
  let a := s.f F.PORT_CFG_ref_apll p
  let d := s.f F.AP_CFG_dpll a
  let dnu := (List.range 4).any (fun q =>
    let b := s.f F.PORT_CFG_ref_apll q
    let e := s.f F.AP_CFG_dpll b
    b != 0 && e != 0 && s.f F.DP_CFG_src_type e == 3 && s.f F.DP_CFG_src_idx e == p)
  if !s.fb F.RAN_STATUS_permission then esmcEntry s p 5
  else if dnu then 0xF
  else if a = 0 ∨ s.fb F.PORT_STATUS_ref_on_ap0 p = true ∨ d = 0 ∨ dpState s d ≠ 3 then esmcEntry s p 5
  else
    let i := s.f F.DP_CFG_src_idx d
    match s.f F.DP_CFG_src_type d with
    | 3 => if s.fb F.PORT_ESMC_STATUS_rx_valid i then s.f F.PORT_ESMC_STATUS_rx_ql i else esmcEntry s p 5
    | 1 => esmcEntry s p (gradeOf s i)
    | _ => esmcEntry s p 5


/-- The bytes of an ESMC PDU on the wire: a slow-protocol PDU of the smallest size. -/
def esmcBytes : Nat := 64

/-- ESMC_SEND (R223, R225, R378): the information PDU of a second, or the event PDU of a change of the transmitted QL; a transmitter in LPI wakes for it, and it takes
tokens as every
frame that is no TSE frame. -/
def execEsmcSend (port_ : Nat) (s : State) : Host.Outcome State Fault Refusal :=
  if 4 ≤ port_ ∨ s.fb F.PORT_CFG_esmc_en port_ = false ∨ portState s port_ ≠ 3 ∨ portMac s port_ = 0 ∨ txAllowed s port_ esmcBytes = false then .next s
  else
    let s := txSpend (portAwake s port_) port_ esmcBytes
    let q := esmcQl s port_
    let ev := q != s.f F.PORT_ESMC_STATUS_tx_ql port_
    .next ((s.setF F.PORT_ESMC_STATUS_tx_ql q port_).emit (.frame port_ ⟨"ESMC", [("dst", 0x0180C2000002), ("src", portMac s port_), ("etherType", 0x8809), ("subtype", 0x0A), ("oui", 0x0019A7), ("ql", q), ("event", bit ev)]⟩))

/-- ESMC_RX_TIMEOUT (R226): no ESMC PDU for 5 s. -/
def execEsmcRxTimeout (port_ : Nat) (s : State) : Host.Outcome State Fault Refusal :=
  if 4 ≤ port_ ∨ s.fb F.PORT_ESMC_STATUS_rx_valid port_ = false then .next s
  else .next ((s.setB F.PORT_ESMC_STATUS_rx_valid false port_).setB F.PORT_ESMC_STATUS_rx_failed true port_)

end Sys2Proof.Machine
end

