-- ==== Sys2Proof/Machine/Stavris.lean ====
section
/-! DEFINITION. Stavris (16_stavris.md): the key tree, revocation, random numbers, the key commands, challenges and tamper. -/
namespace Sys2Proof.Machine
open Sys2Proof

/-! ### Nodes and handles (R352, R354) -/

/-- Node `i` of the key tree; none while it is free. -/
def node (s : State) (i : Nat) : Option Node := tget s.stv.nodes none i

/-- The generation of node `i`, 22 bits and never 0 (R354): drawn at the opening, advanced each time the node is freed. -/
def nodeGen (s : State) (i : Nat) : Nat := (Config.draw (s.stv.opening + i) + tget s.stv.freed 0 i) % (2 ^ 22 - 1) + 1

/-- The handle of node `i` (R354). -/
def handleOf (s : State) (i : Nat) : Nat := nodeGen s i * 1024 + i

/-- The node that a handle names, if the handle is valid (R354). -/
def handleNode (s : State) (h : Nat) : Option Nat :=
  let i := h % 1024
  match node s i with
  | some n => if n.revoked = false ∧ h / 1024 = nodeGen s i then some i else none
  | none => none

/-- A valid handle of a node with usage `u`. -/
def handleIs (s : State) (h u : Nat) : Bool :=
  match handleNode s h with
  | some i => (node s i).any (fun n => n.usage == u)
  | none => false

/-- The key that a valid handle names. -/
def handleKey (s : State) (h : Nat) : Option Nat :=
  match handleNode s h with
  | some i => (node s i).map Node.key
  | none => none

/-- Live nodes (STV_STATUS.nodes). -/
def stvCount (s : State) : State :=
  s.setF F.STV_STATUS_nodes ((s.stv.nodes.filter (fun p => match p.2 with
    | some n => !n.revoked
    | none => false)).length) 0

/-- Set a node. -/
def setNode (s : State) (i : Nat) (n : Option Node) : State := { s with stv := { s.stv with nodes := tset s.stv.nodes i n } }

/-- Life-cycle state: 0 BLANK, 1 FACTORY, 2 SEALED, 3 RETURNED, 4 SCRAPPED. -/
def lcState (s : State) : Nat := s.f F.LC_STATE_state

/-- The device is tampered (R364). -/
def tampered (s : State) : Bool := s.fb F.STV_STATUS_tampered

/-- The 64-bit device ID (R451). -/
def deviceId (s : State) : Nat := s.pair .GLOBAL_DEVID_LO .GLOBAL_DEVID_HI

/-- The key store opens (R349, R352, R354): the root of the life-cycle state, nodes 0-2, new generations. -/
def stvOpen (s : State) : State :=
  match s.stv.negative with
  | none => s
  | some g =>
    let lc := lcState s
    if lc = 0 ∨ 3 < lc ∨ tampered s = true then s
    else
      let root := Config.kdf g (ascii "Edfolar root") (beBytes 32 (Config.otpSecret lc) ++ [lc]) 0
      let s := { s with stv := { s.stv with opening := s.fresh, freed := [] }, fresh := s.fresh + 1024 }
      let n0 : Node := ⟨root, 0, 0, none, 0, false, [], [], false⟩
      let n1 : Node := ⟨Config.kdf root (ascii "identity") [] 384, 5, 0, some 0, 1, false, ascii "identity", [], false⟩
      let n2 : Node := ⟨Config.kdf root (ascii "blob store") [] 0, 3, 0, some 0, 1, false, ascii "blob store", [], false⟩
      stvCount ((setNode (setNode (setNode s 0 (some n0)) 1 (some n1)) 2 (some n2)).setB F.STV_STATUS_store_open true)

/-! ### Jobs and revocation (R355) -/

/-- Node `i` lies in the subtree of node `r`. -/
def inSubtree (s : State) (r : Nat) : Nat → Nat → Bool
  | 0, i => i == r
  | k + 1, i => i == r || (match node s i with
    | some n => match n.parent with
      | some p => inSubtree s r k p
      | none => false
    | none => false)

/-- The live nodes of the subtree of `r`. -/
def subtree (s : State) (r : Nat) : List Nat :=
  (s.stv.nodes.filter (fun p => match p.2 with
    | some n => !n.revoked && inSubtree s r 17 p.1
    | none => false)).map Prod.fst

/-- Every live node. -/
def liveNodes (s : State) : List Nat :=
  (s.stv.nodes.filter (fun p => match p.2 with
    | some n => !n.revoked
    | none => false)).map Prod.fst

/-- The operations inside a lane or engine that use a node (R355). -/
def nodeInFlight (s : State) (i : Nat) : Nat := (s.stv.jobs.filter (fun j => j.started && j.keys.any (fun h => h % 1024 == i))).length

/-- A revoked node is freed once its last operation has ended (R354, R355). -/
def freeNode (s : State) (i : Nat) : State :=
  match node s i with
  | some n =>
    if n.revoked = true ∧ nodeInFlight s i = 0 then
      let s := setNode s i none
      { s with stv := { s.stv with freed := tset s.stv.freed i (tget s.stv.freed 0 i + 1) } }
    else s
  | none => s

/-- Free what can be freed. -/
def freeNodes (s : State) : State := stvCount ((s.stv.nodes.map Prod.fst).foldl freeNode s)

/-- NTS_COOKIE_ROOT names a valid derive-only node (NTS_STATUS.root_valid). -/
def rootValid (s : State) : Bool := handleIs s (s.rg .NTS_COOKIE_ROOT).toNat 0

/-- Revoke a list of nodes (R355): jobs inside a lane are marked, the nodes are freed when their last one ends. A cookie root among them sets
root_revoked (R270), and the lead owes its stand-in a revoke (R295). -/
def revokeNodes (s : State) (l : List Nat) : State :=
  let hadRoot := rootValid s && l.contains ((s.rg .NTS_COOKIE_ROOT).toNat % 1024)
  let s := l.foldl (fun t i => match node t i with
    | some n => setNode t i (some { n with revoked := true })
    | none => t) s
  let s := { s with stv := { s.stv with jobs := s.stv.jobs.map (fun j =>
    if j.started && j.keys.any (fun h => l.contains (h % 1024)) then { j with revoked := true } else j) } }
  let s := if hadRoot then { (s.setB F.NTS_STATUS_root_revoked true).setB F.NTS_STATUS_root_valid false with
    ran := { s.ran with revokeOwed := true } } else s
  freeNodes s

/-- Jobs inside a lane that use a key of the list. -/
def jobsOn (s : State) (l : List Nat) : Nat :=
  (s.stv.jobs.filter (fun j => j.started && j.keys.any (fun h => l.contains (h % 1024)))).length

/-- A job is queued; a `direct` one starts at once. -/
def addJob (s : State) (cls : JobClass) (keys : List Nat) (blocks : Nat) (what : JobWhat) : State :=
  let j : Job := ⟨s.stv.nextJob, cls, keys, blocks, none, cls == .direct, false, s.ticks, what⟩
  { s with stv := { s.stv with jobs := s.stv.jobs ++ [j], nextJob := s.stv.nextJob + 1 } }

/-- A job leaves; the ticks that it held its AES lane are counted (R386). -/
def dropJob (s : State) (id : Nat) : State :=
  let s := s.stv.jobs.foldl (fun t j => if j.id == id then (match j.lane with
    | some l => perf t 0x0014 l (t.ticks - j.since)
    | none => t) else t) s
  { s with stv := { s.stv with jobs := s.stv.jobs.filter (fun j => j.id != id) } }

/-- The opcode of a host job. -/
def jobOpcode : JobWhat → Nat
  | .crypt _ _ => 0x53
  | _ => 0x48

/-- A reply of the NTP service is discarded. -/
def dropReply (s : State) (id : Nat) : State := { s with ntp := { s.ntp with replies := s.ntp.replies.filter (fun r => r.id != id) } }

/-- The result of a job is discarded (R355, R364): a host command completes with `st` and nothing is written; a network result counts. -/
def discardJob (s : State) (j : Job) (st : Status) : State :=
  let s := dropJob s j.id
  match j.what with
  | .crypt h _ => finish s h 0x53 st []
  | .mint h _ _ => finish s h 0x48 st []
  | .nts r i => (dropReply s r).inc .STV_REVOKE_DROP |>.inc .NTS_REVOKE_DROP i
  | .wrap _ _ _ => s.inc .STV_REVOKE_DROP
  | .unwrap _ _ _ _ => s

/-- IN_FLIGHT_DONE (R355): an operation inside a lane ends after its key was revoked. -/
def execInFlightDone (job : Nat) (s : State) : Host.Outcome State Fault Refusal :=
  match s.stv.jobs.find? (fun j => j.id == job) with
  | some j => .next (if j.started && j.revoked then freeNodes (discardJob s j .keyRevoked) else s)
  | none => .next s

/-! ### Random numbers (R357) -/

/-- A free value drawn from the generator. -/
def drawn (s : State) : Nat := Config.draw s.fresh

/-- One second in ticks. -/
def secondTicks : Nat := 625000000

/-- A health test fails (R357). -/
def trngFails (s : State) : State :=
  let s := (s.setB F.STV_STATUS_trng_ok false).inc .STV_TRNG_FAIL
  logEvent { s with stv := { s.stv with passes := 0, retestAt := s.ticks } } 2 0x0D04 []

/-- TRNG_HEALTH_FAIL (R357): of a test that runs continuously or at start-up. -/
def execTrngHealthFail (s : State) : Host.Outcome State Fault Refusal := .next (trngFails s)

/-- TRNG_RETEST (R357): every 1 s while trng_ok is 0; three consecutive passes set it, and a retest that fails is a health test that fails. -/
def execTrngRetest (pass : Bool) (s : State) : Host.Outcome State Fault Refusal :=
  if s.fb F.STV_STATUS_trng_ok || decide (s.ticks < s.stv.retestAt + secondTicks) then .next s
  else if pass = false then .next (trngFails s)
  else if s.stv.passes < 2 then .next { s with stv := { s.stv with passes := s.stv.passes + 1, retestAt := s.ticks } }
  else .next { s.setB F.STV_STATUS_trng_ok true with stv := { s.stv with passes := 0, retestAt := s.ticks } }

/-- DRBG_RESEED (R357): once per second, from a TRNG that passes its tests. -/
def execDrbgReseed (s : State) : Host.Outcome State Fault Refusal :=
  .next (if s.fb F.STV_STATUS_trng_ok && decide (s.stv.reseedAt + secondTicks ≤ s.ticks) then
      { s with stv := { s.stv with stale := false, reseedAt := s.ticks } }
    else s)

/-- DRBG_STALE_TIMEOUT (R357): 60 s since the last good reseed. -/
def execDrbgStaleTimeout (s : State) : Host.Outcome State Fault Refusal :=
  .next (if s.fb F.STV_STATUS_trng_ok || decide (s.ticks < s.stv.reseedAt + 60 * secondTicks) then s else { s with stv := { s.stv with stale := true } })

/-- KEY_MASK_REFRESH (R354): neither the mask nor its refresh can be seen by an operation. -/
def execKeyMaskRefresh (s : State) : Host.Outcome State Fault Refusal := .next s

/-! ### Key commands (R353, R355-R359) -/

/-- The first two checks of a key command (R358). -/
def keyGate (s : State) (h : CmdHdr) (op : Nat) (k : State → State) : State :=
  if lcState s = 0 ∨ 3 < lcState s then complete s h op .deniedLifecycle []
  else if s.log.isolated.contains 15 then complete s h op .hwFault []
  else if tampered s then complete s h op .deniedTamper []
  else k s

/-- The third check (R354, R358): handle 0 names nothing; any other handle that is not valid is KEY_REVOKED. -/
def withHandle (s : State) (h : CmdHdr) (op handle : Nat) (k : Nat → Node → State) : State :=
  if handle = 0 then complete s h op .notFound []
  else match handleNode s handle with
    | none => complete s h op .keyRevoked []
    | some i => match node s i with
      | none => complete s h op .keyRevoked []
      | some n => k i n

/-- Usages and sizes of the usage table (R353): size 0 is 256 bits, 1 is 128. -/
def usageOk (usage size : Nat) : Bool := decide (usage ≤ 4) && (size == 0 || (size == 1 && (usage == 1 || usage == 2)))

/-- The lowest free node that the host may have (R352). -/
def freeIndexAux (s : State) : Nat → Nat → Option Nat
  | 0, _ => none
  | k + 1, i => if (node s i).isNone then some i else freeIndexAux s k (i + 1)

/-- The lowest free node of 3-1,023. -/
def freeIndex (s : State) : Option Nat := freeIndexAux s 1021 3

/-- Create a node and count it. -/
def newNode (s : State) (i : Nat) (n : Node) : State := stvCount (setNode s i (some n))

/-- STV_DERIVE (R353, R356, R358). -/
def execStvDerive (h : CmdHdr) (a : StvDeriveArgs) (s : State) : Host.Outcome State Fault Refusal :=
  .next (keyGate s h 0x50 (fun s => withHandle s h 0x50 a.parent (fun i p =>
    if !h.mbz ∨ i = 2 ∨ p.usage ≠ 0 ∨ usageOk a.usage a.size = false ∨ 16 ≤ p.depth ∨ a.labelLen < 1 ∨ 24 < a.labelLen ∨ 24 < a.ctxLen
        ∨ (a.label.drop a.labelLen).any (fun b => b != 0) = true ∨ (a.context.drop a.ctxLen).any (fun b => b != 0) = true then badArg s h 0x50
    else
      let label := a.label.take a.labelLen
      let ctx := a.context.take a.ctxLen
      match s.stv.nodes.find? (fun q => match q.2 with
          | some n => !n.revoked && !n.attached && n.parent == some i && n.label == label && n.context == ctx && n.usage == a.usage && n.size == a.size
          | none => false) with
      | some q => complete s h 0x50 .ok [(0, 4, handleOf s q.1), (4, 1, p.depth + 1), (5, 1, 1)]
      | none => match freeIndex s with
        | none => complete s h 0x50 .noResource []
        | some j =>
          let s := newNode s j ⟨Config.kdf p.key label ctx a.size, a.usage, a.size, some i, p.depth + 1, false, label, ctx, false⟩
          complete s h 0x50 .ok [(0, 4, handleOf s j), (4, 1, p.depth + 1), (5, 1, 0)])))

/-- STV_REVOKE (R355, R358). -/
def execStvRevoke (h : CmdHdr) (handle : Nat) (s : State) : Host.Outcome State Fault Refusal :=
  .next (keyGate s h 0x51 (fun s => withHandle s h 0x51 handle (fun i _ =>
    if !h.mbz ∨ i < 3 then badArg s h 0x51
    else
      let l := subtree s i
      complete (revokeNodes s l) h 0x51 .ok [(0, 2, l.length), (2, 2, jobsOn s l)])))

/-- The payload of STV_KEY_INFO. -/
def keyInfo (s : State) (i : Nat) (n : Node) : Layout :=
  let kids := (s.stv.nodes.filter (fun p => match p.2 with
    | some m => !m.revoked && m.parent == some i
    | none => false)).length
  [(0, 4, handleOf s i), (4, 1, n.usage), (5, 1, n.size), (6, 1, n.depth), (7, 1, bit n.attached),
   (8, 4, match n.parent with
     | some p => handleOf s p
     | none => 0), (12, 2, kids)]

/-- STV_KEY_INFO (R354, R358): a handle, or 0 and a node 0-2. -/
def execStvKeyInfo (h : CmdHdr) (handle node_ : Nat) (s : State) : Host.Outcome State Fault Refusal :=
  .next (keyGate s h 0x52 (fun s =>
    if handle = 0 then
      if !h.mbz ∨ 2 < node_ then badArg s h 0x52
      else match node s node_ with
        | some n => complete s h 0x52 .ok (keyInfo s node_ n)
        | none => complete s h 0x52 .keyRevoked []
    else withHandle s h 0x52 handle (fun i n => if !h.mbz ∨ node_ ≠ 0 then badArg s h 0x52 else complete s h 0x52 .ok (keyInfo s i n))))

/-- The usage that an STV_CRYPT operation needs. -/
def cryptUsage (op : Nat) : Option Nat :=
  match op with
  | 0 => some 1
  | 1 => some 2
  | 2 => some 4
  | 3 => some 4
  | 4 => some 5
  | 5 => some 6
  | 6 => some 4
  | _ => none

/-- Output bytes of an STV_CRYPT operation (R358). -/
def cryptOutLen (a : StvCryptArgs) (good : Bool) : Nat :=
  match a.op with
  | 0 => a.inLen - a.aadLen + 16
  | 1 => if good then a.inLen - a.aadLen - 16 else 0
  | 2 => 32
  | 4 => 96
  | 6 => 48
  | _ => 0

/-- STV_CRYPT (R275, R358): operations 0 and 1 wait for an AES lane as host jobs, the others run on the SHA lanes or the Stavris core. -/
def execStvCrypt (h : CmdHdr) (a : StvCryptArgs) (s : State) : Host.Outcome State Fault Refusal :=
  if s.log.isolated.contains 3 then .next (complete s h 0x53 .hwFault [])
  else .next (keyGate s h 0x53 (fun s => withHandle s h 0x53 a.handle (fun i n =>
    if !h.mbz ∨ i = 2 ∨ cryptUsage a.op ≠ some n.usage ∨ a.inLen < 1 ∨ 65536 < a.inLen ∨ a.inLen < a.aadLen ∨ a.inAddr = 0
        ∨ (a.outAddr = 0 ∧ a.op ≠ 3 ∧ a.op ≠ 5) then badArg s h 0x53
    else
      addJob (begins s h 0x53) (if a.op < 2 then .host else .direct) [a.handle] (cdiv a.inLen 16 + 2) (.crypt h a))))

/-- The key that a job uses. -/
def jobKey (s : State) (handle : Nat) : Nat := (node s (handle % 1024)).elim 0 Node.key

/-- A started STV_CRYPT finishes: its output bytes, then its completion (R324, R358). -/
def cryptDone (s : State) (h : CmdHdr) (a : StvCryptArgs) : State :=
  let k := jobKey s a.handle
  let checks := a.op == 1 || a.op == 3 || a.op == 5
  let good := !checks || Config.cryptGood a.op k a.iv a.aadLen a.input
  let n := cryptOutLen a good
  let s := if n = 0 then s else s.emit (.mem a.outAddr n [(0, n, Config.crypt a.op k a.iv a.aadLen a.input % 2 ^ (8 * n))])
  finish s h 0x53 .ok [(0, 4, n), (4, 1, bit (!good))]

/-- The cookie key of an epoch below a cookie root's key (R269). -/
def cookieKey (root epoch : Nat) : Nat := Config.kdf root (ascii "NTS cookie") (beBytes 4 epoch) 0

/-- The number whose `k` little-endian bytes are the big-endian bytes of `v`: a field in network byte order (R3, R268). -/
def netOrder (k v : Nat) : Nat := leVal (beBytes k v)

/-- The plaintext of a cookie as a big-endian number of 68 bytes (R268): version 1, 0, AEAD identifier 15, the C2S and the S2C key. -/
def cookiePlain (a : MintArgs) : Nat := 0x0100000F * 2 ^ 512 + (a.c2s % 2 ^ 256) * 2 ^ 256 + a.s2c % 2 ^ 256

/-- The cookies of a mint (R268), in network byte order: each sealed under the cookie key, the epoch as associated data, with a nonce drawn for
it. -/
def mintBytes (s : State) (a : MintArgs) (epoch key : Nat) : State :=
  let s := (List.range a.count).foldl (fun t j =>
    let nonce := Config.draw t.fresh
    let body := Config.crypt 7 key (nonce % 2 ^ 128) 4 (epoch % 2 ^ 32 * 2 ^ 544 + cookiePlain a)
    { t.emit (.mem (a.outAddr + 104 * j) 104 [(0, 4, netOrder 4 epoch), (4, 16, netOrder 16 (nonce % 2 ^ 128)), (20, 84, netOrder 84 (body % 2 ^ 672))])
      with fresh := t.fresh + 1 }) s
  s.inc .NTS_MINTED 0 a.count

/-- CRYPTO_JOB_DONE (R355, R358, R280): a host operation inside a lane or engine ends. -/
def execCryptoJobDone (ring_ tag : Nat) (s : State) : Host.Outcome State Fault Refusal :=
  match s.stv.jobs.find? (fun j => j.started && (match j.what with
      | .crypt h _ => h.ring == ring_ && h.tag == tag
      | .mint h _ _ => h.ring == ring_ && h.tag == tag
      | _ => false)) with
  | none => .next s
  | some j =>
    if j.revoked then .next (freeNodes (discardJob s j .keyRevoked))
    else
      let s := dropJob s j.id
      match j.what with
      | .crypt h a => .next (cryptDone s h a)
      | .mint h a e =>
        let s := mintBytes s a e (cookieKey (jobKey s (j.keys.headD 0)) e)
        .next (finish s h 0x48 .ok [(0, 4, e), (4, 1, a.count), (6, 2, 104)])
      | _ => .next s

/-- STV_IMPORT (R356, R358-R360): a sealed blob, or a public key as a verify-only leaf. -/
def execStvImport (h : CmdHdr) (a : StvImportArgs) (s : State) : Host.Outcome State Fault Refusal :=
  .next (keyGate s h 0x54 (fun s => withHandle s h 0x54 a.parent (fun i p =>
    let blobKey := (node s 2).elim 0 Node.key
    let b := a.blob
    if !h.mbz ∨ i = 2 ∨ p.usage ≠ 0 ∨ 16 ≤ p.depth ∨ 1 < a.mode ∨ a.addr = 0
        ∨ (a.mode = 0 ∧ (a.curve ≠ 0 ∨ b.format ≠ 1 ∨ b.devId ≠ deviceId s ∨ b.lc ≠ lcState s ∨ b.wrapped.under ≠ blobKey ∨ usageOk b.usage b.size = false))
        ∨ (a.mode = 1 ∧ (1 < a.curve ∨ a.onCurve = false)) then badArg s h 0x54
    else match freeIndex s with
      | none => complete s h 0x54 .noResource []
      | some j =>
        let n : Node := if a.mode = 0 then ⟨b.wrapped.key, b.usage, b.size, some i, p.depth + 1, true, [], [], false⟩
          else ⟨a.pubKey, 6, 0, some i, p.depth + 1, true, [], [], false⟩
        let s := newNode s j n
        complete s h 0x54 .ok [(0, 4, handleOf s j)])))

/-- STV_IDENTITY (R358). -/
def execStvIdentity (h : CmdHdr) (addr : Nat) (s : State) : Host.Outcome State Fault Refusal :=
  .next (keyGate s h 0x57 (fun s =>
    if !h.mbz ∨ addr = 0 ∨ addr % 8 ≠ 0 then badArg s h 0x57
    else match node s 1 with
      | none => complete s h 0x57 .deniedLifecycle []
      | some n => complete (s.emit (.mem addr 96 [(0, 96, Config.publicKey n.key % 2 ^ 768)])) h 0x57 .ok [(0, 4, 96)]))

/-- STV_ROLLBACK_SET (R358, R367): against the running image's security version. -/
def execStvRollbackSet (h : CmdHdr) (version : Nat) (s : State) : Host.Outcome State Fault Refusal :=
  if lcState s = 0 ∨ 3 < lcState s then .next (complete s h 0x58 .deniedLifecycle [])
  else if !h.mbz ∨ version < 1 ∨ 64 < version ∨ s.stv.secVersion < version ∨ version ≤ s.f F.STV_ROLLBACK_counter then .next (badArg s h 0x58)
  else .next (complete (s.setF F.STV_ROLLBACK_counter version) h 0x58 .ok [(0, 1, version)])

/-- STV_PAIR_KEY_WRITE (R360, R454): refused unless 0, a valid wrap-only node, or the value that the register holds. -/
def execStvPairKeyWrite (value : Word) (s : State) : Host.Outcome State Fault Refusal :=
  .next (if value = s.rg .STV_PAIR_KEY ∨ value = 0 ∨ handleIs s value.toNat 3 = true ∧ value.toNat % 1024 ≠ 2 then s.wr .STV_PAIR_KEY 0 0 value else violation s)

/-! ### Challenges (R361, R362) -/

/-- The target state of a life-cycle transition is permitted (R350). -/
def lcMove (a b : Nat) : Bool := (a == 0 && b == 1) || (a == 1 && b == 2) || (a == 1 && b == 4) || (a == 2 && b == 3) || (a == 2 && b == 4) || (a == 3 && b == 4)

/-- The purpose is admitted in the present state (R361). -/
def purposeOk (s : State) (p arg : Nat) : Bool :=
  let lc := lcState s
  lc != 4 && (lc != 0 || p == 3) && (p != 2 || tampered s) && (p != 3 || lcMove lc arg)

/-- The signer of a challenge (R361): 0 owner, 1 vendor, 2 owner key carried. -/
def signerOf (s : State) (p arg : Nat) : Nat := if p = 3 ∧ arg = 2 then 2 else if lcState s = 2 then 0 else 1

/-- STV_CHALLENGE (R9, R357, R361): an argument outside its encoding is BAD_ARG whatever the state admits. -/
def execStvChallenge (h : CmdHdr) (a : StvChallengeArgs) (s : State) : Host.Outcome State Fault Refusal :=
  if !h.mbz ∨ a.purpose = 0 ∨ 4 < a.purpose ∨ a.addr = 0 ∨ (a.purpose = 1 ∧ (a.arg = 0 ∨ 7 < a.arg)) ∨ (a.purpose = 2 ∧ a.arg ≠ 0)
      ∨ (a.purpose = 3 ∧ 4 < a.arg) ∨ (a.purpose = 4 ∧ usageOk (a.arg % 128) (a.arg / 128) = false) then .next (badArg s h 0x55)
  else if !purposeOk s a.purpose a.arg then .next (complete s h 0x55 .deniedLifecycle [])
  else if s.fb F.STV_STATUS_challenge_locked then .next (complete s h 0x55 .busy [])
  else if s.stv.stale then .next (complete s h 0x55 .hwFault [])
  else
    let id := s.stv.nextChallenge
    let rec_ : Layout := [(0, 1, a.purpose), (1, 1, a.arg), (2, 1, lcState s), (3, 1, signerOf s a.purpose a.arg), (4, 4, id),
      (8, 8, deviceId s), (16, 32, drawn s % 2 ^ 256)]
    let s := (s.emit (.mem a.addr 64 rec_)).nextFresh
    let s := { s with stv := { s.stv with challenge := some ⟨id, a.purpose, a.arg, s.ticks⟩, nextChallenge := (id + 1) % 2 ^ 32 } }
    .next (complete s h 0x55 .ok [(0, 4, id)])

/-- A challenge has expired: 60 s after issue (R361). -/
def challengeOld (s : State) (c : Challenge) : Bool := decide (c.issued + 60 * secondTicks ≤ s.ticks)

/-- CHALLENGE_EXPIRY (R361): 60 s after issue. -/
def execChallengeExpiry (s : State) : Host.Outcome State Fault Refusal :=
  .next (if s.stv.challenge.any (challengeOld s) then { s with stv := { s.stv with challenge := none } } else s)

/-- CHALLENGE_LOCK_END (R361): 60 s after the fourth failed response. -/
def execChallengeLockEnd (s : State) : Host.Outcome State Fault Refusal :=
  .next (if s.fb F.STV_STATUS_challenge_locked && decide (s.stv.lockedAt + 60 * secondTicks ≤ s.ticks) then
      { s.setB F.STV_STATUS_challenge_locked false with stv := { s.stv with fails := 0 } }
    else s)

/-- Every node is revoked (R350, R355, R364). -/
def revokeAll (s : State) : State := revokeNodes (s.setB F.STV_STATUS_store_open false) (liveNodes s)

/-- A verified life-cycle transition (R350, R375): OTP, revocation, unlocks end, the governor's floors, the new root opens. -/
def lcTransition (s : State) (new ownerHash : Nat) : State :=
  let old := lcState s
  let s := s.setF F.LC_STATE_state new
  let s := if new = 2 then (List.range 12).foldl (fun t i => t.wr .LC_OWNER_HASH i 0 (BitVec.ofNat 32 (ownerHash / 2 ^ (32 * (11 - i))))) s else s
  let s := govLifeCycle ((revokeAll s).wr .LC_UNLOCK 0 0 0) new
  logEvent (stvOpen s) 1 0x0D02 [(0, 1, old), (1, 1, new)]

/-- A negative is drawn (R351, R366). -/
def drawNegative (s : State) : State :=
  let s := { s with stv := { s.stv with negative := some (drawn s) } }
  s.nextFresh.setB F.STV_STATUS_negative_valid true

/-- A verified tamper release (R366). -/
def tamperRelease (s : State) : State :=
  let m := s.f F.STV_TAMP_STATUS_latched
  let s := drawNegative s
  let s := (s.setB F.STV_STATUS_tampered false).setF F.STV_TAMP_STATUS_latched 0
  logRec (stvOpen s) 1 0x0D80 [(0, 2, m)]

/-- The response length that a purpose asks for. -/
def respondLen (c : Challenge) : Nat :=
  if c.purpose = 3 ∧ c.arg = 2 then 192 else if c.purpose = 4 then (if c.arg / 128 = 0 then 128 else 112) else 96

/-- What a verified response does, and the payload's u32 (R361). -/
def respondDone (s : State) (a : StvRespondArgs) (c : Challenge) : State × Nat :=
  match c.purpose with
  | 1 =>
    let s := s.wr .LC_UNLOCK 0 0 (s.rg .LC_UNLOCK ||| BitVec.ofNat 32 (c.arg % 8))
    (logEvent s 2 0x0D03 [(0, 1, c.arg)], (unlocks s).toNat)
  | 2 => (tamperRelease s, 0)
  | 3 => (lcTransition s c.arg a.ownerHash, c.arg)
  | _ =>
    let blob : Layout := [(0, 1, 1), (1, 1, c.arg % 128), (2, 1, c.arg / 128), (3, 1, lcState s), (8, 8, deviceId s),
      (16, 40, Config.crypt 8 ((node s 2).elim 0 Node.key) 0 0 a.key % 2 ^ 320)]
    (s.emit (.mem a.out 64 blob), 0)

/-- STV_RESPOND (R361): a challenge is consumed by its first response, good or bad. -/
def execStvRespond (h : CmdHdr) (a : StvRespondArgs) (s : State) : Host.Outcome State Fault Refusal :=
  if !h.mbz ∨ a.addr = 0 then .next (badArg s h 0x56)
  else if lcState s = 4 then .next (complete s h 0x56 .deniedLifecycle [])
  else match s.stv.challenge with
    | none => .next (complete s h 0x56 .ok [(1, 1, 2)])
    | some c =>
      if c.id ≠ a.id ∨ challengeOld s c = true then .next (complete s h 0x56 .ok [(1, 1, 2)])
      else if a.len ≠ respondLen c ∨ (c.purpose = 4 ∧ a.out = 0) then .next (badArg s h 0x56)
      else if c.purpose = 2 ∧ s.f F.STV_TAMP_STATUS_raw &&& s.f F.STV_TAMP_CFG_enable ≠ 0 then .next (complete s h 0x56 .busy [])
      else if (c.purpose = 2 ∧ s.stv.stale = true) ∨ (c.purpose = 4 ∧ (node s 2).isNone = true) then .next (complete s h 0x56 .hwFault [])
      else if !purposeOk s c.purpose c.arg then .next (complete s h 0x56 .deniedLifecycle [])
      else
        let s := { s with stv := { s.stv with challenge := none } }
        if a.sigOk then
          let r := respondDone { s with stv := { s.stv with fails := 0 } } a c
          .next (complete r.1 h 0x56 .ok [(0, 1, c.purpose), (1, 1, 0), (4, 4, r.2)])
        else
          let n := s.stv.fails + 1
          let s := { (if 4 ≤ n then s.setB F.STV_STATUS_challenge_locked true else s) with stv := { s.stv with fails := n, lockedAt := if 4 ≤ n then s.ticks else s.stv.lockedAt } }
          .next (complete s h 0x56 .ok [(0, 1, c.purpose), (1, 1, 1)])

/-! ### Tamper (R363-R365) -/

/-- A job that a tamper response ends: one inside a lane or engine, or a host command that waits for one (R364, R365). -/
def tamperEnds (j : Job) : Bool :=
  j.started || (match j.what with
    | .crypt _ _ | .mint _ _ _ => true
    | _ => false)

/-- The tamper response while the device runs (R364): the negative is zeroed, operations in progress are aborted, every node goes. -/
def tamperRespond (s : State) (mask : Nat) : State :=
  let s := ((s.setB F.STV_STATUS_tampered true).setB F.STV_STATUS_negative_valid false).wr .LC_UNLOCK 0 0 0
  let s := { s with stv := { s.stv with negative := none } }
  let s := s.stv.jobs.foldl (fun t j => if tamperEnds j then discardJob t j .deniedTamper else t) s
  let s := (revokeAll s).setB F.NTS_STATUS_root_revoked true
  logEvent s 0 0x0D01 [(0, 2, mask)]

/-- The device has only its battery domain: it is off or held in reset (R363, R364). -/
def batteryOnly (s : State) : Bool := s.f F.PWR_RUN_run_state == 6 || s.pwr.inReset

/-- Enabled detectors whose condition holds trip once (R363, R364). On VBAT alone the negative is zeroed and a record goes to the last
words, to be reported at the next boot. -/
def tamperEval (s : State) : State :=
  let en := if batteryOnly s then (s.stv.tampCopy.toNat % 1024) else s.f F.STV_TAMP_CFG_enable
  let new := s.f F.STV_TAMP_STATUS_raw &&& en &&& (1023 ^^^ s.f F.STV_TAMP_STATUS_latched)
  if new = 0 then s
  else
    let s := s.setF F.STV_TAMP_STATUS_latched (s.f F.STV_TAMP_STATUS_latched ||| new)
    let s := { s.setB F.BIST_STATUS_tamper_since s.wrap.summary.isSome with wrap := { s.wrap with tamperSince := s.wrap.summary.isSome } }
    if batteryOnly s then
      let s := (s.setB F.STV_STATUS_tampered true).setB F.STV_STATUS_negative_valid false
      let seq := (s.rg .LOG_SEQ).toNat
      let s := lwWrite { s with stv := { s.stv with negative := none } } ⟨0, 0x0D, seq, Slate.none, 0x0D01, [(0, 2, new)], 32, false⟩
      s.wr .LOG_SEQ 0 0 (BitVec.ofNat 32 (seq + 1))
    else tamperRespond s new

/-- STV_TAMPER (R363, R364): the conditions that hold now. -/
def execStvTamper (raw : Nat) (s : State) : Host.Outcome State Fault Refusal := .next (tamperEval (s.setF F.STV_TAMP_STATUS_raw raw))

/-- A write of STV_TAMP_CFG (R363): the battery domain's copy follows, and a detector whose condition holds trips when it is enabled. -/
def tampCfgWrite (s : State) (value : Word) : State :=
  let s := regWrite s ⟨.STV_TAMP_CFG, 0, 0⟩ value
  tamperEval { s with stv := { s.stv with tampCopy := s.rg .STV_TAMP_CFG } }

end Sys2Proof.Machine
end

