-- ==== Sys2Proof/Machine/Ptp.lean ====
section
/-! DEFINITION. The PTP service (11_ptp_service.md). -/
namespace Sys2Proof.Machine
open Sys2Proof

/-! ### Instances and ports (R227, R230, R238) -/

/-- Instance `i` beside its registers. -/
def ptp (s : State) (i : Nat) : PtpInst := tget s.ptp.inst PtpInst.reset i

/-- Set instance `i`. -/
def setPtp (s : State) (i : Nat) (x : PtpInst) : State := { s with ptp := { s.ptp with inst := tset s.ptp.inst i x } }

/-- Port `p` of instance `i`. -/
def ptpPort (s : State) (i p : Nat) : PtpPort := tget (ptp s i).ports PtpPort.reset p

/-- Set port `p` of instance `i`. -/
def setPtpPort (s : State) (i p : Nat) (x : PtpPort) : State := setPtp s i { ptp s i with ports := tset (ptp s i).ports p x }

/-- Instance `i` is enabled. -/
def ptpOn (s : State) (i : Nat) : Bool := decide (i < 4) && s.fb F.PTP_INST_CFG_enable i

/-- Port `p` lies in the mask of instance `i`. -/
def ptpHas (s : State) (i p : Nat) : Bool := decide (p < 4) && (s.f F.PTP_INST_CFG_ports i).testBit p

/-- Profile of instance `i`: 0 default, 1 peer delay, 2 high accuracy, 3 G.8275.1, 4 G.8275.2. -/
def ptpProfile (s : State) (i : Nat) : Nat := s.f F.PTP_INST_CFG_profile i

/-- Role of instance `i`: 0 master, 1 slave, 2 boundary. -/
def ptpRole (s : State) (i : Nat) : Nat := s.f F.PTP_INST_CFG_role i

/-- Timescale of instance `i`. -/
def ptpTs (s : State) (i : Nat) : Nat := s.f F.PTP_INST_CFG_ts i

/-- Clock identity of instance `i`. -/
def clockId (s : State) (i : Nat) : Nat := s.f F.PTP_INST_ID_HI_value i * 2 ^ 32 + s.f F.PTP_INST_ID_LO_value i

/-- portIdentity of a port: portNumber is the port index plus 1 (R231). -/
def portIdentity (s : State) (i p : Nat) : Nat := clockId s i * 65536 + p + 1

/-- The port carries TSE traffic: UP and calibrated (R208, R211). -/
def tsePortOk (s : State) (p : Nat) : Bool := portState s p == 3 && !s.fb F.PORT_STATUS_cal_failed p

/-- The services are muted: tampered with policy MUTE (R365). -/
def muted (s : State) : Bool := tampered s && s.fb F.STV_TAMP_CFG_policy

/-- A key register of instance `i`. -/
def ptpKey (s : State) (i k : Nat) : Nat := if k = 0 then s.f F.PTP_INST_KEY0_handle i else s.f F.PTP_INST_KEY1_handle i

/-- The active key of instance `i` can seal (R249, R365). -/
def ptpAuthOk (s : State) (i : Nat) : Bool :=
  !s.fb F.PTP_INST_CFG_auth_en i || (!tampered s && handleIs s (ptpKey s i (s.f F.PTP_INST_AUTH_active i)) 4)

/-- Instance `i` may send on port `p`. -/
def ptpMaySend (s : State) (i p : Nat) : Bool := ptpOn s i && ptpHas s i p && tsePortOk s p && !muted s && ptpAuthOk s i

/-- A MASTER port may send: drive permission too (R285). -/
def ptpMasterMay (s : State) (i p : Nat) : Bool := ptpMaySend s i p && ptpPortState s i p == 4 && s.fb F.RAN_STATUS_permission

/-! ### Timestamps (R232, R233) -/

/-- The offset from the SFD to the message timestamp point in ps (R232). -/
def sfdOffset (mode : Nat) : Nat := if mode = 0 then 8000 else if mode ≤ 2 then 800 else 320

/-- A slate's time in 2^-48 ns. -/
def slateUnits (x : Slate) : Int := ((x.sec * 10 ^ 9 + x.ns) * 2 ^ 48 + x.frac * 2 ^ 16 : Nat)

/-- The message timestamp of an event message of instance `i`: its time, and whether its slate is bounded (R64, R232, R235). -/
def ptpStamp (s : State) (i p frac : Nat) (rx : Bool) : Int × Bool :=
  let x := serviceSlate s (10 + i) p frac rx
  (slateUnits x + psToUnits (sfdOffset (s.f F.PORT_CFG_mode p)), x.bnd != 0xFF)

/-- Whole ns of a time, and the rest in 2^-16 ns as a correctionField (R233). -/
def stampNs (t : Int) : Int := t / 2 ^ 48

/-- The fraction of a time in 2^-16 ns. -/
def stampFrac (t : Int) : Int := (t % 2 ^ 48) / 2 ^ 32

/-! ### Sending (R231, R249, R250) -/

/-- Bytes of a PTP message on the wire: message, transport headers, VLAN tag, AUTHENTICATION TLV, FCS (R214, R231, R233, R249). -/
def ptpWire (s : State) (i len : Nat) (tagged oneStep : Bool) : Nat :=
  let auth := if s.fb F.PTP_INST_CFG_auth_en i then 26 else 0
  let hd := match s.f F.PTP_INST_CFG_transport i with
    | 0 => 14
    | 1 => 42
    | _ => if oneStep then 64 else 62
  wireLen (hd + len + auth + if tagged then 4 else 0)

/-- A TSE frame leaves port `p` (R219, R233): counted as one frame, and as one performance event of the service. -/
def tseSend (s : State) (p ev bytes : Nat) (f : Pdu) : State := perf (tseOut s p bytes f) ev p

/-- The group that the instance's multicast messages go to (R231, PTP_INST_CFG.l2_addr); peer delay has its own. -/
def ptpGroup (s : State) (i : Nat) (kind : String) : Nat :=
  let peer := kind == "Pdelay_Req" || kind == "Pdelay_Resp" || kind == "Pdelay_Resp_Follow_Up"
  match s.f F.PTP_INST_CFG_transport i with
  | 0 => if peer || s.fb F.PTP_INST_CFG_l2_addr i then 0x0180C200000E else 0x011B19000000
  | 1 => if peer then 0xE000006B else 0xE0000181
  | _ => if peer then 0xFF02 * 2 ^ 112 + 0x6B else 0xFF0E * 2 ^ 112 + 0x181

/-- Event messages, which carry the timestamp point: UDP port 319 and DSCP 46; the general ones have port 320 and DSCP 0 (R231). -/
def ptpEvent (kind : String) : Bool := kind == "Sync" || kind == "Delay_Req" || kind == "Pdelay_Req" || kind == "Pdelay_Resp"

/-- The IP header of a PTP message (R231). -/
def ptpHeader (s : State) (i : Nat) (kind : String) : List (String × Int) :=
  if s.f F.PTP_INST_CFG_transport i = 0 then []
  else [("udp", if ptpEvent kind then 319 else 320), ("dscp", if ptpEvent kind then 46 else 0), ("ttl", 64)]

/-- A PTP message leaves (R223, R231, R249): a transmitter in LPI wakes first; the message goes to the multicast group, untagged, or to an address by a
next hop; with the active key's keyID when auth_en = 1. -/
def ptpSend (s : State) (i p len : Nat) (kind : String) (fields : List (String × Int)) (vlan : Nat := 0) (oneStep : Bool := false)
    (to_ : Option (Nat × Nat) := none) : State :=
  let s := portAwake s p
  let k := s.f F.PTP_INST_AUTH_active i
  let keyId := if k = 0 then s.f F.PTP_INST_AUTH_key_id0 i else s.f F.PTP_INST_AUTH_key_id1 i
  let auth : List (String × Int) := if s.fb F.PTP_INST_CFG_auth_en i then [("spp", s.f F.PTP_INST_AUTH_spp i), ("keyID", keyId)] else []
  tseSend s p 0x0010 (ptpWire s i len (vlan != 0) oneStep)
    ⟨kind, ([("domain", (s.f F.PTP_INST_DOM_domain i : Int)), ("transport", (s.f F.PTP_INST_CFG_transport i : Int)),
      ("source", (portIdentity s i p : Int)), ("vlan", (vlan : Int)), ("destination", ((to_.map Prod.fst).getD (ptpGroup s i kind) : Nat)),
      ("nextHop", ((to_.map Prod.snd).getD 0 : Nat))] : List (String × Int)) ++ ptpHeader s i kind ++ fields ++ auth⟩

/-! ### Published quality (R239-R242) -/

/-- The bound that instance `i` publishes on port `p`: its timescale's, the port component, and its splice residual (R64, R86, R239). -/
def ptpBoundPs (s : State) (i p : Nat) : Option Nat :=
  addBound (tsBoundPs s (ptpTs s i)) (some (portPs s p + (unitsToPs (residualOf s (10 + i))).natAbs))

/-- The clockAccuracy codes of R240 with their limits in ps. -/
def accLimits : List (Nat × Nat) :=
  [(0x17, 1), (0x18, 2), (0x19, 10), (0x1A, 25), (0x1B, 100), (0x1C, 250), (0x1D, 1000), (0x1E, 2500), (0x1F, 10000), (0x20, 25000),
   (0x21, 100000), (0x22, 250000), (0x23, 10 ^ 6), (0x24, 2500000), (0x25, 10 ^ 7), (0x26, 25000000)] ++
  [(0x27, 10 ^ 8), (0x28, 250000000), (0x29, 10 ^ 9), (0x2A, 2500000000), (0x2B, 10 ^ 10), (0x2C, 25000000000), (0x2D, 10 ^ 11),
   (0x2E, 250000000000), (0x2F, 10 ^ 12), (0x30, 10 ^ 13)]

/-- The limit of a received clockAccuracy, in ps rounded up (R236, R240). -/
def accLimit (c : Nat) : Option Nat :=
  match accLimits.find? (fun p => p.1 == c) with
  | some p => some (if c = 0x18 then 3 else p.2)
  | none => none

/-- clockAccuracy of a bound (R240), before the floor. -/
def accCode (b : Option Nat) : Nat :=
  match b with
  | none => 0xFE
  | some b => match (accLimits.drop 3).find? (fun p => decide (b ≤ p.2)) with
    | some p => p.1
    | none => 0xFE

/-- clockAccuracy with its floor (R240). -/
def accPublished (s : State) (i : Nat) (b : Option Nat) : Nat :=
  let f := s.f F.PTP_INST_QUAL_acc_floor i
  if f ≠ 0 ∧ accCode b < f then f else accCode b

/-- clockClass of a grade (R91's table). -/
def classOf (profile grade : Nat) : Nat :=
  let t := profile == 3 || profile == 4
  match grade with
  | 0 => 6
  | 1 => 7
  | 2 => if t then 140 else 52
  | 3 => if t then 150 else 187
  | 4 => if t then 160 else 187
  | _ => 248

/-- clockClass of R239: the grade's, or the larger class_floor. -/
def ownClass (s : State) (i : Nat) : Nat := max (classOf (ptpProfile s i) (gradeOf s (ptpTs s i))) (s.f F.PTP_INST_QUAL_class_floor i)

/-- The heaviest weighted member of timescale `n`. -/
def heaviest (s : State) (n : Nat) : Option Nat :=
  (List.range 32).foldl (fun (b : Option Nat) k =>
    if slotOn s k && slotTs s k == n && s.fb F.TS_REF_STATUS_in_use k then
      match b with
      | some q => if s.f F.TS_REF_STATUS_weight q < s.f F.TS_REF_STATUS_weight k then some k else b
      | none => some k
    else b) none

/-- timeSource (R239). -/
def timeSource (s : State) (n : Nat) : Nat :=
  match heaviest s n with
  | some k => match s.f F.TS_REF_CFG_type k with
    | 5 => 0x20
    | 3 => 0x40
    | 4 => 0x50
    | _ => 0x90
  | none => if 3 ≤ s.f F.TS_OSC_CFG_class ∧ s.f F.TS_OSC_CFG_class ≤ 5 then 0x10 else 0xA0

/-- A boundary instance forwards while its SLAVE port's slot is QUALIFIED and carries weight (R241). -/
def forwards (s : State) (i : Nat) : Bool :=
  ptpRole s i == 2 && (ptp s i).parent.isSome && (match (ptp s i).slave with
    | some p => ptpPortState s i p == 3
    | none => false)
  && (List.range 32).any (fun k => slotOn s k && s.f F.TS_REF_CFG_type k == 3 && s.f F.TS_REF_CFG_source k == i && slotTs s k == ptpTs s i
    && slotState s k == 2 && s.fb F.TS_REF_STATUS_in_use k)

/-- What instance `i` publishes for a bound (R239-R241). -/
def published (s : State) (i : Nat) (b : Option Nat) : Announce :=
  let n := ptpTs s i
  let g := gradeOf s n
  let fl := bit (s.fb F.TS_LEAP_SCHED_pending && s.f F.TS_LEAP_SCHED_dir == 1) + 2 * bit (s.fb F.TS_LEAP_SCHED_pending && s.f F.TS_LEAP_SCHED_dir == 2)
    + 4 * bit (s.fb F.TS_UTC_OFS_known) + 8 * bit (!s.fb F.PTP_INST_CFG_arb i) + 16 * bit (decide (g ≤ 2)) + 32 * bit (decide (g ≤ 3))
  let own : Announce := ⟨clockId s i, ownClass s i, accPublished s i b, if g ≤ 1 then s.f F.PTP_INST_QUAL_variance i else 0xFFFF,
    s.f F.PTP_INST_DOM_priority1 i, s.f F.PTP_INST_DOM_priority2 i, 0, s.fi F.TS_UTC_OFS_tai_utc, fl, some (s.rg .RAN_CLAIM).toNat, some (boundCodeOpt b)⟩
  match (ptp s i).parent with
  | some f =>
    if forwards s i then
      { own with gm := f.ann.gm, prio1 := f.ann.prio1, prio2 := f.ann.prio2, acc := max f.ann.acc own.acc, variance := f.ann.variance,
                 steps := f.ann.steps + 1, cls := max f.ann.cls own.cls }
    else own
  | none => own

/-- The bound that PTP_INST_STATUS shows: over the instance's ports the largest component. -/
def instBoundPs (s : State) (i : Nat) : Option Nat :=
  let c := (List.range 4).foldl (fun m p => if ptpHas s i p then max m (portPs s p) else m) 4
  addBound (tsBoundPs s (ptpTs s i)) (some (c + (unitsToPs (residualOf s (10 + i))).natAbs))

/-- Fields in network byte order as one number: (width in bits, value), the first the most significant (R3). -/
def packNet (l : List (Nat × Nat)) : Nat := l.foldl (fun a f => a * 2 ^ f.1 + f.2 % 2 ^ f.1) 0

/-- The 16 bytes of the claim TLV (R242). -/
def claimTlv (s : State) : Nat :=
  packNet [(16, 3), (16, 12), (24, s.f F.PTP_ORG_ID_value), (24, 1), (32, (s.rg .RAN_CLAIM).toNat), (8, s.f F.RAN_STATUS_role), (8, 0)]

/-- The 22 bytes of the bound TLV of timescale `n` for a bound (R242): its code, the grade, the state, the flags, and the bound in ps. -/
def boundTlv (s : State) (n : Nat) (b : Option Nat) : Nat :=
  packNet [(16, 3), (16, 18), (24, s.f F.PTP_ORG_ID_value), (24, 2), (8, boundCodeOpt b), (8, gradeOf s n), (8, (tsStateOf s n).code),
    (8, bit (tsStateOf s n == .coasting) + 2 * bit (s.fb F.TS_ENS_STATUS_reacq (tsRoot s n))), (64, b.getD (2 ^ 64 - 1))]

/-- The fields of an Announce (R239, R242). -/
def announceFields (s : State) (i p : Nat) : List (String × Int) :=
  let n := ptpTs s i
  let b := ptpBoundPs s i p
  let a := published s i b
  [("grandmasterIdentity", a.gm), ("clockClass", a.cls), ("clockAccuracy", a.acc), ("offsetScaledLogVariance", a.variance),
   ("priority1", a.prio1), ("priority2", a.prio2), ("stepsRemoved", a.steps), ("timeSource", timeSource s n), ("currentUtcOffset", a.utcOfs),
   ("flags", a.flags), ("claimTlv", claimTlv s), ("boundTlv", boundTlv s n b)]

/-! ### The client table (R245-R248, R276) -/

/-- Entry `e` of the client table. -/
def clientAt (s : State) (e : Nat) : Option Client := tget s.ptp.clients none e

/-- Byte `k` of a layout: little-endian (R3); 0 where nothing stands. -/
def layoutByte (l : Layout) (k : Nat) : Nat :=
  match l.find? (fun d => decide (d.1 ≤ k) && decide (k < d.1 + d.2.1)) with
  | some d => d.2.2 / 256 ^ (k - d.1) % 256
  | none => 0

/-- A client-table entry (R247, R276). -/
def clientLayout (s : State) (e : Nat) : Layout :=
  match tget s.ptp.clients none e with
  | none => []
  | some (.grant g) =>
    [(0, 1, 1), (1, 1, g.inst + 4 * g.port + 16 * g.transport), (2, 1, g.types), (4, 1, twos 8 g.logA), (5, 1, twos 8 g.logS), (6, 1, twos 8 g.logD),
     (8, 4, g.expA), (12, 4, g.expS), (16, 4, g.expD), (20, 10, netOrder 10 g.pid), (30, 2, g.vlan),
     (32, 16, netOrder 16 (if g.transport = 0 then g.addr * 2 ^ 80 else g.addr)), (48, 6, netOrder 6 g.mac), (54, 2, g.seqA), (56, 2, g.seqS),
     (60, 4, Config.chainNext e s.ticks)]
  | some (.ntp c) =>
    [(0, 1, 2), (1, 1, c.inst + 4 * c.port + 16 * c.family + 64 * bit c.lastNts + 128 * bit c.lastOver), (2, 1, c.version), (3, 1, twos 8 c.poll),
     (4, 4, c.requests), (8, 4, c.first), (12, 4, c.last), (16, 4, c.nts), (20, 4, c.naks), (24, 4, c.kods), (32, 16, netOrder 16 c.addr), (48, 2, c.udp),
     (60, 4, Config.chainNext e s.ticks)]

/-- Two entries that differ in bytes 54-57 at most, the next sequenceIds (R294). -/
def sameEntry : Option Client → Option Client → Bool
  | some (.grant a), some (.grant b) => { a with seqA := b.seqA, seqS := b.seqS, sentA := b.sentA, sentS := b.sentS } == b
  | a, b => a == b

/-- Entries of kind 1 in use (PTP_UNI_USED). -/
def uniCount (s : State) : State :=
  s.setF F.PTP_UNI_USED_value ((s.ptp.clients.filter (fun p => match p.2 with
    | some (.grant _) => true
    | _ => false)).length)

/-- Set an entry; a change of a kind-1 entry in fields other than its sequenceIds is to be mirrored (R294). -/
def setClient (s : State) (e : Nat) (c : Option Client) : State :=
  let kind1 := match clientAt s e, c with
    | some (.grant _), _ => true
    | _, some (.grant _) => true
    | _, _ => false
  let s := { s with ptp := { s.ptp with clients := tset s.ptp.clients e c, dirty := if kind1 && !sameEntry (clientAt s e) c && !s.ptp.dirty.contains e then s.ptp.dirty ++ [e] else s.ptp.dirty } }
  uniCount s

/-- The entry of a client, by instance, port, address and portIdentity (R246). -/
def findGrant (s : State) (i p addr pid : Nat) : Option (Nat × Grant) :=
  s.ptp.clients.findSome? (fun q => match q.2 with
    | some (.grant g) => if g.inst = i ∧ g.port = p ∧ g.addr = addr ∧ g.pid = pid then some (q.1, g) else none
    | _ => none)

/-- The first free entry from `e` on. -/
def freeFrom (s : State) : Nat → Nat → Option Nat
  | 0, _ => none
  | k + 1, e => if (clientAt s (e % 65536)).isNone then some (e % 65536) else freeFrom s k (e + 1)

/-- The kind-2 entry with the oldest last-seen time (R276). -/
def oldestNtp (s : State) : Option Nat :=
  (s.ptp.clients.foldl (fun (b : Option (Nat × Nat)) q => match q.2 with
    | some (.ntp c) => match b with
      | some (_, t) => if c.last < t then some (q.1, c.last) else b
      | none => some (q.1, c.last)
    | _ => b) none).map Prod.fst

/-- An entry for a new client: a free one, else the oldest of kind 2 (R276). -/
def entryFor (s : State) (key : Nat) : Option Nat :=
  match freeFrom s 65536 (Config.clientHash s.ntp.hashKey key) with
  | some e => some e
  | none => oldestNtp s

/-- Seconds of the instance's timescale. -/
def instSec (s : State) (i : Nat) : Nat := (tsc s (ptpTs s i)).cnt.sec

/-- Expiry second of a granted type: 0 Announce, 1 Sync, 2 Delay_Resp. -/
def grantExpires (g : Grant) (what : Nat) : Nat := if what = 0 then g.expA else if what = 1 then g.expS else g.expD

/-- The type is granted and its expiry second has not come (R246); the expiry holds the low 32 bits of the seconds (R247). -/
def liveType (s : State) (g : Grant) (what : Nat) : Bool :=
  let left := (grantExpires g what + 2 ^ 32 - instSec s g.inst % 2 ^ 32) % 2 ^ 32
  g.types.testBit what && decide (1 ≤ left) && decide (left < 2 ^ 31)

/-- Rate of an interval in 1/32 per second. -/
def rate32 (log : Int) : Nat := 2 ^ (5 - log).toNat

/-- Granted rate of an entry in 1/32 per second (R245). -/
def grantRate (s : State) (g : Grant) : Nat :=
  (if liveType s g 0 then rate32 g.logA else 0) + (if liveType s g 1 then rate32 g.logS * (if s.fb F.PTP_INST_CFG_one_step g.inst then 1 else 2) else 0)
  + (if liveType s g 2 then rate32 g.logD else 0)

/-- Granted rate of a port over all instances (R245). -/
def portRate (s : State) (p : Nat) : Nat :=
  (s.ptp.clients.map (fun q => match q.2 with
    | some (.grant g) => if g.port = p then grantRate s g else 0
    | _ => 0)).sum

/-- The longest interval that the profile permits for a message type (R228). -/
def profileMax (profile what : Nat) : Int :=
  match profile, what with
  | 0, 0 => 4
  | 0, 1 => 1
  | 0, _ => 5
  | _, _ => 0

/-- A grant with one type's interval and expiry replaced; the instants of a new interval start anew (R248). -/
def withType (g : Grant) (what : Nat) (log : Int) (exp : Nat) : Grant :=
  let t := g.types ||| 2 ^ what
  match what with
  | 0 => { g with types := t, logA := log, expA := exp, sentA := if g.logA = log then g.sentA else none }
  | 1 => { g with types := t, logS := log, expS := exp, sentS := if g.logS = log then g.sentS else none }
  | _ => { g with types := t, logD := log, expD := exp }

/-- A grant without one type. -/
def withoutType (g : Grant) (what : Nat) : Grant := { g with types := g.types &&& (7 ^^^ 2 ^ what) }

/-- Store an entry, or free it when no type remains (R246). -/
def putGrant (s : State) (e : Nat) (g : Grant) : State := setClient s e (if g.types = 0 then none else some (.grant g))

/-- A REQUEST_UNICAST_TRANSMISSION (R245, R246): the duration granted, 0 for a refusal. -/
def grantRequest (s : State) (i p : Nat) (m : PtpMsg) (what : Nat) (log : Int) (dur : Nat) : State × Nat :=
  let known := findGrant s i p m.addr m.pid
  let least := if what = 0 then s.fi F.PTP_INST_UNI_min_log_announce i else s.fi F.PTP_INST_UNI_min_log_sync i
  let d := min dur (s.f F.PTP_INST_UNI_max_duration i)
  let hasA := match known with
    | some (_, g) => liveType s g 0
    | none => false
  let place := match known with
    | some (e, g) => some (e, g)
    | none => (entryFor s m.pid).map (fun e => (e, ⟨i, p, s.f F.PTP_INST_CFG_transport i, 0, 0, 0, 0, 0, 0, 0, m.pid, m.vlan, m.addr, m.mac, 0, 0, none, none⟩))
  let bad := ptpPortState s i p != 4 || decide (2 < what) || decide (log < least) || decide (profileMax (ptpProfile s i) what < log) || decide (dur < 10)
    || (what != 0 && !hasA)
  match (if bad then none else place) with
  | none => (s.inc .PTP_GRANT_DENY i, 0)
  | some (e, g) =>
    let g' := withType { g with vlan := m.vlan, mac := m.mac } what log ((instSec s i + d) % 2 ^ 32)
    let old := if known.isSome then grantRate s g else 0
    if s.f F.PTP_PORT_BUDGET_kpps p * 32000 < portRate s p - old + grantRate s g' then (s.inc .PTP_GRANT_DENY i, 0)
    else (setClient s e (some (.grant g')), d)

/-! ### Enable (R229, R246) -/

/-- Ranges of the profile table (R228): domains, intervals low and high for Announce, Sync, Delay. -/
def profileDomains (profile : Nat) : Nat × Nat := if profile = 3 then (24, 43) else if profile = 4 then (44, 63) else (0, 127)

/-- Intervals of the profile table: Announce, Sync, Delay. -/
def profileIntervals (profile : Nat) : (Int × Int) × (Int × Int) × (Int × Int) :=
  match profile with
  | 0 => ((0, 4), (-7, 1), (-7, 5))
  | 1 => ((0, 4), (-7, 1), (-7, 5))
  | 2 => ((-3, 1), (-7, 0), (-7, 0))
  | 3 => ((-3, -3), (-4, -4), (-4, -4))
  | _ => ((-3, 0), (-7, 0), (-7, 0))

/-- Transport and delivery that the profile permits (R228). -/
def profileCarries (profile transport : Nat) (unicast : Bool) : Bool :=
  match profile with
  | 0 => true
  | 3 => transport == 0 && !unicast
  | 4 => (transport == 1 || transport == 2) && unicast
  | _ => !unicast

/-- The TSE address of port `p` of a family; 0 where none is set. -/
def tseIp (s : State) (p : Nat) (v6 : Bool) : Nat :=
  if v6 then packNet ((List.range 4).map (fun w => (32, s.f F.TSE_IP6_value p w))) else s.f F.TSE_IP4_value p

/-- The address of port `p` of a family is set. -/
def tseAddr (s : State) (p : Nat) (v6 : Bool) : Bool := tseIp s p v6 != 0

/-- The checks of R229 in order, as `i`'s registers stand. -/
def ptpCfgErr (s : State) (i : Nat) : Nat :=
  let pr := ptpProfile s i
  let tr := s.f F.PTP_INST_CFG_transport i
  let dm := s.f F.PTP_INST_DOM_domain i
  let iv := profileIntervals pr
  let inR (x : Int) (r : Int × Int) : Bool := decide (r.1 ≤ x) && decide (x ≤ r.2)
  let ports := (List.range 4).filter (ptpHas s i)
  let au := s.fb F.PTP_INST_CFG_auth_en i
  if dm < (profileDomains pr).1 ∨ (profileDomains pr).2 < dm then 1
  else if !profileCarries pr tr (s.fb F.PTP_INST_CFG_unicast i) then 2
  else if !(inR (s.fi F.PTP_INST_INTV_log_announce i) iv.1 && inR (s.fi F.PTP_INST_INTV_log_sync i) iv.2.1 && inR (s.fi F.PTP_INST_INTV_log_delay i) iv.2.2) then 3
  else if ports.isEmpty || ports.any (fun p => !s.fb F.PORT_CFG_enable p) then 4
  else if ports.any (fun p => s.f F.PORT_CFG_ts p != ptpTs s i) then 5
  else if (List.range 4).any (fun j => j != i && ptpOn s j && s.f F.PTP_INST_DOM_domain j == dm && s.f F.PTP_INST_CFG_transport j == tr
      && ports.any (ptpHas s j)) then 6
  else if clockId s i = 0 ∨ clockId s i = 2 ^ 64 - 1 then 7
  else if s.fb F.PTP_INST_CFG_one_step i && au then 8
  else if au && !(handleIs s (ptpKey s i 0) 4 && handleIs s (ptpKey s i 1) 4) then 9
  else if tr ≠ 0 ∧ ports.any (fun p => !tseAddr s p (tr == 2)) = true then 10
  else if s.f F.PTP_INST_CFG_alt_grade i ≠ 7 ∧ s.f F.PTP_INST_CFG_alt_ts i = ptpTs s i then 11
  else 0

/-- One CANCEL_UNICAST_TRANSMISSION leaves for each granted type of an entry (R246, R254). -/
def sendCancels (s : State) (g : Grant) : State :=
  (List.range 3).foldl (fun u k => if liveType s g k && ptpMasterMay u g.inst g.port then
    ptpSend u g.inst g.port 52 "Signaling" [("target", g.pid), ("CANCEL_UNICAST_TRANSMISSION", k)] g.vlan false (some (g.addr, g.mac)) else u) s

/-- Entries of instance `i` send one CANCEL per granted type and are freed (R246). -/
def cancelGrants (s : State) (i : Nat) : State :=
  s.ptp.clients.foldl (fun t q => match q.2 with
    | some (.grant g) =>
      if g.inst = i then
        setClient (sendCancels t g) q.1 none
      else t
    | _ => t) s

/-- PTP_INST_ENABLE (R229, R230, R238, R246). -/
def execPtpInstEnable (inst : Nat) (value : Word) (s : State) : Host.Outcome State Fault Refusal :=
  if 4 ≤ inst then .next (violation s)
  else
    let was := ptpOn s inst
    let t := regWrite s ⟨.PTP_INST_CFG, inst, 0⟩ value
    if !was && ptpOn t inst then
      let e := ptpCfgErr t inst
      if e ≠ 0 then .next (violation ((t.setB F.PTP_INST_CFG_enable false inst).setF F.PTP_INST_INFO_cfg_err e inst))
      else
        let t := setPtp (t.setF F.PTP_INST_INFO_cfg_err 0 inst) inst { PtpInst.reset with umasters := (ptp t inst).umasters }
        let t := (List.range 4).foldl (fun u p => setPtpState u inst p (if ptpHas u inst p then (if portState u p = 3 then 1 else 6) else 0)) t
        .next t
    else if was && !ptpOn t inst then
      let t := (cancelGrants s inst).setB F.PTP_INST_CFG_enable false inst
      let t := setPtp t inst { PtpInst.reset with umasters := (ptp t inst).umasters.map (fun q => (q.1, q.2.map (fun u => { u with announce := none, sync := none, delay := none }))) }
      .next ((t.setF F.PTP_INST_STATUS_port_state 0 inst).setF F.PTP_INST_INFO_l1sync 0 inst)
    else .next t

/-! ### The best master (R238, R243) -/

/-- Lexicographic order. -/
def lexLt : List Nat → List Nat → Bool
  | [], _ => false
  | _, [] => false
  | a :: x, b :: y => if a < b then true else if b < a then false else lexLt x y

/-- A data set for the comparison: the Announce, its local priority, its sender and its port. -/
abbrev DataSet := Announce × Nat × Nat × Nat

/-- The topology part: steps removed, sender, port. -/
def topoLt (a b : DataSet) : Bool := lexLt [a.1.steps, a.2.2.1, a.2.2.2] [b.1.steps, b.2.2.1, b.2.2.2]

/-- Data set `a` is better than `b` by the profile's BMCA (PRESUMED, notes/assumptions/19.md: IEEE 1588 and ITU-T G.8275). -/
def dsBetter (profile : Nat) (a b : DataSet) : Bool :=
  if profile = 3 ∨ profile = 4 then
    let ka := [a.1.cls, a.1.acc, a.1.variance, a.1.prio2, a.2.1]
    let kb := [b.1.cls, b.1.acc, b.1.variance, b.1.prio2, b.2.1]
    if ka ≠ kb then lexLt ka kb
    else if a.1.cls ≤ 127 ∨ a.1.gm = b.1.gm then topoLt a b
    else decide (a.1.gm < b.1.gm)
  else if a.1.gm = b.1.gm then topoLt a b
  else lexLt [a.1.prio1, a.1.cls, a.1.acc, a.1.variance, a.1.prio2, a.1.gm] [b.1.prio1, b.1.cls, b.1.acc, b.1.variance, b.1.prio2, b.1.gm]

/-- The data set of a foreign master. -/
def foreignDs (f : Foreign) : DataSet := (f.ann, 128, f.pid, f.port)

/-- The instance's own data set. -/
def ownDs (s : State) (i : Nat) : DataSet :=
  let n := ptpTs s i
  let g := gradeOf s n
  let b := instBoundPs s i
  (⟨clockId s i, ownClass s i, accPublished s i b, if g ≤ 1 then s.f F.PTP_INST_QUAL_variance i else 0xFFFF, s.f F.PTP_INST_DOM_priority1 i,
    s.f F.PTP_INST_DOM_priority2 i, 0, 0, 0, none, none⟩, s.f F.PTP_INST_DOM_local_priority i, clockId s i * 65536, 0)

/-- The best of a list of foreign masters. -/
def bestForeign (profile : Nat) : List Foreign → Option Foreign
  | [] => none
  | f :: r => match bestForeign profile r with
    | some g => if dsBetter profile (foreignDs g) (foreignDs f) then some g else some f
    | none => some f

/-- The window of announceReceiptTimeout Announce intervals in ticks (R243). -/
def announceWindow (s : State) (i : Nat) : Nat :=
  let l := s.fi F.PTP_INST_INTV_log_announce i
  s.f F.PTP_INST_INTV_receipt_timeout i * 625000000 * 2 ^ (l + 7).toNat / 128

/-- The foreign masters that the claim filter leaves (R243), and those it removes. -/
def claimFilter (s : State) (i : Nat) : List Foreign × Nat :=
  let x := ptp s i
  if !s.fb F.PTP_INST_CFG_claim_filter i || ptpRole s i == 0 then (x.foreign, 0)
  else
    let top := x.claims.foldl (fun m c => if s.ticks ≤ c.2 + announceWindow s i then max m c.1 else m) 0
    let keep := x.foreign.filter (fun f => match f.ann.claim with
      | some c => decide (top ≤ c)
      | none => true)
    (keep, x.foreign.length - keep.length)

/-- A unicast slave asks a master for a grant (R246). -/
def uniRequest (s : State) (i j what : Nat) : State :=
  match tget (ptp s i).umasters none j with
  | none => s
  | some u =>
    if !ptpMaySend s i u.port then s
    else
      let log := match what with
        | 0 => s.fi F.PTP_INST_INTV_log_announce i
        | 1 => s.fi F.PTP_INST_INTV_log_sync i
        | _ => s.fi F.PTP_INST_INTV_log_delay i
      ptpSend s i u.port 54 "Signaling" [("REQUEST_UNICAST_TRANSMISSION", what), ("logInterMessagePeriod", log),
        ("duration", s.f F.PTP_INST_UNI_max_duration i)] 0 false (some (u.addr, 0))

/-- The unicast masters of instance `i` at an address. -/
def umastersAt (s : State) (i p addr : Nat) : List Nat :=
  (List.range 8).filter (fun j => match tget (ptp s i).umasters none j with
    | some u => u.port == p && u.addr == addr
    | none => false)

/-- A grant that a unicast slave holds has not expired (R246). -/
def heldLive (s : State) (i : Nat) (g : Option HeldGrant) : Bool :=
  match g with
  | some g => decide (instSec s i < g.expires)
  | none => false

/-- The parent changes (R235): the port is UNCALIBRATED and the filter restarts; a unicast slave asks it for Sync and Delay_Resp. -/
def setParent (s : State) (i : Nat) (f : Option Foreign) : State :=
  let x := ptp s i
  let same := match x.parent, f with
    | some a, some b => a.pid == b.pid && a.port == b.port
    | none, none => true
    | _, _ => false
  let s := setPtp s i { x with parent := f, slave := f.map Foreign.port }
  if same then s
  else
    let ps := (ptp s i).ports.map (fun q =>
      (q.1, { q.2 with sync := none, req := none, resp := none, pd := none, delays := if f.map Foreign.port = some q.1 then [] else q.2.delays }))
    let s := setPtp s i { ptp s i with exchanges := 0, xs := [], ports := ps }
    match f with
    | some f =>
      if s.fb F.PTP_INST_CFG_unicast i then
        (umastersAt s i f.port f.addr).foldl (fun t j => uniRequest (uniRequest t i j 1) i j 2) s
      else s
    | none => s

/-- A port enters the state that the BMCA gives it: SLAVE passes through UNCALIBRATED (R235). -/
def bmcaState (s : State) (i p st : Nat) : State :=
  let now := ptpPortState s i p
  if st = 3 then
    (if now = 2 ∨ (now = 3 ∧ 8 ≤ (ptp s i).exchanges) then s
    else setPtpState (setPtp s i { ptp s i with exchanges := if now = 3 then (ptp s i).exchanges else 0 }) i p 2)
  else setPtpState s i p st

/-- The BMCA of instance `i` (R238, R243). -/
def bmca (s : State) (i : Nat) : State :=
  let pr := ptpProfile s i
  let (keep, gone) := claimFilter s i
  let s := setPtp (s.inc .PTP_CLAIM_REJ i gone) i { ptp s i with foreign := keep }
  let ok := keep.filter (fun f => decide (2 ≤ f.count) && decide (f.ann.steps < 255) && portState s f.port == 3)
  let best := bestForeign pr ok
  let d0 := ownDs s i
  let role := ptpRole s i
  let d0Wins (f : Option Foreign) : Bool := match f with
    | some f => dsBetter pr d0 (foreignDs f)
    | none => true
  let slave := if role = 0 then none
    else if role = 1 then best
    else if d0.1.cls ≤ 127 ∨ d0Wins best = true then none else best
  let s := setParent s i slave
  (List.range 4).foldl (fun t p =>
    if !ptpHas t i p then setPtpState t i p 0
    else if portState t p ≠ 3 then setPtpState t i p 6
    else
      let er := bestForeign pr (ok.filter (fun f => f.port == p))
      let st :=
        if role = 0 then 4
        else if (slave.map Foreign.port) = some p then 3
        else if role = 1 then (if er.isSome then 5 else 1)
        else if d0.1.cls ≤ 127 then (if d0Wins er then 4 else 5)
        else match slave, er with
          | some b, some e => if dsBetter pr (foreignDs b) (foreignDs e) && b.ann.gm == e.ann.gm then 5 else 4
          | _, _ => 4
      bmcaState t i p st) s

/-- BMCA_RUN (R238, R243). -/
def execBmcaRun (inst : Nat) (s : State) : Host.Outcome State Fault Refusal := .next (if ptpOn s inst then bmca s inst else s)

/-- ANNOUNCE_RECEIPT_TIMEOUT (R238): a foreign master has gone silent. -/
def execAnnounceReceiptTimeout (inst port_ pid : Nat) (s : State) : Host.Outcome State Fault Refusal :=
  if !ptpOn s inst then .next s
  else .next (bmca (setPtp s inst { ptp s inst with foreign := (ptp s inst).foreign.filter (fun f => !(f.port == port_ && f.pid == pid)) }) inst)

/-! ### L1_SYNC (R237) -/

/-- The flags that port `p` sends (R237). -/
def l1Own (s : State) (i p : Nat) : L1Flags :=
  let a := s.f F.PORT_CFG_ref_apll p
  let d := s.f F.AP_CFG_dpll a
  let tcr := a != 0 && d != 0 && dpState s d == 3 && s.f F.DP_CFG_src_type d == 1 && s.f F.DP_CFG_src_idx d == ptpTs s i
  let rcr := portFeedsDpll s p
  ⟨tcr, rcr, tcr && rcr, false, tcr || rcr⟩

/-- The L1SYNC state of port `p`: 1 IDLE, 2 LINK_ALIVE, 3 CONFIG_MATCH, 4 L1_SYNC_UP (PRESUMED, notes/assumptions/20.md: IEEE 1588 Annex L). -/
def l1State (s : State) (i p : Nat) : Nat :=
  if ptpProfile s i ≠ 2 then 0
  else
    let x := ptpPort s i p
    let o := l1Own s i p
    match x.l1Peer with
    | none => 1
    | some f =>
      if 3 ≤ x.l1Age then 1
      else if f.tcr ≠ o.tcr ∨ f.rcr ≠ o.rcr ∨ f.cr ≠ o.cr ∨ f.ope = true then 2
      else if f.active && o.active then 4 else 3

/-- Report the L1SYNC state of the SLAVE port. -/
def l1Report (s : State) (i : Nat) : State :=
  s.setF F.PTP_INST_INFO_l1sync (match (ptp s i).slave with
    | some p => l1State s i p
    | none => 0) i

/-- L1_SYNC_SEND (R237): once per Announce interval. -/
def execL1SyncSend (inst port_ : Nat) (s : State) : Host.Outcome State Fault Refusal :=
  if ptpProfile s inst ≠ 2 ∨ ptpMaySend s inst port_ = false ∨ (ptpPortState s inst port_ = 4 ∧ s.fb F.RAN_STATUS_permission = false) then .next s
  else
    let f := l1Own s inst port_
    let x := ptpPort s inst port_
    let s := setPtpPort s inst port_ { x with l1Age := x.l1Age + 1, seqG := (x.seqG + 1) % 65536 }
    .next (l1Report (ptpSend s inst port_ 50 "Signaling" [("L1_SYNC", bit f.tcr + 2 * bit f.rcr + 4 * bit f.cr)]) inst)

/-! ### Receiving (R231, R235, R245, R249) -/

/-- The message types of the instance's role and profile (R228, R231). -/
def ptpUses (s : State) (i : Nat) (b : PtpBody) : Bool :=
  let pd := ptpProfile s i == 1
  let r := ptpRole s i
  match b with
  | .sync _ _ | .followUp _ => r != 0
  | .delayReq => !pd && r != 1
  | .delayResp _ _ => !pd && r != 0
  | .pdelayReq | .pdelayResp _ _ _ | .pdelayFollowUp _ _ => pd
  | .announce _ => true
  | .signaling u l other => !other && (u.isEmpty || s.fb F.PTP_INST_CFG_unicast i) && (l.isNone || ptpProfile s i == 2)

/-- The message is addressed to the device (R231): a group of PTP or the port's own address, and for IP the ports of PTP. -/
def ptpAddressed (s : State) (p : Nat) (m : PtpMsg) : Bool :=
  match m.transport with
  | 0 => m.dest == 0x011B19000000 || m.dest == 0x0180C200000E || m.dest == portMac s p
  | 1 => (m.udp == 319 || m.udp == 320) && (m.dest == 0xE0000181 || m.dest == 0xE000006B || m.dest == tseIp s p false)
  | _ => (m.udp == 319 || m.udp == 320) && (m.dest == 0xFF0E * 2 ^ 112 + 0x181 || m.dest == 0xFF02 * 2 ^ 112 + 0x6B || m.dest == tseIp s p true)

/-- The frame is claimed for instance `i` (R231). -/
def ptpClaims (s : State) (i p : Nat) (m : PtpMsg) : Bool :=
  ptpOn s i && ptpHas s i p && tsePortOk s p && decide (m.tagged ≤ 1) && m.version == 2 && m.sdo == 0 && m.transport == s.f F.PTP_INST_CFG_transport i
  && m.domain == s.f F.PTP_INST_DOM_domain i && ptpUses s i m.body && ptpAddressed s p m

/-- The message passes authentication (R249, R365). -/
def ptpAccepts (s : State) (i : Nat) (m : PtpMsg) : Bool :=
  if !s.fb F.PTP_INST_CFG_auth_en i then true
  else if tampered s then false
  else match m.auth with
    | none => !s.fb F.PTP_INST_AUTH_required i
    | some a =>
      let k := if a.keyId = s.f F.PTP_INST_AUTH_key_id0 i then some 0 else if a.keyId = s.f F.PTP_INST_AUTH_key_id1 i then some 1 else none
      match (if a.spp = s.f F.PTP_INST_AUTH_spp i then k else none) with
      | some k => handleIs s (ptpKey s i k) 4 && handleKey s (ptpKey s i k) == some a.key
      | none => !s.fb F.PTP_INST_AUTH_required i

/-- An Announce is heard (R238, R243). -/
def hearAnnounce (s : State) (i p : Nat) (m : PtpMsg) (a : Announce) : State :=
  let x := ptp s i
  if m.pid / 65536 = clockId s i then s
  else
    let n := match x.foreign.find? (fun f => f.port == p && f.pid == m.pid) with
      | some f => f.count + 1
      | none => 1
    let f : Foreign := ⟨p, m.pid, m.addr, a, n, s.ticks⟩
    let claims := match a.claim with
      | some c => (c, s.ticks) :: x.claims.filter (fun q => s.ticks ≤ q.2 + announceWindow s i)
      | none => x.claims
    let parent := match x.parent with
      | some q => if q.pid = m.pid ∧ q.port = p then some f else x.parent
      | none => none
    setPtp s i { x with foreign := f :: x.foreign.filter (fun f => !(f.port == p && f.pid == m.pid)), claims := claims, parent := parent }

/-- A unicast negotiation TLV is handled (R245, R246). -/
def uniTlv (s : State) (i p : Nat) (m : PtpMsg) : UniTlv → State
  | .request what log dur =>
    if !ptpMaySend s i p || !s.fb F.RAN_STATUS_permission then s
    else
      let (s, d) := grantRequest s i p m what log dur
      ptpSend s i p 56 "Signaling" [("target", m.pid), ("GRANT_UNICAST_TRANSMISSION", what), ("logInterMessagePeriod", log), ("duration", d)] m.vlan false
        (some (m.addr, m.mac))
  | .grant what _ dur =>
    (umastersAt s i p m.addr).foldl (fun t j =>
      match tget (ptp t i).umasters none j with
      | some u =>
        let g : Option HeldGrant := some ⟨dur, instSec t i + dur⟩
        let u := if dur = 0 then u else match what with
          | 0 => { u with announce := g }
          | 1 => { u with sync := g }
          | _ => { u with delay := g }
        setPtp t i { ptp t i with umasters := tset (ptp t i).umasters j (some u) }
      | none => t) s
  | .cancel what =>
    let s := match findGrant s i p m.addr m.pid with
      | some (e, g) => putGrant s e (withoutType g what)
      | none => (umastersAt s i p m.addr).foldl (fun t j =>
          match tget (ptp t i).umasters none j with
          | some u =>
            let u := match what with
              | 0 => { u with announce := none }
              | 1 => { u with sync := none }
              | _ => { u with delay := none }
            setPtp t i { ptp t i with umasters := tset (ptp t i).umasters j (some u) }
          | none => t) s
    if ptpMaySend s i p && (ptpPortState s i p != 4 || s.fb F.RAN_STATUS_permission) then
      ptpSend s i p 52 "Signaling" [("target", m.pid), ("ACKNOWLEDGE_CANCEL", what)] m.vlan false (some (m.addr, m.mac))
    else s
  | .ackCancel _ => s

/-- The message comes from the parent of instance `i` on its SLAVE port. -/
def fromParent (s : State) (i p : Nat) (m : PtpMsg) : Bool :=
  (ptpPortState s i p == 2 || ptpPortState s i p == 3) && (match (ptp s i).parent with
    | some f => f.pid == m.pid && f.port == p
    | none => false)

/-- A claimed and accepted message is processed. -/
def ptpProcess (s : State) (i p : Nat) (m : PtpMsg) : State :=
  let x := ptpPort s i p
  let st := ptpStamp s i p m.frac true
  match m.body with
  | .sync origin two =>
    if fromParent s i p m then setPtpPort s i p { x with sync := some (m.seq, m.pid, if two then none else some (origin + m.corr), st.1, st.2) } else s
  | .followUp origin =>
    match x.sync with
    | some (q, pid, none, t2, ok) =>
      if q = m.seq ∧ pid = m.pid then setPtpPort s i p { x with sync := some (q, pid, some (origin + m.corr), t2, ok) } else s
    | _ => s
  | .delayReq =>
    let granted := !s.fb F.PTP_INST_CFG_unicast i || (match findGrant s i p m.addr m.pid with
      | some (_, g) => liveType s g 2
      | none => false)
    if ptpPortState s i p = 4 ∧ granted = true then
      setPtp s i { ptp s i with reqs := (ptp s i).reqs ++ [⟨p, m.pid, m.addr, m.seq, false, st.1, m.corr, s.ticks⟩] }
    else s
  | .pdelayReq =>
    if ptpPortState s i p = 0 ∨ ptpPortState s i p = 6 then s
    else setPtp s i { ptp s i with reqs := (ptp s i).reqs ++ [⟨p, m.pid, m.addr, m.seq, true, st.1, m.corr, s.ticks⟩] }
  | .delayResp rx req =>
    match x.req with
    | some (q, _, _) => if q = m.seq ∧ req = portIdentity s i p ∧ fromParent s i p m = true then setPtpPort s i p { x with resp := some (rx - m.corr) } else s
    | none => s
  | .pdelayResp rx req two =>
    match x.req with
    | some (q, t, ok) =>
      if q = m.seq ∧ req = portIdentity s i p then
        let x := { x with req := some (q, t, ok && st.2) }
        if two then setPtpPort s i p { x with pd := some (rx - m.corr, st.1) } else setPtpPort s i p { x with resp := some (st.1 - m.corr) }
      else s
    | none => s
  | .pdelayFollowUp tx req =>
    match x.pd, x.req with
    | some (t2, t4), some (q, _, _) =>
      if q = m.seq ∧ req = portIdentity s i p then setPtpPort s i p { x with pd := none, resp := some (t4 - (tx + m.corr - t2)) } else s
    | _, _ => s
  | .announce a => hearAnnounce s i p m a
  | .signaling u l _ =>
    let s := u.foldl (fun t e => uniTlv t i p m e) s
    match l with
    | some f => l1Report (setPtpPort s i p { ptpPort s i p with l1Peer := some f, l1Age := 0 }) i
    | none => s

/-- PTP_MESSAGE_RECEIVE (R231, R235, R238, R243, R245, R249). -/
def execPtpMessageReceive (inst port_ : Nat) (m : PtpMsg) (s : State) : Host.Outcome State Fault Refusal :=
  let s := advance s m.ticks
  if !ptpClaims s inst port_ m || muted s then .next s
  else
    let s := perf s 0x0010 port_
    if !ptpAccepts s inst m then .next (s.inc .PTP_AUTH_FAIL inst) else .next (ptpProcess s inst port_ m)

/-! ### Sending by interval and in answer (R233, R234, R248, R252) -/

/-- A Sync leaves (R223, R233): one-step with its origin, else its Follow_Up is due. -/
def sendSync (s : State) (i p frac seq : Nat) (client : Option (Nat × Grant)) : State :=
  let s := portAwake s p
  let t := (ptpStamp s i p frac false).1
  let vlan := (client.map (fun c => c.2.vlan)).getD 0
  let dst := client.map (fun c => (c.2.addr, c.2.mac))
  if s.fb F.PTP_INST_CFG_one_step i then
    ptpSend s i p 44 "Sync" [("sequenceId", (seq : Int)), ("origin", stampNs t), ("correction", stampFrac t)] vlan true dst
  else
    let s := ptpSend s i p 44 "Sync" [("sequenceId", (seq : Int)), ("twoStep", 1)] vlan false dst
    setPtpPort s i p { ptpPort s i p with fu := (ptpPort s i p).fu ++ [(seq, t, client.map Prod.fst)] }

/-- The instant of R248 that the instance's timescale is at: k of k × 2^L s + (e mod 1024) × 2^L / 1024 s, the last one reached; none where that
instant lies more than 10 % of the interval back (R234). -/
def clientInstant (s : State) (i e : Nat) (log : Int) : Option Int :=
  let len : Int := unitsPerSec * 2 ^ (log + 7).toNat / 128
  let t : Int := (counterUnits (tsc s (ptpTs s i)).cnt : Int) - residualOf s (10 + i) - ((e % 1024 : Nat) : Int) * len / 1024
  let k := t / len
  if 10 * (t - k * len) ≤ len then some k else none

/-- The instant at which the message of an entry is due: one whose message has not left (R248). -/
def clientDue (s : State) (i e : Nat) (log : Int) (sent : Option Int) : Option Int :=
  match clientInstant s i e log with
  | some k => if sent = some k then none else some k
  | none => none

/-- PTP_PERIODIC_SEND (R234, R239, R248, R252, R285): the message of an interval, or its skip when `room` is false; the message of a client-table entry
leaves at its own instants. -/
def execPtpPeriodicSend (inst port_ : Nat) (what : PtpPeriodic) (ticks frac : Nat) (room : Bool) (s : State) : Host.Outcome State Fault Refusal :=
  let s := advance s ticks
  let x := ptpPort s inst port_
  match what with
  | .announce =>
    if !ptpMasterMay s inst port_ || s.fb F.PTP_INST_CFG_unicast inst then .next s
    else .next (ptpSend (setPtpPort s inst port_ { x with seqA := (x.seqA + 1) % 65536 }) inst port_ 102 "Announce"
      (("sequenceId", (x.seqA : Int)) :: announceFields s inst port_))
  | .sync =>
    if !ptpMasterMay s inst port_ || s.fb F.PTP_INST_CFG_unicast inst then .next s
    else if !room then .next (s.inc .PTP_SYNC_SKIP inst)
    else .next (sendSync (setPtpPort s inst port_ { x with seqS := (x.seqS + 1) % 65536 }) inst port_ frac x.seqS none)
  | .delayReq =>
    let st := ptpPortState s inst port_
    let held := !s.fb F.PTP_INST_CFG_unicast inst || (List.range 8).any (fun j => match tget (ptp s inst).umasters none j with
      | some u => u.port == port_ && heldLive s inst u.delay
      | none => false)
    if !ptpMaySend s inst port_ || ptpProfile s inst == 1 || (st != 2 && st != 3) || !held then .next s
    else if !room then .next (s.inc .PTP_SYNC_SKIP inst)
    else
      let s := portAwake s port_
      let t := ptpStamp s inst port_ frac false
      let s := setPtpPort s inst port_ { x with seqD := (x.seqD + 1) % 65536, req := some (x.seqD, t.1, t.2), resp := none }
      .next (ptpSend s inst port_ 44 "Delay_Req" [("sequenceId", x.seqD)] 0 false
        (if s.fb F.PTP_INST_CFG_unicast inst then (ptp s inst).parent.map (fun f => (f.addr, 0)) else none))
  | .pdelayReq =>
    let st := ptpPortState s inst port_
    if !ptpMaySend s inst port_ || ptpProfile s inst != 1 || st == 0 || st == 6 || (st == 4 && !s.fb F.RAN_STATUS_permission) then .next s
    else if !room then .next (s.inc .PTP_SYNC_SKIP inst)
    else
      let s := portAwake s port_
      let t := ptpStamp s inst port_ frac false
      let s := setPtpPort s inst port_ { x with seqD := (x.seqD + 1) % 65536, req := some (x.seqD, t.1, t.2), resp := none, pd := none }
      .next (ptpSend s inst port_ 54 "Pdelay_Req" [("sequenceId", x.seqD)])
  | .clientAnnounce e =>
    match clientAt s e with
    | some (.grant g) =>
      if !ptpMasterMay s g.inst g.port || !liveType s g 0 then .next s
      else match clientDue s g.inst e g.logA g.sentA with
        | none => .next s
        | some k =>
          let s := setClient s e (some (.grant { g with seqA := (g.seqA + 1) % 65536, sentA := some k }))
          .next (ptpSend s g.inst g.port 102 "Announce" (("sequenceId", (g.seqA : Int)) :: announceFields s g.inst g.port) g.vlan false (some (g.addr, g.mac)))
    | _ => .next s
  | .clientSync e =>
    match clientAt s e with
    | some (.grant g) =>
      if !ptpMasterMay s g.inst g.port || !liveType s g 1 then .next s
      else match clientDue s g.inst e g.logS g.sentS with
        | none => .next s
        | some k =>
          if !room then .next ((setClient s e (some (.grant { g with sentS := some k }))).inc .PTP_SYNC_SKIP g.inst)
          else
            let s := setClient s e (some (.grant { g with seqS := (g.seqS + 1) % 65536, sentS := some k }))
            .next (sendSync s g.inst g.port frac g.seqS (some (e, g)))
    | _ => .next s

/-- FOLLOW_UP_SEND (R233): the Follow_Up of the oldest two-step Sync that waits for it. -/
def execFollowUpSend (inst port_ : Nat) (s : State) : Host.Outcome State Fault Refusal :=
  match (ptpPort s inst port_).fu with
  | [] => .next s
  | (q, t, c) :: rest =>
    let s := setPtpPort s inst port_ { ptpPort s inst port_ with fu := rest }
    if !ptpMasterMay s inst port_ then .next s
    else
      let f : List (String × Int) := [("sequenceId", (q : Int)), ("origin", stampNs t), ("correction", stampFrac t)]
      match c with
      | none => .next (ptpSend s inst port_ 44 "Follow_Up" f)
      | some e => match clientAt s e with
        | some (.grant g) => .next (ptpSend s inst port_ 44 "Follow_Up" f g.vlan false (some (g.addr, g.mac)))
        | _ => .next s

/-- Where the answer to a request goes (R231): under unicast delivery to the client, with the VLAN tag of the request that set up its grant. -/
def replyTo (s : State) (i : Nat) (r : PtpReq) : Nat × Option (Nat × Nat) :=
  if s.fb F.PTP_INST_CFG_unicast i then
    match findGrant s i r.port r.addr r.pid with
    | some (_, g) => (g.vlan, some (g.addr, g.mac))
    | none => (0, some (r.addr, 0))
  else (0, none)

/-- DELAY_RESP_SEND (R233, R234, R252, R386): the oldest request is answered; one that cannot be answered within 1 ms is dropped. -/
def execDelayRespSend (inst ticks frac : Nat) (inTime : Bool) (s : State) : Host.Outcome State Fault Refusal :=
  let s := advance s ticks
  match (ptp s inst).reqs with
  | [] => .next s
  | r :: rest =>
    let s := setPtp s inst { ptp s inst with reqs := rest }
    if !inTime then .next (perf (s.inc .PTP_REQ_DROP inst) 0x0015 r.port)
    else if !ptpMaySend s inst r.port || (ptpPortState s inst r.port == 4 && !s.fb F.RAN_STATUS_permission) then .next s
    else if r.peer then
      let s := portAwake s r.port
      let t3 := (ptpStamp s inst r.port frac false).1
      let hd : List (String × Int) := [("sequenceId", r.seq), ("requesting", r.pid)]
      if s.fb F.PTP_INST_CFG_one_step inst then
        .next (ptpSend s inst r.port 54 "Pdelay_Resp" (hd ++ [("receipt", 0), ("correction", (t3 - r.t + r.corr) / 2 ^ 32)]))
      else
        let s := ptpSend s inst r.port 54 "Pdelay_Resp" (hd ++ [("twoStep", 1), ("receipt", stampNs r.t), ("correction", 0)])
        .next (ptpSend s inst r.port 54 "Pdelay_Resp_Follow_Up" (hd ++ [("responseOrigin", stampNs t3), ("correction", r.corr / 2 ^ 32 + stampFrac t3 - stampFrac r.t)]))
    else if ptpPortState s inst r.port ≠ 4 then .next s
    else .next (ptpSend s inst r.port 54 "Delay_Resp" [("sequenceId", r.seq), ("requesting", r.pid), ("receive", stampNs r.t),
      ("correction", r.corr / 2 ^ 32 - stampFrac r.t)] (replyTo s inst r).1 false (replyTo s inst r).2)

/-! ### Slave measurement (R235, R236) -/

/-- Mean of a list, to the nearest integer. -/
def meanInt (l : List Int) : Int := if l.isEmpty then 0 else roundRat ((l.foldl (fun a b => a + b) 0 : Rat) / (l.length : Rat))

/-- The mean path delay of a port of an instance in ps (R235). -/
def portMpd (x : PtpPort) : Option Int := if x.delays.isEmpty then none else some (meanInt x.delays)

/-- The mean path delay of instance `i`: that of its SLAVE port. -/
def ptpMpd (s : State) (i : Nat) : Option Int :=
  match (ptp s i).slave with
  | some p => portMpd (ptpPort s i p)
  | none => none

/-- The uncertainty that the slot adds to TS_REF_UNC (R236). -/
def ptpUnc (s : State) (i : Nat) : Option Nat :=
  let a := s.f F.PTP_INST_ASYM_UNC_value i
  let a := if a = 0xFFFFFFFF then ((ptpMpd s i).getD 0).natAbs else a
  match (ptp s i).parent with
  | none => none
  | some f => addBound (match f.ann.bnd with
      | some c => boundPs c
      | none => accLimit f.ann.acc) (some a)

/-- The epoch of instance `i`'s timescale ends (R235): its slots receive the mean x of the exchanges whose t2 lies in the epoch, as of their mean
instant. -/
def ptpFeed (s : State) (i : Nat) : State :=
  let n := ptpTs s i
  let q := ptp s i
  let now : Int := counterUnits (tsc s n).cnt
  let xs := q.xs.filter (fun x => decide (x.1 ≤ now) && (match (ens s n).lastEpoch with
    | some e => decide ((e : Int) < x.1)
    | none => true))
  let s := setPtp s i { q with xs := q.xs.filter (fun x => decide (now < x.1)) }
  if xs.isEmpty then s
  else
    let a := q.parent.map Foreign.ann
    let m : Meas := ⟨meanInt (xs.map Prod.snd), ptpUnc s i, (a.map Announce.gm).getD 0, ((a.bind Announce.bnd).getD 0xFF), ((a.map Announce.steps).getD 0) % 256⟩
    (List.range 32).foldl (fun t k =>
      if slotOn t k && t.f F.TS_REF_CFG_type k == 3 && t.f F.TS_REF_CFG_source k == i && slotTs t k == n then takeMeasAt t k m (meanInt (xs.map Prod.fst)) else t) s

/-- R235 for every instance of timescale `n`. -/
def ptpFeeds (s : State) (n : Nat) : State :=
  (List.range 4).foldl (fun t i => if ptpOn t i && ptpTs t i == n then ptpFeed t i else t) s

/-- SLAVE_EXCHANGE (R235): a UNCALIBRATED or SLAVE port completes an exchange; peer-delay operation measures the link delay on every port, each with
its own filter. The offset waits for the end of its epoch. -/
def execSlaveExchange (inst port_ : Nat) (s : State) : Host.Outcome State Fault Refusal :=
  let x := ptpPort s inst port_
  let pd := ptpProfile s inst == 1
  if !ptpOn s inst then .next s
  else
    let sync := match x.sync with
      | some (_, _, some t1, t2, true) => some (t1, t2)
      | _ => none
    let d := match x.req, x.resp, sync with
      | some (_, t3, true), some t4, some (t1, t2) => some (if pd then (t4 - t3) / 2 else ((t2 - t1) + (t4 - t3)) / 2)
      | some (_, t3, true), some t4, none => if pd then some ((t4 - t3) / 2) else none
      | _, _, _ => none
    match d with
    | none => .next s
    | some d =>
      let delays := ((d * 1000 / 2 ^ 48) :: x.delays).take (2 ^ s.f F.PTP_INST_CFG_delay_filt inst)
      let mpd := meanInt delays
      let s := setPtpPort s inst port_ { x with req := none, resp := none, delays := delays }
      let s := if (ptp s inst).slave = some port_ then s.setF F.PTP_INST_MPD_value (satNat 32 mpd.toNat) inst else s
      match sync with
      | none => .next s
      | some (t1, t2) =>
        let st := ptpPortState s inst port_
        if st ≠ 2 ∧ st ≠ 3 then .next s
        else
          let ofs := (t2 - t1) * 1000 / 2 ^ 48 - mpd - s.fi F.PTP_INST_ASYM_value inst
          let s := s.setI F.PTP_INST_OFS_value (satInt 32 ofs) inst
          let n := (ptp s inst).exchanges + 1
          let s := setPtp s inst { ptp s inst with exchanges := n }
          let s := if st = 2 ∧ 8 ≤ n then setPtpState s inst port_ 3 else s
          .next (if st = 3 && (ptpProfile s inst != 2 || l1State s inst port_ == 4) then
            setPtp s inst { ptp s inst with xs := (t2, ofs) :: (ptp s inst).xs } else s)

/-! ### Unicast negotiation by time (R246) -/

/-- GRANT_EXPIRY (R246): a granted type reaches its expiry second. -/
def execGrantExpiry (entry what : Nat) (s : State) : Host.Outcome State Fault Refusal :=
  match clientAt s entry with
  | some (.grant g) => .next (if g.types.testBit what && decide (what < 3) && !liveType s g what then putGrant s entry (withoutType g what) else s)
  | _ => .next s

/-- A grant of a unicast master is to be asked for (R246): the held one has 10 s or a quarter of its duration left, whichever is longer; none is held,
and it is an Announce grant or the master is the parent (DESIGN CHOICE, notes/assumptions/79.md). -/
def renewDue (s : State) (i j what : Nat) : Bool :=
  match tget (ptp s i).umasters none j with
  | none => false
  | some u =>
    match (if what = 0 then u.announce else if what = 1 then u.sync else u.delay) with
    | some g => decide (g.expires ≤ instSec s i + max 10 (g.dur / 4))
    | none => what == 0 || (match (ptp s i).parent with
      | some f => f.port == u.port && f.addr == u.addr
      | none => false)

/-- UNICAST_RENEW (R246): a unicast slave asks for a grant that is due. -/
def execUnicastRenew (inst slot what : Nat) (s : State) : Host.Outcome State Fault Refusal :=
  .next (if ptpOn s inst && s.fb F.PTP_INST_CFG_unicast inst && ptpRole s inst != 0 && decide (what < 3) && renewDue s inst slot what then
    uniRequest s inst slot what else s)

/-! ### Commands (R254) -/

/-- PTP_CLIENT_FIND (R254). -/
def execPtpClientFind (h : CmdHdr) (a : PtpFindArgs) (s : State) : Host.Outcome State Fault Refusal :=
  if !h.mbz ∨ 2 < a.transport then .next (badArg s h 0x40)
  else if !ptpOn s a.inst then .next (complete s h 0x40 .notFound [])
  else match findGrant s a.inst a.port a.addr a.pid with
    | some (e, g) => .next (if g.transport = a.transport then complete s h 0x40 .ok [(0, 4, e)] else complete s h 0x40 .notFound [])
    | none => .next (complete s h 0x40 .notFound [])

/-- PTP_CLIENT_CANCEL (R254). -/
def execPtpClientCancel (h : CmdHdr) (index : Nat) (s : State) : Host.Outcome State Fault Refusal :=
  if !h.mbz ∨ 65536 ≤ index then .next (badArg s h 0x41)
  else match clientAt s index with
    | some (.grant g) =>
      .next (complete (setClient (sendCancels s g) index none) h 0x41 .ok [(0, 1, ((List.range 3).filter (fun k => liveType s g k)).length)])
    | _ => .next (complete s h 0x41 .notFound [])

/-- PTP_KEY_ROLL (R249, R254). -/
def execPtpKeyRoll (h : CmdHdr) (inst : Nat) (s : State) : Host.Outcome State Fault Refusal :=
  if !h.mbz then .next (badArg s h 0x42)
  else if s.log.isolated.contains 2 then .next (complete s h 0x42 .hwFault [])
  else if !ptpOn s inst then .next (complete s h 0x42 .notFound [])
  else if !s.fb F.PTP_INST_CFG_auth_en inst then .next (badArg s h 0x42)
  else
    let k := 1 - s.f F.PTP_INST_AUTH_active inst
    if !handleIs s (ptpKey s inst k) 4 then .next (complete s h 0x42 .keyRevoked [])
    else .next (complete (s.setF F.PTP_INST_AUTH_active k inst) h 0x42 .ok [(0, 1, k)])

/-- PTP_UMASTER (R246, R254). -/
def execPtpUmaster (h : CmdHdr) (a : UmasterArgs) (s : State) : Host.Outcome State Fault Refusal :=
  if !h.mbz then .next (badArg s h 0x43)
  else if s.log.isolated.contains 2 then .next (complete s h 0x43 .hwFault [])
  else if !ptpOn s a.inst then .next (complete s h 0x43 .notFound [])
  else if s.fb F.PTP_INST_CFG_unicast a.inst = false ∨ ptpRole s a.inst = 0 ∨ 7 < a.slot ∨ 1 < a.op ∨ (a.op = 1 ∧ ptpHas s a.inst a.port = false) then
    .next (badArg s h 0x43)
  else
    let x := ptp s a.inst
    if a.op = 0 ∧ (tget x.umasters none a.slot).isNone = true then .next (complete s h 0x43 .notFound [])
    else
      let u := tset x.umasters a.slot (if a.op = 1 then some ⟨a.port, a.addr, none, none, none⟩ else none)
      let s := setPtp s a.inst { x with umasters := u }
      let s := if a.op = 1 then uniRequest s a.inst a.slot 0 else s
      .next (complete s h 0x43 .ok [(0, 1, (u.filter (fun q => q.2.isSome)).length)])

/-- PTP_PARENT_READ (R254): without a parent, the instance's own data set. -/
def execPtpParentRead (h : CmdHdr) (inst : Nat) (s : State) : Host.Outcome State Fault Refusal :=
  if !h.mbz then .next (badArg s h 0x44)
  else if !ptpOn s inst then .next (complete s h 0x44 .notFound [])
  else
    let x := ptp s inst
    let a := match x.parent with
      | some f => f.ann
      | none => { published s inst (instBoundPs s inst) with claim := none, bnd := none }
    .next (complete s h 0x44 .ok [(0, 8, netOrder 8 a.gm), (8, 1, a.cls), (9, 1, a.acc), (10, 2, a.variance), (12, 2, a.steps), (14, 1, a.prio1), (15, 1, a.prio2),
      (16, 1, x.slave.getD 0xFF), (17, 1, a.bnd.getD 0xFF), (20, 4, a.claim.getD 0)])

/-! ### The alternate domain (R244) -/

/-- Consumers of the alternate splice: closed under the ports of a member and the instances of a port (R244). -/
def altMembers (s : State) : Nat → List Nat → List Nat
  | 0, l => l
  | k + 1, l =>
    let ports := (List.range 4).filter (fun p => l.any (fun c => (decide (10 ≤ c) && decide (c < 14) && ptpHas s (c - 10) p)
      || (decide (14 ≤ c) && decide (c < 18) && (s.f F.NTP_INST_CFG_ports (c - 14)).testBit p)))
    let ptps := (List.range 4).filter (fun i => ptpOn s i && ports.any (ptpHas s i))
    let ntps := (List.range 4).filter (fun i => s.fb F.NTP_INST_CFG_enable i && ports.any (fun p => (s.f F.NTP_INST_CFG_ports i).testBit p))
    let l' := l ++ (ports.map (· + 6) ++ ptps.map (· + 10) ++ ntps.map (· + 14)).filter (fun c => !l.contains c)
    if l'.length = l.length then l else altMembers s k l'.eraseDups

/-- The epoch of instance `i`'s timescale ends (R244): after 16 that meet the condition it asks for the splice. -/
def altEpoch (s : State) (i : Nat) : State :=
  let x := ptp s i
  let n := ptpTs s i
  let b := s.f F.PTP_INST_CFG_alt_ts i
  let g := s.f F.PTP_INST_CFG_alt_grade i
  let run := if g ≤ 5 ∧ ptpRole s i ≠ 1 ∧ n ≠ b ∧ g < gradeOf s n ∧ gradeOf s b ≤ g then x.altRun + 1 else 0
  let s := setPtp s i { x with altRun := run }
  if run < 16 ∨ x.altOut = true then s
  else
    let mask := ((altMembers s 12 [10 + i]).filter (fun c => consumerTs s c != some b)).foldl (fun m c => m + 2 ^ c) 0
    let c := (tsc s n).cnt
    let sec := if c.ns < 999000000 ∨ (c.ns = 999000000 ∧ c.frac = 0) then c.sec + 1 else c.sec + 2
    let s := setPtp s i { ptp s i with altOut := true, altRun := 0 }
    let s := logEvent s 3 0x0901 [(0, 1, i), (1, 1, b)]
    match execTsSplice ⟨64 + i, 0, false, true⟩ ⟨n, b, 0, 0, mask, sec, 0, 0⟩ s with
    | .next t => t
    | _ => s

/-- R244 for every instance of timescale `n`. -/
def altEpochs (s : State) (n : Nat) : State :=
  (List.range 4).foldl (fun t i => if ptpOn t i && ptpTs t i == n then altEpoch t i else t) s

end Sys2Proof.Machine
end

