-- ==== Sys2Proof/Machine/Ntp.lean ====
section
/-! DEFINITION. The NTP and NTS service (12_ntp_nts_service.md), and what AES_JOB_GRANT starts for it. -/
namespace Sys2Proof.Machine
open Sys2Proof

/-! ### Served time (R69, R260) -/

/-- TAI − UTC at time `u`, in 2^-48 ns, under the leap schedule (R67, R260). -/
def taiUtcAt (s : State) (u : Int) : Int :=
  let a := taiUtc s
  let dir := s.f F.TS_LEAP_SCHED_dir
  if dir = 1 ∧ (leapDayEnd s + a + 1) * unitsPerSec ≤ u then a + 1
  else if dir = 2 ∧ (leapDayEnd s + a - 1) * unitsPerSec ≤ u then a - 1
  else a

/-- Length of the smear window in s (R69). -/
def smearLen (dir : Nat) : Int := if dir = 1 then 86401 else 86399

/-- Time `u` lies in a smear window (R69). -/
def inWindow (u : Int) (w : Int × Int × Nat) : Bool := decide (w.1 * unitsPerSec ≤ u) && decide (u < (w.1 + smearLen w.2.2) * unitsPerSec)

/-- The smear window that holds time `u`: of the scheduled leap, or of the last one (R69). -/
def smearAt (s : State) (u : Int) : Option (Int × Int × Nat) :=
  if leapScheduled s && inWindow u (leapWindow s) then some (leapWindow s)
  else match s.time.lastLeap with
    | some w => if inWindow u w then some w else none
    | none => none

/-- The served time of time `u`, in seconds from 1970-01-01 (R69, R260). -/
def servedTime (s : State) (smear : Bool) (u : Int) : Rat :=
  let t : Rat := (u : Rat) / ((unitsPerSec : Nat) : Rat)
  match (if smear then smearAt s u else none) with
  | some w => t - (w.2.1 : Rat) - (if w.2.2 = 1 then 1 else -1) * (t - (w.1 : Rat)) / (smearLen w.2.2 : Rat)
  | none => t - (taiUtcAt s u : Rat)

/-- A whole number of 2^-32 s as an NTP timestamp (R260). -/
def ntpWord (x : Int) : Nat := ((x + 2208988800 * 2 ^ 32) % 2 ^ 64).toNat

/-- The NTP timestamp of time `u`, to nearest with ties up (R260). -/
def ntpStamp (s : State) (smear : Bool) (u : Int) : Nat := ntpWord (roundRat (servedTime s smear u * 4294967296))

/-- The NTP timestamp of time `u`, rounded up (R264). -/
def ntpStampUp (s : State) (smear : Bool) (u : Int) : Nat :=
  let q := servedTime s smear u * 4294967296
  ntpWord ((q.num + (q.den : Int) - 1) / (q.den : Int))

/-- The time of port `p` at `frac` 2^-32 of a cycle after the last edge, with a path latency in 2^-8 ps (R210). -/
def portTime (s : State) (p frac : Nat) (lat : Int) : Int := slateUnits (portSlate s p .log (portSub s p frac lat))

/-! ### Published quality (R92, R261, R263) -/

/-- NTP instance `i` is enabled. -/
def ntpOn (s : State) (i : Nat) : Bool := decide (i < 4) && s.fb F.NTP_INST_CFG_enable i

/-- Port `p` lies in the mask of instance `i`. -/
def ntpHas (s : State) (i p : Nat) : Bool := decide (p < 4) && (s.f F.NTP_INST_CFG_ports i).testBit p

/-- The launch component in ps (R263). -/
def launchPs (mode : Nat) : Nat := if mode = 0 then 8000 else if mode ≤ 2 then 6400 else 2560

/-- The published bound of instance `i` on port `p`, in ps (R263). -/
def ntpBoundPs (s : State) (i p : Nat) : Option Nat :=
  if s.fb F.TS_UTC_OFS_known then
    addBound (tsBoundPs s (s.f F.NTP_INST_CFG_ts i))
      (some (portPs s p + (unitsToPs (residualOf s (14 + i))).natAbs + launchPs (s.f F.PORT_CFG_mode p) + 117))
  else none

/-- Stratum of a published bound (R92). -/
def ntpStratum (s : State) (i : Nat) (b : Option Nat) : Nat :=
  if boundCodeOpt b ≤ 0xB7 ∧ tsStateOf s (s.f F.NTP_INST_CFG_ts i) ≠ .free then 1 else 16

/-- Leap indicator of a stratum (R261). -/
def ntpLi (s : State) (i stratum : Nat) : Nat :=
  if stratum = 16 then 3
  else if s.fb F.NTP_INST_CFG_smear i then 0
  else if s.fb F.TS_LEAP_SCHED_pending then (if s.f F.TS_LEAP_SCHED_dir = 1 then 1 else 2) else 0

/-- Root Dispersion of a bound: 2^-16 s, rounded up (R263). -/
def rootDispersion : Option Nat → Nat
  | none => 0xFFFFFFFF
  | some b => min 0xFFFFFFFF (cdiv (b * 2 ^ 16) (10 ^ 12))

/-- Four ASCII characters, zero-padded, as a number. -/
def asciiWord (a b c d : Nat) : Nat := a * 2 ^ 24 + b * 2 ^ 16 + c * 2 ^ 8 + d

/-- Reference ID (R261's table). -/
def ntpRefId (s : State) (i stratum : Nat) : Nat :=
  if stratum = 16 then asciiWord 0x55 0x4E 0x53 0x59
  else match heaviest s (s.f F.NTP_INST_CFG_ts i) with
    | none => asciiWord 0x48 0x4F 0x4C 0x44
    | some k => match s.f F.TS_REF_CFG_type k with
      | 5 => asciiWord 0x47 0x4E 0x53 0x53
      | 3 => asciiWord 0x50 0x54 0x50 0
      | 4 => asciiWord 0x4E 0x54 0x50 0
      | 6 => asciiWord 0x46 0x45 0x45 0x44
      | _ => asciiWord 0x50 0x50 0x53 0

/-- Reference Timestamp (R261). -/
def ntpRefTime (s : State) (i : Nat) : Nat :=
  match (ens s (tsRoot s (s.f F.NTP_INST_CFG_ts i))).weighted with
  | some (tick, u) => if tget s.ntp.enabledAt 0 i ≤ tick then ntpStamp s (s.fb F.NTP_INST_CFG_smear i) u else 0
  | none => 0

/-- The port component of an instance's status: over its ports the largest. -/
def ntpInstBound (s : State) (i : Nat) : Option Nat :=
  if s.fb F.TS_UTC_OFS_known then
    addBound (tsBoundPs s (s.f F.NTP_INST_CFG_ts i))
      (some ((List.range 4).foldl (fun m p => if ntpHas s i p then max m (portPs s p + launchPs (s.f F.PORT_CFG_mode p) + 117) else m) 0
        + (unitsToPs (residualOf s (14 + i))).natAbs))
  else none

/-! ### Instances (R256, R257) -/

/-- The checks of R256 in order, as `i`'s registers stand. -/
def ntpCfgErr (s : State) (i : Nat) : Nat :=
  let ports := (List.range 4).filter (ntpHas s i)
  let v4 := s.fb F.NTP_INST_CFG_ip4 i
  let v6 := s.fb F.NTP_INST_CFG_ip6 i
  if ports.isEmpty || ports.any (fun p => !s.fb F.PORT_CFG_enable p) then 1
  else if ports.any (fun p => s.f F.PORT_CFG_ts p != s.f F.NTP_INST_CFG_ts i) then 2
  else if (List.range 4).any (fun j => j != i && ntpOn s j && ports.any (ntpHas s j)) then 3
  else if !v4 && !v6 then 4
  else if ports.any (fun p => (v4 && !tseAddr s p false) || (v6 && !tseAddr s p true)) then 5
  else if !s.fb F.NTP_INST_CFG_plain_en i && !s.fb F.NTP_INST_CFG_nts_en i then 6
  else if s.fb F.NTP_INST_CFG_nts_en i && !s.fb F.NTS_STATUS_root_valid then 7
  else 0

/-- Set a reply list. -/
def setReplies (s : State) (l : List NtpReply) : State := { s with ntp := { s.ntp with replies := l } }

/-- NTP_INST_ENABLE (R256, R257): a refused enable stays 0 with the first check that failed; a disable drops the replies on their way. -/
def execNtpInstEnable (inst : Nat) (value : Word) (s : State) : Host.Outcome State Fault Refusal :=
  if 4 ≤ inst then .next (violation s)
  else
    let was := ntpOn s inst
    let t := regWrite s ⟨.NTP_INST_CFG, inst, 0⟩ value
    if !was && ntpOn t inst then
      let e := ntpCfgErr t inst
      if e ≠ 0 then .next (violation ((t.setB F.NTP_INST_CFG_enable false inst).setF F.NTP_INST_STATUS_cfg_err e inst))
      else
        let t := t.setF F.NTP_INST_STATUS_cfg_err 0 inst
        .next { t with ntp := { t.ntp with enabledAt := tset t.ntp.enabledAt inst t.ticks } }
    else if was && !ntpOn t inst then .next (setReplies t (t.ntp.replies.filter (fun r => r.inst != inst)))
    else .next t

/-! ### Rate limiting (R271, R272) -/

/-- A token in units of 1/16 token and 1/625,000,000 of that. -/
def tokenUnit : Nat := 16 * 625000000

/-- The bucket of a source address (R271): its prefix, hashed. -/
def bucketOf (s : State) (family addr : Nat) : Nat :=
  let pre := if family = 0 then addr / 2 ^ (32 - s.f F.NTP_RL_CFG_prefix4) else addr / 2 ^ (128 - s.f F.NTP_RL_CFG_prefix6)
  Config.bucketHash s.ntp.hashKey family pre % 32768

/-- A full bucket (R271). -/
def fullBucket (s : State) : Bucket := ⟨s.f F.NTP_RL_RATE_burst * tokenUnit, s.ticks, none, 0⟩

/-- A bucket with the tokens it has now (R271). -/
def bucketNow (s : State) (b : Nat) : Bucket :=
  let x := tget s.ntp.buckets (fullBucket s) b
  { x with tokens := min (s.f F.NTP_RL_RATE_burst * tokenUnit) (x.tokens + (s.ticks - x.last) * s.f F.NTP_RL_RATE_rate), last := s.ticks }

/-- Set a bucket. -/
def setBucket (s : State) (b : Nat) (x : Bucket) : State := { s with ntp := { s.ntp with buckets := tset s.ntp.buckets b x } }

/-- A request is charged (R271): whether it is admitted. -/
def charge (s : State) (family addr : Nat) (nts : Bool) : State × Bool :=
  if s.fb F.NTP_RL_CFG_enable then
    let b := bucketOf s family addr
    let x := bucketNow s b
    let cost := (if nts then s.f F.NTP_RL_CFG_nts_cost else 1) * tokenUnit
    if cost ≤ x.tokens then (setBucket s b { x with tokens := x.tokens - cost }, true)
    else (setBucket s b { x with overLimit := satNat 32 (x.overLimit + 1) }, false)
  else (s, true)

/-- A Kiss-o'-Death may go now: the bucket has sent none in the last 1 s (R272). -/
def kodDue (s : State) (family addr : Nat) : Bool :=
  match (bucketNow s (bucketOf s family addr)).kod with
  | some k => decide (k + 625000000 ≤ s.ticks)
  | none => true

/-- The bucket notes its Kiss-o'-Death. -/
def kodNote (s : State) (family addr : Nat) : State :=
  let b := bucketOf s family addr
  setBucket s b { bucketNow s b with kod := some s.ticks }

/-! ### Client monitoring (R276) -/

/-- The kind-2 entry of a source address, instance and port. -/
def findNtp (s : State) (i : Nat) (r : NtpReq) : Option (Nat × NtpClient) :=
  s.ptp.clients.findSome? (fun q => match q.2 with
    | some (.ntp c) => if c.inst = i ∧ c.port = r.port ∧ c.family = r.family + 1 ∧ c.addr = r.addr then some (q.1, c) else none
    | _ => none)

/-- A served request is recorded with monitor = 1 (R276): over the limit, NTS served, NAK, Kiss-o'-Death. -/
def ntpMonitor (s : State) (i : Nat) (r : NtpReq) (nts overLim served nak kod : Bool) : State :=
  if s.fb F.NTP_INST_CFG_monitor i then
    let now := (tsc s (s.f F.NTP_INST_CFG_ts i)).cnt.sec % 2 ^ 32
    let add (x : Nat) (b : Bool) : Nat := satNat 32 (x + bit b)
    let found := match findNtp s i r with
      | some (e, c) => some (e, c)
      | none => (entryFor s r.addr).map (fun e => (e, (⟨i, r.port, r.family + 1, false, false, 0, 0, 0, now, now, 0, 0, 0, r.addr, r.udp⟩ : NtpClient)))
    match found with
    | none => s
    | some (e, c) =>
      let c := { c with lastNts := nts, lastOver := overLim, version := r.version, poll := r.poll, requests := add c.requests true, last := now }
      let c := { c with nts := add c.nts served, naks := add c.naks nak, kods := add c.kods kod, udp := r.udp }
      setClient s e (some (.ntp c))
  else s

/-! ### NTS (R265-R270) -/

/-- The current epoch (R269). -/
def ntsEpoch (s : State) : Nat := (tsc s 0).cnt.sec / s.f F.NTS_ROT_period

/-- Bytes of an NTS reply before its cookies: header, Unique Identifier field, Authenticator field with a 16-byte nonce and tag. -/
def ntsBase (uidLen : Nat) : Nat := 48 + (4 + cdiv uidLen 4 * 4) + 40

/-- New cookies of a reply (R262, R266). -/
def ntsCookies (f : NtsFields) (uidLen len : Nat) : Nat :=
  min (1 + min 7 ((f.placeholders.filter (fun n => decide (104 ≤ n))).length)) ((len - ntsBase uidLen) / 108)

/-- The structure of an NTS request is good (R265 step 1): its Unique Identifier and its one cookie. -/
def ntsShape (f : NtsFields) (len : Nat) : Option (Nat × Nat × Cookie × Nat) :=
  match f.uids, f.cookies, f.auth with
  | [(n, v)], [c], some k => if 32 ≤ n ∧ n ≤ 64 ∧ ntsBase n ≤ len then some (n, v, c, k) else none
  | _, _, _ => none

/-- The service NAKs every NTS request (R269, R270, R357, R364): TS0 invalid, no valid root, root revoked, tampered, or the generator stale. -/
def ntsNakAll (s : State) : Bool :=
  !tsValid s 0 || !s.fb F.NTS_STATUS_root_valid || s.fb F.NTS_STATUS_root_revoked || tampered s || s.stv.stale

/-- A cookie validates (R268, R269). -/
def cookieOk (s : State) (c : Cookie) : Bool :=
  let n := ntsEpoch s
  match handleKey s (s.rg .NTS_COOKIE_ROOT).toNat with
  | some root => decide (n ≤ c.epoch + 2) && decide (c.epoch ≤ n) && c.key == cookieKey root c.epoch && c.version == 1 && c.aead == 15
  | none => false

/-! ### Requests (R258, R259, R265, R273, R274) -/

/-- The TSE claims the request for the instance (R258). -/
def ntpClaims (s : State) (i : Nat) (r : NtpReq) : Bool :=
  ntpOn s i && ntpHas s i r.port && tsePortOk s r.port && decide (r.tagged ≤ 1) && r.destPort == 123 && r.dest == tseIp s r.port (r.family == 1) && (if r.family = 0 then s.fb F.NTP_INST_CFG_ip4 i else s.fb F.NTP_INST_CFG_ip6 i)
  && decide (r.family < 2) && decide (48 ≤ r.length) && decide (r.length ≤ 1024) && r.mode == 3 && (r.version == 3 || r.version == 4)

/-- The instances answer at all: drive permission, and not muted (R285, R365). -/
def ntpAnswers (s : State) : Bool := s.fb F.RAN_STATUS_permission && !muted s

/-- A reply is on its way; its number is the next one. -/
def addReply (s : State) (i : Nat) (r : NtpReq) (t2 : Nat) (k : ReplyKind) : State :=
  let x : NtpReply := ⟨s.ntp.nextId, i, r.port, r.family, r.addr, r.udp, r.version, r.poll, r.xmit, t2, s.ticks, k, false⟩
  { s with ntp := { s.ntp with replies := s.ntp.replies ++ [x], nextId := s.ntp.nextId + 1 } }

/-- An admitted NTS request (R265). -/
def ntsProcess (s : State) (i t2 : Nat) (r : NtpReq) (f : NtsFields) : State :=
  match ntsShape f r.length with
  | none => ntpMonitor (s.inc .NTS_AUTH_FAIL i) i r true false false false false
  | some (n, uid, c, k) =>
    if ntsNakAll s || !cookieOk s c then addReply (ntpMonitor s i r true false false true false) i r t2 (.nak n uid)
    else if k ≠ c.c2s then ntpMonitor (s.inc .NTS_AUTH_FAIL i) i r true false false false false
    else
      let s := ntpMonitor s i r true false true false false
      let id := s.ntp.nextId
      let s := addReply s i r t2 (.nts (ntsCookies f n r.length) (ntsEpoch s) c.c2s c.s2c n uid)
      addJob s .nts [(s.rg .NTS_COOKIE_ROOT).toNat] 45 (.nts id i)

/-- An over-limit request (R272). -/
def overLimit (s : State) (i t2 : Nat) (r : NtpReq) (nts : Bool) : State :=
  let s := s.inc .NTP_RL_DROP i
  if nts || !s.fb F.NTP_INST_CFG_kod_en i || !kodDue s r.family r.addr then ntpMonitor s i r nts true false false false
  else addReply (ntpMonitor (kodNote s r.family r.addr) i r false true false false true) i r t2 .kod

/-- A request that is served (R259): the fields of an NTS one, none for a plain one; or none where the policy drops it. -/
def ntpServed (s : State) (i : Nat) (r : NtpReq) : Option (Option NtsFields) :=
  match r.kind with
  | .legacyMac => none
  | .plain => if s.fb F.NTP_INST_CFG_plain_en i then some none else none
  | .nts f => if s.fb F.NTP_INST_CFG_nts_en i && r.version == 4 then some (some f) else none

/-- NTP_REQUEST (R258-R260, R265, R271, R272, R276): the request is classified, charged, and its reply begun. -/
def execNtpRequest (inst : Nat) (r : NtpReq) (s : State) : Host.Outcome State Fault Refusal :=
  let s := advance s r.ticks
  if !ntpClaims s inst r || !ntpAnswers s then .next s
  else
    let t2 := ntpStamp s (s.fb F.NTP_INST_CFG_smear inst) (slateUnits (serviceSlate s (14 + inst) r.port r.frac true))
    match ntpServed s inst r with
    | none => .next (s.inc .NTP_POLICY_DROP inst)
    | some f =>
      let c := charge s r.family r.addr f.isSome
      if !c.2 then .next (overLimit c.1 inst t2 r f.isSome)
      else match f with
        | some f => .next (ntsProcess c.1 inst t2 r f)
        | none => .next (addReply (ntpMonitor c.1 inst r false false false false false) inst r t2 .plain)

/-- NTP_REQUEST_EXPIRY (R274, R386): a request not started within 1 ms of its T2 is dropped. -/
def execNtpRequestExpiry (id : Nat) (s : State) : Host.Outcome State Fault Refusal :=
  match s.ntp.replies.find? (fun r => r.id == id) with
  | none => .next s
  | some r =>
    if r.started || decide (s.ticks < r.tick + 625000) then .next s
    else
      let s := (dropReply s id).inc .NTP_REQ_DROP r.inst
      let s := { s with stv := { s.stv with jobs := s.stv.jobs.filter (fun j => match j.what with
        | .nts q _ => q != id
        | _ => true) } }
      .next (perf s 0x0015 r.port)

/-! ### Launch (R264) -/

/-- Bit rate of a port mode in bits per tick of 1.6 ns, times 10. -/
def bitsPerTick10 (mode : Nat) : Nat := if mode = 0 then 16 else if mode ≤ 2 then 160 else 400

/-- Bytes of an NTP frame on the wire. -/
def ntpWire (family payload : Nat) : Nat := wireLen (14 + (if family = 0 then 20 else 40) + 8 + payload)

/-- Wake time of port `p` in ticks while it is in LPI (R223, R264). -/
def wakeTicks (s : State) (p : Nat) : Nat := if s.fb F.PORT_STATUS_lpi_tx p then max (s.f F.PORT_LPI_CFG_tw_tx p) 12 * 625 else 0

/-- The tick of the launch instant for a reply ready at tick `t` (R264). -/
def launchTick (s : State) (p t : Nat) : Nat :=
  max (max (t + s.f F.NTS_LAUNCH_margin * 625) (t + wakeTicks s p)) (tget s.ntp.launchEnd 0 p)

/-- A launch on port `p` at tick `t` of a frame of `bytes` is reserved: its end. -/
def reserveLaunch (s : State) (p t bytes : Nat) : State :=
  { s with ntp := { s.ntp with launchEnd := tset s.ntp.launchEnd p (t + cdiv (bytes * 80) (bitsPerTick10 (s.f F.PORT_CFG_mode p))) } }

/-- UDP payload of a reply. -/
def replyLen : ReplyKind → Nat
  | .plain | .kod => 48
  | .nak u _ => 52 + cdiv u 4 * 4
  | .nts n _ _ _ u _ => ntsBase u + 108 * n

/-- The header fields of a reply (R261, R267, R272). -/
def replyFields (s : State) (r : NtpReply) (t3 : Nat) : List (String × Int) :=
  let b := ntpBoundPs s r.inst r.port
  let st := ntpStratum s r.inst b
  let hd (li st poll ref : Int) : List (String × Int) :=
    [("address", r.addr), ("udpPort", r.udp), ("leap", li), ("version", r.version), ("mode", 4), ("stratum", st), ("poll", poll), ("referenceId", ref),
     ("origin", r.org), ("receive", r.t2), ("transmit", t3)]
  match r.kind with
  | .kod => hd 3 0 (max r.poll 6) (asciiWord 0x52 0x41 0x54 0x45)
  | .nak _ uid => hd 3 0 r.poll (asciiWord 0x4E 0x54 0x53 0x4E) ++ [("uniqueIdentifier", (uid : Int))]
  | k =>
    let l := hd (ntpLi s r.inst st) st r.poll (ntpRefId s r.inst st) ++
      ([("precision", -32), ("rootDelay", 0), ("rootDispersion", (rootDispersion b : Int)), ("referenceTime", (ntpRefTime s r.inst : Int))] : List (String × Int))
    match k with
    | .nts n e c2s s2c _ uid => l ++ ([("uniqueIdentifier", (uid : Int)), ("cookies", (n : Int)), ("epoch", (e : Int)), ("c2s", (c2s : Int)), ("s2c", (s2c : Int))] : List (String × Int))
    | _ => l

/-- The counters of an answered request (R261, R267, R272, R273). -/
def countReply (s : State) (r : NtpReply) : State :=
  let s := s.inc .NTP_RX r.inst
  match r.kind with
  | .plain => s
  | .kod => s.inc .NTP_KOD_SENT r.inst
  | .nak _ _ => s.inc .NTS_NAK_SENT r.inst
  | .nts _ _ _ _ _ _ => perf (s.inc .NTS_RX r.inst) 0x0012 r.port

/-- A finished reply is launched at its instant T3, `ready` ticks and its margin after T2 (R264); sealed cookies take a nonce each. -/
def launchReply (s : State) (r : NtpReply) (ready : Nat) (linkLost : Bool) : State :=
  let s := dropReply s r.id
  let t := launchTick s r.port (r.tick + ready)
  let s := advance s (t - s.ticks)
  if linkLost || !tsePortOk s r.port then s.inc .NTP_LAUNCH_DROP r.inst
  else if !ntpAnswers s || !ntpOn s r.inst then s
  else
    let s := s.setB F.PORT_STATUS_lpi_tx false r.port
    let late : Int := (s.ticks - t : Nat)
    let u := slateUnits (pointSlate s (14 + r.inst) r.port .log (-(rateIncr s 4 (s.f F.NTP_INST_CFG_ts r.inst) * late)))
    let t3 := ntpStampUp s (s.fb F.NTP_INST_CFG_smear r.inst) u
    let bytes := ntpWire r.family (replyLen r.kind)
    let f : Pdu := ⟨"NTP", replyFields s r t3⟩
    countReply (tseSend (reserveLaunch s r.port t bytes) r.port 0x0011 bytes f) r

/-- The AES job of a reply. -/
def replyJob (s : State) (id : Nat) : Option Job :=
  s.stv.jobs.find? (fun j => match j.what with
    | .nts q _ => q == id
    | _ => false)

/-- NTP_REPLY_LAUNCH (R261, R264, R270): `ready` is the ticks from T2 to t_ready. A reply whose key was revoked while it was in its lane is not
sent; an NTS reply that no lane took yet is not ready. -/
def execNtpReplyLaunch (id ready : Nat) (linkLost : Bool) (s : State) : Host.Outcome State Fault Refusal :=
  match s.ntp.replies.find? (fun r => r.id == id) with
  | none => .next s
  | some r =>
    match replyJob s id with
    | some j =>
      if !j.started then .next s
      else if j.revoked then .next (freeNodes (discardJob s j .keyRevoked))
      else .next (launchReply (dropJob s j.id) r ready linkLost)
    | none => .next (launchReply s r ready linkLost)

/-! ### The cookie root and its epochs (R269, R270, R279) -/

/-- The epoch nodes below node `i`. -/
def epochNodes (s : State) (i : Nat) : List (Nat × Node) :=
  s.stv.nodes.filterMap (fun p => match p.2 with
    | some n => if !n.revoked && n.parent == some i && n.label == ascii "NTS cookie" && n.usage == 3 then some (p.1, n) else none
    | none => none)

/-- Free a node of an epoch that has left the window. -/
def retireNode (s : State) (i : Nat) : State :=
  match node s i with
  | some n => freeNode (setNode s i (some { n with revoked := true })) i
  | none => s

/-- The node of epoch `e` below node `i`, made if it is not there (R269). -/
def holdEpoch (s : State) (i e : Nat) : State :=
  if (epochNodes s i).any (fun p => p.2.context == beBytes 4 e) then s
  else match node s i, freeIndex s with
    | some p, some j =>
      if 16 ≤ p.depth then s
      else newNode s j ⟨cookieKey p.key e, 3, 0, some i, p.depth + 1, false, ascii "NTS cookie", beBytes 4 e, false⟩
    | _, _ => s

/-- The four epochs that Stavris holds: n − 2 to n + 1 (R269). -/
def rotateEpochs (s : State) : State :=
  if s.fb F.NTS_STATUS_root_valid then
    let i := (s.rg .NTS_COOKIE_ROOT).toNat % 1024
    let n := ntsEpoch s
    let want := (List.range 4).filterMap (fun k => if 2 ≤ n + k then some (n + k - 2) else none)
    let s := (epochNodes s i).foldl (fun t p => if want.any (fun e => p.2.context == beBytes 4 e) then t else retireNode t p.1) s
    stvCount (want.foldl (fun t e => holdEpoch t i e) s)
  else s

/-- NTS_EPOCH_ROTATION (R269). -/
def execNtsEpochRotation (ticks : Nat) (s : State) : Host.Outcome State Fault Refusal := .next (rotateEpochs (advance s ticks))

/-- The cookie root is set to a valid handle: the earlier root's epoch nodes go, the new root's are made (R269, R270). -/
def setCookieRoot (s : State) (value : Word) : State :=
  let s := if s.fb F.NTS_STATUS_root_valid ∧ s.rg .NTS_COOKIE_ROOT ≠ value then
    (epochNodes s ((s.rg .NTS_COOKIE_ROOT).toNat % 1024)).foldl (fun t p => retireNode t p.1) s else s
  let s := ((s.wr .NTS_COOKIE_ROOT 0 0 value).setB F.NTS_STATUS_root_revoked false).setB F.NTS_STATUS_root_valid true
  rotateEpochs (stvCount s)

/-- NTS_COOKIE_ROOT_WRITE (R270, R279). -/
def execNtsCookieRootWrite (value : Word) (s : State) : Host.Outcome State Fault Refusal :=
  if handleIs s value.toNat 0 then .next (setCookieRoot s value)
  else if value = s.rg .NTS_COOKIE_ROOT then .next s
  else .next (violation s)

/-- NTS_COOKIE_MINT (R269, R270, R275, R280, R357). -/
def execNtsCookieMint (h : CmdHdr) (a : MintArgs) (s : State) : Host.Outcome State Fault Refusal :=
  if !h.mbz ∨ a.count < 1 ∨ 8 < a.count ∨ a.aead ≠ 15 ∨ a.keyAddr = 0 ∨ a.keyAddr % 8 ≠ 0 ∨ a.outAddr = 0 ∨ a.outAddr % 8 ≠ 0 then .next (badArg s h 0x48)
  else if s.log.isolated.contains 3 then .next (complete s h 0x48 .hwFault [])
  else if tampered s then .next (complete s h 0x48 .deniedTamper [])
  else if s.fb F.NTS_STATUS_root_revoked then .next (complete s h 0x48 .keyRevoked [])
  else if !s.fb F.NTS_STATUS_root_valid then .next (complete s h 0x48 .notFound [])
  else if !tsValid s 0 then .next (complete s h 0x48 .busy [])
  else if s.stv.stale then .next (complete s h 0x48 .hwFault [])
  else .next (addJob (begins s h 0x48) .host [(s.rg .NTS_COOKIE_ROOT).toNat] (12 * a.count) (.mint h a (ntsEpoch s)))

/-- NTP_RL_QUERY (R271, R280). -/
def execNtpRlQuery (h : CmdHdr) (a : RlQueryArgs) (s : State) : Host.Outcome State Fault Refusal :=
  if !h.mbz ∨ 1 < a.family then .next (badArg s h 0x49)
  else
    let b := bucketOf s a.family a.addr
    let x := bucketNow s b
    .next (complete s h 0x49 .ok [(0, 2, b), (4, 4, x.tokens / 625000000), (8, 4, x.overLimit)])

/-! ### Upstream peers (R277-R280) -/

/-- Peer `j` beside its registers. -/
def peer (s : State) (j : Nat) : Peer := tget s.ntp.peers Peer.reset j

/-- Set peer `j`. -/
def setPeer (s : State) (j : Nat) (x : Peer) : State :=
  { s with ntp := { s.ntp with peers := tset s.ntp.peers j x } }.setB F.NTP_PEER_STATUS_reachable (x.reach.any id) j

/-- Peer `j` is enabled. -/
def peerOn (s : State) (j : Nat) : Bool := decide (j < 8) && s.fb F.NTP_PEER_CFG_enable j

/-- A poll of peer `j` is due (R277): the port's timescale is in the second of a whole multiple of the poll interval in use, and no request left for
it. -/
def peerDue (s : State) (j : Nat) : Bool :=
  let sec := (tsc s (s.f F.PORT_CFG_ts (s.f F.NTP_PEER_CFG_port j))).cnt.sec
  sec % 2 ^ s.f F.NTP_PEER_STATUS_poll j == 0 && (peer s j).polled != some sec

/-- The address of peer `j`. -/
def peerAddr (s : State) (j : Nat) : Nat :=
  if s.fb F.NTP_PEER_CFG_family j then packNet ((List.range 4).map (fun w => (32, (s.rg .NTP_PEER_ADDR j w).toNat))) else (s.rg .NTP_PEER_ADDR j 3).toNat

/-- NTP_PEER_POLL (R264, R273, R277): a request leaves at its launch instant. -/
def execNtpPeerPoll (peer_ ticks : Nat) (s : State) : Host.Outcome State Fault Refusal :=
  let s := advance s ticks
  let p := s.f F.NTP_PEER_CFG_port peer_
  let x := peer s peer_
  if !peerOn s peer_ || x.stopped || !tsePortOk s p || muted s || !peerDue s peer_ then .next s
  else
    let sec := (tsc s (s.f F.PORT_CFG_ts p)).cnt.sec
    let t := launchTick s p s.ticks
    let s := (advance s (t - s.ticks)).setB F.PORT_STATUS_lpi_tx false p
    let u := portTime s p 0 0
    let t1 := ntpStampUp s false u
    let bytes := ntpWire (s.f F.NTP_PEER_CFG_family peer_) 48
    let f : Pdu := ⟨"NTP", ([("version", 4), ("mode", 3), ("address", (peerAddr s peer_ : Int)), ("udpPort", 123), ("transmit", (t1 : Int))] : List (String × Int))⟩
    let s := tseSend (reserveLaunch s p t bytes) p 0x0011 bytes f
    .next (setPeer s peer_ { x with t1 := some (t1, u), reach := (false :: x.reach).take 8, polled := some sec })

/-- A difference of NTP timestamps in 2^-32 s. -/
def ntpDiff (a b : Nat) : Int := sext 64 (a + 2 ^ 64 - b % 2 ^ 64)

/-- 2^-32 s to ps, to the nearest. -/
def ntpToPs (x : Int) : Int := roundRat ((x : Rat) * 1000000000000 / 4294967296)

/-- NTP short format to ps, rounded up. -/
def shortToPs (x : Nat) : Nat := cdiv (x * 10 ^ 12) (2 ^ 16)

/-- A kiss (R278): RATE, DENY and RSTR, or another code. -/
def peerKiss (s : State) (j refid : Nat) : State :=
  if refid = asciiWord 0x52 0x41 0x54 0x45 then
    (s.setF F.NTP_PEER_STATUS_kiss 1 j).setF F.NTP_PEER_STATUS_poll (min 5 (s.f F.NTP_PEER_STATUS_poll j + 1)) j
  else if refid = asciiWord 0x44 0x45 0x4E 0x59 ∨ refid = asciiWord 0x52 0x53 0x54 0x52 then
    let s := setPeer (s.setF F.NTP_PEER_STATUS_kiss 2 j) j { peer s j with stopped := true }
    logRec s 4 0x0980 [(0, 1, j), (4, 1, refid / 2 ^ 24), (5, 1, refid / 2 ^ 16 % 256), (6, 1, refid / 2 ^ 8 % 256), (7, 1, refid % 256)]
  else s.setF F.NTP_PEER_STATUS_kiss 3 j

/-- An accepted reply feeds the slots of its peer whose timescale is the port's (R73, R277), as of the instant `t`. -/
def peerFeed (s : State) (j : Nat) (x : Int) (unc : Nat) (t : Int) : State :=
  let n := s.f F.PORT_CFG_ts (s.f F.NTP_PEER_CFG_port j)
  (List.range 32).foldl (fun u k =>
    if slotOn u k && u.f F.TS_REF_CFG_type k == 4 && u.f F.TS_REF_CFG_source k == j && slotTs u k == n then
      takeMeasAt u k ⟨x, some unc, 0, 0xFF, 0⟩ t else u) s

/-- NTP_PEER_REPLY (R258, R277, R278): a packet from the address of an enabled peer on its port. -/
def execNtpPeerReply (peer_ : Nat) (r : PeerReply) (s : State) : Host.Outcome State Fault Refusal :=
  let s := advance s r.ticks
  let p := s.f F.NTP_PEER_CFG_port peer_
  let x := peer s peer_
  if !peerOn s peer_ || x.stopped || !tsePortOk s p || r.port != p || bit (s.fb F.NTP_PEER_CFG_family peer_) != r.family || r.addr != peerAddr s peer_ then
    .next s
  else if r.stratum = 0 then .next (peerKiss s peer_ r.refid)
  else match x.t1 with
    | none => .next s
    | some (t1, u1) =>
      let u4 := portTime s p r.frac (-(s.f F.PORT_LAT_RX_value p : Int))
      let t4 := ntpStamp s false u4
      let d := ntpDiff t4 t1 - ntpDiff r.t3 r.t2
      if r.origin ≠ t1 ∨ 15 < r.stratum ∨ r.li = 3 ∨ ntpDiff r.t3 r.t2 < 0 ∨ d < 0 ∨ 2 ^ 32 < d then .next s
      else
        let ofs := ntpToPs (ntpDiff t1 r.t2 + ntpDiff t4 r.t3) / 2
        let delta := (ntpToPs d).toNat
        let s := setPeer s peer_ { x with t1 := none, reach := true :: x.reach.tail, x := ofs, delta := delta, refid := r.refid, rootDelay := r.rootDelay, rootDisp := r.rootDisp, accepted := true }
        let s := (s.setF F.NTP_PEER_STATUS_stratum r.stratum peer_).setF F.NTP_PEER_STATUS_li r.li peer_
        .next (peerFeed s peer_ ofs (cdiv (shortToPs r.rootDelay) 2 + shortToPs r.rootDisp + cdiv delta 2) ((u1 + u4) / 2))

/-- NTP_PEER_ENABLE_WRITE (R278, R279). -/
def execNtpPeerEnableWrite (peer_ : Nat) (value : Word) (s : State) : Host.Outcome State Fault Refusal :=
  if 8 ≤ peer_ then .next (violation s)
  else
    let was := peerOn s peer_
    let s := regWrite s ⟨.NTP_PEER_CFG, peer_, 0⟩ value
    if peerOn s peer_ && !was then
      .next (setPeer ((s.wr .NTP_PEER_STATUS peer_ 0 0).setF F.NTP_PEER_STATUS_poll (s.f F.NTP_PEER_CFG_poll peer_) peer_) peer_ Peer.reset)
    else if was && !peerOn s peer_ then .next (setPeer s peer_ Peer.reset)
    else .next s

/-- NTP_PEER_READ (R280). -/
def execNtpPeerRead (h : CmdHdr) (peer_ : Nat) (s : State) : Host.Outcome State Fault Refusal :=
  let x := peer s peer_
  if !h.mbz then .next (badArg s h 0x4A)
  else if !peerOn s peer_ || !x.accepted then .next (complete s h 0x4A .notFound [])
  else .next (complete s h 0x4A .ok [(0, 8, twos 64 x.x), (8, 4, satNat 32 x.delta), (12, 4, netOrder 4 x.refid), (16, 4, x.rootDelay), (20, 4, x.rootDisp),
    (24, 4, (s.rg .NTP_PEER_STATUS peer_).toNat)])

/-! ### Granting AES lanes (R275, R355) -/

/-- The first waiting job of a class. -/
def waitingJob (s : State) (c : JobClass) : Option Job := s.stv.jobs.find? (fun j => j.cls == c && !j.started)

/-- Rounds of the deficit round robin until a job of `b` blocks fits a deficit `d` that grows by `w` (R275). -/
def drrRounds (b d w : Nat) : Nat := cdiv (b - d) w

/-- The job that is granted next (R275): Ranin first; host and NTS by deficit round robin in AES blocks, with weights 1 and 31, the idle class's
deficit at 0. The state has the deficits after the grant. -/
def drrPick (s : State) : Option (Job × State) :=
  let set (h n : Nat) : State := { s with stv := { s.stv with defHost := h, defNts := n } }
  match waitingJob s .ranin, waitingJob s .host, waitingJob s .nts with
  | some j, _, _ => some (j, s)
  | none, some h, none => some (h, set 0 0)
  | none, none, some n => some (n, set 0 0)
  | none, none, none => none
  | none, some h, some n =>
    let kh := drrRounds h.blocks s.stv.defHost 1
    let kn := drrRounds n.blocks s.stv.defNts 31
    if kh ≤ kn then some (h, set (s.stv.defHost + kh - h.blocks) (s.stv.defNts + 31 * kh))
    else some (n, set (s.stv.defHost + kn) (s.stv.defNts + 31 * kn - n.blocks))

/-- A reply turns into a NAK: its key was revoked before a lane took it (R270, R355). -/
def nakReply (s : State) (id : Nat) : State :=
  setReplies s (s.ntp.replies.map (fun r => if r.id = id then { r with kind := match r.kind with
    | .nts _ _ _ _ n uid => .nak n uid
    | k => k } else r))

/-- A reply is started. -/
def startReply (s : State) (id : Nat) : State := setReplies s (s.ntp.replies.map (fun r => if r.id = id then { r with started := true } else r))

/-- A host or NTS job takes a lane, unless its key is no longer valid: then it ends as R355 and R270 say. -/
def grantJob (s : State) (lane : Nat) (j : Job) : State :=
  if j.keys.any (fun k => (handleNode s k).isNone) then
    match j.what with
    | .nts r _ => nakReply (dropJob s j.id) r
    | .wrap _ _ _ => dropJob s j.id
    | _ => discardJob s j .keyRevoked
  else
    let s := { s with stv := { s.stv with jobs := s.stv.jobs.map (fun q => if q.id = j.id then { q with lane := some lane, started := true, since := s.ticks } else q) } }
    let s := perf s 0x0013 lane j.blocks
    match j.what with
    | .nts r _ => startReply s r
    | _ => s

/-- The AES work of the NTS reply that holds a lane has ended when the lane is granted again: the reply only waits for its instant. -/
def vacateLane (s : State) (lane : Nat) : State :=
  match s.stv.jobs.find? (fun j => j.lane == some lane) with
  | some j => match j.what with
    | .nts _ _ => if j.revoked then s else dropJob s j.id
    | _ => s
  | none => s

/-- A lane is free. -/
def laneFree (s : State) (lane : Nat) : Bool := decide (lane < 8) && !s.stv.jobs.any (fun j => j.lane == some lane)

end Sys2Proof.Machine
end

