-- ==== Sys2Proof/Machine/Twin.lean ====
section
/-! DEFINITION. Twin operation over Ranin (13_twin.md), and the AES lanes' grants (R275), which serve its key transfers. -/
namespace Sys2Proof.Machine
open Sys2Proof

/-! ### Roles, claims, permission (R283-R288) -/

/-- Role of the device: 0 SOLO, 1 LEAD, 2 STAND_IN, 3 FENCED. -/
def ranRole (s : State) : Nat := s.f F.RAN_STATUS_role

/-- Own claim (R283). -/
def ownClaim (s : State) : Nat := (s.rg .RAN_CLAIM).toNat

/-- The peer's claim while it is fresh (R283). -/
def peerFresh (s : State) : Option ClaimBody := if s.fb F.RAN_STATUS_peer_fresh then s.ran.peer.map PeerClaim.body else none

/-- A fresh peer claim from a LEAD. -/
def peerLeads (s : State) : Bool := (peerFresh s).any (fun b => b.role == 1)

/-- Set a bit of RAN_EVENT. -/
def ranEvent (s : State) (b : Nat) : State := s.setF ⟨.RAN_EVENT, b, b⟩ 1

/-- Type, body length and lane of a Ranin frame (R282's table); none for a mark, which is an ordered set. -/
def ranKind (kind : String) : Option (Nat × Nat × Nat) :=
  if kind = "CLAIM" then some (1, 8, 0)
  else if kind = "STATE" then some (2, 56, 0)
  else if kind = "MIRROR" then some (4, 68, 1)
  else if kind = "KEYWRAP" then some (5, 48, 1)
  else if kind = "HANDBACK" then some (6, 4, 0)
  else if kind = "SWEEP_END" then some (7, 4, 1)
  else none

/-- The transmit lane that carries the traffic of lane `l`: the remaining one where that is down (R281). -/
def ranLane (s : State) (l : Nat) : Nat := if (s.f F.RAN_STATUS_lanes_up).testBit l then l else 1 - l

/-- A Ranin frame leaves with its header (R282), where a transmit lane is up. -/
def ranSend (s : State) (kind : String) (fields : List (String × Int)) : State :=
  if s.f F.RAN_STATUS_lanes_up % 4 = 0 then s
  else match ranKind kind with
    | none => s.emit (.ranin ⟨kind, fields⟩)
    | some (ty, len, l) =>
      let l := ranLane s l
      let n := tget s.ran.seqs 0 l
      let s := { s with ran := { s.ran with seqs := tset s.ran.seqs l ((n + 1) % 65536) } }
      s.emit (.ranin ⟨kind, ([("lane", (l : Int)), ("type", (ty : Int)), ("length", (len : Int)), ("sequence", (n : Int))] : List (String × Int)) ++ fields⟩)

/-- The flags of a CLAIM (R282). -/
def claimFlags (s : State) : Nat :=
  bit (s.fb F.RAN_STATUS_align_ok) + 2 * bit (s.fb F.RAN_STATUS_mirror_ok) + 4 * bit (s.fb F.RAN_STATUS_key_ok) + 8 * bit (s.fb F.RAN_STATUS_raised)
  + 16 * bit (s.fb F.RAN_STATUS_permission) + 32 * bit (s.fb F.RAN_STATUS_blocked)

/-- A transmit lane runs (R281). -/
def ranTx (s : State) : Bool := s.fb F.RAN_CFG_enable && s.f F.RAN_STATUS_lanes_up % 4 != 0

/-- Send a CLAIM frame (R282). -/
def sendClaim (s : State) : State :=
  if ranTx s then
    ranSend s "CLAIM" [("claim", ownClaim s), ("role", ranRole s), ("flags", claimFlags s), ("grade", gradeOf s 0)]
  else s

/-- The run states in which LEAD_OUT_N and the gated pins are configured, once the device has taken a role (R287, R426). -/
def ranLive (s : State) : Bool :=
  let r := s.f F.PWR_RUN_run_state
  decide (2 ≤ r) && decide (r ≤ 4) && (s.ran.joined || !s.fb F.RAN_CFG_enable)

/-- PEER_LEAD_N has been sampled deasserted for 1,250 cycles (R284). -/
def peerLeadClear (s : State) : Bool :=
  match s.ran.clearSince with
  | some t => decide (t + 1250 ≤ s.ticks)
  | none => false

/-- The claim condition of R284. -/
def claimHolds (s : State) : Bool :=
  ranRole s == 0 || (match peerFresh s with
    | some b => decide (b.claim < ownClaim s)
    | none => true)

/-- The device holds drive permission (R284). -/
def permHolds (s : State) : Bool :=
  ranLive s && claimHolds s && peerLeadClear s && ranRole s != 3 && (ranRole s != 2 || s.fb F.RAN_STATUS_raised)

/-- Raised, without permission, and PEER_LEAD_N asserted (R286). -/
def blockedEval (s : State) : State :=
  let b := ranRole s == 2 && s.fb F.RAN_STATUS_raised && !s.fb F.RAN_STATUS_permission && s.fb F.RAN_STATUS_peer_lead
  let s := if b && !s.fb F.RAN_STATUS_blocked then ranEvent s 2 else s
  s.setB F.RAN_STATUS_blocked b

/-- A transition of the role (R287): its event, and its record of severity 2 on entry to FENCED, 3 on entry to LEAD, 5 otherwise. -/
def roleSet (s : State) (new : Nat) : State :=
  let old := ranRole s
  let s := s.setF F.RAN_STATUS_role new
  let s := if new = 1 then ranEvent s 0 else if new = 3 then ranEvent s 1 else s
  logEvent s (if new = 3 then 2 else if new = 1 then 3 else 5) 0x0A01 [(0, 1, old), (1, 1, new), (4, 4, (s.rg .RAN_EVENT).toNat)]

/-- Follow mode ends at the takeover (R293): ACQUIRING where the shadow has a QUALIFIED phase member, else COASTING. -/
def followEnd (s : State) : State :=
  if !tsRuns s 0 then s
  else if anyQualified s 0 then tsTransition (setEns s 0 { ens s 0 with lockRun := 0, loseRun := 0 }) 0 .acquiring
  else if (tsc s 0).state = .coasting then s else coastEntry s 0 false

/-- A kind-1 entry with its next sequenceIds moved by 0x4000 (R294). -/
def bumpSeq : Client → Client
  | .grant g => .grant { g with seqA := (g.seqA + 0x4000) % 65536, seqS := (g.seqS + 0x4000) % 65536 }
  | .ntp x => .ntp x

/-- The next sequenceId of every kind-1 entry moves by 0x4000 at the takeover (R294). -/
def bumpSequences (s : State) : State :=
  let cs := s.ptp.clients.map (fun q => (q.1, q.2.map bumpSeq))
  { s with ptp := { s.ptp with clients := cs, dirty := [] } }

/-- Entry to LEAD (R287, R293, R294): buckets start full. -/
def enterLead (s : State) : State :=
  let s := (roleSet s 1).incF F.RAN_TAKES_takes
  let s := (s.setB F.RAN_STATUS_raised false).setB F.RAN_STATUS_blocked false
  let s := bumpSequences (followEnd s)
  { s with ntp := { s.ntp with buckets := [] }, ran := { s.ran with sweepPos := 0, sentRoot := none, gradeSince := none } }

/-- Drive permission follows R284: LEAD_OUT_N, the cue pins, and the role of a raised STAND_IN. The outputs with twin_gate and TOD_TX follow by
their own rows (R154, R174). -/
def permEval (s : State) : State :=
  let p := permHolds s
  if p = s.fb F.RAN_STATUS_permission then blockedEval s
  else if p then
    let s := (s.setB F.RAN_STATUS_permission true).setB F.RAN_STATUS_lead_out true
    let s := if ranRole s = 2 then enterLead s else s
    sendClaim (cueSettle (blockedEval s))
  else
    let s := (s.setB F.RAN_STATUS_permission false).setB F.RAN_STATUS_lead_out false
    let s := { s with ran := { s.ran with withdrawn := slateOf s 0 .log } }
    sendClaim (blockedEval (cueCutAll s))

/-- The device becomes FENCED (R287): permission goes, follow mode ends with the role STAND_IN (R290), a raise ends, and a RAN_HANDBACK that waits completes when a higher claim did it. -/
def fence (s : State) (cause : Nat) : State :=
  let follows := ranRole s == 2
  let s := (roleSet s 3).incF F.RAN_TAKES_fences
  let s := if follows then followEnd s else s
  let s := ((s.setF F.RAN_STATUS_fence_cause cause).setB F.RAN_STATUS_raised false).setB F.RAN_STATUS_blocked false
  let s := permEval s
  match s.ran.handback with
  | some h =>
    if cause = 1 ∨ cause = 2 then
      let claim := ((peerFresh s).map ClaimBody.claim).getD 0
      let s := { s with ran := { s.ran with handback := none, sentHandback := false } }
      let d := Dest.ring (cplOf s h)
      finish (sentTo s 0 d) h 0x78 .ok ([(0, 4, claim)] ++ slateLayout 8 (keptSlate s d s.ran.withdrawn))
    else s
  | none => s

/-- The loss of AP0, or TJ at 125 °C, fences a LEAD (R287). -/
def fenceLead (s : State) (cause : Nat) : State := if ranRole s = 1 then fence s cause else s

/-- A STAND_IN may raise (R286, R288). -/
def mayRaise (s : State) : Bool :=
  ranRole s == 2 && !s.fb F.RAN_STATUS_raised && s.hs.shclk && (tsc s 0).valid && tsRuns s 0 && !s.fb F.RAN_STATUS_slot_clash && s.ran.joined

/-- The highest epoch seen (R283). -/
def epochMax (s : State) : Nat := s.f F.RAN_EPOCH_MAX_value

/-- A raise (R283, R286): refused, with a record of severity 0, at the highest epoch. -/
def raise (s : State) : State :=
  if !mayRaise s then s
  else if epochMax s = 2 ^ 31 - 1 then logRec s 0 0x0A80 [(0, 4, epochMax s)]
  else
    let e := epochMax s + 1
    let s := (s.setF F.RAN_EPOCH_MAX_value e).setF F.RAN_CLAIM_value (2 * e + s.ran.slot)
    let s := { s.setB F.RAN_STATUS_raised true with ran := { s.ran with epochValid := true } }
    permEval (sendClaim s)

/-- The state that follow mode gives TS0 (R291). -/
def followState (s : State) : State :=
  if ranRole s ≠ 2 ∨ tsRuns s 0 = false then s
  else
    let st : TsState := if (peerFresh s).isNone then .coasting else if s.fb F.RAN_STATUS_align_ok then .locked else .acquiring
    if (tsc s 0).state = st then s
    else if st = .coasting then coastEntry s 0 false
    else tsTransition s 0 st

/-- Entry to STAND_IN (R287, R291): follow mode starts; the mirror waits for a sweep that begins now. -/
def enterStandIn (s : State) : State :=
  let s := roleSet s 2
  let s := (s.setB F.RAN_STATUS_mirror_ok false).setB F.RAN_STATUS_align_ok false
  let s := { s with ran := { s.ran with thetas := [], thetaNew := false, alignRun := 0, rxPos := 0, gradeSince := none, markTx := none, markRx := none } }
  let s := setEns s 0 { ens s 0 with shadowGrade := 5, shadowRuns := [], shadowLocked := false, lockRun := 0, loseRun := 0 }
  permEval (followState s)

/-- Entry to RUN (R283, R287). A device that already has its role keeps it: re-entry from SETUP changes nothing running (R422). -/
def ranEnterRun (s : State) : State :=
  if s.ran.joined && (ranRole s == 0) == !s.fb F.RAN_CFG_enable then permEval s
  else
    let lost := !s.ran.epochValid
    let s := s.setF F.RAN_CLAIM_value (2 * epochMax s + s.ran.slot)
    let s := if lost then logRec (ranEvent (s.setB F.RAN_STATUS_epoch_lost true) 6) 2 0x0A81 [(0, 1, s.ran.slot)] else s
    let s := { s with ran := { s.ran with joined := true, epochValid := true, sawLead := peerLeads s, joinAt := if s.fb F.RAN_CFG_enable then some s.ticks else none } }
    if s.fb F.RAN_CFG_enable then enterStandIn s else
      let s := (s.setF F.RAN_STATUS_lanes_up 0).setF F.RAN_STATUS_link 0
      permEval (if ranRole s = 2 then followEnd (roleSet s 0) else roleSet s 0)

/-! ### Marks and alignment (R289, R291, R292) -/

/-- 2^-48 ns to 2^-8 ps, to the nearest. -/
def toPs8 (u : Int) : Int := (u * 256000 + 2 ^ 47) / 2 ^ 48

/-- Square root of the mean square of θ over the last 16 exchanges (R289). -/
def thetaRms (l : List Int) : Nat :=
  let l := l.take 16
  if l.isEmpty then 0 else sqrtRat ((l.foldl (fun a x => a + x * x) 0 : Int) / ((l.length : Nat) : Rat))

/-- The bound components of TS0 in follow mode (R291). -/
def followBound (s : State) : State :=
  match s.ran.state with
  | none => s
  | some (b, _) =>
    let ref := addBound (if b.bnd = 0xFFFFFFFF then none else some (8 * b.bnd)) (some (cdiv (s.f F.RAN_ASYM_UNC_value) 2))
    let est := cdiv ((s.ran.thetas.head?.getD 0).natAbs) 256
    reportBound s 0 { ens s 0 with ref := ref, measured := some (cdiv (3 * s.f F.RAN_SIGMA_value) 256), est := some est, hold := some 0, gap := some 0 }

/-- Follow mode takes what an exchange or a STATE frame gives (R291). -/
def followEval (s : State) : State :=
  if ranRole s ≠ 2 ∨ tsRuns s 0 = false then s
  else
    let s := followState s
    if (tsc s 0).state = .coasting then s else followBound s

/-- align_ok after an exchange (R292). -/
def alignEval (s : State) (theta : Int) : State :=
  let ok := decide (theta.natAbs ≤ 256 * s.f F.RAN_CFG_align_tol)
  let n := if ok then min 16 (s.ran.alignRun + 1) else 0
  { s with ran := { s.ran with alignRun := n } }.setB F.RAN_STATUS_align_ok (ok && (s.fb F.RAN_STATUS_align_ok || decide (16 ≤ n)))

/-- The mark exchange (R289): both parts' stamps of a second are known. An exchange whose stamps carry bound 0xFF is not used. -/
def markExchange (s : State) : State :=
  match s.ran.markTx, s.ran.markRx, s.ran.state with
  | some tOwn, some aOwn, some (b, _) =>
    match b.arrival with
    | none => s
    | some aPeer =>
      let stale := match s.ran.used with
        | some (m, a) => m == b.mark || a == aPeer
        | none => false
      if stale then s
      else
        let s := { s with ran := { s.ran with markTx := none, markRx := none, used := some (b.mark, aPeer) } }
        if [tOwn, aOwn, b.mark, aPeer].any (fun x => x.bnd == 0xFF) then s
        else
          let p := slateUnits aOwn - slateUnits b.mark
          let q := slateUnits aPeer - slateUnits tOwn
          let theta := (toPs8 (p - q) + s.fi F.RAN_ASYM_value) / 2
          let d := toPs8 (p + q) / 2
          let s := { s with ran := { s.ran with thetas := (theta :: s.ran.thetas).take 16, thetaNew := true } }
          let s := (s.setI F.RAN_OFS_value (satInt 32 theta)).setF F.RAN_DELAY_value (satNat 32 d.toNat)
          let s := s.setF F.RAN_SIGMA_value (satNat 32 (thetaRms s.ran.thetas))
          followEval (alignEval s theta)
  | _, _, _ => s

/-- The stamp of a mark at `frac` 2^-32 of a cycle after the last edge. -/
def markSlate (s : State) (frac : Nat) : Slate := slateAt s 0 .log (rateIncr s 4 0 * frac / 2 ^ 32)

/-- The mark of the present second of TS0 is due at this symbol boundary: the first at or after the whole second, within the 8 ns of a symbol, and it
has not been sent (R281, R289). -/
def markDue (s : State) (x : Slate) : Bool := decide (x.ns < 8) && s.ran.markSec != some x.sec

/-- MARK_SEND (R289). -/
def execMarkSend (ticks frac : Nat) (s : State) : Host.Outcome State Fault Refusal :=
  let s := advance s ticks
  let x := markSlate s frac
  if !ranTx s || !markDue s x then .next s
  else
    let s := ranSend s "MARK" []
    .next (markExchange { s with ran := { s.ran with markTx := some x, lastTx := x, markSec := some x.sec } })

/-- MARK_ARRIVAL (R289). -/
def execMarkArrival (ticks frac : Nat) (s : State) : Host.Outcome State Fault Refusal :=
  let s := advance s ticks
  if !s.fb F.RAN_CFG_enable then .next s
  else
    let x := markSlate s frac
    .next (markExchange { s with ran := { s.ran with markRx := some x, lastRx := some x } })

/-- FOLLOW_MODE_UPDATE (R290): −θ is slewed no faster than the governor's maximum, and the loop sets the increment. -/
def execFollowModeUpdate (s : State) : Host.Outcome State Fault Refusal :=
  match s.ran.thetas with
  | [] => .next s
  | th :: _ =>
    if ranRole s ≠ 2 ∨ s.ran.thetaNew = false ∨ tsRuns s 0 = false ∨ s.hs.shclk = false then .next s
    else
      let s := { s with ran := { s.ran with thetaNew := false } }
      let s := loadSlew s 0 (-(th * 2 ^ 48 / 256000)) (s.f F.GOV_TS_SLEW_value) false
      .next (applyIncr s 0 (Config.followIncr (s.f F.RAN_CFG_align_bw) (tsIncr s 0) th) 2)

/-! ### Link and frames sent (R281, R282) -/

/-- RAN_LANE_STATE (R281, R294): lanes 0 and 1 transmit, 2 and 3 receive. -/
def execRanLaneState (lane : Nat) (up training : Bool) (s : State) : Host.Outcome State Fault Refusal :=
  if 4 ≤ lane ∨ s.fb F.RAN_CFG_enable = false then .next s
  else
    let was := s.f F.RAN_STATUS_link
    let s := s.setF ⟨.RAN_STATUS, 4 + lane, 4 + lane⟩ (bit up)
    let l := s.f F.RAN_STATUS_lanes_up
    let isUp := l % 4 != 0 && l / 4 != 0
    let s := s.setF F.RAN_STATUS_link (if isUp then 2 else if training then 1 else 0)
    if isUp && was != 2 then .next { s with ran := { s.ran with state := none } }
    else if !isUp && was == 2 then .next ((ranEvent s 5).setB F.RAN_STATUS_mirror_ok false)
    else .next s

/-- Every lane of Ranin goes down (R137). -/
def lanesDown (s : State) : State :=
  (List.range 4).foldl (fun t l => match execRanLaneState l false false t with
    | .next u => u
    | _ => t) s

/-- AP0_LOSS (R40, R137, R140, R208, R287): the ports and Ranin, which AP0 times, lose their links. -/
def execAp0Loss (oscMissing : Bool) (phiLoss : Nat) (s : State) : Host.Outcome State Fault Refusal :=
  .next (if s.hs.shclk then fenceLead (lanesDown (portsAp0Lost (ap0Lost oscMissing phiLoss s))) 3 else ap0Lost oscMissing phiLoss s)

/-- CLAIM_SEND (R282). -/
def execClaimSend (s : State) : Host.Outcome State Fault Refusal := .next (sendClaim s)

/-- The STATE body of this device (R282), as named fields. -/
def ownState (s : State) : StateBody :=
  ⟨s.ran.lastTx, s.ran.lastRx, comp8 (tsBoundPs s 0), (tsStateOf s 0).code, gradeOf s 0, taiUtc s, s.rg .TS_LEAP_SCHED, (s.rg .CSHT_ACTIVE_VER).toNat, ntsEpoch s⟩

/-- STATE_SEND (R282). -/
def execStateSend (s : State) : Host.Outcome State Fault Refusal :=
  if ranTx s then
    let b := ownState s
    let rx := b.arrival.getD Slate.none
    .next (ranSend s "STATE" [("mark0", slateWord0 b.mark), ("mark1", slateWord1 b.mark), ("arrival0", if b.arrival.isSome then slateWord0 rx else 0),
      ("arrival1", if b.arrival.isSome then slateWord1 rx else 0), ("bound", b.bnd), ("state", b.tsState), ("grade", b.grade), ("taiUtc", b.taiUtc), ("leap", b.leap.toNat),
      ("sheet", b.sheet), ("epoch", b.epoch)])
  else .next s

/-! ### Frames received (R282, R287, R288, R291, R294-R297) -/

/-- The claim of a peer arrives (R283, R287, R288). -/
def claimArrive (s : State) (b : ClaimBody) : State :=
  let clash := b.claim % 2 == s.ran.slot
  let since := if b.role = 1 then (if peerLeads s then s.ran.leadSince else some s.ticks) else none
  let s := { s with ran := { s.ran with peer := some ⟨b, s.ticks⟩, sawLead := s.ran.sawLead || b.role == 1, leadSince := since } }
  let s := (s.setB F.RAN_STATUS_peer_fresh true).setF F.RAN_STATUS_peer_role b.role
  let s := s.setF F.RAN_PEER_CLAIM_value b.claim
  let s := if epochMax s < b.claim / 2 then { s.setF F.RAN_EPOCH_MAX_value (b.claim / 2) with ran := { s.ran with epochValid := true } } else s
  let s := if clash && !s.fb F.RAN_STATUS_slot_clash then ranEvent s 3 else s
  let s := s.setB F.RAN_STATUS_slot_clash clash
  let higher := decide (ownClaim s < b.claim)
  let s :=
    if ranRole s = 1 ∧ higher = true ∧ clash = false then fence s (if s.ran.sentHandback then 2 else 1)
    else if ranRole s = 2 ∧ s.fb F.RAN_STATUS_raised = true ∧ higher = true then fence s 1
    else if ranRole s = 2 ∧ (b.role = 3 ∨ b.role = 0) then raise s
    else if ranRole s = 3 ∧ s.f F.RAN_STATUS_fence_cause = 2 ∧ b.role = 1 then enterStandIn s
    else s
  followEval (permEval s)

/-- A STAND_IN takes the peer's TAI − UTC and leap schedule (R291). -/
def adoptLeap (s : State) (b : StateBody) : State :=
  if taiUtc s = b.taiUtc ∧ s.rg .TS_LEAP_SCHED = b.leap then s
  else
    let d : Layout := [(0, 2, twos 16 (taiUtc s)), (2, 2, twos 16 b.taiUtc), (4, 4, (s.rg .TS_LEAP_SCHED).toNat), (8, 4, b.leap.toNat)]
    logRec (((s.setI F.TS_UTC_OFS_tai_utc b.taiUtc).setB F.TS_UTC_OFS_known true).wr .TS_LEAP_SCHED 0 0 b.leap) 3 0x0A82 d

/-- The call sheets are compared (R296), on a LEAD for the readiness of R297. -/
def sheetCompare (s : State) (b : StateBody) : State :=
  let own := (s.rg .CSHT_ACTIVE_VER).toNat
  let bad := own != b.sheet
  let s := if bad && !s.fb F.RAN_STATUS_sheet_mismatch then logRec (ranEvent s 4) 3 0x0A83 [(0, 4, own), (4, 4, b.sheet)] else s
  s.setB F.RAN_STATUS_sheet_mismatch bad

/-- A STATE frame arrives (R289, R291, R295, R296). -/
def stateArrive (s : State) (b : StateBody) : State :=
  let s := { s with ran := { s.ran with state := some (b, s.ticks) } }
  let s := if ranRole s = 2 then
      let s := sheetCompare (adoptLeap s b) b
      if b.epoch = ntsEpoch s then s else s.setB F.RAN_STATUS_key_ok false
    else if ranRole s = 1 then sheetCompare s b
    else s
  followEval (markExchange s)

/-- A MIRROR frame arrives (R294). -/
def mirrorArrive (s : State) (i : Nat) (e : Option Client) : State :=
  if ranRole s ≠ 2 ∨ 65536 ≤ i then s
  else
    let d := s.ptp.dirty
    let s := setClient s i e
    { s with ptp := { s.ptp with dirty := d }, ran := { s.ran with rxPos := if i = s.ran.rxPos then i + 1 else s.ran.rxPos } }

/-- A SWEEP_END frame arrives (R294). -/
def sweepArrive (s : State) : State :=
  if ranRole s ≠ 2 then s
  else
    let s := if s.ran.rxPos = 65536 then s.setB F.RAN_STATUS_mirror_ok true else s
    { s with ran := { s.ran with rxPos := 0 } }

/-- The pair transport key is in place (R295, R360). -/
def pairKey (s : State) : Option Nat := if handleIs s (s.rg .STV_PAIR_KEY).toNat 3 then handleKey s (s.rg .STV_PAIR_KEY).toNat else none

/-- AES blocks of a wrap or an unwrap of 256 bits: RFC 3394's six passes over four halves. -/
def wrapBlocks : Nat := 24

/-- A KEYWRAP frame arrives (R295). -/
def keywrapArrive (s : State) (key op gen : Nat) (w : Wrapped) : State :=
  if ranRole s ≠ 2 ∨ (pairKey s).isNone = true ∨ 1 < key ∨ 1 < op then s
  else if op = 1 then
    if key = 0 ∧ s.fb F.NTS_STATUS_root_valid = true ∧ s.ran.installed.isSome = true then
      let s := revokeNodes s (subtree s ((s.rg .NTS_COOKIE_ROOT).toNat % 1024))
      { s.setB F.RAN_STATUS_key_ok false with ran := { s.ran with installed := none, revokeOwed := false } }
    else s
  else
    let s := if key = 0 ∧ s.ran.installed ≠ some gen then s.setB F.RAN_STATUS_key_ok false else s
    if key = 0 ∧ s.ran.installed = some gen ∧ s.fb F.NTS_STATUS_root_valid = true then s.setB F.RAN_STATUS_key_ok true
    else addJob s .ranin [(s.rg .STV_PAIR_KEY).toNat] wrapBlocks (.unwrap key op gen w)

/-- The peer's claim is no longer fresh (R283, R286, R291). -/
def silence (s : State) : State :=
  if s.fb F.RAN_STATUS_peer_fresh then
    let s := { s with ran := { s.ran with leadSince := none } }
    followState (permEval (raise (s.setB F.RAN_STATUS_peer_fresh false)))
  else s

/-- The silence timeout has run since the end of the last valid CLAIM (R283). -/
def peerStale (s : State) : Bool :=
  match s.ran.peer with
  | some p => decide (p.tick + s.f F.RAN_TMO_silence * 625 ≤ s.ticks)
  | none => false

/-- The silence acts where its timeout has run. -/
def silenceEval (s : State) : State := if peerStale s then silence s else s

/-- A frame arrives (R282). -/
def frameArrive (f : RanFrame) (s : State) : State :=
  let s := silenceEval (advance s f.ticks)
  if !s.fb F.RAN_CFG_enable then s
  else if !f.crcOk then (s.incF F.RAN_FRAME_ERR_crc)
  else match f.body with
    | .bad => (s.incF F.RAN_FRAME_ERR_other)
    | .claim b => (claimArrive s b)
    | .state b => (stateArrive s b)
    | .mirror i e => (mirrorArrive s i e)
    | .keywrap k o g w => (keywrapArrive s k o g w)
    | .handback c => if (peerFresh s).any (fun b => b.claim == c) then raise s else s
    | .sweepEnd _ => (sweepArrive s)

/-! ### Takeover (R284, R286, R287, R298) -/

/-- PEER_SILENCE (R283, R286, R287). -/
def execPeerSilence (ticks : Nat) (s : State) : Host.Outcome State Fault Refusal := .next (silenceEval (advance s ticks))

/-- CLAIM_RAISE (R286): a takeover trigger that holds now acts: no fresh peer after one was, or a fresh peer that is FENCED or SOLO. -/
def execClaimRaise (s : State) : Host.Outcome State Fault Refusal :=
  .next (match peerFresh s with
    | some b => if b.role = 3 ∨ b.role = 0 then raise s else s
    | none => if s.ran.peer.isSome then raise s else s)

/-- PEER_LEAD_N_CHANGE (R284, R286). -/
def execPeerLeadNChange (asserted : Bool) (ticks : Nat) (s : State) : Host.Outcome State Fault Refusal :=
  let s := advance s ticks
  let since := if asserted then none else if s.ran.clearSince.isSome then s.ran.clearSince else some s.ticks
  .next (permEval { s.setB F.RAN_STATUS_peer_lead asserted with ran := { s.ran with clearSince := since } })

/-- DRIVE_PERMISSION_CHANGE (R284, R285). -/
def execDrivePermissionChange (ticks : Nat) (s : State) : Host.Outcome State Fault Refusal := .next (permEval (advance s ticks))

/-- join_wait, in 100 ms, has run since the entry to RUN (R287). -/
def joinEnds (s : State) : Bool :=
  match s.ran.joinAt with
  | some t => decide (t + s.f F.RAN_CFG_join_wait * 62500000 ≤ s.ticks)
  | none => false

/-- JOIN_WAIT_END (R287): no fresh LEAD claim came within join_wait. -/
def execJoinWaitEnd (s : State) : Host.Outcome State Fault Refusal :=
  if !joinEnds s then .next s
  else
    let s := { s with ran := { s.ran with joinAt := none } }
    .next (if s.ran.sawLead = true then s else match peerFresh s with
      | none => raise s
      | some b => if b.role = 2 ∧ b.claim < ownClaim s then raise s else s)

/-- The fresh peer claim has been a LEAD's for 10 s (R287). -/
def leadHeld (s : State) : Bool :=
  match s.ran.leadSince with
  | some t => decide (t + 6250000000 ≤ s.ticks)
  | none => false

/-- AUTO_REJOIN (R287): the peer's LEAD claim has been fresh for 10 s. -/
def execAutoRejoin (s : State) : Host.Outcome State Fault Refusal :=
  .next (if ranRole s = 3 ∧ s.fb F.RAN_CFG_auto_rejoin = true ∧ peerLeads s = true ∧ leadHeld s = true ∧ s.hs.shclk = true ∧ (tsc s 0).valid = true then
    enterStandIn s else s)

/-- The grade trigger at an epoch of TS0 (R287, R296): the hold counts while the grades differ; grade_take, align_ok and equal
sheets are asked for at the raise. -/
def gradeTrigger (s : State) : State :=
  let thr := s.f F.RAN_CFG_grade_thr
  let holds := ranRole s == 2 && (peerFresh s).any (fun b => decide (thr < b.grade)) && decide ((ens s 0).shadowGrade ≤ thr)
  if !holds then { s with ran := { s.ran with gradeSince := none } }
  else
    let t0 := s.ran.gradeSince.getD s.ticks
    let s := { s with ran := { s.ran with gradeSince := some t0 } }
    if s.fb F.RAN_CFG_grade_take && s.fb F.RAN_STATUS_align_ok && !s.fb F.RAN_STATUS_sheet_mismatch
        && decide (t0 + s.f F.RAN_CFG_grade_hold * 625000000 ≤ s.ticks) then raise s else s

/-- RAN_TMO_WRITE (R298): at once, and it never makes a claim fresh again. -/
def execRanTmoWrite (value : Word) (s : State) : Host.Outcome State Fault Refusal :=
  let s := regWrite s ⟨.RAN_TMO, 0, 0⟩ value
  .next (silenceEval s)

/-- The bound of timescale `n` is published again at its first epoch after step 5 is left (R418). -/
def boundRelease (s : State) (n : Nat) : State :=
  if s.f F.PWR_RUN_therm_step = 5 then s else { s with pwr := { s.pwr with boundHeld := s.pwr.boundHeld.filter (fun m => m != n) } }

/-- ENSEMBLE_EPOCH (R77, R79-R91, R244, R287, R418): the epoch, then the instances that ask for their alternative timescale and the grade trigger. -/
def execEnsembleEpoch (ts : Nat) (lead : Option Nat) (s : State) : Host.Outcome State Fault Refusal :=
  if !epochRuns s ts then .next s
  else
    let t := boundRelease (altEpochs (ensembleEpoch ts lead (ptpFeeds s ts)) ts) ts
    .next (if ts = 0 then gradeTrigger t else t)

/-! ### Mirroring and keys sent (R294, R295) -/

/-- The peer is a STAND_IN to mirror to. -/
def mirrors (s : State) : Bool := ranRole s == 1 && s.f F.RAN_STATUS_link == 2 && (peerFresh s).any (fun b => b.role == 2)

/-- The body of a MIRROR frame (R282): the index and the 64 bytes of the entry, as a little-endian number. -/
def mirrorFields (s : State) (e : Nat) : List (String × Int) :=
  [("index", (e : Int)), ("entry", leVal ((List.range 64).map (layoutByte (clientLayout s e))))]

/-- MIRROR_SEND (R294): a changed entry first, else the next of the sweep, else the sweep's end. -/
def execMirrorSend (s : State) : Host.Outcome State Fault Refusal :=
  if !mirrors s then .next s
  else match s.ptp.dirty with
    | e :: r => .next (ranSend { s with ptp := { s.ptp with dirty := r } } "MIRROR" (mirrorFields s e))
    | [] =>
      if s.ran.sweepPos < 65536 then
        let e := s.ran.sweepPos
        .next (ranSend { s with ran := { s.ran with sweepPos := e + 1 } } "MIRROR" (mirrorFields s e))
      else
        .next (ranSend { s with ran := { s.ran with sweepPos := 0, sweepNum := (s.ran.sweepNum + 1) % 2 ^ 32 } } "SWEEP_END" [("sweep", s.ran.sweepNum)])

/-- KEYWRAP_SEND (R295): key 0 is the cookie root, 1 the client table's hash key; a revoke that is owed goes first. -/
def execKeywrapSend (key : Nat) (s : State) : Host.Outcome State Fault Refusal :=
  if ranRole s ≠ 1 ∨ (pairKey s).isNone = true ∨ s.f F.RAN_STATUS_link ≠ 2 ∨ 1 < key then .next s
  else if key = 0 ∧ s.ran.revokeOwed = true then
    .next (ranSend { s with ran := { s.ran with revokeOwed := false, sentRoot := none } } "KEYWRAP" [("key", 0), ("op", 1), ("generation", s.ran.keyGen)])
  else if key = 0 ∧ s.fb F.NTS_STATUS_root_valid = false then .next s
  else
    let root := (s.rg .NTS_COOKIE_ROOT).toNat
    let changed := key == 0 && s.ran.sentRoot != some root
    let acked := (peerFresh s).any (fun b => b.flags.testBit 2)
    if !changed && acked then .next s
    else
      let g := if changed then s.ran.keyGen + 1 else s.ran.keyGen
      let s := { s with ran := { s.ran with keyGen := g, sentRoot := if key = 0 then some root else s.ran.sentRoot } }
      .next (addJob s .ranin [(s.rg .STV_PAIR_KEY).toNat] wrapBlocks (.wrap key 0 g))

/-- A key transfer of the first class runs on its lane (R275, R295). The whole transfer takes effect with the grant. -/
def raninJob (s : State) (j : Job) : State :=
  let s := dropJob s j.id
  match pairKey s, j.what with
  | some k, .wrap key op gen =>
    match (if key = 0 then handleKey s (s.rg .NTS_COOKIE_ROOT).toNat else some s.ntp.hashKey) with
    | some inner => ranSend s "KEYWRAP" [("key", key), ("op", op), ("generation", gen), ("under", k), ("inside", inner)]
    | none => s.inc .STV_REVOKE_DROP
  | some k, .unwrap key _ gen w =>
    if w.under ≠ k ∨ ranRole s ≠ 2 then s
    else if key = 1 then { s with ntp := { s.ntp with hashKey := w.key } }
    else
      let s := if s.ran.installed.isSome ∧ s.fb F.NTS_STATUS_root_valid = true then
          { revokeNodes s (subtree s ((s.rg .NTS_COOKIE_ROOT).toNat % 1024)) with ran := s.ran } else s
      match freeIndex s with
      | none => s
      | some i =>
        let s := newNode s i ⟨w.key, 0, 0, some 0, 1, true, [], [], false⟩
        let s := setCookieRoot s (BitVec.ofNat 32 (handleOf s i))
        { s.setB F.RAN_STATUS_key_ok true with ran := { s.ran with installed := some gen, keyGen := gen } }
  | _, _ => s

/-- AES_JOB_GRANT (R275, R355, R415): under PRECISE at most 4 lanes are busy at once. -/
def execAesJobGrant (lane : Nat) (s : State) : Host.Outcome State Fault Refusal :=
  let s := vacateLane s lane
  let busy := (s.stv.jobs.filter (fun j => j.lane.isSome)).length
  if !laneFree s lane || s.wrap.retired.contains (4, lane) || (s.f F.PWR_RUN_profile == 1 && decide (4 ≤ busy)) then .next s
  else match drrPick s with
    | none => .next s
    | some (j, t) =>
      if j.cls = .ranin then .next (raninJob (perf t 0x0013 lane j.blocks) j) else .next (grantJob t lane j)

/-! ### Commands (R297, R299) -/

/-- The reason for which the peer is not ready (R297, R299); 0 when it is. -/
def handbackReason (s : State) : Nat :=
  match peerFresh s with
  | none => 1
  | some b =>
    if b.role ≠ 2 then 2
    else if !b.flags.testBit 0 then 3
    else if !b.flags.testBit 1 then 4
    else if s.fb F.NTS_STATUS_root_valid && !b.flags.testBit 2 then 5
    else if s.fb F.RAN_STATUS_sheet_mismatch then 6
    else if s.fb F.RAN_STATUS_slot_clash then 7
    else if s.ran.handback.isSome then 8
    else 0

/-- RAN_HANDBACK (R297, R299). -/
def execRanHandback (h : CmdHdr) (s : State) : Host.Outcome State Fault Refusal :=
  if !h.mbz then .next (badArg s h 0x78)
  else if ranRole s ≠ 1 then .next (complete s h 0x78 .notFound [])
  else if handbackReason s ≠ 0 then .next (complete s h 0x78 .busy [(4, 1, handbackReason s)])
  else
    let s := begins s h 0x78
    .next (ranSend { s with ran := { s.ran with handback := some h, sentHandback := true, handbackAt := s.ticks } } "HANDBACK" [("claim", ownClaim s)])

/-- No higher claim came within 10 ms of a HANDBACK (R297). -/
def handbackEnd (s : State) : State :=
  match s.ran.handback with
  | none => s
  | some h => if s.ticks < s.ran.handbackAt + 6250000 then s else finish { s with ran := { s.ran with handback := none, sentHandback := false } } h 0x78 .timeout []

/-- RAN_REJOIN (R287, R299). -/
def execRanRejoin (h : CmdHdr) (s : State) : Host.Outcome State Fault Refusal :=
  if !h.mbz then .next (badArg s h 0x79)
  else if ranRole s ≠ 3 then .next (complete s h 0x79 .notFound [])
  else if s.f F.RAN_STATUS_link ≠ 2 ∨ peerLeads s = false ∨ s.hs.shclk = false then .next (complete s h 0x79 .busy [])
  else
    let s := enterStandIn s
    .next (complete s h 0x79 .ok [(0, 4, (s.rg .RAN_STATUS).toNat)])

/-- The 64 bytes of RAN_PEER_READ (R282, R299). -/
def peerLayout (b : StateBody) (c : Option ClaimBody) : Layout :=
  slateLayout 0 b.mark ++ (match b.arrival with
    | some x => slateLayout 16 x
    | none => []) ++
  [(32, 4, b.bnd), (36, 1, b.tsState), (37, 1, b.grade), (38, 2, twos 16 b.taiUtc), (40, 4, b.leap.toNat), (44, 4, b.sheet), (48, 4, b.epoch)] ++
  (match c with
    | some c => [(56, 4, c.claim), (60, 1, c.role), (61, 1, c.flags)]
    | none => [])

/-- RAN_PEER_READ (R299). -/
def execRanPeerRead (h : CmdHdr) (addr : Nat) (s : State) : Host.Outcome State Fault Refusal :=
  if !h.mbz ∨ addr = 0 ∨ addr % 64 ≠ 0 then .next (badArg s h 0x7A)
  else match s.ran.state with
    | none => .next (complete s h 0x7A .notFound [])
    | some (b, t) =>
      let s := s.emit (.mem addr 64 (peerLayout b (s.ran.peer.map PeerClaim.body)))
      .next (complete s h 0x7A .ok [(0, 4, satNat 32 ((s.ticks - t) / 625))])

end Sys2Proof.Machine
end

