-- ==== Sys2Proof/Machine/HostIf.lean ====
section
/-! DEFINITION. The host interface (14_host_rings.md): rings, the doorbell page, completions, interrupts, the admin commands NOP, ABORT and
RING_STOP, and what the PCIe link does to them. -/
namespace Sys2Proof.Machine
open Sys2Proof

/-! ### Rings (R304-R306, R330) -/

/-- A ring enters ERROR (R306): its event and its record of severity 3. -/
def ringError (s : State) (r err : Nat) : State :=
  let s := (s.setF F.HOST_RING_STATUS_state 3 r).setF F.HOST_RING_STATUS_err err r
  logEvent s 3 0x0B01 [(0, 1, r), (1, 1, err)]

/-- Base address of a ring. -/
def ringBase (s : State) (r : Nat) : Nat := s.pair .HOST_RING_BASE_LO .HOST_RING_BASE_HI r

/-- The checks of R305 in order. -/
def ringErr (s : State) (r : Nat) : Nat :=
  if ringBase s r = 0 ∨ ringBase s r % 4096 ≠ 0 then 1
  else if s.pair .HOST_DB_LO .HOST_DB_HI = 0 then 2
  else if ringType s r ≠ 1 ∧ cplEnabled s (s.f F.HOST_RING_CFG_cpl_ring r) = false then 3
  else if 4 ≤ s.f F.HOST_RING_CFG_port r then 8
  else 0

/-- HOST_RING_ENABLE (R305, R306): a write of HOST_RING_CFG. The other fields change only while the ring is DISABLED, and enable is never
written to 0. -/
def execHostRingEnable (ring_ : Nat) (value : Word) (s : State) : Host.Outcome State Fault Refusal :=
  if 64 ≤ ring_ then .next (violation s)
  else
    let on := s.fb F.HOST_RING_CFG_enable ring_
    if on then .next (regWrite s ⟨.HOST_RING_CFG, ring_, 0⟩ value)
    else
      let t := regWrite s ⟨.HOST_RING_CFG, ring_, 0⟩ (fput value 31 31 0)
      if fget value 31 31 = 0 then .next t
      else if ringState s ring_ ≠ 0 then .next (violation t)
      else
        let e := ringErr t ring_
        if e ≠ 0 then .next (violation (t.setF F.HOST_RING_STATUS_err e ring_))
        else
          let t := ((t.setB F.HOST_RING_CFG_enable true ring_).setF F.HOST_RING_STATUS_err 0 ring_).setF F.HOST_RING_STATUS_state 1 ring_
          let t := (t.wr .HOST_RING_HEAD ring_ 0 0).setB F.HOST_RING_STATUS_armed (ringType t ring_ == 1) ring_
          let t := if ringType t ring_ = 1 then t.setF F.HOST_RING_HEAD_phase 1 ring_ else t
          .next (setRing t ring_ { Ring.reset with lost := (ring t ring_).lost, armedAt := t.ticks })

/-- A ring becomes DISABLED; a PERF or event ring that it was is no longer an enabled one (R306). -/
def ringDisable (s : State) (r : Nat) : State :=
  ((s.setB F.HOST_RING_CFG_enable false r).setF F.HOST_RING_STATUS_state 0 r).setB F.HOST_RING_STATUS_armed false r

/-! ### NOP and ABORT (R311, R326, R327) -/

/-- NOP (R327): taken as it is fetched (R323). -/
def nopRun (s : State) (h : CmdHdr) : State := guarded s h 0 (complete s h 0 .ok [(0, 1, s.f F.PWR_RUN_run_state)])

/-- NOP (R327). -/
def execNop (h : CmdHdr) (s : State) : Host.Outcome State Fault Refusal := .next (nopRun s h)

/-- The timed commit of a call sheet with a header: its commit point is its instant (R326, R339). -/
def timedCommit (s : State) (ring_ tag : Nat) : Option AtTs :=
  s.host.atTs.find? (fun w => w.hdr.ring == ring_ && w.hdr.tag == tag && (match w.cmd with
    | .cshtCommit _ => true
    | _ => false))

/-- The oldest command of a ring with a tag that has not completed (R326): still to commit, or running. -/
inductive AbortTarget where
  | fetched (h : CmdHdr) (op : Nat)
  | running (h : CmdHdr) (op : Nat)
  | none
  deriving DecidableEq, Repr

/-- Find an abort's target (R326): commands commit in ring order, so a running one is older than a fetched one. -/
def abortTarget (s : State) (r tag : Nat) : AbortTarget :=
  match (ring s r).running.find? (fun q => q.1.tag == tag) with
  | some q => .running q.1 q.2
  | none => match (ring s r).fetched.find? (fun q => q.hdr.tag == tag) with
    | some q => .fetched q.hdr q.cmd.opcode
    | none => .none

/-- ABORT (R326, R327): a command not yet at its commit point ends with ABORTED and no effect; otherwise the abort completes with ABORT_LATE after
its target. -/
def abortRun (s : State) (h : CmdHdr) (a : AbortArgs) : State :=
  if !h.mbz ∨ 64 ≤ a.ring ∨ ringType s a.ring ≠ 0 ∨ (ringState s a.ring ≠ 1 ∧ ringState s a.ring ≠ 2) then badArg s h 1
  else match abortTarget s a.ring a.tag with
    | .none => complete s h 1 .notFound []
    | .fetched q op =>
      let x := ring s a.ring
      let s := setRing s a.ring { x with fetched := dropFirst (fun f => f.hdr.tag == a.tag) x.fetched }
      complete (complete s q op .aborted []) h 1 .ok [(0, 1, op), (1, 1, 1)]
    | .running q op =>
      match timedCommit s a.ring a.tag with
      | some w =>
        let s := { s with host := { s.host with atTs := s.host.atTs.filter (fun v => v != w) } }
        complete (finish s q op .aborted []) h 1 .ok [(0, 1, op), (1, 1, 1)]
      | none =>
        let x := ring s a.ring
        setRing s a.ring { x with aborters := x.aborters ++ [(a.ring, a.tag, ⟨.abortLate, h.tag, h.ring, 1, []⟩)] }

/-- ABORT (R326, R327). -/
def execAbort (h : CmdHdr) (a : AbortArgs) (s : State) : Host.Outcome State Fault Refusal := .next (abortRun s h a)

/-- UNASSIGNED_OPCODE (R311). -/
def execUnassignedOpcode (h : CmdHdr) (op : Nat) (s : State) : Host.Outcome State Fault Refusal := .next (badArg s h op)

/-! ### RING_STOP (R306, R327) -/

/-- A field that names a ring names ring `r`, which is at least 2. -/
def namesRing (s : State) (r : Nat) : Bool :=
  (List.range 64).any (fun q => q != r && ringState s q != 0 && ringType s q != 1 && s.f F.HOST_RING_CFG_cpl_ring q == r)
  || (List.range 4).any (fun p => s.f F.PORT_TXTS_CFG_ring p == r || s.f F.PORT_DLY_CFG_ring p == r)
  || s.f F.GNSS_MEAS_CFG_ring == r || s.f F.GNSS_NAV_CFG_ring == r || s.f F.CUE_CAP_CFG_ring == r
  || (List.range 16).any (fun c => s.f F.CLAP_CH_CFG_ring c == r) || (s.fb F.LOG_CFG_strm_en && s.f F.LOG_CFG_strm_ring == r)
  || (s.fb F.HOST_EVT_CFG_enable && s.f F.HOST_EVT_CFG_ring == r)

/-- A stopped RXD ring (R327): a frame that is complete is delivered, any other is dropped, and every unused descriptor goes back. -/
def rxdStop (s : State) (r : Nat) : State :=
  let fr := s.host.staged.length
  let s := (List.range fr).foldl (fun t _ =>
    match stagedFront t r with
    | none => t
    | some k => match t.host.staged[k]? with
      | none => t
      | some x =>
        if stagedWritten x < x.length then stageDrop t k
        else rxComplete { t with host := { t.host with staged := t.host.staged.eraseIdx k } } x) s
  let c := s.f F.HOST_RING_CFG_cpl_ring r
  let l := (ring s r).rxq
  l.foldl (fun t d => cplQueue t c (.rxd .aborted 0 r 0 0 d.cookie 0 (t.f F.HOST_RING_CFG_port r) none)) (setRing s r { ring s r with rxq := [] })

/-- A stopped TXD ring (R327): every chain not started ends with ABORTED; descriptors without their EOP are discarded. -/
def txdStop (s : State) (r : Nat) : State :=
  let s := abortChains s r (ring s r).txq.length
  setRing s r { ring s r with txq := [], discarded := (ring s r).discarded + (ring s r).txq.length }

/-- Descriptors posted and not fetched. -/
def unfetched (s : State) (r : Nat) : Nat := ((ring s r).hostIdx + ringSize s r - s.f F.HOST_RING_HEAD_index r) % ringSize s r

/-- The payload of RING_STOP. -/
def stopPayload (s : State) (r : Nat) : Layout := [(0, 4, (ring s r).discarded), (4, 2, s.f F.HOST_RING_HEAD_index r)]

/-- RING_STOP (R306, R311, R327). -/
def execRingStop (h : CmdHdr) (stopRing : Nat) (s : State) : Host.Outcome State Fault Refusal :=
  let r := stopRing
  if !h.mbz ∨ h.ring ≠ 0 then .next (badArg s h 2)
  else if 64 ≤ r then .next (complete s h 2 .notFound [])
  else if r < 2 then .next (badArg s h 2)
  else if ringState s r = 0 then .next (complete s h 2 .notFound [])
  else if ringState s r = 2 then .next (complete s h 2 .busy [])
  else if ringState s r = 3 then
    let s := setRing s r { ring s r with discarded := if ringType s r = 1 then 0 else unfetched s r }
    .next (ringDisable (complete s h 2 .ok (stopPayload s r)) r)
  else if ringType s r = 1 ∧ namesRing s r = true then .next (complete s h 2 .busy [])
  else
    let s := begins (s.setF F.HOST_RING_STATUS_state 2 r) h 2
    let s := setRing s r { ring s r with stop := some h, discarded := if ringType s r = 1 then 0 else unfetched s r }
    .next (match ringType s r with
      | 2 => txdStop s r
      | 3 => rxdStop s r
      | _ => s)

/-- A STOPPING ring has drained (R327). -/
def drained (s : State) (r : Nat) : Bool :=
  let x := ring s r
  match ringType s r with
  | 0 => x.fetched.isEmpty && x.running.isEmpty
  | 1 => x.waiting.isEmpty
  | 2 => x.txq.isEmpty
  | _ => x.rxq.isEmpty && (stagedFront s r).isNone

/-- RING_DRAIN_DONE (R306, R327). -/
def execRingDrainDone (ring_ : Nat) (s : State) : Host.Outcome State Fault Refusal :=
  if 64 ≤ ring_ ∨ ringState s ring_ ≠ 2 ∨ drained s ring_ = false then .next s
  else match (ring s ring_).stop with
    | none => .next (ringDisable s ring_)
    | some h =>
      let t := setRing (ringDisable s ring_) ring_ { ring s ring_ with stop := none }
      .next (finish t h 2 .ok (stopPayload s ring_))

/-! ### The doorbell page (R307-R310, R323) -/

/-- HOST_POLL_CFG.min in 100 ns units. -/
def pollMin (s : State) : Nat := s.f F.HOST_POLL_CFG_min

/-- HOST_POLL_CFG.max in 100 ns units. -/
def pollMax (s : State) : Nat := s.f F.HOST_POLL_CFG_max * 10

/-- One entry of the page acts on its ring (R307, R322): a bad index is an error; a new head arms a CPL ring. -/
def doorbell (s : State) (e : Nat × Doorbell) : State :=
  let r := e.1
  let d := e.2
  if 64 ≤ r ∨ (ringState s r ≠ 1 ∧ ringState s r ≠ 2) then s
  else if ringSize s r ≤ d.index then ringError s r 5
  else if ringType s r = 1 then
    let used := (d.index + ringSize s r - (ring s r).hostIdx) % ringSize s r
    if cplPending s r < used then ringError s r 5
    else
      let s := if used = 0 then s else setRing (s.setB F.HOST_RING_STATUS_armed true r) r { ring s r with armedAt := s.ticks }
      setRing s r { ring s r with hostIdx := d.index, dbSeq := d.seq, wrote := (ring s r).wrote.drop used }
  else setRing s r { ring s r with hostIdx := d.index, dbSeq := d.seq }

/-- Some entry of an enabled ring changed (R308). -/
def doorbellMoved (s : State) (es : List (Nat × Doorbell)) : Bool :=
  es.any (fun e => decide (e.1 < 64) && ringState s e.1 == 1 && ((ring s e.1).hostIdx != e.2.index || (ring s e.1).dbSeq != e.2.seq))

/-- A TXD or RXD ring has work in progress (R308). -/
def pollBusy (s : State) : Bool := (List.range 64).any (fun r => !(ring s r).txq.isEmpty) || !s.host.staged.isEmpty

/-- The next posted descriptor of an ACTIVE ring of a type may be fetched. -/
def mayFetch (s : State) (r type : Nat) : Bool :=
  decide (r < 64) && ringState s r == 1 && ringType s r == type && s.f F.HOST_RING_HEAD_index r != (ring s r).hostIdx

/-- A descriptor is fetched: the device index advances (R386 counts it). -/
def fetched (s : State) (r : Nat) : State := perf (s.setF F.HOST_RING_HEAD_index ((s.f F.HOST_RING_HEAD_index r + 1) % ringSize s r) r) 0x0002 r

/-- A CMD descriptor is fetched (R310, R323): NOP and ABORT are taken at once. -/
def fetchCmd (s : State) (e : Nat × CmdHdr × HostCmd) : State :=
  let r := e.1
  let h : CmdHdr := { e.2.1 with ring := r }
  if mayFetch s r 0 then
    let s := fetched s r
    match e.2.2 with
    | .nop => perf (nopRun s h) 0x0001 r
    | .abort a => perf (abortRun s h a) 0x0001 r
    | c => setRing s r { ring s r with fetched := (ring s r).fetched ++ [⟨h, c⟩] }
  else s

/-- A TXD descriptor is fetched. -/
def fetchTxd (s : State) (e : Nat × TxDesc) : State :=
  if mayFetch s e.1 2 then setRing (fetched s e.1) e.1 { ring (fetched s e.1) e.1 with txq := (ring (fetched s e.1) e.1).txq ++ [e.2] } else s

/-- An RXD descriptor is fetched; one outside its limits is an error (R318). -/
def fetchRxd (s : State) (e : Nat × RxDesc) : State :=
  let r := e.1
  let d := e.2
  if mayFetch s r 3 then
    let s := fetched s r
    if d.length < 128 ∨ 16384 < d.length ∨ d.length % 64 ≠ 0 ∨ d.mbz = false then ringError s r 9
    else setRing s r { ring s r with rxq := (ring s r).rxq ++ [d] }
  else s

/-- DOORBELL_POLL (R302, R307, R308, R310): the changed entries, then the descriptors that they cover, as they stand in host memory. -/
def execDoorbellPoll (entries : List (Nat × Doorbell)) (cmds : List (Nat × CmdHdr × HostCmd)) (txds : List (Nat × TxDesc)) (rxds : List (Nat × RxDesc))
    (s : State) : Host.Outcome State Fault Refusal :=
  if !s.fb F.HOST_STATUS_bus_master then .next s
  else
    let s := perf s 0x0003 0
    let moved := doorbellMoved s entries
    let s := entries.foldl doorbell s
    let s := rxds.foldl fetchRxd (txds.foldl fetchTxd (cmds.foldl fetchCmd s))
    let s := (List.range 64).foldl (fun t r => if ringType t r == 3 then stageRing t r else t) s
    let n := if moved || pollBusy s then pollMin s else min (pollMax s) (2 * s.f F.HOST_POLL_STATUS_interval)
    .next { s.setF F.HOST_POLL_STATUS_interval n with host := { s.host with repoll := false, dbFailing := false } }

/-- HOST_NUDGE (R309): nothing depends on the value written; a write during a poll owes a further one. -/
def execHostNudge (_value : Word) (polling : Bool) (s : State) : Host.Outcome State Fault Refusal :=
  let s := perf (s.setF F.HOST_POLL_STATUS_interval (pollMin s)) 0x0004 0
  .next { s with host := { s.host with repoll := s.host.repoll || polling } }

/-! ### Completions and interrupts (R312-R314, R322, R324) -/

/-- COMPLETION_WRITE (R302, R312-R314): the oldest entry that waits is written once there is room. -/
def execCompletionWrite (ring_ : Nat) (s : State) : Host.Outcome State Fault Refusal :=
  match (ring s ring_).waiting with
  | [] => .next s
  | e :: r =>
    if decide (ring_ < 64) && ringType s ring_ == 1 && (ringState s ring_ == 1 || ringState s ring_ == 2) && s.fb F.HOST_STATUS_bus_master
        && decide (cplSlots e ≤ cplRoom s ring_) then
      .next (cplWrite (setRing s ring_ { ring s ring_ with waiting := r }) ring_ e)
    else .next s

/-- The bit of a vector in the Pending Bit Array. -/
def pbaFld (v : Nat) : Fld := ⟨.MSIX_PBA, v % 32, v % 32⟩

/-- A CPL ring signals its vector and is disarmed (R322). -/
def signal (s : State) (r : Nat) : State :=
  let v := s.f F.HOST_RING_IRQ_vector r
  let s := s.setB F.HOST_RING_STATUS_armed false r
  if s.fb F.MSIX_CTRL_mask v then s.setB (pbaFld v) true (v / 32) else s.emit (.msix v)

/-- The time limit has passed since the later of the instant at which the ring was armed and the instant of its oldest pending entry (R322). -/
def timeDue (s : State) (r : Nat) : Bool :=
  match (ring s r).wrote with
  | t :: _ => s.f F.HOST_RING_IRQ_time r != 0 && decide (max (ring s r).armedAt t + s.f F.HOST_RING_IRQ_time r * 625 ≤ s.ticks)
  | [] => false

/-- RING_INTERRUPT (R322): the count is reached, or (`byTime`) the time has passed with an entry pending. -/
def execRingInterrupt (ring_ : Nat) (byTime : Bool) (s : State) : Host.Outcome State Fault Refusal :=
  let n := cplPending s ring_
  let due := if byTime then timeDue s ring_ else decide (s.f F.HOST_RING_IRQ_count ring_ ≤ n)
  .next (if cplEnabled s ring_ && s.fb F.HOST_RING_STATUS_armed ring_ && s.fb F.HOST_RING_IRQ_irq_en ring_ && s.fb F.HOST_STATUS_bus_master && due
    then signal s ring_ else s)

/-- MSIX_UNMASK (R322): a pending message is sent. -/
def execMsixUnmask (vector : Nat) (s : State) : Host.Outcome State Fault Refusal :=
  if 64 ≤ vector then .next s
  else
    let s := s.setB F.MSIX_CTRL_mask false vector
    .next (if s.fb (pbaFld vector) (vector / 32) then (s.setB (pbaFld vector) false (vector / 32)).emit (.msix vector) else s)

/-! ### Failures of host memory and of the link (R301, R302, R330) -/

/-- The LOST counter of a record area: 0 Clapper channel, 1 captures, 2 GNSS measurements, 3 navigation, 4 a port's dailies, 5 the log stream, 6 the
Clapper's aggregate area. -/
def lostReg (area_ : Nat) : Option RegName :=
  match area_ with
  | 0 => some .CLAP_CH_LOST
  | 1 => some .CUE_CAP_LOST
  | 2 => some .GNSS_MEAS_LOST
  | 3 => some .GNSS_NAV_LOST
  | 4 => some .PORT_DLY_LOST
  | 5 => some .LOG_STRM_LOST
  | 6 => some .CLAP_AGG_LOST
  | _ => none

/-- HOST_DMA_ERROR (R330). -/
def execHostDmaError (access : DmaAccess) (s : State) : Host.Outcome State Fault Refusal :=
  let s := s.inc .HOST_DMA_ERR
  match access with
  | .descriptorRead r => .next (if r < 64 ∧ ringState s r ≠ 0 then ringError s r 6 else s)
  | .entryWrite r => .next (if r < 64 ∧ ringState s r ≠ 0 then ringError s r 7 else s)
  | .record a i => .next (if a = 0 then s.incF F.CLAP_CH_LOST_records i else match lostReg a with
    | some n => s.inc n i
    | none => s)
  | .doorbellRead =>
    let s := s.setF F.HOST_POLL_STATUS_interval (pollMax s)
    .next (if s.host.dbFailing then s else event { s with host := { s.host with dbFailing := true } } 0x0B02 [])

/-- A register of the HOST block, of the MSI-X table or of its Pending Bit Array. -/
def hostReg (n : RegName) : Bool := (decide (0x2000 ≤ n.base) && decide (n.base < 0x4000)) || decide (0x80000 ≤ n.base)

/-- The TX timestamp queue of a port is emptied (R301). -/
def txtsEmpty (s : State) (p : Nat) : State :=
  (setPort s p { port s p with txts := [], stamps := [] }).setF F.PORT_TXTS_STATUS_fill 0 p

/-- FUNCTION_LEVEL_RESET (R301): the HOST block and every ring from reset; what has committed runs on without a completion. -/
def execFunctionLevelReset (linkDown : Bool) (s : State) : Host.Outcome State Fault Refusal :=
  let st := s.rg .HOST_STATUS
  let s := { s with regs := s.regs.filter (fun p => !hostReg p.1.name),
                    host := { HostSt.reset with atTs := s.host.atTs.filter (fun w => match w.cmd with
                      | .cshtCommit _ => false
                      | _ => true) } }
  let s := if linkDown then s else s.wr .HOST_STATUS 0 0 (fput st 1 1 0)
  .next ((List.range 4).foldl txtsEmpty s)

/-- BUS_MASTER_ENABLE_CHANGE (R300, R302): the host has configured the function over a link of `width` lanes at Gen `speed`; the records held are
written. -/
def execBusMasterEnableChange (enable : Bool) (width speed : Nat) (s : State) : Host.Outcome State Fault Refusal :=
  let s := s.setB F.HOST_STATUS_bus_master enable
  if enable then
    let s := if s.fb F.HOST_STATUS_link_up then s else
      ((s.setB F.HOST_STATUS_link_up true).setF F.HOST_STATUS_width width).setF F.HOST_STATUS_speed speed
    .next (([AreaId.meas, .nav, .stream] ++ (List.range 4).map AreaId.daily).foldl areaFlush s)
  else .next s

end Sys2Proof.Machine
end

