-- ==== Sys2Proof/Machine/RegWrite.lean ====
section
/-! DEFINITION. Access to BAR0: writes by offset under R5, R8, R449 and R454 with the effect that each register's chapter gives its write, W1C writes
(R6), reads of RC counters (R7), and refused accesses (R303, R449, R450). -/
namespace Sys2Proof.Machine
open Sys2Proof

/-- The next state of an outcome; the state before it where it has none. -/
def nextOr (s : State) (o : Host.Outcome State Fault Refusal) : State :=
  match o with
  | .next t => t
  | _ => s

/-- The user calibration registers: a permitted direct write that changes one sets ucal_dirty (R347). -/
def ucalReg (n : RegName) : Bool := n == .CLAP_CH_UCAL || n == .PORT_TS_ADJ_RX || n == .PORT_TS_ADJ_TX || n == .RAN_ASYM

/-- A write of a register whose chapter gives the write an effect of its own: the timescales, the ensemble and the pace monitor. -/
def writeTime (s : State) (r : Reg) (v : Word) : Option State :=
  match r.name with
  | .TS_CTRL => some (nextOr s (execTsEnableWrite r.i v s))
  | .TS_INCR_LO => some (nextOr s (execTsIncrLoWrite r.i v s))
  | .TS_INCR_HI => some (nextOr s (execTsIncrHiWrite r.i v s))
  | .TS_REF_CFG => some (nextOr s (execTsRefCfgWrite r.i v s))
  | .TS_OSC_CFG => some (nextOr s (execOscCoeffWrite .cfg v s))
  | .TS_OSC_Y0 => some (nextOr s (execOscCoeffWrite .y0 v s))
  | .TS_OSC_DRIFT => some (nextOr s (execOscCoeffWrite .drift v s))
  | .TS_OSC_TEMPCO => some (nextOr s (execOscCoeffWrite .tempco v s))
  | .TS_EFC_CODE => some (nextOr s (execTsEfcCodeWrite v s))
  | .PWR_PACE_CFG => some (nextOr s (execAvsTrackEnableWrite v s))
  | _ => none

/-- The same of the Clapper, the loops, the outputs and the cues. -/
def writeClocks (s : State) (r : Reg) (v : Word) : Option State :=
  match r.name with
  | .CLAP_CH_RIDX => some (nextOr s (execClapChRidxWrite r.i v s))
  | .CLAP_CH_LIMLO_LO => some (nextOr s (execClapLimitLoWrite r.i false v s))
  | .CLAP_CH_LIMHI_LO => some (nextOr s (execClapLimitLoWrite r.i true v s))
  | .CLAP_CH_LIMLO_HI => some (nextOr s (execClapLimitHiWrite r.i false v s))
  | .CLAP_CH_LIMHI_HI => some (nextOr s (execClapLimitHiWrite r.i true v s))
  | .DP_CFG => some (nextOr s (execDpCfgWrite r.i v s))
  | .AP_CFG => some (nextOr s (execApCfgWrite r.i v s))
  | .AP_SS => some (nextOr s (execApSsWrite r.i v s))
  | .DP_FREQ_LO | .DP_FREQ_HI | .DP_ALIGN => some (dpEvalAll (regWrite s r v))
  | .SYN_REFIN_CFG =>
    let t := regWrite s r v
    some (dpEvalAll (if t.f F.SYN_REFIN_CFG_f_nom r.i = 0 then t.setB F.SYN_REFIN_STATUS_present false r.i else t))
  | .OUT_CFG | .OUT_DIV | .OUT_COARSE | .OUT_FB_DIV | .OUT_FB_COARSE => some (outCfgWrite s r.name r.i v)
  | .OUT_FINE => some (outFineWrite s r.i v)
  | .CUE_PIN_CFG => some (nextOr s (execCuePinCfgWrite r.i v s))
  | .CUE_CAP_RIDX => some (captureRidx s v)
  | _ => none

/-- The same of the GNSS baseband, the ports and the services. -/
def writeServices (s : State) (r : Reg) (v : Word) : Option State :=
  match r.name with
  | .GNSS_PORT_CFG => some (nextOr s (execGnssPortEnableWrite r.i v s))
  | .GNSS_CH_CODE_LO => some (nextOr s (execGnssNcoLoWrite r.i false v true s))
  | .GNSS_CH_CARR_LO => some (nextOr s (execGnssNcoLoWrite r.i true v true s))
  | .GNSS_CH_CODE_HI => some (nextOr s (execGnssNcoCommit r.i false v false true s))
  | .GNSS_CH_CARR_HI => some (nextOr s (execGnssNcoCommit r.i true v false true s))
  | .GNSS_CH_CODE_ADJ => some (nextOr s (execGnssCodeAdjWrite r.i v true s))
  | .GNSS_MEAS_RIDX => some (areaRidx s .meas v)
  | .GNSS_NAV_RIDX => some (areaRidx s .nav v)
  | .PORT_CFG => some (nextOr s (execPortCfgWrite r.i v s))
  | .PORT_TS_ADJ_RX | .PORT_TS_ADJ_TX => some (portAdjWrite s r.name r.i v)
  | .PORT_DLY_RIDX => some (areaRidx s (.daily r.i) v)
  | .LOG_STRM_RIDX => some (areaRidx s .stream v)
  | .PTP_INST_CFG => some (nextOr s (execPtpInstEnable r.i v s))
  | .NTP_INST_CFG => some (nextOr s (execNtpInstEnable r.i v s))
  | .NTP_PEER_CFG => some (nextOr s (execNtpPeerEnableWrite r.i v s))
  | .NTS_COOKIE_ROOT => some (nextOr s (execNtsCookieRootWrite v s))
  | _ => none

/-- The same of Stavris, Ranin and the host interface. -/
def writeSystem (s : State) (r : Reg) (v : Word) : Option State :=
  match r.name with
  | .STV_PAIR_KEY => some (nextOr s (execStvPairKeyWrite v s))
  | .STV_TAMP_CFG => some (tampCfgWrite s v)
  | .RAN_TMO => some (nextOr s (execRanTmoWrite v s))
  | .RAN_CFG => some (permEval (regWrite s r v))
  | .HOST_RING_CFG => some (nextOr s (execHostRingEnable r.i v s))
  | .HOST_NUDGE => some (nextOr s (execHostNudge v false s))
  | .MSIX_CTRL => some (if v.getLsbD 0 then regWrite s r v else nextOr s (execMsixUnmask r.i s))
  | _ => none

/-- A write of `v` to register `r`: its chapter's effect where it has one, else R5, R8 and R454 alone; ucal_dirty follows R347. -/
def hostWrite (s : State) (r : Reg) (v : Word) : State :=
  let t := ((writeTime s r v).orElse (fun _ => writeClocks s r v)).orElse (fun _ => (writeServices s r v).orElse (fun _ => writeSystem s r v))
  let t := t.getD (regWrite s r v)
  if ucalReg r.name && t.rg r.name r.i != s.rg r.name r.i then t.setB F.CSHT_STATUS_ucal_dirty true else t

/-- Wrap-test block 1 is under test: BAR0 and BAR2 read 0, and writes are discarded without being counted (R427). -/
def barDead (s : State) : Bool := match s.wrap.run with
  | some w => w.block == 1
  | none => false

/-- The blocks that a device stopped in BOOT services (R372): GLOBAL and LC. -/
def bootServes (a : Nat) : Bool := decide (a < 0x1000) || (decide (0x30000 ≤ a) && decide (a < 0x40000))

/-- A write to BAR0 reaches its register: not while the device is in RESET, stopped in BOOT under R372, or has block 1 under test. -/
def barTakes (s : State) (a : Nat) : Bool := !s.pwr.inReset && !barDead s && (!s.pwr.stopped || bootServes a)

/-- A write at a BAR0 offset (R449): an offset that no chapter assigns is counted. -/
def barWrite (s : State) (a : Nat) (v : Word) : State :=
  if !barTakes s a then s
  else match regAt a with
    | none => violation s
    | some r => hostWrite s r v

/-- REGISTER_WRITE (R5, R8, R449, R454). -/
def execRegisterWrite (offset : Nat) (value : Word) (s : State) : Host.Outcome State Fault Refusal := .next (barWrite s offset value)

/-- The W1C bits of a register. -/
def w1cMask (n : RegName) : Word :=
  n.fields.foldl (fun m fs => if fs.access = .W1C then fput m fs.hi fs.lo (2 ^ (fs.hi - fs.lo + 1) - 1) else m) 0

/-- W1C_WRITE (R5, R6): the bits that hardware sets in the same access remain set. -/
def execW1cWrite (offset : Nat) (value set : Word) (s : State) : Host.Outcome State Fault Refusal :=
  let t := barWrite s offset value
  match regAt offset with
  | some r => .next (if barTakes s offset then t.wr r.name r.i r.j (t.rg r.name r.i r.j ||| (set &&& w1cMask r.name)) else t)
  | none => .next t

/-- A register whose read returns and clears it (R5, R7). -/
def isRc (n : RegName) : Bool := n.access == .RC || n.fields.any (fun fs => fs.access == .RC)

/-- An RC register that holds two 16-bit counters. -/
def rcPair (n : RegName) : Bool :=
  match n with
  | .CLAP_CH_LOST | .OUT_SWITCHES | .CUE_LATE | .CUE_TOD_ERR | .RAN_TAKES | .RAN_FRAME_ERR => true
  | _ => false

/-- An RC register after the read that clears it (R5, R7): each of its counters holds the events of the same access, saturating. The events are by
counter, the one in the low bits first. -/
def rcAfter (n : RegName) (events : List Nat) : Nat :=
  if rcPair n then satNat 16 (events.headD 0) + 2 ^ 16 * satNat 16 (events.getD 1 0) else satNat 32 (events.headD 0)

/-- RC_READ (R5, R7): the value before the events of the same access is returned, and they are counted in the cleared counter. -/
def execRcRead (offset : Nat) (concurrent : List Nat) (s : State) : Host.Outcome State Fault Refusal :=
  match regAt offset with
  | none => .next s
  | some r =>
    if !barTakes s offset then .next s
    else if r.name = .PORT_CNT_LO then
      .next (portCount (nextOr s (execPortCounterRead r.i r.j s)) r.i r.j (concurrent.headD 0))
    else if isRc r.name then
      .next ((s.emit (.read offset (s.rg r.name r.i r.j))).wr r.name r.i r.j (BitVec.ofNat 32 (rcAfter r.name concurrent)))
    else .next s

/-- An access that R303 refuses, an offset that no chapter assigns, or a write of BAR2 (R303, R449, R450). -/
def accessRefused (a : BarAccess) : Bool :=
  if a.bar = 2 then a.write
  else !((a.size == 4 && a.offset % 4 == 0) || (a.size == 8 && a.offset % 8 == 0))
    || (regAt a.offset).isNone || (a.size == 8 && (regAt (a.offset + 4)).isNone)

/-- BAR_ACCESS_REFUSED (R303, R449, R450): a write is counted, a read returns 0. -/
def execBarAccessRefused (access : BarAccess) (s : State) : Host.Outcome State Fault Refusal :=
  if !accessRefused access ∨ s.pwr.inReset = true ∨ barDead s = true then .next s
  else if access.write then .next (violation s)
  else .next (s.emit (.read access.offset 0))

end Sys2Proof.Machine
end

