-- ==== Sys2Proof/Machine/Firmware.lean ====
section
/-! DEFINITION. Firmware slots, plug-ins, step permits, run profiles and performance counters (17_firmware_governor_perf.md, R415). -/
namespace Sys2Proof.Machine
open Sys2Proof

/-! ### Firmware slots (R367, R372, R390) -/

/-- The image of a slot passes R367. -/
def fwPasses (s : State) (x : Option FwImage) : Bool :=
  match x with
  | some f => f.sigGood && decide (f.security ≤ 64) && decide (s.f F.STV_ROLLBACK_counter ≤ f.security)
  | none => false

/-- FW_STAGE (R390). -/
def execFwStage (h : CmdHdr) (a : FwStageArgs) (s : State) : Host.Outcome State Fault Refusal :=
  if !h.mbz ∨ a.addr = 0 ∨ a.addr % 8 ≠ 0 ∨ 4194304 < a.length ∨ a.image.sigGood = false then .next (badArg s h 0x6A)
  else if s.fw.trial || s.fw.writing.isSome then .next (complete s h 0x6A .busy [])
  else if a.image.security < s.f F.STV_ROLLBACK_counter then .next (complete s h 0x6A .staleVersion [])
  else .next { begins s h 0x6A with fw := { s.fw with writing := some (h, 1 - s.fw.running, a.image) } }

/-- The QSPI write of a firmware slot ends (R390): a read-back that fails leaves no image in the slot. -/
def fwWritten (s : State) (good : Bool) : State :=
  match s.fw.writing with
  | none => s
  | some (h, slot, x) =>
    let s := { s with fw := { s.fw with writing := none, slots := tset s.fw.slots slot (if good then some x else none) } }
    if good then finish (s.emit (.qspi (3 + slot) [(0, 4, x.version), (4, 1, x.security)])) h 0x6A .ok [(0, 1, slot), (1, 1, x.security), (4, 4, x.version)]
    else finish s h 0x6A .hwFault []

/-- FW_SELECT (R372, R390). -/
def execFwSelect (h : CmdHdr) (slot : Nat) (s : State) : Host.Outcome State Fault Refusal :=
  if !h.mbz ∨ 1 < slot ∨ slot = s.fw.running ∨ fwPasses s (tget s.fw.slots none slot) = false then .next (badArg s h 0x6B)
  else if s.fw.trial then .next (complete s h 0x6B .busy [])
  else .next (complete { s with fw := { s.fw with preferred := slot, trial := true, trialCount := 0, seq := s.fw.seq + 1 } } h 0x6B .ok [(0, 1, slot), (1, 1, 1)])

/-- FW_CONFIRM (R372, R390): the running slot's trial ends. -/
def execFwConfirm (h : CmdHdr) (s : State) : Host.Outcome State Fault Refusal :=
  if !h.mbz then .next (badArg s h 0x6C)
  else if s.fw.trial = false ∨ s.fw.preferred ≠ s.fw.running then .next (complete s h 0x6C .notFound [])
  else
    let s := { s with fw := { s.fw with trial := false, trialCount := 0, seq := s.fw.seq + 1 } }
    .next (complete (s.setB F.GLOBAL_FW_STATE_trial false) h 0x6C .ok [(0, 1, s.fw.running)])

/-! ### Plug-ins (R369, R370, R373, R390) -/

/-- Plug-in `i` of the ACTIVE sheet. -/
def plugin (s : State) (i : Nat) : Option Plugin := tget s.fw.plugins none i

/-- Set a plug-in. -/
def setPlugin (s : State) (i : Nat) (p : Plugin) : State := { s with fw := { s.fw with plugins := tset s.fw.plugins i (some p) } }

/-- The kernel stops a running plug-in (R370): its record of severity 3 and its event. -/
def pluginStop (s : State) (i cause : Nat) : State :=
  match plugin s i with
  | some p => if p.running then logEvent (setPlugin s i { p with running := false }) 3 0x0E04 [(0, 1, i), (1, 1, cause)] else s
  | none => s

/-- PLUGIN_CTL (R390). -/
def execPluginCtl (h : CmdHdr) (id op : Nat) (s : State) : Host.Outcome State Fault Refusal :=
  if !h.mbz ∨ 1 < op then .next (badArg s h 0x6D)
  else match plugin s id with
    | none => .next (complete s h 0x6D .notFound [])
    | some p =>
      if op = 0 then .next (complete (pluginStop s id 5) h 0x6D .ok [(0, 1, 0)])
      else if !p.hashOk then .next (badArg s h 0x6D)
      else .next (complete (setPlugin s id { p with running := true }) h 0x6D .ok [(0, 1, 1)])

/-- FW_PLUGIN_FAULT (R370): 1 an access outside its regions, 2 a call that its flags do not permit, 4 a handler over 2 ms. -/
def execFwPluginFault (id cause : Nat) (s : State) : Host.Outcome State Fault Refusal :=
  .next (if cause = 1 ∨ cause = 2 ∨ cause = 4 then pluginStop s id cause else s)

/-- A kernel call that the plug-in's flags permit (R369): flag [1] the ensemble policy registers, flag [2] GNSS_SPOOF RAISE; a log record of its own, and
a request to publish, need none. -/
def callPermitted (s : State) (p : Plugin) (c : KernelCall) : Bool :=
  match c with
  | .write o v =>
    p.flags.testBit 1 && (match regAt o with
      | some r => r.name == .TS_REF_WPOL
          || (r.name == .TS_ENS_CFG && fput v F.TS_ENS_CFG_weight_mode.hi F.TS_ENS_CFG_weight_mode.lo 0
                == fput (s.rg .TS_ENS_CFG r.i) F.TS_ENS_CFG_weight_mode.hi F.TS_ENS_CFG_weight_mode.lo 0)
      | none => false)
  | .spoof op _ sols => p.flags.testBit 2 && op == 1 && decide (0 < sols) && decide (sols < 4)
  | .record sev code data => decide (3 ≤ sev) && decide (sev ≤ 7) && code / 256 == 0x11 && decide (data.length ≤ 36)
  | .publish kind _ _ => decide (kind ≤ 2)

/-- A quality better than the hardware's (R15, R93): a smaller bound of a timescale, clockClass of a PTP instance, or stratum of an NTP instance. -/
def betterThanHardware (s : State) (kind i v : Nat) : Bool :=
  match kind with
  | 0 => decide (v < tsBound s (i % 4))
  | 1 => decide (v < (published s (i % 4) (instBoundPs s (i % 4))).cls)
  | _ => decide (v < ntpStratum s (i % 4) (ntpInstBound s (i % 4)))

/-- PLUGIN_KERNEL_CALL (R15, R20, R93, R369, R370, R409, R417, R456): from a plug-in that runs and is not parked. A value passes the governor as a
host's does, and what is published is always the hardware's. -/
def execPluginKernelCall (id : Nat) (call : KernelCall) (s : State) : Host.Outcome State Fault Refusal :=
  match plugin s id with
  | none => .next s
  | some p =>
    if p.running = false ∨ (s.f F.PWR_RUN_run_state = 4 ∧ p.flags % 4 = 0) then .next s
    else if !callPermitted s p call then .next (pluginStop s id 2)
    else match call with
      | .write o v => .next (barWrite s o v)
      | .spoof _ _ sols =>
        .next (spoofRaise s sols)
      | .record sev code data => .next (sentTo (logPut s sev 0x11 code [(0, data.length, leVal data)] (slateOf s 0 .log)) 0 .log)
      | .publish kind i v => .next (if betterThanHardware s kind i v then governorRefuses s 0 0x40 else s)

/-! ### Step permits and run profiles (R21, R381, R382, R415, R419) -/

/-- GOV_PERMIT (R381). -/
def execGovPermit (h : CmdHdr) (ts : Nat) (s : State) : Host.Outcome State Fault Refusal :=
  if !h.mbz ∨ h.ring ≠ 0 then .next (badArg s h 0x05)
  else if s.log.isolated.contains 14 then .next (complete s h 0x05 .hwFault [])
  else if 4 ≤ ts then .next (complete s h 0x05 .notFound [])
  else if s.fb F.TS_CTRL_enable ts = false then .next (badArg s h 0x05)
  else if s.f F.GOV_TS_CFG_step_allow ts = 0 then .next (deniedBy s h 0x05 (12 + ts))
  else if (permitOf s ts).any (fun p => p.reserved.isSome) then .next (complete s h 0x05 .busy [])
  else
    let v := drawn s % (2 ^ 32 - 1) + 1
    let s := permitLapse s ts
    let s := permitEvent (setPermit s.nextFresh ts (some ⟨v, none, s.ticks + s.f F.GOV_PERMIT_CFG_life * secondTicks⟩)) ts 0
    let d := Dest.ring (cplOf s h)
    let x := slateAt s ts d (s.f F.GOV_PERMIT_CFG_life * unitsPerSec : Nat)
    .next (complete (sentTo s ts d) h 0x05 .ok ([(0, 4, v)] ++ slateLayout 8 x))

/-- PERMIT_EXPIRY (R381, R382): the lifetime has passed; a reserved permit does not expire until its reservation ends. -/
def execPermitExpiry (ts : Nat) (s : State) : Host.Outcome State Fault Refusal := .next (permitLapse s ts)

/-- A run profile takes effect (R21, R414, R415): its set point is written first, and COAST sends the GNSS baseband to SLEEP. -/
def setProfile (s : State) (p : Nat) : State :=
  let old := s.f F.PWR_RUN_profile
  if p = old then s
  else
    let s := avsWrite (s.setF F.PWR_AVS_STATUS_set_mv (vcoreSetPoint p)) (vcoreSetPoint p)
    let s := { s.setF F.PWR_RUN_profile p with hs := { s.hs with avsProfile := true } }
    let s := if p = 0 then gnssCoast s true else if old = 0 then gnssCoast s false else s
    event s 0x0103 [(0, 1, old), (1, 1, p), (2, 1, s.f F.PWR_RUN_cap)]

/-- PROFILE_SET (R21, R415, R419). -/
def execProfileSet (h : CmdHdr) (profile : Nat) (s : State) : Host.Outcome State Fault Refusal :=
  if !h.mbz ∨ h.ring ≠ 0 ∨ 4 < profile then .next (badArg s h 0x04)
  else if 2 ≤ s.f F.PWR_RUN_therm_step ∧ s.f F.PWR_RUN_profile < profile then .next (deniedBy s h 0x04 0x44)
  else .next (complete (setProfile s profile) h 0x04 .ok [(0, 1, profile), (1, 1, s.f F.PWR_RUN_cap)])

/-! ### Performance counters and sampling (R383-R389) -/

/-- The events that no step of the block shows: instructions and work inside the cores, arbiters and pipelines (notes/assumptions/48.md). -/
def perfInside (ev : Nat) : Bool := ev == 0x0020 || ev == 0x0021 || ev == 0x0022 || (decide (0x8001 ≤ ev) && decide (ev ≤ 0x8005))

/-- Counter `c` can wrap by occurrences that no step shows: it counts, and its event, or that of the pair it ends, is one of them. -/
def perfWrapsInside (s : State) (c : Nat) : Bool :=
  s.fb F.PERF_CTRL_enable && s.fb F.PERF_SEL_enable c && !(c % 2 == 0 && s.fb F.PERF_SEL_chain c)
    && perfInside (s.f F.PERF_SEL_event (if perfUpper s c then c - 1 else c))

/-- The event of a wrap (R383). -/
def perfOvfEvent (s : State) (c : Nat) : State := if s.fb F.PERF_SEL_ovf_evt c then event s 0x0E06 [(0, 1, c)] else s

/-- PERF_OVF (R383): an unchained counter, or the upper one of a pair, has wrapped. One that the model counts has wrapped when its event came; one
whose occurrences no step shows wraps to 0 now. -/
def execPerfOvf (counter : Nat) (s : State) : Host.Outcome State Fault Refusal :=
  if 48 ≤ counter then .next s
  else if s.perf.wrapped.contains counter then
    .next (perfOvfEvent { s with perf := { s.perf with wrapped := s.perf.wrapped.erase counter } } counter)
  else if perfWrapsInside s counter then .next (perfOvfEvent (perfOverflow (setPerfCount s counter 0) counter) counter)
  else .next s

/-- The words that a read of PERF_CNT_LO latches (R384). -/
def perfLatch (s : State) (c : Nat) : State :=
  let hi := s.f F.PERF_CNT_HI_value c
  let s := { s with perf := { s.perf with latchHi := tset s.perf.latchHi c (some hi) } }
  if c % 2 = 0 ∧ s.fb F.PERF_SEL_chain c = true then
    let hi := s.f F.PERF_CNT_HI_value (c + 1)
    let lo := s.f F.PERF_CNT_LO_value (c + 1)
    { s with perf := { s.perf with latchHi := tset s.perf.latchHi (c + 1) (some hi), latchLo := tset s.perf.latchLo (c + 1) (some lo) } }
  else s

/-- The low word that a read of counter `c` returns (R384): the latched one for the upper counter of a pair. -/
def perfLo (s : State) (c : Nat) : Nat :=
  let w := s.f F.PERF_CNT_LO_value c
  if perfUpper s c then (tget s.perf.latchLo none c).getD w else w

/-- PERF_CNT_READ (R384, R385): by the host or a core; in U-mode a counter with user_rd = 0 reads 0 and is counted. -/
def execPerfCntRead (counter : Nat) (user : Bool) (s : State) : Host.Outcome State Fault Refusal :=
  if 48 ≤ counter then .next s
  else if user && !s.fb F.PERF_SEL_user_rd counter then .next ((violation s).emit (.read (0x7200 + 8 * counter) 0))
  else
    let lo := perfLo s counter
    let t := if perfUpper s counter then s else perfLatch s counter
    .next (t.emit (.read (0x7200 + 8 * counter) (BitVec.ofNat 32 lo)))

/-- The oldest record of the sample buffer is written while its ring has room (R389); false where it cannot be. -/
def sampleDrain (s : State) : State × Bool :=
  let r := s.f F.PERF_CTRL_ring
  match s.perf.buffer with
  | [] => (s, false)
  | x :: l =>
    if cplEnabled s r && decide (0 < cplRoom s r) && s.fb F.HOST_STATUS_bus_master then
      (cplWrite { s with perf := { s.perf with buffer := l } } r (.perf x), true)
    else (s, false)

/-- Drain until the buffer is empty or the ring is full. -/
def sampleFlush : Nat → State → State
  | 0, s => s
  | n + 1, s =>
    let r := sampleDrain s
    if r.2 then sampleFlush n r.1 else s

/-- PERF_SAMPLE (R390). -/
def execPerfSample (h : CmdHdr) (op : Nat) (s : State) : Host.Outcome State Fault Refusal :=
  if !h.mbz ∨ 2 < op ∨ (op = 1 ∧ s.f F.PERF_SAMPLE_CFG_cores = 0) then .next (badArg s h 0x6E)
  else if s.log.isolated.contains 14 then .next (complete s h 0x6E .hwFault [])
  else if op = 1 ∧ s.perf.sampling = true then .next (complete s h 0x6E .busy [])
  else
    let s := if op = 2 then sampleFlush 64 s else { s with perf := { s.perf with sampling := op == 1 } }
    .next (complete s h 0x6E .ok [(0, 1, s.perf.buffer.length)])

/-- Nanoseconds of a latency in SHCLK ticks, rounded up (R387). -/
def latencyNs (ticks : Nat) : Nat := cdiv (ticks * 16) 10

/-- A sample record without its phase (R388). -/
def sampleRecord (s : State) (r : SampleIn) : Layout :=
  let ns := latencyNs r.latency
  let sat := decide (2 ^ 32 - 1 < ns)
  let clk := s.hs.shclk
  let flags := bit s.perf.lost + 2 * bit (sat && clk) + 4 * bit (!clk)
  let c := (tsc s 0).cnt
  [(0, 1, 6), (1, 1, r.core % 4 + 4 * (r.mode % 2) + 8 * (if r.mode % 2 = 0 then 0 else r.plugin % 32)), (2, 1, r.cls), (3, 1, flags), (4, 2, s.perf.seq),
   (8, 8, r.pc), (16, 4, if clk then satNat 32 ns else 2 ^ 32 - 1), (20, 4, satNat 32 r.retired), (24, 4, c.sec % 2 ^ 32), (28, 4, c.ns)]

/-- PERF_SAMPLE_RECORD (R387-R389, R417): a marked instruction of a sampled class; with the buffer full it is counted and flagged in the next one. -/
def execPerfSampleRecord (r : SampleIn) (s : State) : Host.Outcome State Fault Refusal :=
  if s.perf.sampling = false ∨ s.f F.PWR_RUN_run_state = 4 ∨ (s.f F.PERF_SAMPLE_CFG_cores).testBit (r.core % 4) = false ∨ 9 < r.cls
      ∨ (s.f F.PERF_SAMPLE_CLASS_mask).testBit r.cls = false then .next s
  else if 64 ≤ s.perf.buffer.length then .next { s.inc .PERF_SAMPLE_LOST with perf := { s.perf with lost := true } }
  else
    let b := s.perf.buffer ++ [sampleRecord s r]
    .next { s with perf := { s.perf with buffer := b, lost := false, seq := (s.perf.seq + 1) % 65536 } }

/-- PERF_SAMPLE_DRAIN (R389). -/
def execPerfSampleDrain (s : State) : Host.Outcome State Fault Refusal := .next (sampleDrain s).1

end Sys2Proof.Machine
end

