-- ==== Sys2Proof/Machine/LogWrap.lean ====
section
/-! DEFINITION. The continuity log, the last words, the wrap test and the idle slices (18_log_and_wrap.md). -/
namespace Sys2Proof.Machine
open Sys2Proof

/-! ### Records in cells (R391, R392, R395, R401) -/

/-- The bytes of a record in its cell, valid bit set (R391). -/
def recordLayout (r : LogRec) : Layout :=
  [(0, 2, r.length), (2, 1, r.sev + 8 * bit r.copied + 128), (3, 1, r.source), (4, 4, r.seq)] ++ slateLayout 8 r.slate ++ [(24, 2, r.code)]
    ++ (r.data.map (fun d => (28 + d.1, d.2))).filter (fun d => decide (d.1 < r.length))

/-- The bytes of a last-words slot: the RTC time stands in bytes 56-63 (R399). -/
def lastWordLayout (w : LastWord) : Layout :=
  (recordLayout w.record).filter (fun d => decide (d.1 < 56)) ++ [(56, 4, w.rtcSec), (60, 2, w.rtcTicks)]

/-- The segment of a cell (R401). -/
def segmentOf (k : Nat) : Nat := k / 64

/-- The record in cell `k`; a cell of a retired segment holds none. -/
def cellOf (s : State) (k : Nat) : Option LogRec := if s.log.retired.contains (segmentOf k) then none else tget s.log.cells none k

/-- The lowest free cell at or above `k`, among the next `fuel` (R395). -/
def freeCellFrom (s : State) : Nat → Nat → Option Nat
  | 0, _ => none
  | fuel + 1, k =>
    if s.log.retired.contains (segmentOf k) || (tget s.log.cells none k).isSome then freeCellFrom s fuel (k + 1) else some k

/-- The lowest free cell of the 8,192. -/
def freeCell (s : State) : Option Nat := freeCellFrom s 8192 0

/-- The cells that hold a valid record, with the record. -/
def validCells (s : State) : List (Nat × LogRec) := s.log.cells.filterMap (fun c => (cellOf s c.1).map (fun r => (c.1, r)))

/-- used_low of R395: the cells that hold records of severity 3-7. -/
def usedLow (s : State) : Nat := ((validCells s).filter (fun c => decide (3 ≤ c.2.sev))).length

/-- limit_low of R395. -/
def limitLow (s : State) : Nat := 7 * s.f F.LOG_STATUS_cells_in_service / 8

/-- How far a sequence lies behind LOG_SEQ, modulo 2^32 (R393). -/
def seqAge (s : State) (q : Nat) : Nat := ((s.rg .LOG_SEQ).toNat + 2 ^ 32 - q) % 2 ^ 32

/-- The oldest valid record of severity `sev` or above in number (R395). -/
def oldestFrom (s : State) (sev : Nat) : Option (Nat × LogRec) :=
  (validCells s).foldl (fun (b : Option (Nat × LogRec)) c =>
    if c.2.sev < sev then b
    else match b with
      | none => some c
      | some q => if seqAge s q.2.seq < seqAge s c.2.seq then some c else b) none

/-- The cell that a record of severity `sev` takes (R395); none: it is dropped. -/
def placeFor (s : State) (sev : Nat) : Option Nat :=
  match freeCell s with
  | some k => if sev ≤ 2 ∨ usedLow s < limitLow s then some k else (oldestFrom s sev).map (fun c => c.1)
  | none => (oldestFrom s sev).map (fun c => c.1)

/-- An uncorrectable error retires a segment (R401): it is counted by performance event 0x8003, its records are lost, and the fault is recorded and posted. -/
def retireSegment (s : State) (g : Nat) : State :=
  if 128 ≤ g ∨ s.log.retired.contains g = true then s
  else
    let lost := ((validCells s).filter (fun c => segmentOf c.1 == g)).length
    let cs := s.log.cells.filter (fun c => segmentOf c.1 != g)
    let s := perf { s with log := { s.log with cells := cs, retired := s.log.retired ++ [g] } } 0x8003 4
    let s := (s.setF F.LOG_STATUS_cells_in_service (s.f F.LOG_STATUS_cells_in_service - 64)).setF F.LOG_STATUS_retired (s.f F.LOG_STATUS_retired + 1)
    logEvent (s.setB F.LOG_STATUS_media_fault true) 1 0x0F01 [(0, 1, g), (1, 2, lost)]

/-- A valid record is copied to the stream (R398). -/
def streamCopy (s : State) (r : LogRec) : State :=
  if s.fb F.LOG_CFG_strm_en && decide (r.sev ≤ s.f F.LOG_CFG_strm_sev) then areaProduce s .stream (recordLayout r) else s

/-- The LOG_WRITE that waits for a record completes (R409). -/
def logWaiter (s : State) (q : Nat) (kept : Bool) : State :=
  match s.log.waiters.find? (fun w => w.1 == q) with
  | none => s
  | some w =>
    finish { s with log := { s.log with waiters := dropFirst (fun v => v.1 == q) s.log.waiters } } w.2 0x66 (if kept then .ok else .noResource) [(0, 4, q)]

/-- The oldest record of the write queue takes its cell, or is dropped (R392, R395). Answers the state and the cell. -/
def recordWrite (s : State) : State × Option Nat :=
  match s.log.queue with
  | [] => (s, none)
  | r :: l =>
    let s := { s with log := { s.log with queue := l } }
    match placeFor s r.sev with
    | none => (logWaiter (s.inc .LOG_DROP r.sev) r.seq false, none)
    | some k => (logWaiter (streamCopy { s with log := { s.log with cells := tset s.log.cells k (some r) } } r) r.seq true, some k)

/-- A last-words write fails its read-back (R402): the slot does not become valid. -/
def wordFailed (s : State) (q : Nat) : State :=
  match (List.range 64).find? (fun k => (tget s.log.lastWords none k).any (fun w => w.record.seq == q)) with
  | none => s
  | some k => mediaDead (setLwValid { s with log := { s.log with lastWords := tset s.log.lastWords k none } } k false)

/-- LOG_RECORD_WRITE (R392, R395, R398, R399, R401, R402): `cellBad`: the read-back of the cell finds an uncorrectable error; `wordBad`: that of the
record's last-words slot fails. -/
def execLogRecordWrite (cellBad wordBad : Bool) (s : State) : Host.Outcome State Fault Refusal :=
  match s.log.queue with
  | [] => .next s
  | r :: _ =>
    let x := recordWrite s
    let t := match x.2 with
      | some k => if cellBad then retireSegment x.1 (segmentOf k) else x.1
      | none => x.1
    .next (if wordBad then wordFailed t r.seq else t)

/-- LOG_SCRUB (R401): `corrected` a correctable error is repaired, `bad` an uncorrectable one is found. -/
def execLogScrub (cell : Nat) (corrected bad : Bool) (s : State) : Host.Outcome State Fault Refusal :=
  if 8192 ≤ cell ∨ s.log.retired.contains (segmentOf cell) = true then .next s
  else if bad then .next (retireSegment s (segmentOf cell))
  else .next (if corrected then perf s 0x8002 4 else s)

/-! ### Commands (R397, R409) -/

/-- Every record of the queue takes its cell. -/
def recordFlush : Nat → State → State
  | 0, s => s
  | n + 1, s => if s.log.queue.isEmpty then s else recordFlush n (recordWrite s).1

/-- Insert by distance from a start sequence. -/
def insertBySeq (start : Nat) (r : LogRec) : List LogRec → List LogRec
  | [] => [r]
  | q :: l => if (r.seq + 2 ^ 32 - start) % 2 ^ 32 < (q.seq + 2 ^ 32 - start) % 2 ^ 32 then r :: q :: l else q :: insertBySeq start r l

/-- The valid records from a start sequence up to LOG_SEQ, ascending, of severity up to `sev` (R397). Distances are modulo 2^32, and a start that lies
after LOG_SEQ in serial arithmetic has none. -/
def recordsFrom (s : State) (start sev : Nat) : List LogRec :=
  let span := ((s.rg .LOG_SEQ).toNat + 2 ^ 32 - start % 2 ^ 32) % 2 ^ 32
  if 2 ^ 31 ≤ span then []
  else ((validCells s).filter (fun c => decide (c.2.sev ≤ sev) && decide ((c.2.seq + 2 ^ 32 - start % 2 ^ 32) % 2 ^ 32 < span))).foldl
    (fun l c => insertBySeq (start % 2 ^ 32) c.2 l) []

/-- Write records to host memory one after another. -/
def putRecords (s : State) (addr : Nat) : List LogRec → State
  | [] => s
  | r :: l => putRecords (s.emit (.mem addr 64 (recordLayout r))) (addr + 64) l

/-- A 64-byte aligned address that is not 0. -/
def addr64Ok (a : Nat) : Bool := a != 0 && a % 64 == 0

/-- The records that LOG_READ copies (R397), in ascending order and at most `n`, and how many it missed before it stopped: those in a segment that
its read retires (R401). -/
def readable (gone : LogRec → Bool) : Nat → List LogRec → List LogRec × Nat
  | _, [] => ([], 0)
  | 0, _ => ([], 0)
  | n + 1, r :: l =>
    if gone r then
      let x := readable gone (n + 1) l
      (x.1, x.2 + 1)
    else
      let x := readable gone n l
      (r :: x.1, x.2)

/-- LOG_READ (R397, R401, R409). -/
def execLogRead (h : CmdHdr) (a : LogReadArgs) (s : State) : Host.Outcome State Fault Refusal :=
  if !h.mbz ∨ 7 < a.sev ∨ addr64Ok a.addr = false ∨ a.max = 0 ∨ 8192 < a.max then .next (badArg s h 0x65)
  else
    let s := recordFlush 256 s
    let all := recordsFrom s a.start a.sev
    let bad := ((validCells s).filter (fun c => all.contains c.2 && a.badCells.contains c.1)).map (fun c => segmentOf c.1)
    let x := readable (fun r => (validCells s).any (fun c => c.2 == r && bad.contains (segmentOf c.1))) a.max all
    let next := if a.max ≤ x.1.length then (x.1.getLast?.map (fun r => (r.seq + 1) % 2 ^ 32)).getD 0 else (s.rg .LOG_SEQ).toNat
    .next (complete (bad.foldl retireSegment (putRecords s a.addr x.1)) h 0x65 .ok [(0, 4, x.1.length), (4, 4, next), (8, 4, x.2)])

/-- LOG_WRITE (R409): it completes when its record is valid in its cell or dropped. -/
def execLogWrite (h : CmdHdr) (a : LogWriteArgs) (s : State) : Host.Outcome State Fault Refusal :=
  if !h.mbz ∨ a.sev < 3 ∨ 7 < a.sev ∨ a.code / 256 ≠ 0x10 ∨ 36 < a.len ∨ ((a.data.drop a.len).any (fun b => b != 0)) = true then .next (badArg s h 0x66)
  else
    let q := (s.rg .LOG_SEQ).toNat
    let full := decide (256 ≤ s.log.queue.length)
    let t := sentTo (logPut s a.sev 0x10 a.code [(0, a.len, leVal (a.data.take a.len))] (slateOf s 0 .log)) 0 .log
    if full then .next (complete t h 0x66 .noResource [(0, 4, q)])
    else .next { begins t h 0x66 with log := { t.log with waiters := t.log.waiters ++ [(q, h)] } }

/-- The valid bits of the last words. -/
def lwMask (s : State) : Nat := s.pair .LOG_LW_VALID_LO .LOG_LW_VALID_HI

/-- LW_READ (R402, R409): `bad`: a slot read shows an uncorrectable error. -/
def execLwRead (h : CmdHdr) (addr : Nat) (bad : Bool) (s : State) : Host.Outcome State Fault Refusal :=
  if !h.mbz ∨ addr64Ok addr = false then .next (badArg s h 0x67)
  else if s.fb F.LOG_STATUS_media_dead then .next (complete s h 0x67 .hwFault [])
  else if bad then .next (complete (mediaDead s) h 0x67 .hwFault [])
  else
    let l := ((List.range 64).filterMap (fun k => (tget s.log.lastWords none k).map (fun w => (lastWordLayout w).map (fun d => (64 * k + d.1, d.2))))).flatten
    .next (complete (s.emit (.mem addr 4096 l)) h 0x67 .ok [(0, 8, lwMask s)])

/-- LW_CLEAR (R400, R409). -/
def execLwClear (h : CmdHdr) (mask : Nat) (s : State) : Host.Outcome State Fault Refusal :=
  if !h.mbz ∨ mask = 0 then .next (badArg s h 0x68)
  else if s.fb F.LOG_STATUS_media_dead then .next (complete s h 0x68 .hwFault [])
  else
    let ks := (List.range 64).filter (fun k => mask.testBit k && (tget s.log.lastWords none k).isSome)
    let t := ks.foldl (fun t k => setLwValid { t with log := { t.log with lastWords := tset t.log.lastWords k none } } k false) s
    .next (complete t h 0x68 .ok [(0, 1, ks.length)])

/-- Timescale `n` stands at the first tick of a whole second. -/
def wholeSecond (s : State) (n : Nat) : Bool := decide ((counterUnits (tsc s n).cnt % unitsPerSec : Nat) < tickDelta s 4 n 1)

/-- RTC_LOAD (R399): at a whole second of TS0, while it is valid. -/
def execRtcLoad (ticks : Nat) (s : State) : Host.Outcome State Fault Refusal :=
  let s := advance s ticks
  if tsValid s 0 && wholeSecond s 0 then .next { s with log := { s.log with rtcSec := (tsc s 0).cnt.sec % 2 ^ 32, rtcAt := s.ticks, rtcValid := true } }
  else .next s

/-! ### Run states (R422) -/

/-- A run-state transition (R422); AVSBus tracking runs in RUN only (R42). -/
def runSet (s : State) (new : Nat) : State :=
  let old := s.f F.PWR_RUN_run_state
  let s := s.setB F.PWR_PACE_STATUS_avs_tracking (s.fb F.PWR_PACE_CFG_avs_track && !s.hs.avsSuspended && new == 3)
  logEvent (s.setF F.PWR_RUN_run_state new) 5 0x0102 [(0, 1, old), (1, 1, new)]

/-! ### The wrap test (R403-R406, R429) -/

/-- Duration in ms and coverage in 0.1 % of a block (R403). -/
def blockFigures (full : Bool) (b : Nat) : Nat × Nat :=
  let std : List (Nat × Nat) := [(96, 960), (40, 955), (80, 950), (24, 980), (64, 990), (16, 970), (48, 965), (12, 975), (24, 900), (20, 970), (16, 975),
    (60, 955), (40, 960), (24, 920), (8, 985), (20, 960)]
  let fl : List (Nat × Nat) := [(240, 991), (96, 988), (200, 986), (48, 995), (192, 999), (40, 990), (120, 989), (30, 992), (60, 940), (48, 990), (40, 992),
    (160, 985), (96, 987), (48, 950), (16, 996), (48, 985)]
  ((if full then fl else std)[b]?).getD (0, 0)

/-- A duration in µs at the pace index in force (R30). -/
def paced (s : State) (us : Nat) : Nat :=
  let p := s.f F.PWR_PACE_STATUS_pace_index
  if p = 0 ∨ 4096 ≤ p then us else cdiv (us * 4096) p

/-- Whole slices that a block takes (R404). -/
def blockSlices (s : State) (full : Bool) (b : Nat) : Nat := cdiv (paced s ((blockFigures full b).1 * 1000)) (s.f F.BIST_CFG_slice * 1000)

/-- The set's total in ms. -/
def setTotal (s : State) (full : Bool) : Nat := ((List.range 16).map (fun b => cdiv (paced s ((blockFigures full b).1 * 1000)) 1000)).foldl (fun a b => a + b) 0

/-- Block `b` is left out in the present life cycle (R405). -/
def blockLeftOut (s : State) (b : Nat) : Bool := b == 15 && lcState s == 4

/-- Set the result of a block. -/
def blockRes (s : State) (b result : Nat) (full : Bool) (us : Nat) : State :=
  let s := ((s.setF F.BIST_RES_result result b).setB F.BIST_RES_full_set full b).setF F.BIST_RES_coverage (if result = 0 then 0 else (blockFigures full b).2) b
  s.setF F.BIST_RES_duration (if result = 0 then 0 else satNat 16 (us / 100)) b

/-- The next block to test from `b` on (R404): one that does not fit in the budget ends the test; 16: none is left. -/
def nextBlock (s : State) (full : Bool) (budget b : Nat) : Nat :=
  if 16 ≤ b ∨ blockLeftOut s b = true then 16
  else if blockSlices s full b * s.f F.BIST_CFG_slice ≤ budget then b else 16

/-- Entry to the wrap test (R404): the summary is invalidated, and the set is chosen. -/
def wrapBegin (s : State) : State :=
  let budget := s.f F.BIST_CFG_budget * 10
  let may := (unlocks s).getLsbD 1
  let full := may && s.fb F.BIST_CFG_full && decide (setTotal s true ≤ budget)
  let s := (List.range 16).foldl (fun t b => blockRes t b 0 full 0) (s.setB F.BIST_STATUS_summary_valid false)
  let b := nextBlock s full budget 0
  { s with wrap := { s.wrap with summary := none, run := some ⟨full, b, 0, budget, s.ticks⟩ } }

/-- A block ends with its result (R404, R406): its record, and a block that fails stays isolated. `sev` is the severity of a failure. -/
def blockEnd (s : State) (b : Nat) (full fail : Bool) (us sev : Nat) : State :=
  let s := blockRes s b (if fail then 2 else 1) full us
  let s := logRec s (if fail then sev else 5) 0x0F80
    [(0, 1, b), (1, 1, if fail then 2 else 1), (2, 1, bit full), (4, 2, (blockFigures full b).2), (8, 4, us)]
  if fail then { s with log := { s.log with isolated := s.log.isolated ++ [b] } } else s

/-- The registers that return to reset with a tested block (R404), by the windows of R449. The timescales, the governor, Stavris and the ids of the PCIe
link keep theirs: the first run on through the test, and the others hold what is sealed or what the link needs. -/
def blockOwns (b : Nat) (r : Reg) : Bool :=
  let a := r.name.base
  let within (lo hi : Nat) : Bool := decide (lo ≤ a) && decide (a < hi)
  match b with
  | 1 => (within 0x2000 0x4000 && r.name != .HOST_STATUS) || decide (0x80000 ≤ a)
  | 2 => within 0x1C000 0x20000
  | 6 => within 0xA000 0xC000
  | 7 => within 0x10000 0x10400
  | 8 => within 0x10800 0x14000 && r.i != 0
  | 9 => within 0x14000 0x18000
  | 10 => within 0xC000 0x10000
  | 11 => within 0x20000 0x28000
  | 12 => within 0x18000 0x1C000
  | 14 => within 0x7000 0x8000
  | _ => false

/-- A tested block's logic returns to its reset state (R404). -/
def blockReset (s : State) (b : Nat) : State :=
  let s := { s with regs := s.regs.filter (fun p => !blockOwns b p.1) }
  match b with
  | 2 => { s with ptp := .reset, ntp := .reset }
  | 3 => { s with stv := { s.stv with jobs := [], defHost := 0, defNts := 0 } }
  | 5 => { s with ens := .reset }
  | 6 => { s with clap := .reset }
  | 7 => { s with loops := { s.loops with dp := [] } }
  | 8 => { s with loops := { s.loops with ap := s.loops.ap.filter (fun p => p.1 == 0) } }
  | 9 => { s with outs := [] }
  | 10 => { s with cues := .reset }
  | 11 => { s with gnss := { GnssSt.reset with image := s.gnss.image } }
  | 12 => { s with ports := .reset }
  | 14 => { s with perf := .reset }
  | _ => s

/-- WRAP_BLOCK_SLICE (R404-R406): a slice of BIST_CFG.slice ms of the block under test has passed and is charged; `fail` is the block's result at its last slice. -/
def execWrapBlockSlice (fail : Bool) (s : State) : Host.Outcome State Fault Refusal :=
  match s.wrap.run with
  | none => .next s
  | some w =>
    let ms := s.f F.BIST_CFG_slice
    if 16 ≤ w.block ∨ s.ticks < w.since + ms * 625000 then .next s
    else
      let w := { w with slices := w.slices + 1, budget := w.budget - ms, since := s.ticks }
      if w.slices < blockSlices s w.full w.block then .next { s with wrap := { s.wrap with run := some w } }
      else
        let s := blockReset (blockEnd s w.block w.full fail (w.slices * ms * 1000) 2) w.block
        .next { s with wrap := { s.wrap with run := some ⟨w.full, nextBlock s w.full w.budget (w.block + 1), 0, w.budget, w.since⟩ } }

/-- Bits of the blocks whose result is `r`. -/
def blocksWith (s : State) (r : Nat) : Nat :=
  (List.range 16).foldl (fun m b => if s.f F.BIST_RES_result b = r then m + 2 ^ b else m) 0

/-- Result and coverage of each block, as the summary holds them. -/
def blockResults (s : State) : List (Nat × Nat) := (List.range 16).map (fun b => (s.f F.BIST_RES_result b, s.f F.BIST_RES_coverage b))

/-- The wrap test ends (R404, R406, R422): the summary is written, and the device enters OFF. -/
def wrapEnd (s : State) (full : Bool) : State :=
  let s := (s.setF F.BIST_FAIL_fail (blocksWith s 2)).setF F.BIST_FAIL_not_run (blocksWith s 0)
  let s := { s with wrap := { s.wrap with run := none, summary := some ⟨(rtcNow s).1, full, blockResults s⟩, tamperSince := false } }
  runSet (((s.setB F.BIST_STATUS_summary_valid true).setB F.BIST_STATUS_brownout false).setB F.BIST_STATUS_tamper_since false) 6

/-- WRAP_TEST_END (R404): no block is left. -/
def execWrapTestEnd (s : State) : Host.Outcome State Fault Refusal :=
  match s.wrap.run with
  | none => .next s
  | some w => .next (if w.block < 16 then s else wrapEnd s w.full)

/-! ### Idle slices (R407-R409) -/

/-- How many resources of a kind there are: Clapper lanes, DPLLs, APLLs, GNSS channels, AES lanes. -/
def idleCount (kind : Nat) : Nat :=
  match kind with
  | 0 => 32
  | 1 => 6
  | 2 => 4
  | 3 => 192
  | _ => 8

/-- A resource has been retired: a lane by its calibration state, the others by R407. -/
def idleRetired (s : State) (kind i : Nat) : Bool := s.wrap.retired.contains (kind, i) || (kind == 0 && s.f F.CLAP_LANE_STATUS_cal i == 3)

/-- A resource is idle in the sense of R407. -/
def idleFree (s : State) (kind i : Nat) : Bool :=
  decide (i < idleCount kind) && !idleRetired s kind i &&
  (match kind with
   | 0 => decide (24 ≤ i) && s.f F.CLAP_LANE_STATUS_map i == 0x1F && !laneOut s i
   | 1 => i != 0 && !s.fb F.DP_CFG_enable i
   | 2 => i != 0 && apState s i == 0 && !outRunningOn s i
   | 3 => s.f F.GNSS_STATUS_pstate == 2 && gnssChState s i == 0
   | _ => laneFree s i)

/-- A resource fails its slice (R407). -/
def idleFail (s : State) (kind i : Nat) : State :=
  let s := { s with wrap := { s.wrap with retired := s.wrap.retired ++ [(kind, i)] } }
  let s := s.setF F.BIST_IDLE_RET_value (satNat 8 (s.f F.BIST_IDLE_RET_value + 1))
  let s := if kind = 0 then logRec (s.setF F.CLAP_LANE_STATUS_cal 3 i) 2 0x0380 [(0, 1, i), (1, 1, 0xFF)] else s
  logEvent s 2 0x0F04 [(0, 1, kind), (1, 1, i)]

/-- The slice under way ends; `outcome` none: a request took the resource, and no result is recorded (R408). -/
def idleEnd (s : State) (outcome : Option Bool) : State :=
  match s.wrap.under with
  | none => s
  | some (kind, i, h) =>
    let us := s.f F.BIST_CFG_slice * 1000
    let s := { s with wrap := { s.wrap with under := none } }
    let s := if outcome = some false then idleFail s kind i else s
    match h with
    | none => s
    | some h =>
      match outcome with
      | some true => finish s h 0x69 .ok [(0, 1, 1), (4, 4, us)]
      | some false => finish s h 0x69 .hwFault [(0, 1, 2), (4, 4, us)]
      | none => finish s h 0x69 .aborted []

/-- The kind that the rotation takes next: the first from `wrap.kind` on with an idle resource (R407). -/
def idleKind (s : State) : Option Nat :=
  ((List.range 5).map (fun k => (s.wrap.kind + k) % 5)).find? (fun k => (List.range (idleCount k)).any (idleFree s k))

/-- IDLE_SLICE (R407): `outcome` none: a slice begins on resource `index` of the rotation's kind, idle_int minutes after the last one began; else the
slice under way, BIST_CFG.slice ms long, passes or fails. A resource that a request took meanwhile gives no result (R408). -/
def execIdleSlice (index : Nat) (outcome : Option Bool) (s : State) : Host.Outcome State Fault Refusal :=
  match outcome with
  | some pass =>
    match s.wrap.under with
    | none => .next s
    | some (kind, i, _) =>
      if s.ticks < s.wrap.underAt + s.f F.BIST_CFG_slice * 625000 then .next s
      else .next (idleEnd s (if idleFree s kind i then some pass else none))
  | none =>
    let st := s.f F.PWR_RUN_run_state
    if s.fb F.BIST_CFG_idle_en = false ∨ s.wrap.under.isSome = true ∨ (st ≠ 2 ∧ st ≠ 3)
        ∨ s.ticks < s.wrap.idleAt + s.f F.BIST_CFG_idle_int * 60 * 625000000 then .next s
    else match idleKind s with
      | none => .next s
      | some k =>
        if idleFree s k index then
          .next { s with wrap := { s.wrap with under := some (k, index, none), kind := (k + 1) % 5, underAt := s.ticks, idleAt := s.ticks } }
        else .next s

/-- IDLE_SLICE_PREEMPT (R408). -/
def execIdleSlicePreempt (s : State) : Host.Outcome State Fault Refusal := .next (idleEnd s none)

/-- BIST_IDLE_RUN (R409). -/
def execBistIdleRun (h : CmdHdr) (kind index : Nat) (s : State) : Host.Outcome State Fault Refusal :=
  if !h.mbz ∨ 4 < kind ∨ (kind = 2 ∧ index = 0) then .next (badArg s h 0x69)
  else if idleCount kind ≤ index then .next (complete s h 0x69 .notFound [])
  else if idleRetired s kind index then .next (complete s h 0x69 .hwFault [(0, 1, 2)])
  else if s.wrap.under.isSome || !idleFree s kind index then .next (complete s h 0x69 .busy [])
  else
    let t := begins s h 0x69
    .next { t with wrap := { t.wrap with under := some (kind, index, some h), underAt := s.ticks } }

end Sys2Proof.Machine
end

