-- ==== Sys2Proof/Machine/Sheets.lean ====
section
/-! DEFINITION. Call sheets and user calibration (15_call_sheets.md): the image format, staging, commit, confirm and revert. -/
namespace Sys2Proof.Machine
open Sys2Proof

/-! ### The image (R331-R334, R346, R373, R380) -/

/-- Byte `o` of an image. -/
def byteAt (l : List Nat) (o : Nat) : Nat := (l[o]?).getD 0

/-- The little-endian number of `n` bytes at `o`. -/
def leAt (l : List Nat) (o n : Nat) : Nat := leVal ((l.drop o).take n)

/-- One bit of CRC-32C, reflected (PRESUMED: the Castagnoli polynomial, notes/assumptions/40.md). -/
def crc32Bit (c : Nat) : Nat := if c % 2 = 1 then (c / 2) ^^^ 0x82F63B78 else c / 2

/-- One byte of CRC-32C. -/
def crc32Byte (c b : Nat) : Nat :=
  crc32Bit (crc32Bit (crc32Bit (crc32Bit (crc32Bit (crc32Bit (crc32Bit (crc32Bit (c ^^^ b))))))))

/-- CRC-32C of bytes. -/
def crc32c (l : List Nat) : Nat := l.foldl crc32Byte (2 ^ 32 - 1) ^^^ (2 ^ 32 - 1)

/-- A section as it stands in the image (R332): type, flags, body and padding. -/
structure RawSection where
  type : Nat
  flags : Nat
  body : List Nat
  pad : List Nat
  deriving DecidableEq, Repr

/-- The sections after the header; none where the lengths do not fit the image (R332). -/
def splitSections : Nat → List Nat → Option (List RawSection)
  | 0, l => if l.isEmpty then some [] else none
  | n + 1, l =>
    if l.isEmpty then some []
    else
      let len := leAt l 4 4
      let all := cdiv len 8 * 8
      if l.length < 8 + all then none
      else
        let r : RawSection := ⟨leAt l 0 2, leAt l 2 2, (l.drop 8).take len, (l.drop (8 + len)).take (all - len)⟩
        (splitSections n (l.drop (8 + all))).map (fun t => r :: t)

/-- Section types (R332). -/
def knownSection (t : Nat) : Bool := t == 1 || t == 0x10 || t == 0x20 || t == 0x30 || t == 0x40 || t == 0x60 || t == 0x7FFF

/-- The bytes of every section of a type. -/
def bodies (l : List RawSection) (t : Nat) : List (List Nat) := (l.filter (fun r => r.type == t)).map RawSection.body

/-- The 8-byte entries of a body. -/
def entries8 : Nat → List Nat → List (List Nat)
  | 0, _ => []
  | n + 1, l => if l.isEmpty then [] else l.take 8 :: entries8 n (l.drop 8)

/-- Register writes of REG or BOOT sections: BAR0 offset and value. -/
def regEntries (l : List RawSection) (t : Nat) : List (Nat × Nat) :=
  ((bodies l t).map (fun b => (entries8 (b.length / 8) b).map (fun e => (leAt e 0 4, leAt e 4 4)))).flatten

/-- User calibration entries: item, index, value. -/
def ucalEntries (l : List RawSection) : List (Nat × Nat × Int) :=
  ((bodies l 0x20).map (fun b => (entries8 (b.length / 8) b).map (fun e => (leAt e 0 2, leAt e 2 2, sext 32 (leAt e 4 4))))).flatten

/-- A GOVERNOR body (R380). -/
def govSection (b : List Nat) : GovSection := ⟨leAt b 0 8, leAt b 8 8, (List.range 39).map (fun k => leAt b (16 + 4 * k) 4)⟩

/-- A plug-in entry (R373). -/
def pluginEntry (b : List Nat) (k : Nat) : PluginEntry :=
  let o := 64 * k
  ⟨byteAt b o, byteAt b (o + 1), byteAt b (o + 2), leAt b (o + 4) 4, leAt b (o + 8) 4, leAt b (o + 12) 4, leAt b (o + 16) 48⟩

/-- The plug-in entries of an image. -/
def pluginEntries (l : List RawSection) : List PluginEntry :=
  ((bodies l 0x40).map (fun b => (List.range (b.length / 64)).map (pluginEntry b))).flatten

/-- The sheet that a header and sections say. -/
def sheetOf (img : List Nat) (l : List RawSection) : Sheet :=
  let sig := (bodies l 0x7FFF).head?
  ⟨leAt img 8 4, leAt img 12 4, leAt img 24 8, leAt img 40 4, l.length, regEntries l 1, regEntries l 0x10, ucalEntries l, (bodies l 0x30).map govSection,
    pluginEntries l, (sig.map (fun b => byteAt b 0)).getD 0xFF, img⟩

/-- Blocks that a sheet may not name (R334): HOST and its MSI-X tables, CSHT, STV, LC. -/
def sheetBarred (a : Nat) : Bool :=
  (decide (0x2000 ≤ a) && decide (a < 0x5000)) || (decide (0x28000 ≤ a) && decide (a < 0x2C000)) || (decide (0x30000 ≤ a) && decide (a < 0x40000))
    || decide (0x80000 ≤ a)

/-- A register that a REG entry may name (R334). -/
def regNameable (a : Nat) : Bool :=
  match regAt a with
  | some r => !sheetBarred a && r.name.fields.any (fun f => f.access = .RW ∨ f.access = .RWS ∨ f.access = .RWL)
  | none => false

/-- The registers of user calibration: item, how many, register, clamp in ps (R346). -/
def ucalItems : List (Nat × Nat × RegName × Nat) :=
  [(1, 16, .CLAP_CH_UCAL, 5000000), (2, 4, .PORT_TS_ADJ_RX, 100000), (3, 4, .PORT_TS_ADJ_TX, 100000), (4, 1, .RAN_ASYM, 10000)]

/-- A user calibration entry names an item (R346). -/
def ucalNamed (e : Nat × Nat × Int) : Bool := ucalItems.any (fun q => q.1 == e.1 && decide (e.2.1 < q.2.1))

/-- A plug-in entry within its limits (R373). -/
def pluginFits (p : PluginEntry) : Bool :=
  decide (p.id < 32) && decide (p.cores < 16) && decide (p.flags < 8) && p.offset % 4096 == 0 && decide (1 ≤ p.length) && decide (p.length ≤ 4194304)
    && p.region % 4096 == 0 && decide (4096 ≤ p.region) && decide (p.region ≤ 262144)

/-- SRAM that the plug-ins take on a core. -/
def coreRegion (l : List PluginEntry) (c : Nat) : Nat := l.foldl (fun a p => if p.cores.testBit c then a + p.region else a) 0

/-- The PLUGIN sections hold R373. -/
def pluginsFit (l : List RawSection) : Bool :=
  let ps := pluginEntries l
  decide (ps.length ≤ 32) && ps.all pluginFits && decide (ps.map PluginEntry.id).Nodup && (List.range 4).all (fun c => decide (coreRegion ps c ≤ 262144))
    && (bodies l 0x40).all (fun b => (List.range (b.length / 64)).all (fun k => byteAt b (64 * k + 3) == 0))

/-- A GOVERNOR body holds R380. -/
def govFits (g : GovSection) : Bool :=
  decide (g.set < 2 ^ 39) && decide (g.raise < 2 ^ 39) && (List.range 39).all (fun b => g.set.testBit b || (g.values[b]?).getD 0 == 0)

/-- Section types with a fixed body length, or one of whole entries (R332, R373, R380). -/
def bodyLenOk (r : RawSection) : Bool :=
  let n := r.body.length
  match r.type with
  | 1 | 0x10 | 0x20 => n % 8 == 0
  | 0x30 => n == 172
  | 0x40 => n % 64 == 0
  | 0x7FFF => n == 104
  | _ => n == n

/-- A SIGNATURE section stands anywhere but last (R332). -/
def signatureEarly (l : List RawSection) : Bool := (l.dropLast).any (fun r => r.type == 0x7FFF)

/-- An RWL field is named by a REG entry. -/
def namesRwl (sh : Sheet) : Bool :=
  sh.regs.any (fun e => match regAt e.1 with
    | some r => r.name.fields.any (fun f => f.access = .RWL)
    | none => false)

/-- Must-be-0 fields, magic, format, version and header flags (R331): the first conditions of reason 1. -/
def headerBad (img : List Nat) : Bool :=
  leAt img 0 4 != 0x4853434B || leAt img 4 2 != 1 || decide (8 ≤ leAt img 6 2) || leAt img 8 4 == 0 || leAt img 8 4 == 2 ^ 32 - 1 || leAt img 22 2 != 0
    || leAt img 48 12 != 0

/-- The header's flags name the sections present. -/
def flagsOk (img : List Nat) (l : List RawSection) : Bool :=
  let has (t : Nat) : Bool := l.any (fun r => r.type == t)
  (leAt img 6 2).testBit 0 == has 0x7FFF && (leAt img 6 2).testBit 1 == has 0x30 && (leAt img 6 2).testBit 2 == has 0x10

/-- The must-be-0 bits and bytes of the sections, and R380's body. -/
def sectionsBad (l : List RawSection) : Bool :=
  l.any (fun r => decide (2 ≤ r.flags) || r.pad.any (fun b => b != 0) || (r.type == 0x7FFF && (r.body.take 8).drop 1 != List.replicate 7 0))
    || !((bodies l 0x30).map govSection).all govFits

/-- The signer that the life cycle wants of a signed sheet (R337). -/
def wantedSigner (s : State) : Nat := if lcState s = 2 then 0 else 1

/-- The reason for which a sheet's sections are refused (R348), in the order of the codes; 0: none. -/
def sheetReason (s : State) (img : List Nat) (l : List RawSection) (sigGood : Bool) : Nat :=
  let sh := sheetOf img l
  if sectionsBad l || !flagsOk img l then 1
  else if leAt img 20 2 ≠ l.length ∨ l.all bodyLenOk = false then 2
  else if leAt img 60 4 ≠ crc32c (img.take 60 ++ [0, 0, 0, 0] ++ img.drop 64) then 3
  else if l.any (fun r => !knownSection r.type && r.flags % 2 == 0) || signatureEarly l then 4
  else if sh.regs.any (fun e => !regNameable e.1) || sh.boot.any (fun e => e.1 != 0x10400) || sh.ucal.any (fun e => !ucalNamed e) || !pluginsFit l then 5
  else if 16384 < sh.regs.length + sh.boot.length then 6
  else if lcState s = 2 ∧ sh.signer = 0xFF ∧ (s.fb F.CSHT_POLICY_sign_required = true ∨ sh.gov ≠ [] ∨ namesRwl sh = true) then 7
  else if sh.signer ≠ 0xFF ∧ 1 ≤ lcState s ∧ lcState s ≤ 3 ∧ (sigGood = false ∨ sh.signer ≠ wantedSigner s) then 8
  else if s.fb F.CSHT_POLICY_device_bind = true ∧ sh.device ≠ deviceId s then 9
  else 0

/-- Parse an image: the reason that refuses it, or the sheet (R348). -/
def parseSheet (s : State) (a : CshtStageArgs) : Nat ⊕ Sheet :=
  if a.addr = 0 ∨ a.addr % 8 ≠ 0 then .inl 10
  else if a.length < 64 ∨ 262144 < a.length then .inl 2
  else
    let img := a.image.take a.length ++ List.replicate (a.length - a.image.length) 0
    if headerBad img then .inl 1
    else if leAt img 16 4 ≠ a.length then .inl 2
    else match splitSections (leAt img 20 2) (img.drop 64) with
      | none => .inl 2
      | some l =>
        let r := sheetReason s img l a.sigGood
        if r = 0 then .inr (sheetOf img l) else .inl r

/-! ### Acceptance and classes (R335, R337) -/

/-- The life cycle accepts a sheet (R337). -/
def lifeAccepts (s : State) (sh : Sheet) : Bool :=
  match lcState s with
  | 1 => sh.signer == 0xFF || sh.signer == 1
  | 2 => sh.signer == 0 || (sh.signer == 0xFF && !s.fb F.CSHT_POLICY_sign_required && sh.gov.isEmpty && !namesRwl sh)
  | 3 => sh.signer == 1
  | _ => false

/-- The value of a register by offset. -/
def wordAt (s : State) (a : Nat) : Word := match regAt a with
  | some r => s.rg r.name r.i r.j
  | none => 0

/-- The bits of a register's fields of an access code. -/
def accessMask (n : RegName) (x : Access) : Word :=
  n.fields.foldl (fun m fs => if fs.access = x then fput m fs.hi fs.lo (2 ^ (fs.hi - fs.lo + 1) - 1) else m) 0

/-- Some entry changes a field of an access code, an earlier entry for the same register counted as its value. -/
def changes (s : State) (x : Access) : List (Nat × Nat) → List (Nat × Nat) → Bool
  | _, [] => false
  | seen, e :: l =>
    let old := match seen.find? (fun q => q.1 == e.1) with
      | some q => BitVec.ofNat 32 q.2
      | none => wordAt s e.1
    let mask := match regAt e.1 with
      | some r => accessMask r.name x
      | none => 0
    ((old ^^^ BitVec.ofNat 32 e.2) &&& mask != 0) || changes s x (e :: seen) l

/-- The sheet changes a SETUP-class setting (R335). -/
def changesSetup (s : State) (sh : Sheet) : Bool := changes s .RWS [] sh.regs

/-- The sheet changes a SEALED-class setting (R335). -/
def changesSealed (s : State) (sh : Sheet) : Bool :=
  changes s .RWL [] sh.regs || sh.gov.any (fun g => (List.range 39).any (fun b => g.set.testBit b && (g.values[b]?).getD 0 != govVal s b))

/-- BOOT and PLUGIN sections of a slot. -/
def restartPart (x : Option SheetSlot) : List (Nat × Nat) × List PluginEntry := (x.map (fun q => (q.sheet.boot, q.sheet.plugins))).getD ([], [])

/-- The version of a slot: 0 when it is empty. -/
def slotVersion (x : Option SheetSlot) : Nat := (x.map (fun q => q.sheet.version)).getD 0

/-- The classes byte of CSHT_STAGE. -/
def sheetClasses (s : State) (sh : Sheet) : Nat :=
  bit (changesSetup s sh) + 2 * bit (restartPart (some ⟨0, sh⟩) != restartPart s.sheets.active) + 4 * bit (changesSealed s sh)

/-! ### Slots and the directory (R338) -/

/-- The registers that show the slots. -/
def sheetSync (s : State) : State :=
  let x := s.sheets
  let s := s.wr .CSHT_ACTIVE_VER 0 0 (BitVec.ofNat 32 (slotVersion x.active))
  let s := s.wr .CSHT_PREV_VER 0 0 (BitVec.ofNat 32 (slotVersion x.previous))
  let s := s.wr .CSHT_STAGED_VER 0 0 (BitVec.ofNat 32 (slotVersion x.staged))
  let s := (s.setB F.CSHT_STATUS_staged_valid x.staged.isSome).setB F.CSHT_STATUS_prev_valid x.previous.isSome
  (s.setB F.CSHT_STATUS_undo_valid x.undo.isSome).setB F.CSHT_STATUS_confirm_pending x.confirm

/-- A new directory record (R338). -/
def directoryWrite (s : State) : State :=
  let s := { s with sheets := { s.sheets with dirSeq := s.sheets.dirSeq + 1 } }
  let x := s.sheets
  let role (q : Option SheetSlot) : Nat := (q.map SheetSlot.area).getD 0xFF
  sheetSync (s.emit (.qspi 5 [(0, 4, x.dirSeq), (4, 1, role x.staged), (5, 1, role x.active), (6, 1, role x.previous), (7, 1, bit x.confirm), (8, 1, x.trial)]))

/-- The QSPI area that neither ACTIVE nor PREVIOUS uses, lowest first. -/
def stageArea (x : SheetSt) : Nat :=
  ((List.range 3).find? (fun k => !(x.active.any (fun q => q.area == k)) && !(x.previous.any (fun q => q.area == k)))).getD 0

/-- CSHT_STAGE (R331-R334, R337, R348). -/
def execCshtStage (h : CmdHdr) (a : CshtStageArgs) (s : State) : Host.Outcome State Fault Refusal :=
  if !h.mbz then .next (badArg s h 0x60)
  else match parseSheet s a with
    | .inl r => .next (complete s h 0x60 .badArg [(8, 1, r)])
    | .inr sh =>
      if s.sheets.applying.isSome || s.sheets.writing.isSome then .next (complete s h 0x60 .busy [])
      else if !lifeAccepts s sh then .next (complete s h 0x60 .deniedLifecycle [])
      else if sh.version ≤ slotVersion s.sheets.active ∨ (sh.base ≠ 0 ∧ sh.base ≠ slotVersion s.sheets.active) then
        .next (complete s h 0x60 .staleVersion [])
      else .next { begins s h 0x60 with sheets := { s.sheets with writing := some (h, sh) } }

/-- The QSPI write of a staged sheet ends (R338, R348). -/
def sheetWritten (s : State) (good : Bool) : State :=
  match s.sheets.writing with
  | none => s
  | some (h, sh) =>
    let s := { s with sheets := { s.sheets with writing := none } }
    if !good then finish s h 0x60 .hwFault []
    else
      let area := stageArea s.sheets
      let s := s.emit (.qspi area [(0, sh.image.length, leVal sh.image)])
      let s := directoryWrite { s with sheets := { s.sheets with staged := some ⟨area, sh⟩ } }
      finish s h 0x60 .ok [(0, 4, sh.version), (4, 2, sh.sections), (6, 1, sh.signer), (7, 1, sheetClasses s sh)]

/-- QSPI_WRITE_DONE (R348, R390): of a call sheet or of a firmware slot. -/
def execQspiWriteDone (sheet good : Bool) (s : State) : Host.Outcome State Fault Refusal :=
  .next (if sheet then sheetWritten s good else fwWritten s good)

/-! ### Apply (R336, R339, R346) -/

/-- The state with the counts of refused writes and of clamped values. -/
abbrev Applied := State × Nat × Nat

/-- The governor value that a register holds, if it holds one. -/
def govBit (r : Reg) : Option Nat := (List.range 39).find? (fun b => (govFld b).1.reg == r.name && (govFld b).2 == r.i)

/-- A governor value of a sheet (R336): refused where the encoding does not assign it or the signer may not set it. -/
def applyGov (may : Bool) (x : Applied) (b v : Nat) : Applied :=
  if may && govLegal b v then
    let r := govApply x.1 b v
    (r.1, x.2.1, x.2.2 + bit r.2)
  else (violation x.1, x.2.1 + 1, x.2.2)

/-- A register write of a sheet: whether GOV_VIOLATION counts it says whether it was refused (R339). -/
def applyWrite (x : Applied) (r : Reg) (w : Word) : Applied :=
  let n := (x.1.rg .GOV_VIOLATION).toNat
  let t := hostWrite (x.1.wr .GOV_VIOLATION 0 0 0) r w
  let k := (t.rg .GOV_VIOLATION).toNat
  (t.wr .GOV_VIOLATION 0 0 (BitVec.ofNat 32 (satNat 32 (n + k))), x.2.1 + (if k = 0 then 0 else 1), x.2.2)

/-- An entry by offset: a governor limit passes its floor, any other register its own rules. -/
def applyEntry (may : Bool) (x : Applied) (e : Nat × Word) : Applied :=
  match regAt e.1 with
  | none => (violation x.1, x.2.1 + 1, x.2.2)
  | some r => match govBit r with
    | some b => applyGov may x b (fget e.2 (govFld b).1.hi (govFld b).1.lo)
    | none => applyWrite x r e.2

/-- Every user calibration register: register, index, value as applied, and whether it was clamped (R346). -/
def ucalValues (es : List (Nat × Nat × Int)) : List (Reg × Word × Bool) :=
  (ucalItems.map (fun q => (List.range q.2.1).map (fun i =>
    let v : Int := ((es.reverse.find? (fun e => e.1 == q.1 && e.2.1 == i)).map (fun e => e.2.2)).getD 0
    let lim : Int := (q.2.2.2 * 256 : Nat)
    let c := max (-lim) (min lim v)
    ((⟨q.2.2.1, i, 0⟩ : Reg), BitVec.ofNat 32 (twos 32 c), c != v)))).flatten

/-- USER_CAL is applied, every item that the sheet does not name as 0 (R346). -/
def applyUcal (x : Applied) (es : List (Nat × Nat × Int)) : Applied :=
  (ucalValues es).foldl (fun x q =>
    let y := applyWrite x q.1 q.2.1
    (y.1, y.2.1, y.2.2 + bit q.2.2)) x

/-- Every cue window is held to its floor window (R379). -/
def applyWindows (x : Applied) : Applied :=
  (List.range 8).foldl (fun x p =>
    let r := clampWindow x.1 p
    (r.1, x.2.1, x.2.2 + r.2)) x

/-- The GOVERNOR sections are applied. -/
def applyGovs (may : Bool) (x : Applied) (gs : List GovSection) : Applied :=
  gs.foldl (fun x g => (List.range 39).foldl (fun x b => if g.set.testBit b then applyGov may x b ((g.values[b]?).getD 0) else x) x) x

/-- Whether a sheet may set an RWL field now (R335). -/
def mayRwl (s : State) (sh : Sheet) : Bool := !reachedSealed s || (lcState s == 2 && sh.signer == 0)

/-- A sheet is applied (R339): GOVERNOR, USER_CAL, REG entry by entry. -/
def sheetApply (s : State) (sh : Sheet) : Applied :=
  let may := mayRwl s sh
  let x := applyUcal (applyWindows (applyGovs may (s, 0, 0) sh.gov)) sh.ucal
  applyWindows (sh.regs.foldl (fun x e => applyEntry may x (e.1, BitVec.ofNat 32 e.2)) x)

/-- The offset of a governor value's register. -/
def govAddr (b : Nat) : Nat := Reg.addr ⟨(govFld b).1.reg, (govFld b).2, 0⟩

/-- The offsets that a sheet will write, in order. -/
def sheetWrites (sh : Sheet) : List Nat :=
  (sh.gov.map (fun g => ((List.range 39).filter (fun b => g.set.testBit b)).map govAddr)).flatten
    ++ (ucalValues []).map (fun q => q.1.addr) ++ sh.regs.map (fun e => e.1)

/-- The undo list (R339): what each register that the sheet will write holds now. -/
def undoList (s : State) (sh : Sheet) : List (Nat × Word) := (sheetWrites sh).map (fun a => (a, wordAt s a))

/-- The counts of an apply (R336, R339). -/
def countApply (x : Applied) : State :=
  let s := (x.1.inc .CSHT_REFUSED 0 x.2.1).inc .CSHT_CLAMPED 0 x.2.2
  s.setB F.CSHT_STATUS_partial (x.2.1 != 0)

/-! ### Commit (R339, R348) -/

/-- The conditions of R339 at a commit point: the status that refuses it, if any. -/
def commitStatus (s : State) (a : CshtCommitArgs) : Option Status :=
  match s.sheets.staged with
  | none => some .notFound
  | some q =>
    let v := slotVersion s.sheets.active
    let st := s.f F.PWR_RUN_run_state
    if a.expected ≠ v ∨ (q.sheet.base ≠ 0 ∧ q.sheet.base ≠ v) then some .staleVersion
    else if s.sheets.confirm || s.sheets.applying.isSome || (st != 2 && st != 3) || (st != 2 && changesSetup s q.sheet) then some .busy
    else if !lifeAccepts s q.sheet then some .deniedLifecycle
    else none

/-- The commit point (R338-R340): roles, undo list, apply. -/
def commitNow (s : State) (h : CmdHdr) (a : CshtCommitArgs) : State :=
  match s.sheets.staged with
  | none => finish s h 0x61 .notFound []
  | some q =>
    let ts := if a.trigger = 1 then a.ts else 0
    let d := Dest.ring (cplOf s h)
    let sl := slateOf s ts d
    let s := sentTo s ts d
    let former := s.sheets.active
    let undo := undoList s q.sheet
    let len := if a.confirm = 0 then s.f F.CSHT_CFG_confirm_def else a.confirm
    let s := directoryWrite { s with sheets := { s.sheets with staged := none, active := some q, previous := former, confirm := true, trial := 0, undo := some undo, deadline := len, since := s.ticks, warned := false } }
    let s := if restartPart (some q) != restartPart former then s.setB F.CSHT_STATUS_restart_pending true else s
    let x := sheetApply (s.setB F.CSHT_STATUS_applying true) q.sheet
    let s := countApply x
    let s := (s.wr .CSHT_UCAL_VER 0 0 (BitVec.ofNat 32 q.sheet.ucalVer)).setB F.CSHT_STATUS_ucal_dirty false
    { s with sheets := { s.sheets with applying := some ⟨some h, 0, q.sheet.version, slotVersion former, x.2.1, x.2.2, sl⟩ } }

/-- A commit at its instant: the conditions hold still, or it ends with the status that refuses it. -/
def commitAt (s : State) (h : CmdHdr) (a : CshtCommitArgs) : State :=
  match commitStatus s a with
  | some st => finish s h 0x61 st []
  | none => commitNow s h a

/-- CSHT_COMMIT (R339, R348, R457). -/
def execCshtCommit (h : CmdHdr) (a : CshtCommitArgs) (s : State) : Host.Outcome State Fault Refusal :=
  if !h.mbz ∨ 1 < a.trigger ∨ 10 ^ 9 ≤ a.ns ∨ 2 ^ 48 ≤ a.sec ∨ (a.confirm ≠ 0 ∧ (a.confirm < 10 ∨ 3600 < a.confirm)) then .next (badArg s h 0x61)
  else if 4 ≤ a.ts then .next (complete s h 0x61 .notFound [])
  else if a.trigger = 1 ∧ (tsRuns s a.ts = false ∨ instantPast s a.ts a.sec a.ns 0 = true) then .next (badArg s h 0x61)
  else match commitStatus s a with
    | some st => .next (complete s h 0x61 st [])
    | none =>
      if a.trigger = 1 ∧ s.hs.shclk = false then .next (complete s h 0x61 .busy [])
      else
        let s := begins s h 0x61
        if a.trigger = 0 then .next (commitNow s h a)
        else .next (atTsWait s ⟨h, .cshtCommit a, a.ts, a.sec, a.ns, 0⟩)

/-- CSHT_APPLY_END (R339, R341): the completion and the event of the apply that ran. -/
def execCshtApplyEnd (s : State) : Host.Outcome State Fault Refusal :=
  match s.sheets.applying with
  | none => .next s
  | some x =>
    let s := { s.setB F.CSHT_STATUS_applying false with sheets := { s.sheets with applying := none } }
    let rp := s.f F.CSHT_STATUS_restart_pending
    if x.cause = 0 then
      let p : Layout := [(0, 4, x.new), (4, 4, x.prev), (8, 2, satNat 16 x.refused), (10, 2, satNat 16 x.clamped), (12, 1, rp)] ++ slateLayout 16 x.slate
      let s := match x.hdr with
        | some h => finish s h 0x61 .ok p
        | none => s
      .next (logEvent s 3 0x0C01 [(0, 4, x.new), (4, 4, x.prev)])
    else
      let s := match x.hdr with
        | some h => finish s h 0x63 .ok [(0, 4, x.new), (4, 2, satNat 16 x.refused), (6, 2, satNat 16 x.clamped), (8, 1, rp)]
        | none => s
      .next (logEvent s 3 0x0C03 [(0, 4, x.prev), (4, 1, x.cause)])

/-! ### Confirm and revert (R340-R343, R376) -/

/-- The GOVERNOR sections of a sheet as one: a later section stands over an earlier one. -/
def mergeGov (gs : List GovSection) : GovSection :=
  gs.foldl (fun m g => ⟨m.set ||| g.set, (m.raise &&& ((2 ^ 39 - 1) ^^^ (g.set % 2 ^ 39))) ||| g.raise,
    (List.range 39).map (fun b => if g.set.testBit b then (g.values[b]?).getD 0 else (m.values[b]?).getD 0)⟩) ⟨0, 0, []⟩

/-- CSHT_CONFIRM (R338, R340, R348, R376). -/
def execCshtConfirm (h : CmdHdr) (version : Nat) (s : State) : Host.Outcome State Fault Refusal :=
  if !h.mbz then .next (badArg s h 0x62)
  else if version ≠ slotVersion s.sheets.active then .next (complete s h 0x62 .staleVersion [])
  else if !s.sheets.confirm then .next (complete s h 0x62 .notFound [])
  else
    let s := directoryWrite { s with sheets := { s.sheets with confirm := false, trial := 0 } }
    let s := match s.sheets.active with
      | some q => if lcState s = 2 ∧ q.sheet.signer = 0 ∧ q.sheet.gov ≠ [] then floorRaise s (mergeGov q.sheet.gov) else s
      | none => s
    .next (complete (logEvent s 3 0x0C02 [(0, 4, version)]) h 0x62 .ok [(0, 4, version)])

/-- The slot roles of a revert (R338). -/
def revertRoles (s : State) (cause : Nat) : State :=
  let x := s.sheets
  let t := { s with sheets := { x with staged := x.active, active := x.previous, previous := none, confirm := false, trial := 0, undo := none } }
  (directoryWrite t).setF F.CSHT_STATUS_revert_cause cause

/-- A revert (R341, R343): the undo list is written back in reverse order, or waits for a restart; user calibration becomes PREVIOUS's. -/
def revertNow (s : State) (h : Option CmdHdr) (cause : Nat) : State :=
  let x := s.sheets
  let s := revertRoles s cause
  let rp := x.undo.isNone || restartPart x.active != restartPart x.previous
  let s := if rp then s.setB F.CSHT_STATUS_restart_pending true else s
  let y : Applied := ((x.undo.getD []).reverse).foldl (applyEntry true) (s.setB F.CSHT_STATUS_applying true, 0, 0)
  let y := applyUcal (applyWindows y) ((x.previous.map (fun q => q.sheet.ucal)).getD [])
  let s := countApply y
  let uv := (x.previous.map (fun q => q.sheet.ucalVer)).getD 0
  let s := (s.wr .CSHT_UCAL_VER 0 0 (BitVec.ofNat 32 uv)).setB F.CSHT_STATUS_ucal_dirty false
  { s with sheets := { s.sheets with applying := some ⟨h, cause, slotVersion x.previous, slotVersion x.active, y.2.1, y.2.2, Slate.none⟩ } }

/-- CSHT_REVERT (R341, R343, R348). -/
def execCshtRevert (h : CmdHdr) (expected : Nat) (s : State) : Host.Outcome State Fault Refusal :=
  if !h.mbz then .next (badArg s h 0x63)
  else if s.sheets.applying.isSome then .next (complete s h 0x63 .busy [])
  else if s.sheets.previous.isNone && s.sheets.undo.isNone then .next (complete s h 0x63 .notFound [])
  else if expected ≠ slotVersion s.sheets.active then .next (complete s h 0x63 .staleVersion [])
  else .next (revertNow (begins s h 0x63) (some h) 1)

/-- Seconds of the confirm deadline that are left, rounded up (R340). -/
def confirmLeft (s : State) : Nat := if s.sheets.confirm then s.sheets.deadline - (s.ticks - s.sheets.since) / 625000000 else 0

/-- The confirm deadline runs, and `n` seconds of it or fewer remain (R340): at a trial boot it runs from the entry to RUN only. -/
def confirmWithin (s : State) (n : Nat) : Bool :=
  s.sheets.confirm && s.sheets.deadline != 0 && decide (s.sheets.deadline * 625000000 ≤ s.ticks - s.sheets.since + n * 625000000)

/-- CSHT_DEADLINE_WARN (R340): warn seconds remain, once for each deadline that is not shorter. -/
def execCshtDeadlineWarn (s : State) : Host.Outcome State Fault Refusal :=
  let w := s.f F.CSHT_CFG_warn
  .next (if w != 0 && decide (w ≤ s.sheets.deadline) && confirmWithin s w && !confirmWithin s 0 && !s.sheets.warned then
      logEvent { s with sheets := { s.sheets with warned := true } } 3 0x0C04 [(0, 4, slotVersion s.sheets.active), (4, 2, w)]
    else s)

/-- CONFIRM_DEADLINE_EXPIRY (R340, R341): the deadline has ended, and no apply runs. -/
def execConfirmDeadlineExpiry (s : State) : Host.Outcome State Fault Refusal :=
  .next (if confirmWithin s 0 && s.sheets.applying.isNone then revertNow s none 2 else s)

/-- CSHT_READ (R348). -/
def execCshtRead (h : CmdHdr) (a : CshtReadArgs) (s : State) : Host.Outcome State Fault Refusal :=
  if !h.mbz ∨ 2 < a.slot ∨ a.addr = 0 ∨ a.addr % 8 ≠ 0 then .next (badArg s h 0x64)
  else
    let q := match a.slot with
      | 0 => s.sheets.staged
      | 1 => s.sheets.active
      | _ => s.sheets.previous
    match q with
    | none => .next (complete s h 0x64 .notFound [])
    | some q =>
      let n := q.sheet.image.length
      if a.length < n then .next (badArg s h 0x64)
      else .next (complete (s.emit (.mem a.addr n [(0, n, leVal q.sheet.image)])) h 0x64 .ok [(0, 4, n), (4, 4, q.sheet.version)])

end Sys2Proof.Machine
end

