-- ==== Sys2Proof/Machine/Power.lean ====
section
/-! DEFINITION. Power, thermal limits, run states, boot and shutdown (19_power_startup.md), with what the other chapters say of boot. -/
namespace Sys2Proof.Machine
open Sys2Proof

/-! ### Reset (R394, R412, R422) -/

/-- Registers that keep their whole value across RESET: OTP, the battery and the always-on domain (R283, R349, R363, R394, R399, R413, R451). -/
def keptReg (n : RegName) : Bool :=
  n == .LOG_SEQ || n == .LOG_LW_VALID_LO || n == .LOG_LW_VALID_HI || n == .LOG_LW_DROP || n == .RAN_EPOCH_MAX || n == .STV_TAMP_STATUS || n == .STV_ROLLBACK
    || n == .LC_STATE || n == .LC_OWNER_HASH || n == .LC_UNLOCK || n == .GLOBAL_VERSION || n == .GLOBAL_DEVID_LO || n == .GLOBAL_DEVID_HI || n == .PWR_RAIL

/-- The fields that keep their value across RESET in registers that otherwise do not (R351, R364, R376, R402, R404, R406). -/
def keptFields : List Fld :=
  [F.GOV_STATUS_raises, F.BIST_STATUS_summary_valid, F.BIST_STATUS_brownout, F.BIST_STATUS_tamper_since, F.LOG_STATUS_media_dead, F.STV_STATUS_tampered,
    F.STV_STATUS_negative_valid]

/-- The device enters RESET (R412, R422): every block at reset; the battery and always-on domains, OTP, QSPI and the log ring keep their state. -/
def deviceReset (s : State) (cause : Nat) : State :=
  let t := { State.reset with regs := s.regs.filter (fun p => keptReg p.1.name) }
  let t := (keptFields.foldl (fun t d => t.setF d (s.f d)) t).setF F.RAN_CLAIM_value s.ran.slot
  let log := { LogSt.reset with cells := s.log.cells, lastWords := s.log.lastWords, rtcSec := s.log.rtcSec, rtcAt := s.log.rtcAt, rtcValid := s.log.rtcValid }
  let sheets := { SheetSt.reset with staged := s.sheets.staged, active := s.sheets.active, previous := s.sheets.previous, dirSeq := s.sheets.dirSeq, trial := s.sheets.trial, confirm := s.sheets.confirm }
  let fw := { FwSt.reset with slots := s.fw.slots, preferred := s.fw.preferred, trial := s.fw.trial, trialCount := s.fw.trialCount, seq := s.fw.seq }
  let t := { t with log := log, sheets := sheets, fw := fw, gnss := { GnssSt.reset with image := s.gnss.image }, gov := { GovSt.reset with floorRec := s.gov.floorRec }, stv := { StvSt.reset with negative := s.stv.negative, tampCopy := s.stv.tampCopy },
                    ran := { RanSt.reset with slot := s.ran.slot, epochValid := s.ran.epochValid }, wrap := { WrapSt.reset with summary := s.wrap.summary, tamperSince := s.wrap.tamperSince } }
  let t := { t with pwr := { PwrSt.reset with inReset := true, brown := s.pwr.brown, coreLost := s.pwr.coreLost, vioLost := s.pwr.vioLost, allLost := s.pwr.allLost }, ticks := s.ticks, fresh := s.fresh, out := s.out, pending := s.pending }
  t.emit (.reset cause)

/-- RESET_N_ASSERT (R422). -/
def execResetNAssert (s : State) : Host.Outcome State Fault Refusal := .next (if s.pwr.inReset then s else deviceReset { s with pwr := { s.pwr with brown := 0, coreLost := false, vioLost := false, allLost := false } } 0)

/-- The brown-out record of the supply monitor (R399, R406): its slate is not valid, its time is the RTC's. -/
def brownoutRecord (s : State) (rails : Nat) : State :=
  let seq := (s.rg .LOG_SEQ).toNat
  let s := lwWrite s ⟨2, 1, seq, Slate.none, 0x0105, [(0, 1, rails)], 32, false⟩
  s.wr .LOG_SEQ 0 0 (BitVec.ofNat 32 (seq + 1))

/-- BROWNOUT (R406, R412): rails fall below their thresholds. After a completed wrap test the fall is not a brown-out. -/
def execBrownout (rails : Nat) (s : State) : Host.Outcome State Fault Refusal :=
  let fell := rails % 64 &&& s.f F.PWR_RAIL_in_range
  if fell = 0 then .next s
  else
    let done := s.f F.PWR_RUN_run_state == 6
    let s := s.setF F.PWR_RAIL_in_range (s.f F.PWR_RAIL_in_range - fell)
    let lost := fell.testBit 0 || (s.pwr.inReset && s.pwr.coreLost)
    let brown := if done then 0 else if s.pwr.inReset then s.pwr.brown ||| fell else fell
    let s := { s with pwr := { s.pwr with brown := brown, coreLost := lost, vioLost := s.pwr.vioLost || fell.testBit 5, allLost := s.pwr.allLost || s.f F.PWR_RAIL_in_range == 0 }, gnss := { s.gnss with image := if fell.testBit 0 then none else s.gnss.image } }
    let s := if done || s.pwr.inReset then s
      else brownoutRecord ((s.setB F.BIST_STATUS_brownout true).incF F.PWR_RAIL_brownouts) fell
    .next (if s.pwr.inReset then s else deviceReset s 1)

/-- RAIL_BACK_IN_RANGE (R412): a rail has been back in its range for 1 ms. -/
def execRailBackInRange (rail : Nat) (s : State) : Host.Outcome State Fault Refusal :=
  .next (if rail < 6 then s.setF F.PWR_RAIL_in_range (s.f F.PWR_RAIL_in_range ||| 2 ^ rail) else s)

/-! ### Boot (R342-R345, R351, R364, R365, R372, R373, R400, R406, R424) -/

/-- Last words in the order of their sequences (R393, R400). -/
def insertWord (w : LastWord) : List LastWord → List LastWord
  | [] => [w]
  | v :: l => if seqBefore w.record.seq v.record.seq then w :: v :: l else v :: insertWord w l

/-- The valid last words are copied into the ring before any other record of the boot (R400). -/
def lastWordsCopy (s : State) : State :=
  let ws := ((List.range 64).filterMap (fun k => tget s.log.lastWords none k)).foldl (fun l w => insertWord w l) []
  ws.foldl (fun t w =>
    let seq := (t.rg .LOG_SEQ).toNat
    let r := { w.record with seq := seq, copied := true, length := 64, data := w.record.data.filter (fun d => decide (d.1 < 28)) ++ [(28, 4, w.rtcSec), (32, 2, w.rtcTicks)] }
    ({ t with log := { t.log with queue := t.log.queue ++ [r] } }).wr .LOG_SEQ 0 0 (BitVec.ofNat 32 (seq + 1))) s

/-- The TRNG start-up test, and the negative (R351, R357, R364): where the test fails no good reseed has been. -/
def bootStavris (s : State) (b : BootIn) : State :=
  let s := if b.trngOk then { s.setB F.STV_STATUS_trng_ok true with stv := { s.stv with reseedAt := s.ticks } } else { trngFails s with stv := { (trngFails s).stv with stale := true } }
  let none_ : State := { s.setB F.STV_STATUS_negative_valid false with stv := { s.stv with negative := none } }
  if tampered s then none_
  else if s.stv.negative.isSome && b.negativeOk && b.vbatOk then s.setB F.STV_STATUS_negative_valid true
  else if b.trngOk then logEvent ((drawNegative none_).setB F.STV_STATUS_negative_new true) 1 0x0D05 []
  else none_

/-- Firmware slot `k` runs (R372). -/
def fwRun (s : State) (k : Nat) (x : FwImage) (trial : Bool) : State :=
  let s := { s with fw := { s.fw with running := k }, stv := { s.stv with secVersion := x.security } }
  let s := s.wr .GLOBAL_FW_VERSION 0 0 (BitVec.ofNat 32 x.version)
  let s := (s.setF F.GLOBAL_FW_STATE_slot k).setB F.GLOBAL_FW_STATE_trial trial
  event s 0x0E05 [(0, 1, k), (1, 1, bit trial), (4, 4, x.version)]

/-- The boot ROM selects a firmware slot (R367, R372); none passes: the device stays in BOOT. -/
def bootFirmware (s : State) (b : BootIn) : State :=
  let s := { s with fw := { s.fw with slots := [(0, b.fwA), (1, b.fwB)] } }
  let p := s.fw.preferred
  let q := 1 - p
  let spent := s.fw.trial && decide (1 ≤ s.fw.trialCount)
  let xp := tget s.fw.slots none p
  let xq := tget s.fw.slots none q
  if fwPasses s xp && !spent then
    let s := if s.fw.trial then { s with fw := { s.fw with trialCount := 1, seq := s.fw.seq + 1 } } else s
    match xp with
    | some x => fwRun s p x s.fw.trial
    | none => s
  else
    let cause := if fwPasses s xp then 1 else 0
    if fwPasses s xq then
      let s := { s with fw := { s.fw with preferred := q, trial := false, trialCount := 0, seq := s.fw.seq + 1 } }
      let s := logRec s 1 0x0E80 [(0, 1, p), (1, 1, cause), (2, 1, q)]
      match xq with
      | some x => fwRun s q x false
      | none => s
    else
      let s := logRec s 1 0x0E80 [(0, 1, p), (1, 1, cause), (2, 1, 0xFF)]
      { s with pwr := { s.pwr with stopped := true } }

/-- The revert of a failed trial (R341-R343). -/
def bootRevert (s : State) : State :=
  let v := slotVersion s.sheets.active
  logEvent (revertRoles s 3) 3 0x0C03 [(0, 4, v), (4, 1, 3)]

/-- The sheet that boots: a slot that cannot be read, or fails its CRC or signature, is treated as a failed trial (R344). `oks` says of the present
ACTIVE and of what would replace it whether it reads well; `rej` are the areas rejected. -/
def bootPick : List Bool → State → Nat → State × Nat
  | [], s, rej => (s, rej)
  | ok :: l, s, rej => match s.sheets.active with
    | none => (s, rej)
    | some q => if ok then (s, rej) else bootPick l (bootRevert s) (rej ||| 2 ^ q.area)

/-- The directory and the ACTIVE sheet are read, and its BOOT section is applied (R120, R342-R345). -/
def bootSheet (s : State) (b : BootIn) : State :=
  let spent := s.sheets.confirm && decide (1 ≤ s.sheets.trial)
  let s := if spent then bootRevert s else if s.sheets.confirm then directoryWrite { s with sheets := { s.sheets with trial := 1 } } else sheetSync s
  let x := bootPick (if spent then [b.previousOk] else [b.activeOk, b.previousOk]) s 0
  let s := x.1
  let s := if b.fcalOk then s else logRec (s.setB F.CSHT_STATUS_fcal_bad true) 1 0x0C82 []
  match s.sheets.active with
  | none => logRec s 1 0x0C80 [(0, 1, x.2)]
  | some q => q.sheet.boot.foldl (fun t e => if e.2 < 7 then t.wr .SYN_OSC_CFG 0 0 (BitVec.ofNat 32 e.2) else violation t) s

/-- AP0 starts and locks, and SHCLK starts (R120, R129, R131, R424): no rule fixes the band that a part's search finds, nor the time within
the bound of R129. -/
def bootClock (s : State) : State :=
  let r := Config.bootLock s.fresh
  let s := apStart { s.nextFresh with loops := { s.loops with osc := true } } 0 false
  dpEvalAll (shclkStart (nextOr s (execApLocked 0 (r % 512) ⟨if apState s 0 = 2 then r / 1024 % 9 else r / 1024 % 61, r.testBit 9⟩ s)))

/-- BIST_CFG.force_post as the ACTIVE sheet sets it: the register itself is at reset until SETUP (R406). -/
def bootForcesPost (s : State) : Bool :=
  s.sheets.active.any (fun q => match q.sheet.regs.reverse.find? (fun e => e.1 == RegName.BIST_CFG.base) with
    | some e => e.2.testBit F.BIST_CFG_force_post.lo
    | none => false)

/-- The power-on self-test is skipped (R402, R405, R406). -/
def postSkipped (s : State) : Bool :=
  match s.wrap.summary with
  | none => false
  | some w =>
    (w.results.zipIdx.all (fun p => p.1.1 == 1 || (p.2 == 15 && lcState s == 4))) && decide (((rtcNow s).1 + 2 ^ 32 - w.rtcSec) % 2 ^ 32 < 2592000)
      && !s.fb F.BIST_STATUS_brownout && !s.wrap.tamperSince && !bootForcesPost s && !s.fb F.LOG_STATUS_media_dead

/-- BIST_RES from the summary (R406). -/
def resFromSummary (s : State) (w : WrapSummary) : State :=
  w.results.zipIdx.foldl (fun t p => ((t.setF F.BIST_RES_result p.1.1 p.2).setB F.BIST_RES_full_set w.full p.2).setF F.BIST_RES_coverage p.1.2 p.2) s

/-- The power-on self-test, run or skipped (R406). -/
def bootSelfTest (s : State) (b : BootIn) : State :=
  let skip := postSkipped s
  let s := if skip then (match s.wrap.summary with
      | some w => resFromSummary s w
      | none => s)
    else (List.range 16).foldl (fun t k => if blockLeftOut t k then t else
      blockEnd t k false (b.failBlocks.contains k) (paced t ((blockFigures false k).1 * 1000)) 1) s
  let s := (s.setF F.BIST_FAIL_fail (blocksWith s 2)).setF F.BIST_FAIL_not_run (blocksWith s 0)
  let s := s.setF F.BIST_STATUS_post (if skip then 0 else if bootForcesPost s then 2 else 1)
  let s := event s 0x0F05 [(0, 1, bit (!skip)), (1, 2, s.f F.BIST_FAIL_fail)]
  if s.log.isolated.contains 1 then { s with pwr := { s.pwr with stopped := true } } else s

/-- The plug-ins of the ACTIVE sheet are loaded and started (R373). -/
def bootPlugins (s : State) (b : BootIn) : State :=
  ((s.sheets.active.map (fun q => q.sheet.plugins)).getD []).foldl (fun t p =>
    let ok := !b.badPlugins.contains p.id
    let t := setPlugin t p.id ⟨p.cores, p.flags, ok, ok⟩
    if ok then t else logEvent t 3 0x0E04 [(0, 1, p.id), (1, 1, 3)]) s

/-- Entry to SETUP (R344, R373, R400, R412, R415, R424): the sheet is applied, the boot profile is set, and what preceded the boot is reported. -/
def bootSetup (s : State) (b : BootIn) : State :=
  let s := runSet s 2
  let s := match s.sheets.active with
    | none => s
    | some q => (countApply (sheetApply s q.sheet)).wr .CSHT_UCAL_VER 0 0 (BitVec.ofNat 32 q.sheet.ucalVer)
  let s := (setProfile s (s.f F.PWR_CFG_boot_profile)).setB F.CSHT_STATUS_ucal_dirty false
  let s := event (bootPlugins s b) 0x0F03 [(0, 1, ((List.range 64).filter (fun k => (tget s.log.lastWords none k).isSome)).length)]
  let s := if s.pwr.brown = 0 then s else event (s.setB F.PWR_EVENT_brownout true) 0x0105 [(0, 1, s.pwr.brown)]
  let s := if tampered s then event (s.setB F.NTS_STATUS_root_revoked true) 0x0D01 [(0, 2, s.f F.STV_TAMP_STATUS_latched)] else s
  permEval { s with pwr := { s.pwr with brown := 0, coreLost := false, vioLost := false, allLost := false, bootMs := b.ms, bootAt := s.ticks } }

/-- The battery domain has been without a supply: VIO18 was out of range and VBAT is below its threshold (R351, R413). Its memory is lost: the negative,
the last words, the RTC's time, the wrap summary and the epoch of R283; media_dead goes once the main rails were all gone too (R402). -/
def batteryLost (s : State) : State :=
  if s.pwr.vioLost then
    let s := (((s.wr .LOG_LW_VALID_LO 0 0 0).wr .LOG_LW_VALID_HI 0 0 0).wr .LOG_LW_DROP 0 0 0).setF F.RAN_EPOCH_MAX_value 0
    let s := ((s.setB F.BIST_STATUS_summary_valid false).setB F.BIST_STATUS_tamper_since false).setB F.STV_STATUS_negative_valid false
    let s := { s with log := { s.log with lastWords := [], rtcValid := false }, stv := { s.stv with negative := none },
                      wrap := { s.wrap with summary := none, tamperSince := false }, ran := { s.ran with epochValid := false } }
    let s := s.setF F.PWR_RAIL_brownouts 0
    if s.pwr.allLost then s.setB F.LOG_STATUS_media_dead false else s
  else s

/-- BOOT_SEQUENCE (R342-R345, R351, R367, R372, R373, R377, R394, R400, R406, R411, R424): RESET_N is released with every main rail in range. -/
def execBootSequence (b : BootIn) (s : State) : Host.Outcome State Fault Refusal :=
  if s.f F.PWR_RUN_run_state ≠ 1 ∨ s.pwr.stopped = true ∨ s.f F.PWR_RAIL_in_range ≠ 63 then .next s
  else
    let s := if s.pwr.coreLost then { s.wr .LOG_SEQ 0 0 0 with log := { s.log with cells := [] } } else s
    let s := if b.vbatOk then s else batteryLost s
    let s := { s.setB F.PWR_RAIL_vbat_ok b.vbatOk with pwr := { s.pwr with inReset := false }, ran := { s.ran with slot := b.slot % 2 } }
    let s := s.setF F.RAN_CLAIM_value (2 * (s.f F.RAN_CLAIM_value / 2) + b.slot % 2)
    let s := if s.pwr.coreLost || !b.vbatOk then s.wr .LC_UNLOCK 0 0 0 else s
    let s := { s with stv := { s.stv with tampCopy := s.rg .STV_TAMP_CFG } }
    let s := bootFirmware (bootStavris (tamperEval (runSet (lastWordsCopy (s.setF F.PWR_RUN_run_state 0)) 1)) b) b
    if s.pwr.stopped then .next s
    else
      let s := bootSelfTest (bootClock (bootSheet s b)) b
      if s.pwr.stopped then .next s
      else .next (bootSetup (floorBoot (stvOpen s) b.floorOk) b)

/-! ### RUN (R342, R422, R425) -/

/-- The status with which R159 would refuse to start output `o`, if any. -/
def bootOutRefusal (s : State) (o : Nat) : Option Status :=
  if outCfgBad s o then some .badArg
  else if !s.hs.shclk || outBusy s o then some .busy
  else if s.log.isolated.contains 9 then some .hwFault
  else if tjLimit s || outSpreads s o then some .deniedGovernor
  else none

/-- The boot outputs start together (R425); each one that would be refused stays STOPPED and is logged. -/
def bootOutputs (s : State) : State :=
  let os := maskOuts (s.rg .PWR_BOOT_OUT).toNat
  let good := os.filter (fun o => (bootOutRefusal s o).isNone)
  let t := os.foldl (fun t o => match bootOutRefusal s o with
    | some st => logRec t 3 0x0181 [(0, 1, o), (1, 1, st.code)]
    | none => t) s
  good.foldl (fun t o =>
    let t := outArm false t o
    if outPermitted t o then t else t.setF F.OUT_STATUS_state 3 o) t

/-- TS0 is set from the RTC (R425). -/
def seedTs0 (s : State) : State :=
  if tsRuns s 0 && !(tsc s 0).valid && s.log.rtcValid then
    let r := rtcNow s
    loadTime s 0 (r.1 * unitsPerSec + r.2 * unitsPerSec / 32768)
  else s

/-- Entry to RUN (R422); at the first after BOOT: the trial's confirm deadline restarts, TS0 is seeded, the boot outputs start (R342, R424, R425). -/
def enterRun (s : State) : State :=
  let first := !s.pwr.ran
  let s := runSet { s with pwr := { s.pwr with ran := true } } 3
  if first then
    let s := s.setF F.PWR_BOOT_TIME_value (satNat 16 (s.pwr.bootMs + (s.ticks - s.pwr.bootAt) / 625000))
    let s := if s.sheets.confirm && s.sheets.undo.isNone then
      { s with sheets := { s.sheets with deadline := s.f F.CSHT_CFG_confirm_def, since := s.ticks, warned := false } } else s
    bootOutputs (ranEnterRun (seedTs0 s))
  else ranEnterRun s

/-- AUTO_RUN (R422): at the first SETUP after BOOT. -/
def execAutoRun (s : State) : Host.Outcome State Fault Refusal :=
  .next (if s.f F.PWR_RUN_run_state == 2 && !s.pwr.ran && s.fb F.PWR_CFG_auto_run && s.sheets.applying.isNone then enterRun s else s)

/-! ### Shutdown (R428) -/

/-- A register with a one-bit field cleared. -/
def cleared (s : State) (d : Fld) (i : Nat) : Word := fput (s.rg d.reg i) d.hi d.lo 0

/-- Step 2: every PTP instance, NTP instance and peer stops. -/
def stopServices (s : State) : State :=
  let s := (List.range 4).foldl (fun t i => nextOr t (execPtpInstEnable i (cleared t F.PTP_INST_CFG_enable i) t)) s
  let s := (List.range 4).foldl (fun t i => nextOr t (execNtpInstEnable i (cleared t F.NTP_INST_CFG_enable i) t)) s
  (List.range 8).foldl (fun t i => nextOr t (execNtpPeerEnableWrite i (cleared t F.NTP_PEER_CFG_enable i) t)) s

/-- Step 3: every output and every cue stops. -/
def stopOutputs (s : State) : State :=
  let s := (List.range 32).foldl (fun t o => if outState t o = 0 then t else outStopped t o 1 false) s
  cueSettle ((List.range 64).foldl (fun t g => if cueIdle t g then t else cueFinish t g 2) s)

/-- Step 4: ports DISABLED, Ranin lanes down, the GNSS baseband OFF. -/
def stopLinks (s : State) : State :=
  let s := (List.range 4).foldl (fun t p => nextOr t (execPortCfgWrite p (cleared t F.PORT_CFG_enable p) t)) s
  let s := (List.range 4).foldl (fun t l => nextOr t (execRanLaneState l false false t)) s
  if s.f F.GNSS_STATUS_pstate = 2 then gnssDown s 0 else s.setF F.GNSS_STATUS_pstate 0

/-- Step 6: every ring stops as under RING_STOP. -/
def stopRings (s : State) : State :=
  (List.range 64).foldl (fun t r =>
    if ringState t r = 3 then ringDisable t r
    else if ringState t r ≠ 1 then t
    else
      let t := t.setF F.HOST_RING_STATUS_state 2 r
      match ringType t r with
      | 2 => txdStop t r
      | 3 => rxdStop t r
      | _ => t) s

/-- Step 1 of SHUTDOWN in a device that was LEAD, after the handback (R428): FENCED with fence_cause 2, and one CLAIM frame. -/
def shutdownFence (s : State) : State := sendClaim (if ranRole s = 1 then fence s 2 else s.setF F.RAN_STATUS_fence_cause 2)

/-- The steps of SHUTDOWN after the handback (R428): the role of a device that was LEAD, services, outputs, links, keys, the completion, rings, and
the wrap test begins. -/
def shutdownRest (s : State) (h : CmdHdr) (lead : Bool) : State :=
  let s := if lead then shutdownFence s else s
  let s := revokeAll (stopLinks (stopOutputs (stopServices s)))
  let s := permEval (runSet s 5)
  wrapBegin (stopRings (finish s h 0x03 .ok [(0, 1, 5)]))

/-- A SHUTDOWN that waits goes on once its handback has ended (R428). -/
def shutdownResume (s : State) : State :=
  match s.pwr.shutdown with
  | some h => if s.ran.handback.isNone then shutdownRest { s with pwr := { s.pwr with shutdown := none } } h true else s
  | none => s

/-- SHUTDOWN (R428): a LEAD whose peer is ready hands back first. -/
def shutdownBegin (s : State) (h : CmdHdr) : State :=
  let s := begins s h 0x03
  if ranRole s = 1 ∧ handbackReason s = 0 then
    ranSend { s with ran := { s.ran with handback := some h, sentHandback := true, handbackAt := s.ticks }, pwr := { s.pwr with shutdown := some h } } "HANDBACK" [("claim", ownClaim s)]
  else shutdownRest s h (ranRole s == 1)

/-- RUN_STATE (R311, R327, R422, R423, R428). -/
def execRunState (h : CmdHdr) (target : Nat) (s : State) : Host.Outcome State Fault Refusal :=
  let st := s.f F.PWR_RUN_run_state
  if !h.mbz ∨ h.ring ≠ 0 ∨ target = 0 ∨ 3 < target then .next (badArg s h 0x03)
  else if (target = 1 ∧ st = 3) ∨ (target = 2 ∧ st = 2) ∨ (target = 3 ∧ st = 5) then .next (complete s h 0x03 .ok [(0, 1, st)])
  else if st < 2 ∨ 4 < st then .next (badArg s h 0x03)
  else if st = 4 ∧ target ≠ 3 then .next (deniedBy s h 0x03 0x45)
  else if s.sheets.applying.isSome || s.ran.handback.isSome then .next (complete s h 0x03 .busy [])
  else match target with
    | 1 => .next (complete (enterRun s) h 0x03 .ok [(0, 1, 3)])
    | 2 => .next (complete (runSet s 2) h 0x03 .ok [(0, 1, 2)])
    | _ => .next (shutdownBegin s h)

/-- RAN_FRAME_RECEIVE (R282, R428). -/
def execRanFrameReceive (f : RanFrame) (s : State) : Host.Outcome State Fault Refusal := .next (shutdownResume (frameArrive f s))

/-- HANDBACK_TIMEOUT (R297, R428): 10 ms after the HANDBACK. -/
def execHandbackTimeout (s : State) : Host.Outcome State Fault Refusal := .next (shutdownResume (handbackEnd s))

/-! ### The thermal governor (R416-R418, R429) -/

/-- Threshold of a step in 1/16 °C (R416). -/
def thermalAt (k : Nat) : Int := 16 * (100 + 5 * (k : Int))

/-- Samples in a row that enter a step (R416). -/
def thermalNeed (k : Nat) : Nat := if k = 5 then 1 else 4

/-- A sample enters the runs above each threshold and below each leaving threshold. -/
def thermalRuns (s : State) (tj : Int) : State :=
  (List.range 5).foldl (fun t k =>
    let k := k + 1
    let a := if thermalAt k ≤ tj then satNat 8 (tget t.pwr.above 0 k + 1) else 0
    let b := if tj < thermalAt k - 80 then satNat 8 (tget t.pwr.below 0 k + 1) else 0
    { t with pwr := { t.pwr with above := tset t.pwr.above k a, below := tset t.pwr.below k b } }) s

/-- The step after a sample: the highest that is entered, else the highest held that is not left (R416). -/
def thermalNext (s : State) : Nat :=
  let cur := s.f F.PWR_RUN_therm_step
  match [5, 4, 3, 2, 1].find? (fun k => decide (cur < k) && decide (thermalNeed k ≤ tget s.pwr.above 0 k)) with
  | some k => k
  | none => ([5, 4, 3, 2, 1].find? (fun k => decide (k ≤ cur) && decide (tget s.pwr.below 0 k < 16))).getD 0

/-- Entry to step 3 and its end (R201, R209, R416): ports that went down come back up by themselves. -/
def thermalShed (s : State) (old new : Nat) : State :=
  if old < 3 ∧ 3 ≤ new then portThermal (gnssShed s true)
  else if 3 ≤ old ∧ new < 3 then gnssShed s false
  else s

/-- Entry to SAFE and its end (R417, R418). -/
def thermalSafe (s : State) (old new : Nat) : State :=
  let st := s.f F.PWR_RUN_run_state
  if old < 4 ∧ 4 ≤ new ∧ (st = 2 ∨ st = 3) then runSet ({ s with pwr := { s.pwr with saved := st } }.setB F.PWR_EVENT_safe true) 4
  else if 4 ≤ old ∧ new < 4 ∧ st = 4 then runSet s s.pwr.saved
  else s

/-- Entry to step 5 (R416, R429): outputs, cue pins, bounds, a LEAD; in WRAP the test ends. -/
def thermalLimit (s : State) (old new : Nat) : State :=
  if old < 5 ∧ new = 5 then
    let s := { s.setB F.PWR_EVENT_t125 true with pwr := { s.pwr with boundHeld := [0, 1, 2, 3] } }
    let s := fenceLead (cueCutAll (outStopAll s 4)) 4
    match s.wrap.run with
    | some w => wrapEnd ((List.range 16).foldl (fun t b => if w.block ≤ b then blockRes t b 0 w.full 0 else t) s) w.full
    | none => s
  else s

/-- A change of step (R416): the record, the event, the cap, and each step's action. -/
def thermalSet (s : State) (tj : Int) (new : Nat) : State :=
  let old := s.f F.PWR_RUN_therm_step
  let s := (s.setF F.PWR_RUN_therm_step new).setF F.PWR_RUN_cap (if 2 ≤ new then 50 else 100)
  let s := if old < new then s.setB F.PWR_EVENT_step true else s
  let s := logEvent s (if old < new then 4 else 5) 0x0104 [(0, 1, old), (1, 1, new), (2, 2, twos 16 tj)]
  thermalLimit (thermalSafe (thermalShed s old new) old new) old new

/-- THERMAL_SAMPLE (R416-R418, R429): the hottest of the four sensors in 1/16 °C. The governor acts in SETUP, RUN, SAFE and WRAP. -/
def execThermalSample (tj : Int) (s : State) : Host.Outcome State Fault Refusal :=
  if s.pwr.inReset then .next s
  else
    let s := s.setI F.PWR_THERM_tj tj
    let s := if s.fi F.PWR_THERM_tj_max < s.fi F.PWR_THERM_tj then s.setI F.PWR_THERM_tj_max tj else s
    let st := s.f F.PWR_RUN_run_state
    if st < 2 ∨ 5 < st then .next s
    else
      let s := thermalRuns s tj
      let new := thermalNext s
      .next (if new = s.f F.PWR_RUN_therm_step then s else thermalSet s tj new)

end Sys2Proof.Machine
end

