-- ==== Sys2Proof/Machine/AtTs.lean ====
section
/-! DEFINITION. The commands that wait for an instant on a trigger timescale (R457): the instant reached, and the trigger timescale stopped. -/
namespace Sys2Proof.Machine
open Sys2Proof

/-- The command of a ring and tag that waits for an instant, the oldest first. -/
def atTsFind (s : State) (r tag : Nat) : Option AtTs := s.host.atTs.find? (fun w => w.hdr.ring == r && w.hdr.tag == tag)

/-- The state without one command that waited. -/
def atTsDrop (s : State) (w : AtTs) : State := { s with host := { s.host with atTs := s.host.atTs.erase w } }

/-- The trigger timescale has reached or passed the command's instant (R457). -/
def atTsReached (s : State) (w : AtTs) : Bool :=
  tsRuns s w.trigger && decide (timeUnits w.sec w.ns w.frac ≤ counterUnits (tsc s w.trigger).cnt)

/-- The command takes effect at its instant (R457). -/
def atTsApply (s : State) (w : AtTs) : State :=
  match w.cmd with
  | .tsSet a => applyTsSet s w.hdr a
  | .tsSplice a => applySplice s w.hdr a
  | .outStart a => outStartDone s w.hdr a
  | .outStop a => outStopDone s w.hdr a
  | .cshtCommit a => commitAt s w.hdr a
  | _ => s

/-- AT_TS_INSTANT_REACHED (R33, R457): after `ticks` ticks the trigger timescale has reached the instant of the command of ring `ring_` with this
tag; `met`: its value had completed its crossing, else it ends with TIMEOUT and changes nothing. -/
def execAtTsInstantReached (ring_ tag ticks : Nat) (met : Bool) (s : State) : Host.Outcome State Fault Refusal :=
  let s := advance s ticks
  match atTsFind s ring_ tag with
  | none => .next s
  | some w =>
    if !s.hs.shclk || !atTsReached s w then .next s
    else if met then .next (atTsApply (atTsDrop s w) w)
    else .next (timeoutAtTs s (fun v => v == w))

/-- AT_TS_TRIGGER_STOPPED (R40, R457): the trigger timescale of a waiting command does not run, or SHCLK is absent: TIMEOUT, and nothing
changes. -/
def execAtTsTriggerStopped (ring_ tag : Nat) (s : State) : Host.Outcome State Fault Refusal :=
  match atTsFind s ring_ tag with
  | none => .next s
  | some w => if tsRuns s w.trigger && s.hs.shclk then .next s else .next (timeoutAtTs s (fun v => v == w))

end Sys2Proof.Machine
end

