-- ==== Sys2Proof/Machine/Commit.lean ====
section
/-! DEFINITION. The commit point of a command that a CMD ring has fetched (R310, R311, R313, R323, R339). -/
namespace Sys2Proof.Machine
open Sys2Proof

/-- A fetched command reaches its commit point with its descriptor's header. -/
def hostCmd (h : CmdHdr) (c : HostCmd) (s : State) : Host.Outcome State Fault Refusal :=
  match c with
  | .tsSet a => Sys2Proof.Machine.execTsSet h a s
  | .tsStep a => Sys2Proof.Machine.execTsStep h a s
  | .tsSlew a => Sys2Proof.Machine.execTsSlew h a s
  | .tsSplice a => Sys2Proof.Machine.execTsSplice h a s
  | .tsLeap a => Sys2Proof.Machine.execTsLeap h a s
  | .tsReadView view form => Sys2Proof.Machine.execTsReadView h view form s
  | .refConfirm slot action => Sys2Proof.Machine.execRefConfirm h slot action s
  | .ensProvRead ts addr => Sys2Proof.Machine.execEnsProvRead h ts addr s
  | .refFeed a => Sys2Proof.Machine.execRefFeed h a s
  | .ensForce ts op => Sys2Proof.Machine.execEnsForce h ts op s
  | .clapArm ch count => Sys2Proof.Machine.execClapArm h ch count s
  | .clapDisarm ch => Sys2Proof.Machine.execClapDisarm h ch s
  | .clapCal lane => Sys2Proof.Machine.execClapCal h lane s
  | .clapSnapshot ch => Sys2Proof.Machine.execClapSnapshot h ch s
  | .apRelock ap mode => Sys2Proof.Machine.execApRelock h ap mode s
  | .dpRetune a => Sys2Proof.Machine.execDpRetune h a s
  | .dpAlignRun dp => Sys2Proof.Machine.execDpAlignRun h dp s
  | .apBandClear ap => Sys2Proof.Machine.execApBandClear h ap s
  | .outStart a => Sys2Proof.Machine.execOutStart h a s
  | .outStop a => Sys2Proof.Machine.execOutStop h a s
  | .outSwitch out dir => Sys2Proof.Machine.execOutSwitch h out dir s
  | .cueArm a => Sys2Proof.Machine.execCueArm h a s
  | .cueCancel a => Sys2Proof.Machine.execCueCancel h a s
  | .cueQuery cue => Sys2Proof.Machine.execCueQuery h cue s
  | .gnssAcq a => Sys2Proof.Machine.execGnssAcq h a s
  | .gnssChStart a => Sys2Proof.Machine.execGnssChStart h a s
  | .gnssChStop ch => Sys2Proof.Machine.execGnssChStop h ch s
  | .gnssPower op retain => Sys2Proof.Machine.execGnssPower h op retain s
  | .gnssSpoof op checks sols => Sys2Proof.Machine.execGnssSpoof h op checks sols s
  | .ptpClientFind a => Sys2Proof.Machine.execPtpClientFind h a s
  | .ptpClientCancel index => Sys2Proof.Machine.execPtpClientCancel h index s
  | .ptpKeyRoll inst => Sys2Proof.Machine.execPtpKeyRoll h inst s
  | .ptpUmaster a => Sys2Proof.Machine.execPtpUmaster h a s
  | .ptpParentRead inst => Sys2Proof.Machine.execPtpParentRead h inst s
  | .ntsCookieMint a => Sys2Proof.Machine.execNtsCookieMint h a s
  | .ntpRlQuery a => Sys2Proof.Machine.execNtpRlQuery h a s
  | .ntpPeerRead peer => Sys2Proof.Machine.execNtpPeerRead h peer s
  | .ranHandback => Sys2Proof.Machine.execRanHandback h s
  | .ranRejoin => Sys2Proof.Machine.execRanRejoin h s
  | .ranPeerRead addr => Sys2Proof.Machine.execRanPeerRead h addr s
  | .nop => Sys2Proof.Machine.execNop h s
  | .abort a => Sys2Proof.Machine.execAbort h a s
  | .ringStop stopRing => Sys2Proof.Machine.execRingStop h stopRing s
  | .runState target => Sys2Proof.Machine.execRunState h target s
  | .profileSet profile => Sys2Proof.Machine.execProfileSet h profile s
  | .govPermit ts => Sys2Proof.Machine.execGovPermit h ts s
  | .unassignedOpcode op => Sys2Proof.Machine.execUnassignedOpcode h op s
  | .cshtStage a => Sys2Proof.Machine.execCshtStage h a s
  | .cshtCommit a => Sys2Proof.Machine.execCshtCommit h a s
  | .cshtConfirm version => Sys2Proof.Machine.execCshtConfirm h version s
  | .cshtRevert expected => Sys2Proof.Machine.execCshtRevert h expected s
  | .cshtRead a => Sys2Proof.Machine.execCshtRead h a s
  | .stvDerive a => Sys2Proof.Machine.execStvDerive h a s
  | .stvRevoke handle => Sys2Proof.Machine.execStvRevoke h handle s
  | .stvKeyInfo handle node => Sys2Proof.Machine.execStvKeyInfo h handle node s
  | .stvCrypt a => Sys2Proof.Machine.execStvCrypt h a s
  | .stvImport a => Sys2Proof.Machine.execStvImport h a s
  | .stvChallenge a => Sys2Proof.Machine.execStvChallenge h a s
  | .stvRespond a => Sys2Proof.Machine.execStvRespond h a s
  | .stvIdentity addr => Sys2Proof.Machine.execStvIdentity h addr s
  | .stvRollbackSet version => Sys2Proof.Machine.execStvRollbackSet h version s
  | .fwStage a => Sys2Proof.Machine.execFwStage h a s
  | .fwSelect slot => Sys2Proof.Machine.execFwSelect h slot s
  | .fwConfirm => Sys2Proof.Machine.execFwConfirm h s
  | .pluginCtl id op => Sys2Proof.Machine.execPluginCtl h id op s
  | .perfSample op => Sys2Proof.Machine.execPerfSample h op s
  | .logRead a => Sys2Proof.Machine.execLogRead h a s
  | .logWrite a => Sys2Proof.Machine.execLogWrite h a s
  | .lwRead addr bad => Sys2Proof.Machine.execLwRead h addr bad s
  | .lwClear mask => Sys2Proof.Machine.execLwClear h mask s
  | .bistIdleRun kind index => Sys2Proof.Machine.execBistIdleRun h kind index s

/-- The commands that only ring 0 takes (R311). -/
def adminOnly (op : Nat) : Bool := decide (2 ≤ op) && decide (op < 16)

/-- The commit point of the front command of ring `r` waits: for the earlier commands under a fence (R310), for room in the CPL ring (R313),
or, unless it is NOP or ABORT, for the end of a commit or revert (R339). -/
def commitHeld (s : State) (r : Nat) (f : Fetched) : Bool :=
  (f.hdr.fence && !(ring s r).running.isEmpty) || cplRoom s (s.f F.HOST_RING_CFG_cpl_ring r) == 0 
    || (s.sheets.applying.isSome && decide (2 ≤ f.cmd.opcode))

/-- COMMAND_COMMIT (R310, R311, R313, R323, R339): the oldest fetched command of a ring reaches its commit point. -/
def execCommandCommit (ring_ : Nat) (s : State) : Host.Outcome State Fault Refusal :=
  match (ring s ring_).fetched with
  | [] => .next s
  | f :: rest =>
    if commitHeld s ring_ f then .next s
    else
      let s := perf (setRing s ring_ { ring s ring_ with fetched := rest }) 0x0001 ring_
      if adminOnly f.cmd.opcode && ring_ != 0 then .next (badArg s f.hdr f.cmd.opcode)
      else hostCmd f.hdr f.cmd s

end Sys2Proof.Machine
end

