-- ==== Sys2Proof/Machine/Dispatch.lean ====
section
/-! DEFINITION. One arm for each command: the one place where a command meets its meaning. -/
namespace Sys2Proof.Machine
open Sys2Proof

def exec (i : Instr) (s : State) : Host.Outcome State Fault Refusal :=
  match i with
  | .tsSet h a => Sys2Proof.Machine.execTsSet h a s
  | .tsStep h a => Sys2Proof.Machine.execTsStep h a s
  | .tsSlew h a => Sys2Proof.Machine.execTsSlew h a s
  | .tsSplice h a => Sys2Proof.Machine.execTsSplice h a s
  | .tsLeap h a => Sys2Proof.Machine.execTsLeap h a s
  | .tsReadView h view form => Sys2Proof.Machine.execTsReadView h view form s
  | .timedLoadDeadline target lead => Sys2Proof.Machine.execTimedLoadDeadline target lead s
  | .atTsInstantReached ring tag ticks met => Sys2Proof.Machine.execAtTsInstantReached ring tag ticks met s
  | .atTsTriggerStopped ring tag => Sys2Proof.Machine.execAtTsTriggerStopped ring tag s
  | .tsIncrLoWrite ts value => Sys2Proof.Machine.execTsIncrLoWrite ts value s
  | .tsIncrHiWrite ts value => Sys2Proof.Machine.execTsIncrHiWrite ts value s
  | .tsNowSnapshot ts => Sys2Proof.Machine.execTsNowSnapshot ts s
  | .tsEnableWrite ts value => Sys2Proof.Machine.execTsEnableWrite ts value s
  | .slewDone ts ticks => Sys2Proof.Machine.execSlewDone ts ticks s
  | .leapSecondEnd => Sys2Proof.Machine.execLeapSecondEnd s
  | .leapDayStart => Sys2Proof.Machine.execLeapDayStart s
  | .refConfirm h slot action => Sys2Proof.Machine.execRefConfirm h slot action s
  | .ensProvRead h ts addr => Sys2Proof.Machine.execEnsProvRead h ts addr s
  | .refFeed h a => Sys2Proof.Machine.execRefFeed h a s
  | .ensForce h ts op => Sys2Proof.Machine.execEnsForce h ts op s
  | .refMeasurement slot m late => Sys2Proof.Machine.execRefMeasurement slot m late s
  | .tsRefCfgWrite slot value => Sys2Proof.Machine.execTsRefCfgWrite slot value s
  | .ensembleEpoch ts lead => Sys2Proof.Machine.execEnsembleEpoch ts lead s
  | .refLossTimeout slot => Sys2Proof.Machine.execRefLossTimeout slot s
  | .suspectTimeout slot => Sys2Proof.Machine.execSuspectTimeout slot s
  | .qualificationWindowEnd slot => Sys2Proof.Machine.execQualificationWindowEnd slot s
  | .oscCoeffWrite reg value => Sys2Proof.Machine.execOscCoeffWrite reg value s
  | .tsEfcCodeWrite value => Sys2Proof.Machine.execTsEfcCodeWrite value s
  | .paceWindowEnd ringCount => Sys2Proof.Machine.execPaceWindowEnd ringCount s
  | .avsTransactionDone result => Sys2Proof.Machine.execAvsTransactionDone result s
  | .avsTrackEnableWrite value => Sys2Proof.Machine.execAvsTrackEnableWrite value s
  | .clapArm h ch count => Sys2Proof.Machine.execClapArm h ch count s
  | .clapDisarm h ch => Sys2Proof.Machine.execClapDisarm h ch s
  | .clapCal h lane => Sys2Proof.Machine.execClapCal h lane s
  | .clapSnapshot h ch => Sys2Proof.Machine.execClapSnapshot h ch s
  | .streamEdge ch ticks frac falling pathFull => Sys2Proof.Machine.execStreamEdge ch ticks frac falling pathFull s
  | .intervalEnd ch => Sys2Proof.Machine.execIntervalEnd ch s
  | .stopTimeout ch => Sys2Proof.Machine.execStopTimeout ch s
  | .measurementLost ch => Sys2Proof.Machine.execMeasurementLost ch s
  | .frequencyGateEnd ch => Sys2Proof.Machine.execFrequencyGateEnd ch s
  | .clapRecordWrite ch => Sys2Proof.Machine.execClapRecordWrite ch s
  | .clapChRidxWrite ch value => Sys2Proof.Machine.execClapChRidxWrite ch value s
  | .clapLimitHiWrite ch upper value => Sys2Proof.Machine.execClapLimitHiWrite ch upper value s
  | .clapLimitLoWrite ch upper value => Sys2Proof.Machine.execClapLimitLoWrite ch upper value s
  | .referenceOffset ch => Sys2Proof.Machine.execReferenceOffset ch s
  | .laneCalTrigger lane => Sys2Proof.Machine.execLaneCalTrigger lane s
  | .laneCalDone lane bins => Sys2Proof.Machine.execLaneCalDone lane bins s
  | .gearboxMeasurementDone port rms rxPhase txPhase => Sys2Proof.Machine.execGearboxMeasurementDone port rms rxPhase txPhase s
  | .probeMeasurementDone probe value => Sys2Proof.Machine.execProbeMeasurementDone probe value s
  | .apRelock h ap mode => Sys2Proof.Machine.execApRelock h ap mode s
  | .dpRetune h a => Sys2Proof.Machine.execDpRetune h a s
  | .dpAlignRun h dp => Sys2Proof.Machine.execDpAlignRun h dp s
  | .apBandClear h ap => Sys2Proof.Machine.execApBandClear h ap s
  | .dpCfgWrite dp value => Sys2Proof.Machine.execDpCfgWrite dp value s
  | .apCfgWrite ap value => Sys2Proof.Machine.execApCfgWrite ap value s
  | .apSsWrite ap value => Sys2Proof.Machine.execApSsWrite ap value s
  | .dpllUpdate dp m lead => Sys2Proof.Machine.execDpllUpdate dp m lead s
  | .refinStamp refin e => Sys2Proof.Machine.execRefinStamp refin e s
  | .refinAbsent refin => Sys2Proof.Machine.execRefinAbsent refin s
  | .apHopTimeout ap => Sys2Proof.Machine.execApHopTimeout ap s
  | .apLocked ap band l => Sys2Proof.Machine.execApLocked ap band l s
  | .apSearchTimeout ap => Sys2Proof.Machine.execApSearchTimeout ap s
  | .apLost ap osc => Sys2Proof.Machine.execApLost ap osc s
  | .apAutoRelock ap => Sys2Proof.Machine.execApAutoRelock ap s
  | .detAnchor dp => Sys2Proof.Machine.execDetAnchor dp s
  | .detPassEnd dp residual => Sys2Proof.Machine.execDetPassEnd dp residual s
  | .ap0Loss oscMissing phiLoss => Sys2Proof.Machine.execAp0Loss oscMissing phiLoss s
  | .ap0RelockAttempt => Sys2Proof.Machine.execAp0RelockAttempt s
  | .shclkRestart nGap phiRes oscMissing => Sys2Proof.Machine.execShclkRestart nGap phiRes oscMissing s
  | .ap0Rebuilt => Sys2Proof.Machine.execAp0Rebuilt s
  | .outStart h a => Sys2Proof.Machine.execOutStart h a s
  | .outStop h a => Sys2Proof.Machine.execOutStop h a s
  | .outSwitch h out dir => Sys2Proof.Machine.execOutSwitch h out dir s
  | .outGateOpen out => Sys2Proof.Machine.execOutGateOpen out s
  | .outGateClose out => Sys2Proof.Machine.execOutGateClose out s
  | .outFaultStop out forced => Sys2Proof.Machine.execOutFaultStop out forced s
  | .outInterlockGate out => Sys2Proof.Machine.execOutInterlockGate out s
  | .fallbackSwitch out => Sys2Proof.Machine.execFallbackSwitch out s
  | .fallbackReturn out => Sys2Proof.Machine.execFallbackReturn out s
  | .outFineStep out => Sys2Proof.Machine.execOutFineStep out s
  | .outDividerReload out => Sys2Proof.Machine.execOutDividerReload out s
  | .cueArm h a => Sys2Proof.Machine.execCueArm h a s
  | .cueCancel h a => Sys2Proof.Machine.execCueCancel h a s
  | .cueQuery h cue => Sys2Proof.Machine.execCueQuery h cue s
  | .cueFiring cue ticks => Sys2Proof.Machine.execCueFiring cue ticks s
  | .cueLate cue ticks missed => Sys2Proof.Machine.execCueLate cue ticks missed s
  | .cueEnd cue ticks => Sys2Proof.Machine.execCueEnd cue ticks s
  | .cueRingTimerRelease dst => Sys2Proof.Machine.execCueRingTimerRelease dst s
  | .cuePinCfgWrite pin value => Sys2Proof.Machine.execCuePinCfgWrite pin value s
  | .captureEdge ch => Sys2Proof.Machine.execCaptureEdge ch s
  | .todMessageSend ticks => Sys2Proof.Machine.execTodMessageSend ticks s
  | .todMessageReceive bytes => Sys2Proof.Machine.execTodMessageReceive bytes s
  | .gnssAcq h a => Sys2Proof.Machine.execGnssAcq h a s
  | .gnssAcqDone pos r => Sys2Proof.Machine.execGnssAcqDone pos r s
  | .gnssChStart h a => Sys2Proof.Machine.execGnssChStart h a s
  | .gnssChStop h ch => Sys2Proof.Machine.execGnssChStop h ch s
  | .gnssPower h op retain => Sys2Proof.Machine.execGnssPower h op retain s
  | .gnssSpoof h op checks sols => Sys2Proof.Machine.execGnssSpoof h op checks sols s
  | .sampleEpochMark port ticks b => Sys2Proof.Machine.execSampleEpochMark port ticks b s
  | .samplePathBreak port why => Sys2Proof.Machine.execSamplePathBreak port why s
  | .samplePathRecover port lost => Sys2Proof.Machine.execSamplePathRecover port lost s
  | .gnssPortEnableWrite port value => Sys2Proof.Machine.execGnssPortEnableWrite port value s
  | .notchChange port notch locked centre => Sys2Proof.Machine.execNotchChange port notch locked centre s
  | .gnssJam port ticks => Sys2Proof.Machine.execGnssJam port ticks s
  | .gnssChannelEpoch ch e => Sys2Proof.Machine.execGnssChannelEpoch ch e s
  | .gnssDumpInterrupt ticks => Sys2Proof.Machine.execGnssDumpInterrupt ticks s
  | .gnssNcoCommit ch carrier value late host => Sys2Proof.Machine.execGnssNcoCommit ch carrier value late host s
  | .gnssNcoLoWrite ch carrier value host => Sys2Proof.Machine.execGnssNcoLoWrite ch carrier value host s
  | .gnssCodeAdjWrite ch value host => Sys2Proof.Machine.execGnssCodeAdjWrite ch value host s
  | .gnssMeas ticks wait0 wait1 wait2 => Sys2Proof.Machine.execGnssMeas ticks wait0 wait1 wait2 s
  | .gnssNav ch u => Sys2Proof.Machine.execGnssNav ch u s
  | .osnmaTagResult tag => Sys2Proof.Machine.execOsnmaTagResult tag s
  | .gnssWake => Sys2Proof.Machine.execGnssWake s
  | .gnssSettleEnd crcOk ticks => Sys2Proof.Machine.execGnssSettleEnd crcOk ticks s
  | .solutionFeed sol x => Sys2Proof.Machine.execSolutionFeed sol x s
  | .portCfgWrite port value => Sys2Proof.Machine.execPortCfgWrite port value s
  | .portBlockLock port => Sys2Proof.Machine.execPortBlockLock port s
  | .portLinkDown port cause => Sys2Proof.Machine.execPortLinkDown port cause s
  | .portRefSwitch port => Sys2Proof.Machine.execPortRefSwitch port s
  | .rxFrame port f => Sys2Proof.Machine.execRxFrame port f s
  | .txdChain ring ticks => Sys2Proof.Machine.execTxdChain ring ticks s
  | .txTimestamp port ticks frac => Sys2Proof.Machine.execTxTimestamp port ticks frac s
  | .txTimestampDrain port => Sys2Proof.Machine.execTxTimestampDrain port s
  | .portCounterRead port counter => Sys2Proof.Machine.execPortCounterRead port counter s
  | .portDaily port ticks => Sys2Proof.Machine.execPortDaily port ticks s
  | .lpiEnter port rx => Sys2Proof.Machine.execLpiEnter port rx s
  | .lpiWake port rx => Sys2Proof.Machine.execLpiWake port rx s
  | .esmcSend port => Sys2Proof.Machine.execEsmcSend port s
  | .esmcRxTimeout port => Sys2Proof.Machine.execEsmcRxTimeout port s
  | .ptpInstEnable inst value => Sys2Proof.Machine.execPtpInstEnable inst value s
  | .ptpMessageReceive inst port m => Sys2Proof.Machine.execPtpMessageReceive inst port m s
  | .ptpPeriodicSend inst port what ticks frac room => Sys2Proof.Machine.execPtpPeriodicSend inst port what ticks frac room s
  | .followUpSend inst port => Sys2Proof.Machine.execFollowUpSend inst port s
  | .delayRespSend inst ticks frac inTime => Sys2Proof.Machine.execDelayRespSend inst ticks frac inTime s
  | .slaveExchange inst port => Sys2Proof.Machine.execSlaveExchange inst port s
  | .bmcaRun inst => Sys2Proof.Machine.execBmcaRun inst s
  | .announceReceiptTimeout inst port pid => Sys2Proof.Machine.execAnnounceReceiptTimeout inst port pid s
  | .grantExpiry entry what => Sys2Proof.Machine.execGrantExpiry entry what s
  | .unicastRenew inst slot what => Sys2Proof.Machine.execUnicastRenew inst slot what s
  | .l1SyncSend inst port => Sys2Proof.Machine.execL1SyncSend inst port s
  | .ptpClientFind h a => Sys2Proof.Machine.execPtpClientFind h a s
  | .ptpClientCancel h index => Sys2Proof.Machine.execPtpClientCancel h index s
  | .ptpKeyRoll h inst => Sys2Proof.Machine.execPtpKeyRoll h inst s
  | .ptpUmaster h a => Sys2Proof.Machine.execPtpUmaster h a s
  | .ptpParentRead h inst => Sys2Proof.Machine.execPtpParentRead h inst s
  | .ntpInstEnable inst value => Sys2Proof.Machine.execNtpInstEnable inst value s
  | .ntpRequest inst r => Sys2Proof.Machine.execNtpRequest inst r s
  | .ntpReplyLaunch id ready linkLost => Sys2Proof.Machine.execNtpReplyLaunch id ready linkLost s
  | .ntpRequestExpiry id => Sys2Proof.Machine.execNtpRequestExpiry id s
  | .ntsEpochRotation ticks => Sys2Proof.Machine.execNtsEpochRotation ticks s
  | .ntsCookieRootWrite value => Sys2Proof.Machine.execNtsCookieRootWrite value s
  | .ntpPeerPoll peer ticks => Sys2Proof.Machine.execNtpPeerPoll peer ticks s
  | .ntpPeerReply peer r => Sys2Proof.Machine.execNtpPeerReply peer r s
  | .ntpPeerEnableWrite peer value => Sys2Proof.Machine.execNtpPeerEnableWrite peer value s
  | .ntsCookieMint h a => Sys2Proof.Machine.execNtsCookieMint h a s
  | .ntpRlQuery h a => Sys2Proof.Machine.execNtpRlQuery h a s
  | .ntpPeerRead h peer => Sys2Proof.Machine.execNtpPeerRead h peer s
  | .aesJobGrant lane => Sys2Proof.Machine.execAesJobGrant lane s
  | .ranLaneState lane up training => Sys2Proof.Machine.execRanLaneState lane up training s
  | .claimSend => Sys2Proof.Machine.execClaimSend s
  | .ranFrameReceive f => Sys2Proof.Machine.execRanFrameReceive f s
  | .stateSend => Sys2Proof.Machine.execStateSend s
  | .peerSilence ticks => Sys2Proof.Machine.execPeerSilence ticks s
  | .claimRaise => Sys2Proof.Machine.execClaimRaise s
  | .peerLeadNChange asserted ticks => Sys2Proof.Machine.execPeerLeadNChange asserted ticks s
  | .drivePermissionChange ticks => Sys2Proof.Machine.execDrivePermissionChange ticks s
  | .joinWaitEnd => Sys2Proof.Machine.execJoinWaitEnd s
  | .autoRejoin => Sys2Proof.Machine.execAutoRejoin s
  | .markSend ticks frac => Sys2Proof.Machine.execMarkSend ticks frac s
  | .followModeUpdate => Sys2Proof.Machine.execFollowModeUpdate s
  | .mirrorSend => Sys2Proof.Machine.execMirrorSend s
  | .keywrapSend key => Sys2Proof.Machine.execKeywrapSend key s
  | .ranHandback h => Sys2Proof.Machine.execRanHandback h s
  | .ranRejoin h => Sys2Proof.Machine.execRanRejoin h s
  | .ranPeerRead h addr => Sys2Proof.Machine.execRanPeerRead h addr s
  | .ranTmoWrite value => Sys2Proof.Machine.execRanTmoWrite value s
  | .nop h => Sys2Proof.Machine.execNop h s
  | .abort h a => Sys2Proof.Machine.execAbort h a s
  | .ringStop h stopRing => Sys2Proof.Machine.execRingStop h stopRing s
  | .ringDrainDone ring => Sys2Proof.Machine.execRingDrainDone ring s
  | .runState h target => Sys2Proof.Machine.execRunState h target s
  | .profileSet h profile => Sys2Proof.Machine.execProfileSet h profile s
  | .govPermit h ts => Sys2Proof.Machine.execGovPermit h ts s
  | .unassignedOpcode h op => Sys2Proof.Machine.execUnassignedOpcode h op s
  | .permitExpiry ts => Sys2Proof.Machine.execPermitExpiry ts s
  | .doorbellPoll entries cmds txds rxds => Sys2Proof.Machine.execDoorbellPoll entries cmds txds rxds s
  | .hostNudge value polling => Sys2Proof.Machine.execHostNudge value polling s
  | .hostRingEnable ring value => Sys2Proof.Machine.execHostRingEnable ring value s
  | .commandCommit ring => Sys2Proof.Machine.execCommandCommit ring s
  | .completionWrite ring => Sys2Proof.Machine.execCompletionWrite ring s
  | .rxdDelivery ring => Sys2Proof.Machine.execRxdDelivery ring s
  | .rxStarveTimeout ring => Sys2Proof.Machine.execRxStarveTimeout ring s
  | .ringInterrupt ring byTime => Sys2Proof.Machine.execRingInterrupt ring byTime s
  | .msixUnmask vector => Sys2Proof.Machine.execMsixUnmask vector s
  | .hostDmaError access => Sys2Proof.Machine.execHostDmaError access s
  | .functionLevelReset linkDown => Sys2Proof.Machine.execFunctionLevelReset linkDown s
  | .busMasterEnableChange enable width speed => Sys2Proof.Machine.execBusMasterEnableChange enable width speed s
  | .barAccessRefused access => Sys2Proof.Machine.execBarAccessRefused access s
  | .registerWrite offset value => Sys2Proof.Machine.execRegisterWrite offset value s
  | .w1cWrite offset value set => Sys2Proof.Machine.execW1cWrite offset value set s
  | .rcRead offset concurrent => Sys2Proof.Machine.execRcRead offset concurrent s
  | .cshtStage h a => Sys2Proof.Machine.execCshtStage h a s
  | .cshtCommit h a => Sys2Proof.Machine.execCshtCommit h a s
  | .cshtConfirm h version => Sys2Proof.Machine.execCshtConfirm h version s
  | .cshtRevert h expected => Sys2Proof.Machine.execCshtRevert h expected s
  | .cshtRead h a => Sys2Proof.Machine.execCshtRead h a s
  | .cshtApplyEnd => Sys2Proof.Machine.execCshtApplyEnd s
  | .cshtDeadlineWarn => Sys2Proof.Machine.execCshtDeadlineWarn s
  | .confirmDeadlineExpiry => Sys2Proof.Machine.execConfirmDeadlineExpiry s
  | .stvDerive h a => Sys2Proof.Machine.execStvDerive h a s
  | .stvRevoke h handle => Sys2Proof.Machine.execStvRevoke h handle s
  | .stvKeyInfo h handle node => Sys2Proof.Machine.execStvKeyInfo h handle node s
  | .stvCrypt h a => Sys2Proof.Machine.execStvCrypt h a s
  | .stvImport h a => Sys2Proof.Machine.execStvImport h a s
  | .stvChallenge h a => Sys2Proof.Machine.execStvChallenge h a s
  | .stvRespond h a => Sys2Proof.Machine.execStvRespond h a s
  | .stvIdentity h addr => Sys2Proof.Machine.execStvIdentity h addr s
  | .stvRollbackSet h version => Sys2Proof.Machine.execStvRollbackSet h version s
  | .challengeExpiry => Sys2Proof.Machine.execChallengeExpiry s
  | .challengeLockEnd => Sys2Proof.Machine.execChallengeLockEnd s
  | .stvTamper raw => Sys2Proof.Machine.execStvTamper raw s
  | .stvPairKeyWrite value => Sys2Proof.Machine.execStvPairKeyWrite value s
  | .trngHealthFail => Sys2Proof.Machine.execTrngHealthFail s
  | .trngRetest pass => Sys2Proof.Machine.execTrngRetest pass s
  | .drbgReseed => Sys2Proof.Machine.execDrbgReseed s
  | .drbgStaleTimeout => Sys2Proof.Machine.execDrbgStaleTimeout s
  | .keyMaskRefresh => Sys2Proof.Machine.execKeyMaskRefresh s
  | .inFlightDone job => Sys2Proof.Machine.execInFlightDone job s
  | .fwStage h a => Sys2Proof.Machine.execFwStage h a s
  | .fwSelect h slot => Sys2Proof.Machine.execFwSelect h slot s
  | .fwConfirm h => Sys2Proof.Machine.execFwConfirm h s
  | .pluginCtl h id op => Sys2Proof.Machine.execPluginCtl h id op s
  | .perfSample h op => Sys2Proof.Machine.execPerfSample h op s
  | .fwPluginFault id cause => Sys2Proof.Machine.execFwPluginFault id cause s
  | .pluginKernelCall id call => Sys2Proof.Machine.execPluginKernelCall id call s
  | .perfOvf counter => Sys2Proof.Machine.execPerfOvf counter s
  | .perfCntRead counter user => Sys2Proof.Machine.execPerfCntRead counter user s
  | .perfSampleRecord r => Sys2Proof.Machine.execPerfSampleRecord r s
  | .perfSampleDrain => Sys2Proof.Machine.execPerfSampleDrain s
  | .logRead h a => Sys2Proof.Machine.execLogRead h a s
  | .logWrite h a => Sys2Proof.Machine.execLogWrite h a s
  | .lwRead h addr bad => Sys2Proof.Machine.execLwRead h addr bad s
  | .lwClear h mask => Sys2Proof.Machine.execLwClear h mask s
  | .bistIdleRun h kind index => Sys2Proof.Machine.execBistIdleRun h kind index s
  | .logRecordWrite cellBad wordBad => Sys2Proof.Machine.execLogRecordWrite cellBad wordBad s
  | .logScrub cell corrected bad => Sys2Proof.Machine.execLogScrub cell corrected bad s
  | .wrapBlockSlice fail => Sys2Proof.Machine.execWrapBlockSlice fail s
  | .wrapTestEnd => Sys2Proof.Machine.execWrapTestEnd s
  | .idleSlice index outcome => Sys2Proof.Machine.execIdleSlice index outcome s
  | .idleSlicePreempt => Sys2Proof.Machine.execIdleSlicePreempt s
  | .resetNAssert => Sys2Proof.Machine.execResetNAssert s
  | .bootSequence b => Sys2Proof.Machine.execBootSequence b s
  | .autoRun => Sys2Proof.Machine.execAutoRun s
  | .brownout rails => Sys2Proof.Machine.execBrownout rails s
  | .thermalSample tj => Sys2Proof.Machine.execThermalSample tj s
  | .rtcLoad ticks => Sys2Proof.Machine.execRtcLoad ticks s
  | .markArrival ticks frac => Sys2Proof.Machine.execMarkArrival ticks frac s
  | .handbackTimeout => Sys2Proof.Machine.execHandbackTimeout s
  | .qspiWriteDone sheet good => Sys2Proof.Machine.execQspiWriteDone sheet good s
  | .cryptoJobDone ring tag => Sys2Proof.Machine.execCryptoJobDone ring tag s
  | .railBackInRange rail => Sys2Proof.Machine.execRailBackInRange rail s

end Sys2Proof.Machine
end

