-- ==== Sys2Proof/Machine/Step.lean ====
section
/-! DEFINITION. One step of the block: the command at the front of the queue, or one SHCLK tick when none waits. -/
namespace Sys2Proof.Machine
open Sys2Proof

/-- One step. With no command waiting the block idles for one SHCLK tick: every running timescale's counter takes its increment (DESIGN CHOICE,
notes/assumptions/1.md). -/
def step (s : State) : Host.Outcome State Fault Refusal :=
  match s.pending with
  | [] => .next (advance s 1)
  | c :: rest => exec c { s with pending := rest }

/-- `s` with the command that a table word spells at the front of its queue: no word spells one. -/
def State.withFetchWord (s : State) (nbits w : Nat) : State :=
  match decodeTableWord nbits w with
  | some c => { s with pending := c :: s.pending }
  | none => s

end Sys2Proof.Machine
end

