-- ==== Sys2Proof/Machine/View.lean ====
section
/-! DEFINITION. What a plain read of BAR0 returns where the register shows something that stands elsewhere in the state, the windows of BAR2
(R450), and the pins (R426). -/
namespace Sys2Proof.Machine
open Sys2Proof

/-! ### BAR0 -/

/-- A field of a view. -/
def vput (w : Word) (d : Fld) (v : Nat) : Word := fput w d.hi d.lo v

/-- One word of a 64-bit number. -/
def wordOf (v : Nat) (hi : Bool) : Word := BitVec.ofNat 32 (if hi then v / 2 ^ 32 else v)

/-- TS_STATUS (R50, R51, R58, R64). -/
def viewTsStatus (s : State) (n : Nat) : Word :=
  BitVec.ofNat 32 (tsStatusWord s n)

/-- A bound component or the total: a DERIVED timescale reports its source's, and none while it holds (R49, R50, R85). -/
def viewTsBnd (s : State) (r : Reg) (w : Word) : Word :=
  if !tsDerived s r.i then w
  else if tsStateOf s r.i = .free then (if r.name = .TS_BND_TOTAL then 0xFFFFFFFF else w)
  else s.rg r.name (tsRoot s r.i)

/-- The latched slate of TS_NOW0 to TS_NOW3 (R57). -/
def viewTsNow (s : State) (n : Nat) (second hi : Bool) : Word :=
  wordOf (if second then slateWord1 (tsc s n).now else slateWord0 (tsc s n).now) hi

/-- CLAP_LANE_STATUS.age: hours since the last runtime calibration (R115). -/
def viewLaneAge (s : State) (l : Nat) : Nat :=
  match tget s.clap.lastCal none l with
  | some k => satNat 8 ((s.ticks - k.1) / (625000000 * 3600))
  | none => 0

/-- CLAP_CH_STATUS.running (R117): the start is seen, and the measurement or gate has not ended. -/
def viewClapRunning (s : State) (c : Nat) : Bool := clapArmed s c && (clapCh s c).start.isSome && (clapFn s c == 1 || clapFn s c == 2)

/-- The offset of the oscillator against TS0 in 10^-12 (DP_FERR of DP0): 1.6 ns against the increment of TS0, less one. -/
def oscOffset (s : State) : Int :=
  let i := rateIncr s 4 0
  if i = 0 then 0 else satInt 32 (roundRat (((450359962737049.6 : Rat) / (i : Rat) - 1) * 1000000000000))

/-- CUE_TOD_STATUS (R174, R178). -/
def viewTod (s : State) : Word :=
  let w := vput (s.rg .CUE_TOD_STATUS) F.CUE_TOD_STATUS_no_pps (bit (s.fb F.CUE_TOD_CFG_tx_en && s.f F.CUE_STATUS_state (s.f F.CUE_TOD_CFG_pps_cue) != 2))
  let w := vput w F.CUE_TOD_STATUS_overrun (bit (todOverrun s))
  vput (vput w F.CUE_TOD_STATUS_rx_valid (bit (todClaim s).isSome)) F.CUE_TOD_STATUS_tx_active (bit (match s.cues.tod.txEnd with
    | some e => decide (s.ticks < e)
    | none => false))

/-- Channels that run or hold (GNSS_STATUS.running). -/
def gnssRunning (s : State) : Nat := ((List.range 192).filter (fun c => gnssChState s c == 1 || gnssChState s c == 2)).length

/-- PTP_INST_STATUS and PTP_INST_INFO (R239-R241). -/
def viewPtpStatus (s : State) (i : Nat) : Word :=
  let a := published s i (instBoundPs s i)
  vput (vput (s.rg .PTP_INST_STATUS i) F.PTP_INST_STATUS_clock_class a.cls) F.PTP_INST_STATUS_clock_accuracy a.acc

/-- NTP_INST_STATUS (R69, R92, R261). -/
def viewNtpStatus (s : State) (i : Nat) : Word :=
  let st := ntpStratum s i (ntpInstBound s i)
  let u : Int := counterUnits (tsc s (s.f F.NTP_INST_CFG_ts i)).cnt
  let w := vput (vput (s.rg .NTP_INST_STATUS i) F.NTP_INST_STATUS_stratum st) F.NTP_INST_STATUS_li (ntpLi s i st)
  vput w F.NTP_INST_STATUS_smearing (bit (s.fb F.NTP_INST_CFG_smear i && (smearAt s u).isSome))

/-- BIST_STATUS.age_h: hours since the summary was written. -/
def viewSummaryAge (s : State) : Nat :=
  match s.wrap.summary with
  | some w => satNat 16 (((rtcNow s).1 - w.rtcSec) / 3600)
  | none => 0

/-- PORT_STATUS (R209, R212, R222): a port stays DOWN with cause 7 while its reference is not ready. -/
def viewPort (s : State) (p : Nat) : Word :=
  let w := vput (vput (s.rg .PORT_STATUS p) F.PORT_STATUS_timing_role (bit (timingRole s p))) F.PORT_STATUS_lpi_refused
    (bit (s.fb F.PORT_CFG_lpi_en p && !lpiAllowed s p))
  if portState s p = 1 ∧ portRefReady s p = false then vput w F.PORT_STATUS_link_down_cause 7 else w

/-- The value that a plain read of a register returns. -/
def readReg (s : State) (r : Reg) : Word :=
  let w := s.rg r.name r.i r.j
  match r.name with
  | .TS_STATUS => viewTsStatus s r.i
  | .TS_NOW0 => viewTsNow s r.i false false
  | .TS_NOW1 => viewTsNow s r.i false true
  | .TS_NOW2 => viewTsNow s r.i true false
  | .TS_NOW3 => viewTsNow s r.i true true
  | .TS_SLEW_REM_LO => wordOf (twos 64 (unitsToPs (tsc s r.i).slewRem)) false
  | .TS_SLEW_REM_HI => wordOf (twos 64 (unitsToPs (tsc s r.i).slewRem)) true
  | .TS_SLEW_RATE => BitVec.ofNat 32 (if (tsc s r.i).slewRem = 0 then 0 else (tsc s r.i).slewRate)
  | .TS_BND_REF | .TS_BND_MEAS | .TS_BND_EST | .TS_BND_HOLD | .TS_BND_GAP | .TS_BND_TOTAL => viewTsBnd s r w
  | .TS_COAST_TIME => if tsStateOf s r.i = .coasting then BitVec.ofNat 32 (coastShown s (tsRoot s r.i)) else w
  | .TS_ENS_STATUS => if tsDerived s r.i then vput w F.TS_ENS_STATUS_grade (gradeOf s r.i) else w
  | .CLAP_LANE_STATUS => vput w F.CLAP_LANE_STATUS_age (viewLaneAge s r.i)
  | .CLAP_CH_STATUS => vput w F.CLAP_CH_STATUS_running (bit (viewClapRunning s r.i))
  | .DP_FERR => if r.i = 0 then BitVec.ofNat 32 (twos 32 (oscOffset s)) else w
  | .OUT_CFG => if outSrc s r.i = 4 then vput w F.OUT_CFG_class 0 else w
  | .CUE_TOD_STATUS => viewTod s
  | .CUE_TOD_RX_CLAIM => BitVec.ofNat 32 ((todClaim s).getD 0)
  | .GNSS_STATUS => vput w F.GNSS_STATUS_running (gnssRunning s)
  | .GNSS_OSNMA_STATUS =>
    vput (vput (vput w F.GNSS_OSNMA_STATUS_sats (min 255 (osnmaAuth s))) F.GNSS_OSNMA_STATUS_running (bit (s.fb F.GNSS_OSNMA_CFG_enable && gnssP s == 2)))
      F.GNSS_OSNMA_STATUS_time_ok (bit (s.fb F.GNSS_OSNMA_CFG_enable && osnmaTimeOk s))
  | .GNSS_CH_STATUS => vput w F.GNSS_CH_STATUS_notch_near (bit (notchNear s (s.f F.GNSS_CH_CFG_port r.i) r.i))
  | .GNSS_SOL_CFG => if s.f F.GNSS_SOL_CFG_min_sats r.i = 0 then vput w F.GNSS_SOL_CFG_min_sats 4 else w
  | .PORT_STATUS => viewPort s r.i
  | .PORT_CNT_LO => BitVec.ofNat 32 (portCnt s r.i r.j)
  | .PTP_INST_STATUS => viewPtpStatus s r.i
  | .PTP_INST_INFO => vput w F.PTP_INST_INFO_steps_removed (published s r.i (instBoundPs s r.i)).steps
  | .NTP_INST_STATUS => viewNtpStatus s r.i
  | .NTS_EPOCH => BitVec.ofNat 32 (ntsEpoch s)
  | .NTS_STATUS => vput w F.NTS_STATUS_ts0_valid (bit (tsValid s 0))
  | .CSHT_STATUS => vput w F.CSHT_STATUS_remaining (satNat 16 (confirmLeft s))
  | .LC_UNLOCK => unlocks s
  | .CSHT_UCAL_VER => if s.fb F.CSHT_STATUS_ucal_dirty then 0xFFFFFFFF else w
  | .BIST_STATUS => vput w F.BIST_STATUS_age_h (viewSummaryAge s)
  | .PERF_CNT_LO => BitVec.ofNat 32 (perfLo s r.i)
  | .TS_CTRL => vput w F.TS_CTRL_step_permit (bit ((permitOf s r.i).any (fun p => p.reserved.isSome || decide (s.ticks < p.expires))))
  | .PERF_CNT_HI => match tget s.perf.latchHi none r.i with
    | some v => BitVec.ofNat 32 v
    | none => w
  | _ => w

/-- A 4-byte read of BAR0 (R427, R449): 0 where no chapter assigns the offset, in RESET, while block 1 is under test, and outside the blocks that a
device stopped in BOOT services (R372). -/
def readBar0 (s : State) (a : Nat) : Word :=
  if !barTakes s a then 0
  else match regAt a with
    | some r => readReg s r
    | none => 0

/-! ### BAR2 (R450) -/

/-- The dump in buffer `b` of channel `c` (R191, R450): the later of the two dumps has the parity of its epoch count. The places of its flags and
sums are the model's (DESIGN CHOICE, notes/assumptions/22.md). -/
def dumpLayout (s : State) (c b : Nat) : Layout :=
  match (gnssCh s c).dumps.find? (fun d => d.epoch % 2 == b) with
  | none => []
  | some d =>
    [(0, 4, d.epoch), (4, 4, d.samples), (8, 4, bit d.valid + 2 * bit d.gap + 4 * bit d.updated)]
      ++ ((d.sums.zip (List.range 16)).map (fun p => (12 + 4 * p.2, 4, twos 32 p.1)))

/-- Byte `a` of the factory calibration (R345): bytes 0-7 of its header are the device ID (R451). -/
def fcalWindow (s : State) (a : Nat) : Nat :=
  if a < 8 then deviceId s / 256 ^ a % 256 else (Config.fcalByte a).toNat

/-- A byte of BAR2 (R450). -/
def readBar2 (s : State) (a : Nat) : Nat :=
  if s.pwr.inReset || barDead s then 0
  else if a < 0x400000 then layoutByte (clientLayout s (a / 64)) (a % 64)
  else if a < 0x480000 then
    (match cellOf s ((a - 0x400000) / 64) with
    | some r => layoutByte (recordLayout r) (a % 64)
    | none => 0)
  else if a < 0x48C000 then layoutByte (dumpLayout s ((a - 0x480000) / 256) ((a - 0x480000) % 256 / 128)) (a % 128)
  else if 0x490000 ≤ a ∧ a < 0x491000 then fcalWindow s (a - 0x490000)
  else 0

/-! ### Pins (R426) -/

/-- How the device drives a pin or a group of pins (R426). -/
inductive PinState where
  | highZ | low | idle | released | asserted | off | configured
  deriving DecidableEq, Repr

/-- The run state. -/
def runOf (s : State) : Nat := s.f F.PWR_RUN_run_state

/-- The causes that assert ALERT_N while the device runs (R31, R113, R203, R288, R401, R402, R406, R416). -/
def alertCause (s : State) : Bool :=
  (s.fb F.PWR_PACE_CFG_sag_alert && s.fb F.PWR_PACE_STATUS_sag)
  || (List.range 16).any (fun c => s.fb F.CLAP_CH_CFG_limit_alert c && s.fb F.CLAP_CH_STATUS_limit_out c)
  || (s.fb F.GNSS_SPOOF_CFG_alert && (s.f F.GNSS_SPOOF_STATUS_latched != 0 || s.gnss.raised != 0))
  || s.fb F.RAN_STATUS_slot_clash || s.fb F.LOG_STATUS_media_fault || s.fb F.LOG_STATUS_media_dead || !s.log.isolated.isEmpty
  || (s.fb F.PWR_CFG_therm_alert && s.f F.PWR_RUN_therm_step != 0)

/-- ALERT_N (R426). -/
def pinAlert (s : State) : PinState :=
  if s.pwr.inReset then .released
  else match runOf s with
    | 0 => .released
    | 1 => if s.pwr.stopped then .asserted else .released
    | 6 => if s.fb F.LOG_STATUS_media_dead then .asserted else .released
    | _ => if alertCause s then .asserted else .released

/-- LEAD_OUT_N (R285, R426). -/
def pinLead (s : State) : PinState :=
  if !s.pwr.inReset && decide (2 ≤ runOf s) && decide (runOf s ≤ 4) && s.fb F.RAN_STATUS_lead_out then .asserted else .released

/-- Output pin `o` (R150, R426): low, or high impedance with idle = 1, while STOPPED, and low while its gate is closed. -/
def pinOut (s : State) (o : Nat) : PinState :=
  if s.pwr.inReset then .highZ
  else match runOf s with
    | 2 | 3 | 4 => if outState s o = 2 ∨ outState s o = 4 then .configured else if outState s o = 0 ∧ s.fb F.OUT_CFG_idle o = true then .highZ else .low
    | 5 => if s.fb F.OUT_CFG_idle o then .highZ else .low
    | _ => .highZ

/-- CUE pin `p` (R165, R169, R426): while it does not follow its cue it is low, or in high impedance with idle = 1. -/
def pinCue (s : State) (p : Nat) : PinState :=
  if !s.pwr.inReset && decide (2 ≤ runOf s) && decide (runOf s ≤ 4) then
    (if s.cues.low.contains (.pin p) then .low else if (cuePin s p).on then .configured else if s.fb F.CUE_PIN_CFG_idle p then .highZ else .low)
  else .highZ

/-- TOD_TX (R365, R426). -/
def pinTod (s : State) : PinState := if !muted s && !s.pwr.inReset && decide (2 ≤ runOf s) && decide (runOf s ≤ 4) then .configured else .highZ

/-- GSP0_PWR-GSP2_PWR (R426). -/
def pinGsp (s : State) (p : Nat) : PinState :=
  if !s.pwr.inReset && decide (2 ≤ runOf s) && decide (runOf s ≤ 4) && (gnssP s == 1 || gnssP s == 2) && s.fb F.GNSS_PORT_CFG_enable p then .asserted else .low

/-- TAMPER_N (R364, R366, R426): in every state. -/
def pinTamper (s : State) : PinState := if tampered s then .asserted else .released

/-- EFC_DAC (R426): TS_EFC_CODE from the start of SHCLK in BOOT, and its last code in WRAP. -/
def pinEfc (s : State) : PinState :=
  if s.pwr.inReset then .highZ
  else match runOf s with
    | 1 => if s.hs.shclk then .configured else .highZ
    | 2 | 3 | 4 | 5 => .configured
    | _ => .highZ

/-- The PCIe transmitters (R426, R427). -/
def pinPcie (s : State) : PinState := if s.pwr.inReset then .off else .configured

/-- QSPI (R426): `idle` is chip select high with the other lines in high impedance or at rest. -/
def pinQspi (s : State) : PinState := if !s.pwr.inReset && decide (1 ≤ runOf s) && decide (runOf s ≤ 4) then .configured else .idle

/-- AVS_CLK and AVS_MDATA (R426): `idle` is high. -/
def pinAvs (s : State) : PinState := if s.pwr.inReset then .highZ else if runOf s = 6 then .idle else .configured

/-- JTAG TDO and the SFP management lines (R426). -/
def pinTdo (s : State) : PinState := if !s.pwr.inReset && decide (2 ≤ runOf s) && decide (runOf s ≤ 4) then .configured else .highZ

/-- The transmitters of the ports and of Ranin (R426). -/
def pinTx (s : State) : PinState := if !s.pwr.inReset && decide (2 ≤ runOf s) && decide (runOf s ≤ 4) then .configured else .off

end Sys2Proof.Machine
end

