-- ==== Sys2Proof/Safety.lean ====
section
/-! DEFINITION. What the states of a run keep, in the terms that the statements use. -/
namespace Sys2Proof
open Sys2Proof.Machine

/-- The register file is in its canonical form: registers strictly rising, none listed with its reset value, so that equal register files are
equal data. -/
def RegsCanonical (s : State) : Prop := regsWf s.regs = true

/-- The outcome is a next state that meets `P`. -/
def NextMeets (o : Host.Outcome State Fault Refusal) (P : State → Prop) : Prop := ∃ t, o = .next t ∧ P t

/-- The command has a next state from every state. -/
def Total (c : Instr) : Prop := ∀ s, ∃ t, exec c s = .next t

end Sys2Proof
end

