-- ==== Sys2Proof/Certificates/Slice0/Obligations.lean ====
section
/-! DEFINITION. The statements for the provers. Each says in its title which rules of spec/ it rests on; OBLIGATIONS.json holds its kind and its
basis. -/
open Sys2Proof Sys2Proof.Machine

/-- A step runs the command at the front of the queue (14_host_rings.md (R323)). -/
def Obligations.StepRunsTheFrontCommand : Prop :=
  ∀ (c : Instr) (rest : List Instr) (s : State), s.pending = c :: rest → step s = exec c { s with pending := rest }

/-- A step with no command waiting is one SHCLK tick (the model's choice, notes/assumptions/1.md) (03_timescales.md (R44)). -/
def Obligations.IdleStepIsOneTick : Prop :=
  ∀ s : State, s.pending = [] → ∃ t, step s = .next t ∧ t.regs = s.regs ∧ t.host = s.host ∧ t.outs = s.outs ∧ t.out = s.out ∧ t.pending = []
    ∧ t.ticks = s.ticks + 1

/-- The machine right after reset (19_power_startup.md (R422), 03_timescales.md (R58), 14_host_rings.md (R306)). Where the text leaves a point open
the clauses are of the choice the model makes: notes/assumptions/4.md, notes/assumptions/5.md, notes/assumptions/21.md. -/
def Obligations.ResetState : Prop :=
  State.reset.f F.PWR_RUN_run_state = 0 ∧ (∀ r < 64, ringState State.reset r = 0) ∧ (∀ n < 4, tsStateOf State.reset n = .free ∧ tsValid State.reset n = false ∧ tsBound State.reset n = 0xFF)
    ∧ State.reset.pending = [] ∧ State.reset.regs = []

/-- The register file is canonical at reset (00_scope.md (R4)). -/
def Obligations.ResetIsCanonical : Prop :=
  RegsCanonical State.reset

/-- Every step keeps the register file canonical (00_scope.md (R4, R5), 21_register_map.md (R449)). -/
def Obligations.StepKeepsTheCanonicalForm : Prop :=
  ∀ s t : State, RegsCanonical s → step s = .next t → RegsCanonical t

/-- No command changes the queue of waiting commands (14_host_rings.md (R323)). -/
def Obligations.ExecKeepsTheQueue : Prop :=
  ∀ (c : Instr) (s t : State), exec c s = .next t → t.pending = s.pending

/-- No command stops the device (00_scope.md (R5, R9), 14_host_rings.md (R311, R325)). Where the text leaves a point open the clauses are of the
choice the model makes: notes/assumptions/6.md. -/
def Obligations.EveryCommandHasANextState : Prop :=
  ∀ c : Instr, Total c

/-- TS_SET, TS_STEP, TS_SLEW and TS_SPLICE take effect or wait for their instant (03_timescales.md (R60, R61, R62, R64, R70, R71, R457)). Where the
text leaves a point open the clauses are of the choice the model makes: notes/assumptions/8.md, notes/assumptions/64.md, notes/assumptions/65.md. -/
def Obligations.TimeCommandsTakeEffect : Prop :=
  ∀ (s : State) (h : CmdHdr), h.mbz = true → s.log.isolated.contains 5 = false → s.hs.shclk = true →
    (∀ a : TsSetArgs, a.ts < 4 → a.trigger = 0 → a.triggerTs < 4 → a.ns < 10 ^ 9 → a.sec < 2 ^ 48 → a.tNs < 10 ^ 9 → a.tSec < 2 ^ 48 → s.fb F.TS_CTRL_enable a.ts = true →
      (tsLoaded s a.ts = true → permitFits s a.ts a.permit = true) →
      exec (.tsSet h a) s = .next (applyTsSet (begins s h 0x10) h a))
    ∧ (∀ a : TsSetArgs, a.ts < 4 → a.trigger = 1 → a.triggerTs < 4 → a.triggerTs ≠ a.ts → a.ns < 10 ^ 9 → a.sec < 2 ^ 48 → a.tNs < 10 ^ 9 → a.tSec < 2 ^ 48 →
      s.fb F.TS_CTRL_enable a.ts = true → instantPast s a.triggerTs a.tSec a.tNs a.tFrac = false → tsLoaded s a.ts = false →
      exec (.tsSet h a) s = .next (atTsWait (begins s h 0x10) ⟨h, .tsSet a, a.triggerTs, a.tSec, a.tNs, a.tFrac⟩))
    ∧ (∀ a : TsStepArgs, a.ts < 4 → s.fb F.TS_CTRL_enable a.ts = true → tsDerived s a.ts = false → permitFits s a.ts a.permit = true →
      0 ≤ (counterUnits (tsc s a.ts).cnt : Int) + stepUnits a → (counterUnits (tsc s a.ts).cnt : Int) + stepUnits a < (2 ^ 48 * unitsPerSec : Nat) →
      exec (.tsStep h a) s = .next (complete ((stepBy (cancelSlew (consumePermit s a.ts) a.ts) a.ts (stepUnits a)).inc .TS_STEP_COUNT a.ts) h 0x11 .ok
        [(0, 8, twos 64 (unitsToPs (tsc s a.ts).slewRem))]))
    ∧ (∀ a : TsSlewArgs, a.ts < 4 → s.fb F.TS_CTRL_enable a.ts = true → tsDerived s a.ts = false → s.fb F.TS_CTRL_ens_enable a.ts = false →
      1000 ≤ a.rate → a.rate ≤ 50000000 → a.rate ≤ s.f F.GOV_TS_SLEW_value a.ts →
      exec (.tsSlew h a) s = .next (complete (loadSlew s a.ts (psToUnits a.amount) a.rate true) h 0x12 .ok
        [(0, 8, twos 64 (unitsToPs (tsc s a.ts).slewRem)), (8, 4, slewMs a.amount a.rate)]))
    ∧ (∀ a : TsSpliceArgs, a.from_ < 4 → a.to_ < 4 → a.from_ ≠ a.to_ → a.mode = 0 → a.rate = 0 → 0 < a.mask → a.mask < 2 ^ 20 → a.ns < 10 ^ 9 → a.sec < 2 ^ 48 →
      tsRuns s a.to_ = true → tsLoaded s a.to_ = true → (maskConsumers a.mask).any (fun c => consumerTs s c != some a.from_) = false →
      instantPast s a.from_ a.sec a.ns 0 = false → (maskConsumers a.mask).any (consumerBusy s) = false →
      exec (.tsSplice h a) s = .next (atTsWait (begins s h 0x13) ⟨h, .tsSplice a, a.from_, a.sec, a.ns, 0⟩))

/-- TS_LEAP and TS_READ_VIEW complete, and the leap rows act (03_timescales.md (R66, R67, R70, R71), 13_twin.md (R291)). -/
def Obligations.LeapAndViewCommandsTakeEffect : Prop :=
  ∀ (s : State) (h : CmdHdr), h.mbz = true → h.ring < 64 →
    (standIn s = false →
      (∀ a : TsLeapArgs, a.op = 2 → s.fb F.TS_UTC_OFS_known = false →
        ∃ t, exec (.tsLeap h a) s = .next t ∧ t.fb F.TS_UTC_OFS_known = true ∧ t.f F.TS_UTC_OFS_tai_utc = twos 16 a.taiUtc)
      ∧ (∀ a : TsLeapArgs, a.op = 0 → (a.dir = 1 ∨ a.dir = 2) → a.day < 2 ^ 16 → leapScheduled s = false → utcSec s < (a.day : Int) * 86400 + 86340 →
        monthEnd a.day = true → s.fb F.TS_UTC_OFS_known = true →
        ∃ t, exec (.tsLeap h a) s = .next t ∧ t.f F.TS_LEAP_SCHED_dir = a.dir ∧ t.f F.TS_LEAP_SCHED_day = a.day)
      ∧ (∀ a : TsLeapArgs, a.op = 1 → leapScheduled s = true → utcSec s < (s.f F.TS_LEAP_SCHED_day : Int) * 86400 + 86340 →
        ∃ t, exec (.tsLeap h a) s = .next t ∧ leapScheduled t = false ∧ t.time = s.time))
    ∧ (∀ view form : Nat, view < 5 → form ≤ 1 → ∃ p t, exec (.tsReadView h view form) s = .next t ∧ t = complete s h 0x15 .ok p ∧ t = { s with host := t.host })
    ∧ (leapScheduled s = true → ∃ t, exec .leapDayStart s = .next t ∧ t.fb F.TS_LEAP_SCHED_pending = true ∧ t.time = s.time)
    ∧ (leapScheduled s = true → ∃ t, exec .leapSecondEnd s = .next t ∧ leapScheduled t = false
        ∧ t.f F.TS_UTC_OFS_tai_utc = twos 16 (taiUtc s + (if s.f F.TS_LEAP_SCHED_dir = 1 then 1 else -1)))

/-- Writes of the increment and of TS_CTRL, snapshots, slew ends and the instants of AT_TS commands (03_timescales.md (R45, R46, R47, R57, R58, R61,
R457), 02_handshake_fabric.md (R33)). Where the text leaves a point open the clauses are of the choice the model makes: notes/assumptions/6.md,
notes/assumptions/7.md. -/
def Obligations.TimeRegistersAndInstants : Prop :=
  ∀ s : State,
    (∀ (n : Nat) (v : Word), n < 4 → hostIncrOk s n = true → ∃ t, exec (.tsIncrLoWrite n v) s = .next t ∧ (tsc t n).heldLo = some v ∧ t.regs = s.regs
      ∧ (∀ m, m ≠ n → tsc t m = tsc s m))
    ∧ (∀ (n : Nat) (v lo : Word), n < 4 → hostIncrOk s n = true → s.hs.shclk = true → (tsc s n).heldLo = some lo →
        incrInRange (fget v 19 16 * 2 ^ 48 + fget v 15 0 * 2 ^ 32 + lo.toNat) = true →
        tsIncr s n ≠ fget v 19 16 * 2 ^ 48 + fget v 15 0 * 2 ^ 32 + lo.toNat →
        exec (.tsIncrHiWrite n v) s = .next (applyIncr (setTsc s n { tsc s n with heldLo := none }) n (fget v 19 16 * 2 ^ 48 + fget v 15 0 * 2 ^ 32 + lo.toNat) 0))
    ∧ (∀ n, n < 4 → ∃ t, exec (.tsNowSnapshot n) s = .next t ∧ (tsc t n).now = slateOf s n .now ∧ (tsc t n).stepped.contains .now = false ∧ t.regs = s.regs
        ∧ (tsc t n).cnt = (tsc s n).cnt)
    ∧ (∀ (n : Nat) (v : Word), n < 4 → s.fb F.TS_CTRL_enable n = true → (dropDerived s (regWrite s ⟨.TS_CTRL, n, 0⟩ v)).fb F.TS_CTRL_enable n = false →
        ∃ u, exec (.tsEnableWrite n v) s = .next (dpEvalAll u) ∧ (tsc u n).valid = false ∧ (tsc u n).bnd = 0xFF ∧ (tsc u n).state = .free)
    ∧ (∀ (target : LoadTarget) (lead : Nat), exec (.timedLoadDeadline target lead) s = .next (resolveLoad s target lead))
    ∧ (∀ n k, (tsc (advance s k) n).slewRem = 0 → (tsc (advance s k) n).slewPosts = true →
        ∃ u, exec (.slewDone n k) s = .next (event u 0x0202 [(0, 1, n)]) ∧ (tsc u n).slewPosts = false ∧ u.fb F.TS_ENS_STATUS_reacq n = false)
    ∧ (∀ r tag k w, atTsFind (advance s k) r tag = some w → (advance s k).hs.shclk = true → atTsReached (advance s k) w = true →
        exec (.atTsInstantReached r tag k true) s = .next (atTsApply (atTsDrop (advance s k) w) w))
    ∧ (∀ r tag w, atTsFind s r tag = some w → (tsRuns s w.trigger = false ∨ s.hs.shclk = false) →
        exec (.atTsTriggerStopped r tag) s = .next (timeoutAtTs s (fun v => v == w)))

/-- REF_CONFIRM, ENS_PROV_READ, REF_FEED and ENS_FORCE take effect (04_ensemble_and_bounds.md (R75, R90, R95, R97)). Where the text leaves a point
open the clauses are of the choice the model makes: notes/assumptions/67.md. -/
def Obligations.EnsembleCommandsTakeEffect : Prop :=
  ∀ (s : State) (h : CmdHdr), h.mbz = true →
    (∀ k, k < 32 → slotOn s k = true →
      (slotState s k = 3 → slotSpoofed s k = false → exec (.refConfirm h k 0) s = .next (complete (acceptSlot s k) h 0x16 .ok [(0, 1, 3), (1, 1, 1), (2, 1, 2)]))
      ∧ (slotState s k = 2 → exec (.refConfirm h k 1) s = .next (complete (slotTransition s k 4) h 0x16 .ok [(0, 1, 2), (1, 1, 1), (2, 1, 4)]))
      ∧ (slotState s k = 4 → exec (.refConfirm h k 2) s = .next (complete (slotTransition s k 0) h 0x16 .ok [(0, 1, 4), (1, 1, 1), (2, 1, 0)])))
    ∧ (∀ n addr, n < 4 → 0 < addr → addr % 64 = 0 → s.fb F.TS_CTRL_enable n = true → tsDerived s n = false → s.fb F.TS_CTRL_ens_enable n = true → s.hs.shclk = true →
        ∃ t, exec (.ensProvRead h n addr) s = .next t ∧ (ens t n).provReads = (ens s n).provReads ++ [(h, addr)] ∧ t.regs = s.regs)
    ∧ (s.log.isolated.contains 5 = false →
      (∀ a : RefFeedArgs, a.slot < 32 → a.slate.ns < 10 ^ 9 → a.slate.ts ≤ 3 → a.slate.sec < 2 ^ 48 → slotOn s a.slot = true → s.f F.TS_REF_CFG_type a.slot = 6 →
        a.slate.ts = slotTs s a.slot → a.slate.valid = true → (ens s (slotTs s a.slot)).lastEpoch = none → a.unc ≠ 0xFFFFFFFF →
        exec (.refFeed h a) s = .next (complete (takeMeasAt s a.slot ⟨a.value, some a.unc, 0, 0xFF, 0⟩ (timeUnits a.slate.sec a.slate.ns a.slate.frac : Nat)) h 0x18 .ok []))
      ∧ (∀ n, n < 4 → tsDerived s n = false → s.fb F.TS_CTRL_ens_enable n = true →
        ∃ p t, exec (.ensForce h n 0) s = .next (complete t h 0x19 .ok p) ∧ t.regs = (s.setB F.TS_ENS_STATUS_forced false n).regs ∧ t.time = s.time
          ∧ p = [(0, 4, tsStatusWord t n)] ∧ ((ens t n).released = true ↔ s.fb F.TS_ENS_STATUS_forced n = true ∨ (ens s n).released = true)))

/-- The slots' timers, the epoch, the oscillator's registers and the pace monitor (04_ensemble_and_bounds.md (R72, R75, R77, R79, R82, R83),
02_handshake_fabric.md (R31, R32, R43)). Where the text leaves a point open the clauses are of the choice the model makes: notes/assumptions/6.md,
notes/assumptions/10.md, notes/assumptions/67.md. -/
def Obligations.EnsembleEventsTakeEffect : Prop :=
  ∀ s : State,
    (∀ k m, k < 32 → slotOn s k = true → exec (.refMeasurement k m false) s = .next (takeMeas s k m))
    ∧ (∀ k u, slotOn s k = true → u = setSlot (s.setB F.TS_REF_STATUS_signal false k) k { slot s k with lost := true } →
        exec (.refLossTimeout k) s = .next (slotNote u k) ∧ (slotWaits s k = true → slotNote u k = u))
    ∧ (∀ k u, slotOn s k = true → slotState s k = 3 → s.f F.TS_REF_QUAL_suspect_timeout k ≠ 0 → u = setSlot s k { slot s k with timedOut := true } →
        exec (.suspectTimeout k) s = .next (slotNote u k) ∧ (slotWaits s k = true → slotNote u k = u))
    ∧ (∀ k m u, slotOn s k = true → (slot s k).last = some m → slotState s k = 1 → u = setSlot s k { slot s k with windowDone := true } →
        exec (.qualificationWindowEnd k) s = .next (slotNote u k) ∧ (slotWaits s k = true → slotNote u k = u))
    ∧ (∀ k e, ((slot s k).lost = true → 1 ≤ slotState s k → slotState s k ≤ 3 → slotState (slotEval s k e false) k = 0)
        ∧ ((slot s k).lost = false → (slot s k).timedOut = true → slotState s k = 3 → slotState (slotEval s k e false) k = 4)
        ∧ ((slot s k).lost = false → (slot s k).windowDone = true → beyondLimits s k = false → slotFreq s k = true → slotState s k = 1 → slotState (slotEval s k e false) k = 2)
        ∧ ((slot s k).lost = false → (slot s k).out = true → slotState s k = 2 → slotState (slotEval s k e false) k = 3))
    ∧ (∀ n, n ≠ 0 → epochRuns s n = true → exec (.ensembleEpoch n none) s = .next (boundRelease (altEpochs (epochStep (ptpFeeds s n) n) n) n))
    ∧ (∀ v : Word, exec (.oscCoeffWrite .y0 v) s = .next (writeCoeff s 0 (fget v 23 0)))
    ∧ (∀ v : Word, s.fb F.TS_OSC_CFG_efc = false → exec (.tsEfcCodeWrite v) s = .next (regWrite s ⟨.TS_EFC_CODE, 0, 0⟩ v))
    ∧ (∀ (k : Nat) (v : Word), 32 ≤ k → exec (.tsRefCfgWrite k v) s = .next (violation s))
    ∧ (∀ (k : Nat) (v : Word), k < 32 → slotOn s k = false → (writeResult s ⟨.TS_REF_CFG, k, 0⟩ v).2 = false → fget (writeResult s ⟨.TS_REF_CFG, k, 0⟩ v).1 31 31 = 0 →
        exec (.tsRefCfgWrite k v) s = .next (s.wr .TS_REF_CFG k 0 (fput (writeResult s ⟨.TS_REF_CFG, k, 0⟩ v).1 31 31 0)))
    ∧ (∀ n, s.hs.shclk = true → ∃ t, exec (.paceWindowEnd n) s = .next t ∧ t.f F.PWR_PACE_STATUS_pace_index = min 0xFFFF (4096 * n / refCount s.hs.windowExp)
        ∧ t.fb F.PWR_PACE_STATUS_valid = true ∧ t.hs.windowExp = t.f F.PWR_PACE_CFG_window_exp)
    ∧ (∀ mv r, s.hs.avsPending = some (mv, r) → ∃ t, exec (.avsTransactionDone .acked) s = .next t ∧ t.f F.PWR_AVS_STATUS_vcore_mv = mv % 2 ^ 16 ∧ t.hs.avsPending = none)
    ∧ (∀ v : Word, s.fb F.PWR_PACE_CFG_avs_track = false → (regWrite s ⟨.PWR_PACE_CFG, 0, 0⟩ v).fb F.PWR_PACE_CFG_avs_track = true →
        ∃ t, exec (.avsTrackEnableWrite v) s = .next t ∧ t.hs.avsSuspended = false
          ∧ t.fb F.PWR_PACE_STATUS_avs_tracking = ((regWrite s ⟨.PWR_PACE_CFG, 0, 0⟩ v).f F.PWR_RUN_run_state == 3))

/-- CLAP_ARM, CLAP_DISARM, CLAP_CAL and CLAP_SNAPSHOT take effect (05_clapper.md (R109, R110, R115, R118, R119)). Where the text leaves a point open
the clauses are of the choice the model makes: notes/assumptions/23.md. -/
def Obligations.ClapperCommandsTakeEffect : Prop :=
  ∀ (s : State) (h : CmdHdr), h.mbz = true → s.log.isolated.contains 6 = false →
    (∀ ch count, ch < 16 → clapArmed s ch = false → clapArmBad s ch = false → s.hs.shclk = true → s.f F.CLAP_LANE_STATUS_cal (s.f F.CLAP_CH_STATUS_lane ch) ≠ 3 →
      exec (.clapArm h ch count) s = .next (complete (restartPrescalers s (setClapCh (s.setB F.CLAP_CH_STATUS_armed true ch) ch
        (armFirst s ch { clapCh s ch with armPos := clapPos s ch 0, left := if count = 0 then none else some count, made := 0, early := [], later := [],
                                          start := none, stops := [], periods := 0, lost := false, acc := ClapAcc.empty }))) h 0x20 .ok [(0, 4, (clapCh s ch).seq)]))
    ∧ (∀ ch, ch < 16 → clapArmed s ch = true → clapFn s ch = 2 → (clapCh s ch).start = none → (clapCh s ch).stops = [] → (clapCh s ch).lost = false →
      exec (.clapDisarm h ch) s = .next (laneGrant (complete (clapDisarm s ch) h 0x21 .ok [(0, 4, satNat 32 (clapCh s ch).made), (4, 1, 0)])))
    ∧ (∀ lane, lane < 32 → s.f F.CLAP_LANE_STATUS_cal lane ≠ 3 → exec (.clapCal h lane) s = .next (laneGrant (laneRequest
        { begins s h 0x22 with clap := { s.clap with cals := s.clap.cals ++ [⟨h, [lane], 0, 0, s.ticks⟩] } } lane)))
    ∧ (∀ ch, ch < 16 → s.fb F.CLAP_CH_CFG_stat_en ch = true → clapArmed s ch = true → (clapCh s ch).acc.n ≠ 0 →
      exec (.clapSnapshot h ch) s = .next (complete (statRecord s ch 5 (clapCh s ch).acc) h 0x23 .ok [(0, 4, (clapCh s ch).seq)]))

/-- A Clapper measurement ends at its last stop, its timeout, a lost stamp or its gate's end edge (05_clapper.md (R105, R106, R107, R110, R111)).
Where the text leaves a point open the clauses are of the choice the model makes: notes/assumptions/23.md, notes/assumptions/68.md. -/
def Obligations.ClapperMeasurementsEnd : Prop :=
  ∀ (s : State) (ch : Nat),
    (clapArmed s ch = true → clapFn s ch = 1 → (clapCh s ch).start.isSome = true → (clapCh s ch).lost = false →
      (s.f F.CLAP_CH_MEAS_n_stops ch ≤ (clapCh s ch).stops.length → exec (.intervalEnd ch) s = .next (closeRunning s ch 0))
      ∧ ((clapCh s ch).stops.length < s.f F.CLAP_CH_MEAS_n_stops ch → exec (.stopTimeout ch) s = .next (closeRunning s ch 1)))
    ∧ (clapArmed s ch = true → clapFn s ch = 1 → (clapCh s ch).lost = true → exec (.measurementLost ch) s = .next (closeRunning s ch 2))
    ∧ (clapArmed s ch = true → clapFn s ch = 2 → (clapCh s ch).lost = false → (clapCh s ch).stops ≠ [] → exec (.frequencyGateEnd ch) s = .next (closeRunning s ch 0))
    ∧ (clapArmed s ch = true → clapFn s ch = 2 → (clapCh s ch).lost = false → (clapCh s ch).stops = [] →
        ((clapCh s ch).periods = 0 → exec (.stopTimeout ch) s = .next (closeRunning s ch 1))
        ∧ ((clapCh s ch).periods ≠ 0 → exec (.stopTimeout ch) s = .next s))
    ∧ (∀ n k m, n < 4 → k < 32 → refMeas (tget (clapCh s ch).refs RefAcc.empty n) = some m →
        (∀ j < 32, (slotOn s j = true ∧ s.f F.TS_REF_CFG_type j = 2 ∧ s.f F.TS_REF_CFG_source j = ch) ↔ j = k) → s.f F.TS_REF_CFG_ts k = n →
        exec (.referenceOffset ch) s = .next (takeMeas (setClapCh s ch { clapCh s ch with refs := [] }) k m))

/-- An edge inside the dead time is counted in CLAP_CH_MISSED and nothing else sees it (05_clapper.md (R102)). -/
def Obligations.EdgesInTheDeadTimeAreCounted : Prop :=
  ∀ (s : State) (c frac : Nat) (falling : Bool) (full : Bool) (q : Nat), (clapCh s c).lastStamp = some q →
    (s.ticks * 2 ^ 32 + frac < q + 2 * 2 ^ 32 → stampEdge s c frac falling full = s.inc .CLAP_CH_MISSED c ∧
      ∀ n i j, ¬(n = .CLAP_CH_MISSED ∧ i = c ∧ j = 0) → (stampEdge s c frac falling full).rg n i j = s.rg n i j)
    ∧ (q + 2 * 2 ^ 32 ≤ s.ticks * 2 ^ 32 + frac → (clapCh (stampEdge s c frac falling true) c).lastStamp = some (s.ticks * 2 ^ 32 + frac))

/-- Stream edges, record writes, read indexes, limits and lane calibrations (05_clapper.md (R99, R100, R103, R112, R113, R114, R115, R116)). Where
the text leaves a point open the clauses are of the choice the model makes: notes/assumptions/23.md, notes/assumptions/68.md. -/
def Obligations.ClapperRecordsEdgesAndLimits : Prop :=
  ∀ s : State,
    (∀ ch k frac falling full, ch < 16 → (advance s k).hs.shclk = true → clapFn (advance s k) ch ≠ 0 → slopeOk (advance s k) ch falling = true →
      ((clapCh (advance s k) ch).presc + 1 < 2 ^ (advance s k).f F.CLAP_CH_CFG_prescale_exp ch →
        exec (.streamEdge ch k frac falling full) s = .next (setClapCh (advance s k) ch { clapCh (advance s k) ch with presc := (clapCh (advance s k) ch).presc + 1 }))
      ∧ (2 ^ (advance s k).f F.CLAP_CH_CFG_prescale_exp ch ≤ (clapCh (advance s k) ch).presc + 1 →
        exec (.streamEdge ch k frac falling full) s = .next (stampEdge (setClapCh (advance s k) ch { clapCh (advance s k) ch with presc := 0 }) ch (frac % 2 ^ 32) falling full)))
    ∧ (∀ ch r rest, (clapCh s ch).recs = r :: rest → s.fb F.HOST_STATUS_bus_master = true → limitFlags s ch r.cmp = none →
      (areaFull (setClapCh s ch { clapCh s ch with recs := rest }) .CLAP_CH_WIDX .CLAP_CH_RIDX ch (s.f F.CLAP_CH_BUF_CFG_size_exp ch) = true →
        ∃ t, exec (.clapRecordWrite ch) s = .next t ∧ (clapCh t ch).recs = rest ∧ (clapCh t ch).dropped = (clapCh s ch).dropped + 1 ∧ t.out = s.out)
      ∧ (areaFull (setClapCh s ch { clapCh s ch with recs := rest }) .CLAP_CH_WIDX .CLAP_CH_RIDX ch (s.f F.CLAP_CH_BUF_CFG_size_exp ch) = false →
        ∃ t, exec (.clapRecordWrite ch) s = .next t ∧ (clapCh t ch).recs = rest ∧ (clapCh t ch).dropped = 0))
    ∧ (∀ ch v, ch < 16 → ridxOk s .CLAP_CH_WIDX .CLAP_CH_RIDX ch v = true →
        exec (.clapChRidxWrite ch v) s = .next ((s.wr .CLAP_CH_RIDX ch 0 v).setB F.CLAP_CH_STATUS_notice false ch))
    ∧ (∀ ch v, ch < 16 → exec (.clapLimitLoWrite ch false v) s = .next (setClapCh s ch { clapCh s ch with heldLo := some v })
        ∧ exec (.clapLimitLoWrite ch true v) s = .next (setClapCh s ch { clapCh s ch with heldHi := some v }))
    ∧ (∀ ch v lo, ch < 16 → (clapCh s ch).heldLo = some lo → ∃ u, u = setClapCh s ch { clapCh s ch with heldLo := none }
        ∧ (sext 64 (v.toNat * 2 ^ 32 + lo.toNat) ≤ clapLimit s ch true →
            exec (.clapLimitHiWrite ch false v) s = .next ((u.wr .CLAP_CH_LIMLO_LO ch 0 lo).wr .CLAP_CH_LIMLO_HI ch 0 v))
        ∧ (clapLimit s ch true < sext 64 (v.toNat * 2 ^ 32 + lo.toNat) → exec (.clapLimitHiWrite ch false v) s = .next (violation u)))
    ∧ (∀ lane, lane < 32 → s.fb F.CLAP_CTRL_auto_cal = true →
        (laneDue s lane = true → exec (.laneCalTrigger lane) s = .next (laneGrant (laneRequest s lane)))
        ∧ (∀ k, tget s.clap.lastCal none lane = some k → (laneDue s lane = true ↔
            (s.f F.CLAP_CTRL_cal_interval ≠ 0 ∧ s.f F.CLAP_CTRL_cal_interval * 3600 * 625000000 ≤ s.ticks - k.1)
            ∨ (s.f F.CLAP_CTRL_cal_dt ≠ 0 ∧ 16 * s.f F.CLAP_CTRL_cal_dt ≤ (s.fi F.PWR_THERM_tj - k.2).natAbs))))
    ∧ (∀ lane bins, lane < 32 → s.f F.CLAP_LANE_STATUS_cal lane = 2 →
        exec (.laneCalDone lane bins) s = .next (if bins.length = 14 ∧ (∀ p ∈ bins.zip (factoryBins lane), 10 * ((p.1 : Int) - p.2).natAbs ≤ 3 * p.2)
          ∧ ((bins.sum : Int) - 409600).natAbs ≤ 128 then lanePassed s lane bins else laneFailed s lane))

/-- AP_RELOCK, DP_RETUNE, DP_ALIGN_RUN and AP_BAND_CLEAR take effect (06_loops.md (R129, R131, R133, R135, R141, R142)). Where the text leaves a
point open the clauses are of the choice the model makes: notes/assumptions/14.md, notes/assumptions/69.md. -/
def Obligations.LoopCommandsTakeEffect : Prop :=
  ∀ (s : State) (h : CmdHdr), h.mbz = true → s.log.isolated.contains 7 = false → s.log.isolated.contains 8 = false →
    (∀ a mode, 0 < a → a < 4 → mode ≤ 1 → (apTarget s a).isNone = false → pfdOk s a = true → (apState s a = 3 ∨ apState s a = 4) → s.fb F.AP_CFG_enable a = true →
      (ap s a).stuck = false → (ap s a).cmd = none → outRunningOn s a = false →
      exec (.apRelock h a mode) s = .next (apGo (setAp (begins s h 0x30) a { ap s a with cmd := some (h, 0x30) }) a (mode == 1)))
    ∧ (∀ a : DpRetuneArgs, 0 < a.dpll → a.dpll < 6 → vcoOk a.freq = true → 0 < a.alignDiv → a.alignDiv ≤ 1000000 → s.hs.shclk = true → steered s a.dpll = none →
      exec (.dpRetune h a) s = .next (complete (dpEval (((s.setF F.DP_FREQ_LO_value (a.freq % 2 ^ 32) a.dpll).setF F.DP_FREQ_HI_value (a.freq / 2 ^ 32) a.dpll).setF
        F.DP_ALIGN_align_div a.alignDiv a.dpll) a.dpll) h 0x31 .ok []))
    ∧ (∀ d, 0 < d → d < 6 → s.hs.shclk = true → s.fb F.DP_CFG_det d = true → detAvail s d = true → dpState s d = 3 → (dp s d).active = false →
      exec (.dpAlignRun h d) s = .next (detBegin (begins s h 0x32) d (some h)))
    ∧ (∀ a, a < 4 → ∃ p t, exec (.apBandClear h a) s = .next (complete t h 0x33 .ok p) ∧ (∀ j < 32, t.fb F.AP_BTAB_valid a j = false) ∧ (ap t a).lru = []
        ∧ p = [(0, 1, ((List.range 32).filter (fun j => s.fb F.AP_BTAB_valid a j)).length)])

/-- The APLLs' events and register writes change their states (06_loops.md (R121, R128, R129, R131, R135, R136, R138)). Where the text leaves a
point open the clauses are of the choice the model makes: notes/assumptions/13.md, notes/assumptions/14.md, notes/assumptions/69.md. -/
def Obligations.AnalogLoopsChangeState : Prop :=
  ∀ (s : State) (a : Nat), a < 4 →
    (∀ j, apState s a = 2 → (ap s a).hop = some j →
      exec (.apHopTimeout a) s = .next (apSet (setAp (s.setB F.AP_BTAB_valid false a j.1) a { ap s a with hop := none }) a 1))
    ∧ (∀ band l, apState s a = 1 → (ap s a).hop = none → (ap s a).cmd = none → ∃ t, exec (.apLocked a band l) s = .next t ∧ apState t a = 3)
    ∧ (∀ j band l, apState s a = 2 → (ap s a).hop = some j → (ap s a).cmd = none → ∃ t, exec (.apLocked a band l) s = .next t
        ∧ t.f F.AP_STATUS_band a = j.2 % 512 ∧ t.fb F.AP_STATUS_from_table a = true)
    ∧ (apState s a = 1 → (ap s a).cmd = none → exec (.apSearchTimeout a) s = .next (apSet s a 4))
    ∧ (0 < a → apState s a = 3 → exec (.apLost a false) s = .next (apSet { s with loops := { s.loops with osc := false } } a 4))
    ∧ (0 < a → apState (oscBack s) a = 3 → exec (.apLost a true) s = .next (apSet (oscBack s) a 4))
    ∧ (0 < a → apState s a = 4 → s.fb F.AP_CFG_auto_relock a = true → (ap s a).stuck = false → pfdOk s a = true →
      exec (.apAutoRelock a) s = .next (apStart (oscBack s) a false))
    ∧ (∀ v, (regWrite s ⟨.AP_CFG, a, 0⟩ v).fb F.AP_CFG_enable a = true → (regWrite s ⟨.AP_CFG, a, 0⟩ v).f F.AP_CFG_dpll a = s.f F.AP_CFG_dpll a →
      apState (regWrite s ⟨.AP_CFG, a, 0⟩ v) a = 0 →
      exec (.apCfgWrite a v) s = .next (dpEvalAll (apStart (regWrite s ⟨.AP_CFG, a, 0⟩ v) a false)))
    ∧ (∀ v, ∃ u, u = regWrite s ⟨.AP_SS, a, 0⟩ v ∧ exec (.apSsWrite a v) s = .next (dpEvalAll (u.setB F.AP_STATUS_spread_active (apState u a == 3 && spreadOn u a) a)))
    ∧ (∀ d v, d < 6 → exec (.dpCfgWrite d v) s = .next (lpiCheckAll (dpEval (regWrite s ⟨.DP_CFG, d, 0⟩ v) d)))

/-- DPLL updates, reference inputs and the determinism procedure act (06_loops.md (R122, R123, R124, R125, R126, R133)). Where the text leaves a
point open the clauses are of the choice the model makes: notes/assumptions/24.md, notes/assumptions/69.md. -/
def Obligations.DpllsAndRefinsAct : Prop :=
  ∀ s : State,
    (∀ d m e r, 0 < d → d < 6 → (dpState (dpEval s d) d = 2 ∨ dpState (dpEval s d) d = 3) → e = satInt 32 (dpPhaseErr (dpEval s d) d m) →
        r = dpNextRatio (dpEval s d) d e m.freq → ∃ u, exec (.dpllUpdate d m none) s = .next (dpLockStep (queueLoad u (.dpll d r)) d
          (e - roundRat ((dpLag (dpEval s d) d : Rat) / 256000)) m.freq)
        ∧ u.fi F.DP_PERR_value d = e ∧ u.fb F.DP_STATUS_slope_limited d = (dpLag (dpEval s d) d != 0) ∧ 64 * 2 ^ 40 ≤ r ∧ r < 2561 * 2 ^ 40)
    ∧ (∀ i (e : RefinEdge), i < 8 → (advance s e.ticks).f F.SYN_REFIN_CFG_f_nom i ≠ 0 → (advance s e.ticks).hs.shclk = true →
        ∃ u : State, exec (.refinStamp i e) s = .next (dpEvalAll ((u.setB F.SYN_REFIN_STATUS_present true i).setI F.SYN_REFIN_STATUS_offset (satInt 24 e.ppb) i))
          ∧ u.regs = (advance s e.ticks).regs ∧ (tget u.loops.refin Refin.reset i).prev = (tget (advance s e.ticks).loops.refin Refin.reset i).last)
    ∧ (∀ i, i < 8 → ∃ u : State, exec (.refinAbsent i) s = .next (dpEvalAll (u.setB F.SYN_REFIN_STATUS_present false i))
        ∧ u = { s with loops := { s.loops with refin := tset s.loops.refin i Refin.reset } })
    ∧ (∀ d g, d < 6 → (dp s d).active = true → dpState s d = 3 → clocked s = true → steered s d = none → (dp s d).anchor.bind (gridCome s d) = some g →
        exec (.detAnchor d) s = .next (setDp (s.setF F.DP_STATUS_det_state 1 d) d { dp s d with anchor := some g }))
    ∧ (∀ d r, d < 6 → (dp s d).active = true → s.f F.DP_STATUS_det_state d = 1 → clocked s = true → detCorrecting s d = false →
        ((512 < r.natAbs → s.f F.DP_STATUS_passes d + 1 < 4 → ∃ t, exec (.detPassEnd d r) s = .next t ∧ t.f F.DP_STATUS_det_state d = 1 ∧ (dp t d).correction = (dp s d).correction - r)
        ∧ (r.natAbs ≤ 512 → (dp s d).det = none → ∃ t, exec (.detPassEnd d r) s = .next t ∧ t.f F.DP_STATUS_det_state d = 2 ∧ (dp t d).active = false)
        ∧ (512 < r.natAbs → s.f F.DP_STATUS_passes d = 3 → (dp s d).det = none → ∃ t, exec (.detPassEnd d r) s = .next t ∧ t.f F.DP_STATUS_det_state d = 3 ∧ (dp t d).active = false)))

/-- AP0 is lost, relocked and rebuilt (06_loops.md (R138, R139), 02_handshake_fabric.md (R37, R38)). Where the text leaves a point open the clauses
are of the choice the model makes: notes/assumptions/6.md, notes/assumptions/12.md. -/
def Obligations.Ap0LossAndRebuildAct : Prop :=
  ∀ s : State,
    (∀ m p, apState s 0 = 3 → s.hs.shclk = true → ∃ t, exec (.ap0Loss m p) s = .next t ∧ t.hs.shclk = false)
    ∧ (apState (oscBack s) 0 = 4 → exec .ap0RelockAttempt s = .next (apStart (oscBack s) 0 false))
    ∧ (∀ n p m, s.hs.shclk = false → apState s 0 = 3 → s.fb F.SYN_GAP_STATUS_gap_active = true →
        ∃ u, exec (.shclkRestart n p m) s = .next (shclkStart u) ∧ u.loops.nGap = n ∧ u.fb F.SYN_GAP_STATUS_gap_active = false ∧ u.fb F.SYN_GAP_STATUS_rebuilding = true
          ∧ u.fb F.SYN_GAP_STATUS_overflow = decide (2 ^ 48 ≤ n))
    ∧ (s.hs.shclk = true → s.fb F.SYN_GAP_STATUS_rebuilding = true → s.loops.nGap < 2 ^ 48 → ∃ t u, exec .ap0Rebuilt s = .next t
        ∧ t = dpEvalAll (gnssRebuilt ((List.range 4).foldl rebuildBound u) (gapTicks ((List.range 4).foldl rebuildBound u)).floor.toNat) ∧ u.fb F.SYN_GAP_STATUS_rebuilding = false
        ∧ u.f F.SYN_GAP_LO_value + u.f F.SYN_GAP_HI_value * 2 ^ 32 = s.loops.nGap)

/-- A loss of lock on AP1, AP2 or AP3 leaves the handshake domain, the crossings and the pace monitor alone (02_handshake_fabric.md (R39)). -/
def Obligations.AnalogLossLeavesTheHandshake : Prop :=
  ∀ (s t : State) (a : Nat) (osc : Bool), 0 < a → a < 4 → exec (.apLost a osc) s = .next t →
    t.hs = s.hs ∧ t.time = { s.time with tbl := t.time.tbl } ∧ (∀ n, tsc t n = { tsc s n with stepped := (tsc t n).stepped })
    ∧ t.ens = s.ens ∧ t.ntp = s.ntp ∧ t.stv = s.stv ∧ t.ran = s.ran
    ∧ ∀ n ∈ [RegName.PWR_PACE_STATUS, .PWR_PACE_CFG, .PWR_PACE_TARGET, .PWR_PACE_EVENT, .PWR_PACE_RAW, .PWR_PACE_SAG_COUNT, .PWR_AVS_STATUS],
        ∀ i j, t.rg n i j = s.rg n i j

/-- OUT_START, OUT_STOP and OUT_SWITCH take effect (07_outputs.md (R144, R147, R150, R151, R152, R156, R157, R159)). Where the text leaves a point
open the clauses are of the choice the model makes: notes/assumptions/25.md. -/
def Obligations.OutputCommandsTakeEffect : Prop :=
  ∀ (s : State) (h : CmdHdr), h.mbz = true → s.log.isolated.contains 9 = false →
    (∀ a : OutArgs, a.mask ≠ 0 → a.ts < 4 → a.ns < 10 ^ 9 → a.sec < 2 ^ 48 → (maskOuts a.mask).any (outCfgBad s) = false → clocked s = true →
      (maskOuts a.mask).any (outBusy s) = false → tjLimit s = false → (maskOuts a.mask).any (outSpreads s) = false →
      (a.trigger = 0 → exec (.outStart h a) s = .next (outStartDone ((maskOuts a.mask).foldl (outArm false) (begins s h 0x34)) h a))
      ∧ (a.trigger = 1 → instantPast s a.ts a.sec a.ns 0 = false → ∃ w t, exec (.outStart h a) s = .next (atTsWait t w) ∧ w.cmd = .outStart a
          ∧ t = (maskOuts a.mask).foldl (outArm true) (begins s h 0x34)))
    ∧ (∀ a : OutArgs, a.mask ≠ 0 → a.ts < 4 → a.ns < 10 ^ 9 → a.sec < 2 ^ 48 → ((maskOuts a.mask).filter (fun o => outState s o != 0)).isEmpty = false →
      (a.trigger = 0 → exec (.outStop h a) s = .next (outStopDone (begins s h 0x35) h a))
      ∧ (a.trigger = 1 → clocked s = true → instantPast s a.ts a.sec a.ns 0 = false → ∃ w t, exec (.outStop h a) s = .next (atTsWait t w) ∧ w.cmd = .outStop a))
    ∧ (∀ out, out < 32 → outState s out = 2 → s.fb F.OUT_CFG_fb_en out = true → outSrc s out ≠ 4 → s.fb F.OUT_STATUS_on_fallback out = false →
      s.fb F.OUT_STATUS_switching out = false → apState s (s.f F.OUT_CFG_fb_apll out) = 3 →
      ∃ p, exec (.outSwitch h out 0) s = .next (complete (setOut (s.setB F.OUT_STATUS_switching true out) out { outOf s out with move := some true }) h 0x36 .ok p)
        ∧ p = [(0, 4, (((s.setB F.OUT_STATUS_on_fallback true out).setF F.OUT_STATUS_apll (s.f F.OUT_CFG_fb_apll out) out).rg .OUT_STATUS out).toNat)])

/-- The output sequencer, the mux, the fine delay and the divider reload act (07_outputs.md (R147, R148, R150, R151, R152, R153, R154, R155, R156,
R157)). Where the text leaves a point open the clauses are of the choice the model makes: notes/assumptions/25.md, notes/assumptions/70.md. -/
def Obligations.OutputSequencerActs : Prop :=
  ∀ (s : State) (out : Nat), out < 32 →
    (outState s out = 1 → (outOf s out).waits = false → (outOf s out).fault = none → outPermitted s out = true → outClocked s out = true →
      exec (.outGateOpen out) s = .next (outRun s out))
    ∧ (outState s out = 2 → (outOf s out).cmdStop = true → (outSrc s out = 4 → cueActive s (s.f F.OUT_CFG_cue out) = false) →
      exec (.outGateClose out) s = .next (outStopped s out 1 false))
    ∧ (∀ c, outState s out = 2 → (outOf s out).fault = some c → exec (.outFaultStop out true) s = .next (outStopped s out c true))
    ∧ (s.fb F.OUT_CFG_twin_gate out = true → outState s out = 2 → (outOf s out).cmdStop = false → s.fb F.RAN_STATUS_permission = false →
      ∃ t, exec (.outInterlockGate out) s = .next t ∧ outState t out = 3 ∧ .outPin out false ∈ t.out)
    ∧ (s.fb F.OUT_CFG_twin_gate out = true → outState s out = 3 → (outOf s out).fault = none → s.fb F.RAN_STATUS_permission = true → outClocked s out = true →
      exec (.outInterlockGate out) s = .next (outRun s out))
    ∧ (outState s out = 2 → s.fb F.OUT_STATUS_on_fallback out = false → (outOf s out).fault = none → (outOf s out).move = some true →
      exec (.fallbackSwitch out) s = .next (outMoved s out true))
    ∧ (outState s out = 2 → s.fb F.OUT_STATUS_on_fallback out = true → (outOf s out).fault = none → (outOf s out).move = some false →
      exec (.fallbackReturn out) s = .next (outMoved s out false))
    ∧ (outState s out ≠ 0 → (outOf s out).fine ≠ s.fi F.OUT_FINE_value out → ∃ t, exec (.outFineStep out) s = .next t
        ∧ ((outOf t out).fine - s.fi F.OUT_FINE_value out).natAbs + 1 = ((outOf s out).fine - s.fi F.OUT_FINE_value out).natAbs)
    ∧ (∀ u, s.fb F.OUT_STATUS_reload_pending out = true → s.hs.shclk = true → (outOf s out).reloadAt = some (.ts u) → (outOf s out).reloadFb = none →
        ∃ t, exec (.outDividerReload out) s = .next t ∧ (outOf t out).ref = some (.ts u) ∧ t.fb F.OUT_STATUS_reload_pending out = false)

/-- CUE_ARM, CUE_CANCEL and CUE_QUERY take effect, and a pin's configuration is written (08_cues_captures_tod.md (R161, R162, R165, R166, R170,
R179, R180)). Where the text leaves a point open the clauses are of the choice the model makes: notes/assumptions/26.md, notes/assumptions/71.md. -/
def Obligations.CueCommandsTakeEffect : Prop :=
  ∀ (s : State) (h : CmdHdr), h.mbz = true →
    (∀ a : CueArmArgs, s.log.isolated.contains 10 = false → a.cue < 64 → cueArmBad s a = false → cueIdle s a.cue = true → tsRuns s (cueTs s a.cue) = true → clocked s = true →
      (cueNow s a.cue : Int) < psToUnits (cueT0 a) → (∀ p < 8, s.fb F.CUE_PIN_CFG_enable p = true → s.f F.CUE_PIN_CFG_cue p = a.cue →
          cueWindow s p (cuePinNs s p (psToUnits (cueT0 a))) = true) →
      ∃ t p, exec (.cueArm h a) s = .next (complete t h 0x24 .ok p) ∧ t.f F.CUE_STATUS_state a.cue = 1 ∧ (cue t a.cue).t0 = cueT0 a ∧ (cue t a.cue).k = 0
        ∧ (cue t a.cue).firings = 0)
    ∧ (∀ a : CueCancelArgs, a.cue < 64 → a.ns < 10 ^ 9 → a.sec < 2 ^ 48 → cueIdle s a.cue = false →
      (a.trigger = 0 → cueCommitted s a.cue = false → ∃ u, exec (.cueCancel h a) s = .next (cueSettle (cueFinish u a.cue 2)) ∧ (cue u a.cue).cancels = (cue s a.cue).cancels ++ [(h, (a.sec * 10 ^ 9 + a.ns) * 1000)])
      ∧ (a.trigger = 0 → cueCommitted s a.cue = true → exec (.cueCancel h a) s = .next (setCue (begins s h 0x25) a.cue
          { cue s a.cue with cancels := (cue s a.cue).cancels ++ [(h, cueInstant (cue s a.cue) (cue s a.cue).k + 1)] }))
      ∧ (a.trigger = 1 → s.hs.shclk = true → instantPast s (cueTs s a.cue) a.sec a.ns 0 = false →
          exec (.cueCancel h a) s = .next (setCue (begins s h 0x25) a.cue { cue s a.cue with cancels := (cue s a.cue).cancels ++ [(h, (a.sec * 10 ^ 9 + a.ns) * 1000)] })))
    ∧ (∀ g, g < 64 → ∃ t x, exec (.cueQuery h g) s = .next (complete t h 0x26 .ok (x ++ [(16, 8, (cue s g).firings)])) ∧ t.regs = s.regs ∧ t.cues = s.cues)
    ∧ (∀ pin v, pin < 8 → exec (.cuePinCfgWrite pin v) s = .next (cuePinSettle (regWrite s ⟨.CUE_PIN_CFG, pin, 0⟩ v) pin))

/-- Cues fire, skip late instants, end, and release their pins (08_cues_captures_tod.md (R161, R162, R163, R167, R168, R169, R170)). Where the text
leaves a point open the clauses are of the choice the model makes: notes/assumptions/26.md, notes/assumptions/71.md. -/
def Obligations.CuesFireAndEnd : Prop :=
  ∀ s : State,
    (∀ g k u, u = cueSettle (advance s k) → g < 64 → cueIdle u g = false → (cue u g).ending = 0 → cueHas (cue u g) (cue u g).k = true →
      cueCancelled (cue u g) (cueInstant (cue u g) (cue u g).k) = false → clocked u = true → tsRuns u (cueTs u g) = true →
      (cueLoaded u g = true → (cueNow u g : Int) ≤ psToUnits (cueInstant (cue u g) (cue u g).k) →
       psToUnits (cueInstant (cue u g) (cue u g).k) < (cueNow u g : Int) + tickDelta u 4 (cueTs u g) 1 →
        ∃ v, exec (.cueFiring g k) s = .next v ∧ (cue v g).k = (cue u g).k + 1
          ∧ v = setCue (cueFire (cueSkipEnd u g) g (psToUnits (cueInstant (cue u g) (cue u g).k)) false) g
              { cue (cueFire (cueSkipEnd u g) g (psToUnits (cueInstant (cue u g) (cue u g).k)) false) g with k := (cue u g).k + 1 })
      ∧ (psToUnits (cueInstant (cue u g) (cue u g).k) < (cueNow u g : Int) → u.f F.CUE_CFG_late g = 0 →
        ∃ v, exec (.cueLate g k false) s = .next v ∧ (cue u g).k < (cue v g).k ∧ (cue v g).skipRun = (cue u g).skipRun + ((cue v g).k - (cue u g).k)
          ∧ (cue v g).firings = (cue u g).firings))
    ∧ (∀ g k, g < 64 → cueIdle (advance s k) g = false → (cue (advance s k) g).ending ≠ 0 →
        exec (.cueEnd g k) s = .next (cueSettle (cueFinish (advance s k) g (cue (advance s k) g).ending)))
    ∧ (∀ d, s.hs.shclk = false → cueDestHigh s d = true → s.cues.low.contains d = false →
        exec (.cueRingTimerRelease d) s = .next { s.emit (.cueLow d) with cues := { s.cues with low := s.cues.low ++ [d] } })

/-- Captures are written, and ToD messages are sent and received (08_cues_captures_tod.md (R172, R173, R175, R176, R178)). Where the text leaves a
point open the clauses are of the choice the model makes: notes/assumptions/27.md, notes/assumptions/71.md. -/
def Obligations.CapturesAndTodMessagesAct : Prop :=
  ∀ s : State,
    (∀ ch c, s.cues.caps.find? (fun c => c.ch == ch) = some c → s.fb F.HOST_STATUS_bus_master = true →
      (areaFull s .CUE_CAP_WIDX .CUE_CAP_RIDX 0 (s.f F.CUE_CAP_BUF_CFG_size_exp) = true → ∃ t, exec (.captureEdge ch) s = .next t ∧ t.rg .CUE_CAP_WIDX = s.rg .CUE_CAP_WIDX
        ∧ t.cues.caps = dropFirst (fun x => x.ch == ch) s.cues.caps ∧ t.cues.capDropped = s.cues.capDropped + 1)
      ∧ (areaFull s .CUE_CAP_WIDX .CUE_CAP_RIDX 0 (s.f F.CUE_CAP_BUF_CFG_size_exp) = false → ∃ t, exec (.captureEdge ch) s = .next t
        ∧ t.rg .CUE_CAP_WIDX 0 0 = s.rg .CUE_CAP_WIDX 0 0 + 1 ∧ t.cues.caps = dropFirst (fun x => x.ch == ch) s.cues.caps ∧ t.cues.capDropped = 0))
    ∧ (∀ k t, (cue (advance s k) ((advance s k).f F.CUE_TOD_CFG_pps_cue)).lastAt = some t → (advance s k).fb F.CUE_TOD_CFG_tx_en = true →
      (advance s k).f F.CUE_STATUS_state ((advance s k).f F.CUE_TOD_CFG_pps_cue) = 2 → (advance s k).fb F.RAN_STATUS_permission = true → (advance s k).hs.shclk = true →
      (advance s k).cues.tod.txEnd = none → (advance s k).f F.CUE_TOD_CFG_tx_offset * 625000 + 380 * (advance s k).f F.CUE_TOD_BAUD_baud_div ≤ 593750000 →
      (advance s k).f F.CUE_TOD_CFG_format = 0 →
      ∃ u m, exec (.todMessageSend k) s = .next u ∧ .tod m ∈ u.out ∧ u.cues.tod.seq = ((advance s k).cues.tod.seq + 1) % 2 ^ 32)
    ∧ (s.fb F.CUE_TOD_CFG_rx_en = true → (∀ bytes : List Nat, bytes.length ≠ 38 → exec (.todMessageReceive bytes) s = .next (s.incF F.CUE_TOD_ERR_crc_framing))
      ∧ (∀ bytes : List Nat, bytes.length = 38 → bytes.take 2 = [0xC5, 0x3A] → bytes[3]? = some 32 → leVal (bytes.drop 36) = crc16 ((bytes.drop 2).take 34) →
          (bytes[2]? = some 3 → exec (.todMessageReceive bytes) s = .next (todReject s))
          ∧ (todLow s (leVal ((bytes.drop 20).take 4)) = false →
            (bytes[2]? = some 2 → s.cues.tod.waits = none → exec (.todMessageReceive bytes) s = .next { s with cues := { s.cues with tod :=
              { s.cues.tod with waits := some (todSecond (bytes.drop 4), bytes[11]?.getD 255, leVal ((bytes.drop 20).take 4)) } } })
            ∧ (∀ e, bytes[2]? = some 1 → s.cues.tod.edge = some e → s.ticks ≤ e.1 + 625000000 →
              exec (.todMessageReceive bytes) s = .next (todLabel (todAccept s (leVal ((bytes.drop 20).take 4))) (todSecond (bytes.drop 4)) (bytes[11]?.getD 255))))))

/-- Instant k of a cue is t0 plus k periods to the nearest picosecond, with no error that accumulates (08_cues_captures_tod.md (R162)). -/
def Obligations.CueInstantsAreExact : Prop :=
  (∀ (c : Cue) (k : Nat), 0 < c.div → ∃ m, cueInstant c k = c.t0 + m ∧ 2 * c.div * m ≤ 2 * k * c.period + c.div ∧ 2 * k * c.period + c.div < 2 * c.div * (m + 1))
    ∧ (∀ c : Cue, 0 < c.div → cueInstant c 0 = c.t0) ∧ (∀ (c : Cue) (k : Nat), c.period = 0 → (cueHas c k = true ↔ k = 0))
    ∧ (∀ (s : State) (h : CmdHdr) (a : CueArmArgs), h.mbz = true → s.log.isolated.contains 10 = false → a.cue < 64 → a.period ≠ 0 →
        (a.div = 0 ∨ 16777216 < a.div ∨ a.period < 6400 * a.div ∨ 10 ^ 15 * a.div < a.period) → exec (.cueArm h a) s = .next (badArg s h 0x24))

/-- GNSS_ACQ, GNSS_CH_START, GNSS_CH_STOP, GNSS_POWER and GNSS_SPOOF take effect (09_gnss.md (R182, R189, R191, R199, R200, R203, R205)). Where the
text leaves a point open the clauses are of the choice the model makes: notes/assumptions/15.md, notes/assumptions/28.md. -/
def Obligations.GnssCommandsTakeEffect : Prop :=
  ∀ (s : State) (h : CmdHdr), h.mbz = true → s.log.isolated.contains 11 = false →
    (∀ a : GnssAcqArgs, a.port < 3 → gnssUsable s a.port a.signal a.gloK = true → 0 < a.svid → a.svid ≤ 63 → -7 ≤ a.gloK → a.gloK ≤ 6 → 0 < a.coherent → a.coherent ≤ 20 →
      a.coherent % 4 = 0 → 0 < a.count → a.count ≤ 64 → a.mode = 0 → a.dopHalf ≤ 20000 → gnssP s = 2 → s.fb F.GNSS_PORT_STATUS_running a.port = true →
      s.gnss.acqQ.length < 16 → exec (.gnssAcq h a) s = .next { begins s h 0x70 with gnss := { s.gnss with acqQ := s.gnss.acqQ ++ [(some h, a)] } })
    ∧ (∀ a : GnssStartArgs, a.ch < 192 → a.source = 1 → a.slate.ns < 10 ^ 9 → a.slate.ts < 4 → a.missed = false → s.hs.shclk = true →
      pathOff s (s.f F.GNSS_CH_CFG_port a.ch) = false → s.wrap.retired.contains (3, a.ch) = false →
      gnssUsable s (s.f F.GNSS_CH_CFG_port a.ch) (s.f F.GNSS_CH_CFG_signal a.ch) (s.fi F.GNSS_CH_CFG_glo_k a.ch) = true → gnssChState s a.ch = 0 → gnssP s = 2 →
      ∃ t p, exec (.gnssChStart h a) s = .next (complete t h 0x71 .ok p) ∧ gnssChState t a.ch = 1 ∧ (gnssCh t a.ch).epochs = 0)
    ∧ (∀ ch, ch < 192 → (gnssChState s ch = 1 ∨ gnssChState s ch = 2) →
      exec (.gnssChStop h ch) s = .next (complete (gnssChSet (setGnssCh s ch { gnssCh s ch with pend := none }) ch 0) h 0x72 .ok [(0, 4, (gnssCh s ch).epochs % 2 ^ 32)]))
    ∧ (gnssP s = 0 → exec (.gnssPower h 2 1) s = .next (complete s h 0x73 .ok [(0, 1, 0), (1, 1, bit (s.fb F.GNSS_STATUS_hot))])
        ∧ ∃ u, exec (.gnssPower h 1 1) s = .next (gnssWaking u) ∧ u.gnss.wakers = s.gnss.wakers ++ [h])
    ∧ (∀ checks, 0 < checks → checks < 32 → ∃ t p, exec (.gnssSpoof h 0 checks 0) s = .next (complete t h 0x74 .ok p) ∧ t.gnss.raised = 0
        ∧ t.f F.GNSS_SPOOF_STATUS_latched = s.f F.GNSS_SPOOF_STATUS_latched &&& (31 - checks))
    ∧ (∀ sols, 0 < sols → sols < 4 → ∃ t p, exec (.gnssSpoof h 1 0 sols) s = .next (complete t h 0x74 .ok p) ∧ t.gnss.raised = s.gnss.raised ||| sols)

/-- The GNSS sample ports, the notches and the jam indicator act (09_gnss.md (R183, R184, R185, R187, R188)). Where the text leaves a point open the
clauses are of the choice the model makes: notes/assumptions/72.md, notes/assumptions/73.md. -/
def Obligations.GnssSamplePathActs : Prop :=
  ∀ (s : State) (port : Nat), port < 3 →
    (∀ k (b : BlockEnd) u, u = advance s k → u.fb F.GNSS_PORT_CFG_enable port = true → gnssP u = 2 → (gnssPort u port).broken = false → clocked u = true →
      ((u.fb F.GNSS_PORT_STATUS_running port = false ∨ (gnssPort u port).marks = [] ∨ ∃ m l, (gnssPort u port).marks = m :: l
          ∧ rateOff ((u.ticks * 2 ^ 32 : Nat) + ((b.frac % 2 ^ 32 : Nat) : Int) - m.place) = false) →
        ∃ t, exec (.sampleEpochMark port k b) s = .next t ∧ t.fb F.GNSS_PORT_STATUS_running port = true ∧ t.fb F.GNSS_PORT_STATUS_clk_present port = true
          ∧ (gnssPort t port).marks ≠ [])
      ∧ (∀ m l, u.fb F.GNSS_PORT_STATUS_running port = true → (gnssPort u port).marks = m :: l →
          rateOff ((u.ticks * 2 ^ 32 : Nat) + ((b.frac % 2 ^ 32 : Nat) : Int) - m.place) = true →
          exec (.sampleEpochMark port k b) s = .next (gnssBreak (u.setB F.GNSS_PORT_STATUS_rate_bad true port) port)))
    ∧ (gnssP s = 2 → s.fb F.GNSS_PORT_CFG_enable port = true →
        exec (.samplePathBreak port .clock) s = .next (gnssBreak (s.setB F.GNSS_PORT_STATUS_clk_present false port) port)
        ∧ (correlatorsBehind s = true → exec (.samplePathBreak port .overrun) s = .next (gnssBreak (s.setB F.GNSS_PORT_STATUS_overrun true port) port)))
    ∧ (∀ lost, (gnssPort s port).broken = true → s.fb F.GNSS_PORT_CFG_enable port = true → clocked s = true → ∃ t u, exec (.samplePathRecover port lost) s = .next t
        ∧ (gnssPort u port).broken = false ∧ u.fb F.GNSS_PORT_STATUS_running port = true ∧ t = (gnssOn u port 2).foldl (fun t c => gnssChSet (setGnssCh t c { gnssCh t c with slip := true }) c 1) u)
    ∧ (∀ v, s.fb F.GNSS_PORT_CFG_enable port = true → (regWrite s ⟨.GNSS_PORT_CFG, port, 0⟩ v).fb F.GNSS_PORT_CFG_enable port = false →
        exec (.gnssPortEnableWrite port v) s = .next (gnssPortStop (regWrite s ⟨.GNSS_PORT_CFG, port, 0⟩ v) port))
    ∧ (∀ notch, notch < 4 → s.fb F.GNSS_NOTCH_enable port notch = false → ∃ t, exec (.notchChange port notch true 0) s = .next t
        ∧ t.fb F.GNSS_NOTCH_ST_active port notch = false ∧ t.fb F.GNSS_NOTCH_ST_locked port notch = false)
    ∧ (∀ k u, u = advance s k → u.f F.GNSS_PORT_CFG_jam_thr port < u.f F.GNSS_PORT_STATUS_jam port → u.fb F.GNSS_PORT_STATUS_jam_flag port = false →
        ∃ t, exec (.gnssJam port k) s = .next t
        ∧ t.fb F.GNSS_PORT_STATUS_jam_flag port = true)

/-- Acquisitions end, channels dump, and the NCO registers take their halves (09_gnss.md (R189, R191, R192, R193, R203)). Where the text leaves a
point open the clauses are of the choice the model makes: notes/assumptions/72.md, notes/assumptions/74.md. -/
def Obligations.GnssChannelsAct : Prop :=
  ∀ s : State,
    (∀ pos h a r, s.f F.PWR_RUN_run_state ≠ 4 → s.gnss.acqQ[pos]? = some (some h, a) →
      (r.broke = true → exec (.gnssAcqDone pos r) s = .next (finish (acqRefill { s with gnss := { s.gnss with acqQ := s.gnss.acqQ.eraseIdx pos } }) h 0x70 .timeout []))
      ∧ (r.broke = false → ∃ t p, exec (.gnssAcqDone pos r) s = .next (finish t h 0x70 .ok ([(0, 2, s.gnss.nextAcq), (2, 1, bit (decide (640 < r.ratio)))] ++ p))
          ∧ (s.gnss.plan = [] → t.gnss.acqQ = s.gnss.acqQ.eraseIdx pos) ∧ t.gnss.nextAcq = (s.gnss.nextAcq + 1) % 2 ^ 16 ∧ t.regs = s.regs))
    ∧ (∀ ch e n, ch < 192 → (gnssChState s ch = 1 ∨ gnssChState s ch = 2) → epochSamples s ch = some n → ∃ t, exec (.gnssChannelEpoch ch e) s = .next t ∧ (gnssCh t ch).dumped = true
        ∧ (gnssCh t ch).dumps.length ≤ 2)
    ∧ (∀ k, ∃ t, exec (.gnssDumpInterrupt k) s = .next t ∧ (∀ c < 192, (gnssCh t c).dumped = false) ∧ t.regs = (advance s k).regs)
    ∧ (∀ ch v host, ch < 192 → ncoOwner s ch host = true →
        exec (.gnssNcoLoWrite ch true v host) s = .next (setGnssCh s ch { gnssCh s ch with heldCarr := some v })
        ∧ exec (.gnssNcoLoWrite ch false v host) s = .next (setGnssCh s ch { gnssCh s ch with heldCode := some v })
        ∧ exec (.gnssCodeAdjWrite ch v host) s = .next (setGnssCh s ch { gnssCh s ch with adj := sext 32 v.toNat }))
    ∧ (∀ ch v lo host, ch < 192 → ncoOwner s ch host = true → gnssChState s ch = 1 → (gnssCh s ch).pend = none → (gnssCh s ch).heldCode = some lo →
        ∃ t, exec (.gnssNcoCommit ch false v false host) s = .next t
          ∧ (gnssCh t ch).pend = some ⟨some (v.toNat % 2 ^ 16 * 2 ^ 32 + lo.toNat), none, (gnssCh s ch).adj, 0⟩ ∧ (gnssCh t ch).adj = 0
          ∧ t.f F.GNSS_CH_CODE_LO_value ch = lo.toNat ∧ t.f F.GNSS_CH_CODE_HI_value ch = v.toNat % 2 ^ 16)
    ∧ (∀ k d0 d1 d2 v u, v = advance s k → u = advance v (max d0 (max d1 d2)) → gnssP u = 2 → u.gnss.measAt ≠ some (measInstant v) →
        ∃ t, exec (.gnssMeas k d0 d1 d2) s = .next t ∧ t.gnss.s4 = false ∧ t.gnss.measAt = some (measInstant v))

/-- Navigation units, OSNMA results, power events and solutions act (09_gnss.md (R190, R194, R195, R196, R197, R198, R199, R200)). Where the text
leaves a point open the clauses are of the choice the model makes: notes/assumptions/6.md, notes/assumptions/16.md, notes/assumptions/75.md,
notes/assumptions/76.md. -/
def Obligations.GnssNavigationAndPowerAct : Prop :=
  ∀ s : State,
    (∀ ch u, ch < 192 → gnssChState s ch = 1 → s.fb F.GNSS_CH_CFG_nav_en ch = true → ∃ r, exec (.gnssNav ch u) s = .next (navDeliver s r))
    ∧ (∀ tag, s.fb F.GNSS_OSNMA_CFG_enable = true → osnmaTimeOk s = false → ∃ t l, t.gnss.auth = s.gnss.auth ∧ t.gnss.s4 = s.gnss.s4
        ∧ exec (.osnmaTagResult tag) s = .next (navDeliver t (l ++ [(32, 1, tag.sat), (33, 1, tag.adkd), (34, 2, tag.first), (36, 2, tag.last), (38, 1, 3)])))
    ∧ (∀ crc k, gnssP (advance s k) = 1 → (advance s k).gnss.wakers = [] → ∃ t, exec (.gnssSettleEnd crc k) s = .next t ∧ gnssP t = 2
        ∧ t.fb F.GNSS_STATUS_retain_valid = (crc && (advance s k).gnss.image.isSome))
    ∧ (gnssP s = 3 → s.f F.GNSS_WAKE_interval ≠ 0 → wakePassed s (60 * s.f F.GNSS_WAKE_interval) = true →
        exec .gnssWake s = .next (event (gnssWaking { s with gnss := { s.gnss with periodic := true, since := counterUnits (tsc s 0).cnt } }) 0x0703 [(0, 1, 1)]))
    ∧ (∀ sol x, sol < 2 → s.fb F.GNSS_SOL_CFG_enable sol = true → gnssP s = 2 → x.views = [] → x.used.length < 4 → s.f F.GNSS_SOL_CFG_min_sats sol = 0 →
        exec (.solutionFeed sol x) s = .next { s with gnss := { s.gnss with image := some ⟨x.sats, x.position, x.iono, x.utc, trackedSats s⟩, solUsed := tset s.gnss.solUsed sol x.used } })
    ∧ (∀ sol x, sol < 2 → s.fb F.GNSS_SOL_CFG_enable sol = true → gnssP s = 2 → x.views = [] → 4 ≤ x.used.length → s.f F.GNSS_SOL_CFG_min_sats sol = 0 → solFlagged s sol = false →
        ∃ u, u = { s with gnss := { s.gnss with image := some ⟨x.sats, x.position, x.iono, x.utc, trackedSats s⟩, solUsed := tset s.gnss.solUsed sol x.used } } ∧ exec (.solutionFeed sol x) s = .next ((List.range 32).foldl (fun t k =>
          if slotOn t k && t.f F.TS_REF_CFG_type k == 5 && t.f F.TS_REF_CFG_source k == sol then
            takeMeas t k ⟨x.offset, some (3 * x.sigma + x.utcUnc + x.notch), 0, 0xFF, 0⟩ else t) u))

/-- A port's configuration, link, reference, LPI and gearbox events act, and the probes (10_ports.md (R207, R208, R210, R211, R212, R222, R223),
01_architecture.md (R16, R17)). Where the text leaves a point open the clauses are of the choice the model makes: notes/assumptions/29.md,
notes/assumptions/77.md. -/
def Obligations.PortStatesAndProbesAct : Prop :=
  ∀ (s : State) (p : Nat), p < 4 →
    (∀ v u, u = regWrite s ⟨.PORT_CFG, p, 0⟩ v → s.fb F.PORT_CFG_enable p = false → u.fb F.PORT_CFG_enable p = true → u.fb F.PORT_CFG_stats_reader p = s.fb F.PORT_CFG_stats_reader p →
      exec (.portCfgWrite p v) s = .next (lpiCheckAll (dpEvalAll (portSet (if portRefReady u p then u else u.setF F.PORT_STATUS_link_down_cause 7 p) p 1))))
    ∧ (portState s p = 1 → s.f F.PWR_RUN_therm_step < 3 →
      (portRefReady s p = false → exec (.portBlockLock p) s = .next (s.setF F.PORT_STATUS_link_down_cause 7 p))
      ∧ (portRefReady s p = true → ∃ u, exec (.portBlockLock p) s = .next (portCalibrate u p) ∧ (port u p).fails = 0 ∧ u.fb F.PORT_STATUS_cal_failed p = false))
    ∧ (∀ c, 2 ≤ c → c ≤ 6 → (c = 4 → modeTrains s p = true) → exec (.portLinkDown p c) s = .next (portDown s p c))
    ∧ (s.f F.PORT_CFG_ref_apll p ≠ 0 → 2 ≤ portState s p → s.fb F.PORT_STATUS_ref_on_ap0 p = false → apState s (s.f F.PORT_CFG_ref_apll p) = 4 →
        ∃ u, exec (.portRefSwitch p) s = .next (portCalibrate u p) ∧ u.fb F.PORT_STATUS_ref_on_ap0 p = true)
    ∧ (∀ k rms rx tx, s.ports.gearQ.head? = some (k, p) → portState s p = 2 →
      (rms ≤ 1280 → ∃ u, exec (.gearboxMeasurementDone p rms rx tx) s = .next (portSet u p 3) ∧ u.fb F.PORT_STATUS_cal_failed p = s.fb F.PORT_STATUS_cal_failed p)
      ∧ (1280 < rms → (port s p).fails < 2 → ∃ t, exec (.gearboxMeasurementDone p rms rx tx) s = .next t ∧ (port t p).fails = (port s p).fails + 1
          ∧ t.ports.gearQ = s.ports.gearQ.drop 1 ++ [(s.ticks, p)])
      ∧ (1280 < rms → 2 ≤ (port s p).fails → ∃ u, exec (.gearboxMeasurementDone p rms rx tx) s = .next (portSet u p 3) ∧ u.fb F.PORT_STATUS_cal_failed p = true))
    ∧ (2 ≤ portState s p → exec (.lpiEnter p true) s = .next (portPresence (s.setB F.PORT_STATUS_lpi_rx true p) p)
        ∧ (lpiAllowed s p = true → exec (.lpiEnter p false) s = .next (s.setB F.PORT_STATUS_lpi_tx true p)))
    ∧ (exec (.lpiWake p false) s = .next (s.setB F.PORT_STATUS_lpi_tx false p) ∧ exec (.lpiWake p true) s = .next (portPresence (s.setB F.PORT_STATUS_lpi_rx false p) p))
    ∧ (∀ n v, (3 ≤ n → n ≤ 5 → exec (.probeMeasurementDone n v) s = .next (setProbe s n v))
      ∧ exec (.probeMeasurementDone 2 v) s = .next (probe2Done (setProbe s 2 v) v))

/-- Frames, transmit chains, timestamps and deliveries act (10_ports.md (R210, R213, R214, R217, R219, R225, R226), 14_host_rings.md (R315, R316,
R318, R320, R321)). Where the text leaves a point open the clauses are of the choice the model makes: notes/assumptions/30.md,
notes/assumptions/50.md, notes/assumptions/78.md. -/
def Obligations.PortFramesAct : Prop :=
  ∀ (s : State) (p : Nat), p < 4 →
    (∀ f u, u = portCount (portCount (advance s f.ticks) p 6 f.fecCorr) p 7 f.fecUncorr → portState (advance s f.ticks) p = 3 →
      (f.length < 64 → exec (.rxFrame p f) s = .next (portCount u p 2 1))
      ∧ (64 ≤ f.length → f.length ≤ u.f F.PORT_MAXF_max_frame p → f.fcsOk = false → exec (.rxFrame p f) s = .next (portCount u p 4 1))
      ∧ (64 ≤ f.length → f.length ≤ u.f F.PORT_MAXF_max_frame p → f.fcsOk = true → f.fecUncorr = 0 → f.claim = false → f.kind = .other →
          exec (.rxFrame p f) s = .next (rxDeliver (portCount (portCount u p 0 1) p 1 f.length) p (steerClass .other) f.length false f.frac f.data)))
    ∧ (∀ r c n i k v, v = advance s k → r < 64 → ringType v r = 2 → ringState v r = 1 → v.f F.PWR_RUN_run_state ≠ 4 → firstChain (ring v r).txq = some c → v.f F.HOST_RING_CFG_port r = p →
      chainCount v p (v.f F.HOST_RING_CFG_tx_offload r) c = some n → portState v p = 3 → v.fb F.PORT_STATUS_lpi_tx p = false →
      v.fb F.HOST_STATUS_bus_master = true → txdTurn v p = some r →
      i = tget (port v p).segs 0 r → txAllowed v p ((chainFrame (v.f F.HOST_RING_CFG_tx_offload r) n c i).length + 4) = true →
      exec (.txdChain r k) s = .next (txdSend v p r c n i)
      ∧ (n ≤ i + 1 → ∃ u, txdSend v p r c n i = chainDone u r c .ok (chainBytes (v.f F.HOST_RING_CFG_tx_offload r) n c) n
          ∧ .hostFrame p r (chainFrame (v.f F.HOST_RING_CFG_tx_offload r) n c i) ∈ u.out ∧ (port u p).lastTxd = r))
    ∧ (∀ r c k v, v = advance s k → r < 64 → ringType v r = 2 → ringState v r = 1 → v.f F.PWR_RUN_run_state ≠ 4 → firstChain (ring v r).txq = some c → v.f F.HOST_RING_CFG_port r = p →
      chainCount v p (v.f F.HOST_RING_CFG_tx_offload r) c = none → exec (.txdChain r k) s = .next (chainDone v r c .badArg 0 0))
    ∧ (∀ k frac i l, (port (advance s k) p).stamps = i :: l → ∃ x, exec (.txTimestamp p k frac) s
        = .next (sentTo (txtsPut (setPort (advance s k) p { port (advance s k) p with stamps := l }) p ⟨i, true, x⟩) x.ts (.txq p)))
    ∧ (∀ e l, (port s p).txts = e :: l → cplEnabled s (s.f F.PORT_TXTS_CFG_ring p) = true → 0 < cplRoom s (s.f F.PORT_TXTS_CFG_ring p) → s.fb F.HOST_STATUS_bus_master = true →
        ∃ u x, exec (.txTimestampDrain p) s = .next (cplWrite u (s.f F.PORT_TXTS_CFG_ring p) x) ∧ (port u p).txts = l)
    ∧ (∀ r, stagedFront (stageRing s r) r = none → exec (.rxdDelivery r) s = .next (stageRing s r))
    ∧ (∀ r k x, stagedFront (stageRing s r) r = some k → (stageRing s r).host.staged[k]? = some x → x.length ≤ stagedWritten x →
        ∃ u, exec (.rxdDelivery r) s = .next (rxComplete u x) ∧ u.host.staged = (stageRing s r).host.staged.eraseIdx k)
    ∧ (∀ r x l w, s.host.staged = x :: l → x.ring = r → x.waiting = some w → w + s.f F.HOST_RX_STARVE_wait * 625 ≤ s.ticks → exec (.rxStarveTimeout r) s = .next (stageRing (stageDrop s 0) r))
    ∧ (s.fb F.PORT_CFG_esmc_en p = true → portState s p = 3 → portMac s p ≠ 0 → s.fb F.PORT_STATUS_lpi_tx p = false → txAllowed s p esmcBytes = true →
        ∃ t, exec (.esmcSend p) s = .next t ∧ t.f F.PORT_ESMC_STATUS_tx_ql p = esmcQl s p % 16)
    ∧ (s.fb F.PORT_ESMC_STATUS_rx_valid p = true → ∃ t, exec (.esmcRxTimeout p) s = .next t ∧ t.fb F.PORT_ESMC_STATUS_rx_valid p = false
        ∧ t.fb F.PORT_ESMC_STATUS_rx_failed p = true)

/-- A read of a port counter latches its upper half, and the dailies read and clear all twelve (00_scope.md (R7), 10_ports.md (R219, R220, R221)). -/
def Obligations.PortCountersAct : Prop :=
  ∀ (s : State) (p : Nat), p < 4 →
    (∀ c, c < 12 → ∃ t, exec (.portCounterRead p c) s = .next t ∧ (t.rg .PORT_CNT_HI p c).toNat = portCnt s p c / 2 ^ 32 % 2 ^ 32
      ∧ (s.fb F.PORT_CFG_stats_reader p = false → portCnt t p c = 0) ∧ (s.fb F.PORT_CFG_stats_reader p = true → portCnt t p c = portCnt s p c)
      ∧ ∀ q d, ¬(q = p ∧ d = c) → portCnt t q d = portCnt s q d)
    ∧ (∀ k u, u = advance s k → u.fb F.PORT_CFG_stats_reader p = true → clocked u = true → (tsc u 0).cnt.sec % u.f F.PORT_DLY_CFG_interval p = 0 →
      ∃ t r, exec (.portDaily p k) s = .next (areaProduce t (.daily p) r) ∧ (∀ c, portCnt t p c = 0) ∧ (port t p).dlyFirst = false)

/-- The PTP commands take effect (11_ptp_service.md (R246, R249, R254)). -/
def Obligations.PtpCommandsTakeEffect : Prop :=
  ∀ (s : State) (h : CmdHdr), h.mbz = true → s.log.isolated.contains 2 = false →
    (∀ a : PtpFindArgs, ∀ e g, a.transport ≤ 2 → ptpOn s a.inst = true → findGrant s a.inst a.port a.addr a.pid = some (e, g) → g.transport = a.transport →
      exec (.ptpClientFind h a) s = .next (complete s h 0x40 .ok [(0, 4, e)]))
    ∧ (∀ i g, i < 65536 → clientAt s i = some (.grant g) → ∃ t, exec (.ptpClientCancel h i) s = .next (complete (setClient t i none) h 0x41 .ok
        [(0, 1, ((List.range 3).filter (fun k => liveType s g k)).length)]) ∧ (ptpMasterMay s g.inst g.port = false → t = s))
    ∧ (∀ i, ptpOn s i = true → s.fb F.PTP_INST_CFG_auth_en i = true → handleIs s (ptpKey s i (1 - s.f F.PTP_INST_AUTH_active i)) 4 = true →
      exec (.ptpKeyRoll h i) s = .next (complete (s.setF F.PTP_INST_AUTH_active (1 - s.f F.PTP_INST_AUTH_active i) i) h 0x42 .ok
        [(0, 1, 1 - s.f F.PTP_INST_AUTH_active i)]))
    ∧ (∀ a : UmasterArgs, ptpOn s a.inst = true → s.fb F.PTP_INST_CFG_unicast a.inst = true → ptpRole s a.inst ≠ 0 → a.slot ≤ 7 → a.op = 0 →
      (tget (ptp s a.inst).umasters none a.slot).isSome = true → ∃ t p, exec (.ptpUmaster h a) s = .next (complete t h 0x43 .ok p)
        ∧ t = setPtp s a.inst { ptp s a.inst with umasters := tset (ptp s a.inst).umasters a.slot none })
    ∧ (∀ i f, ptpOn s i = true → (ptp s i).parent = some f → ∃ p, exec (.ptpParentRead h i) s = .next (complete s h 0x44 .ok p)
        ∧ p.head? = some (0, 8, netOrder 8 f.ann.gm) ∧ (20, 4, f.ann.claim.getD 0) ∈ p)

/-- PTP instances are enabled and disabled, take messages, run the BMCA and let grants expire (11_ptp_service.md (R229, R230, R231, R235, R237,
R238, R243, R246, R249)). Where the text leaves a point open the clauses are of the choice the model makes: notes/assumptions/19.md,
notes/assumptions/35.md, notes/assumptions/79.md. -/
def Obligations.PtpInstancesAct : Prop :=
  ∀ (s : State) (i : Nat), i < 4 →
    (∀ v t, t = regWrite s ⟨.PTP_INST_CFG, i, 0⟩ v → ptpOn s i = false → ptpOn t i = true →
      (ptpCfgErr t i ≠ 0 → exec (.ptpInstEnable i v) s = .next (violation ((t.setB F.PTP_INST_CFG_enable false i).setF F.PTP_INST_INFO_cfg_err (ptpCfgErr t i) i)))
      ∧ (ptpCfgErr t i = 0 → ∃ u, exec (.ptpInstEnable i v) s = .next u ∧ (ptp u i).foreign = [] ∧ (ptp u i).parent = none ∧ (ptp u i).umasters = (ptp t i).umasters))
    ∧ (∀ v, ptpOn s i = true → ptpOn (regWrite s ⟨.PTP_INST_CFG, i, 0⟩ v) i = false → ∃ u, exec (.ptpInstEnable i v) s = .next u ∧ u.f F.PTP_INST_STATUS_port_state i = 0
        ∧ (ptp u i).foreign = [])
    ∧ (∀ p (m : PtpMsg) u, u = perf (advance s m.ticks) 0x0010 p → ptpClaims (advance s m.ticks) i p m = true → muted (advance s m.ticks) = false →
      (ptpAccepts u i m = false → exec (.ptpMessageReceive i p m) s = .next (u.inc .PTP_AUTH_FAIL i))
      ∧ (ptpAccepts u i m = true → exec (.ptpMessageReceive i p m) s = .next (ptpProcess u i p m)))
    ∧ (ptpOn s i = true → exec (.bmcaRun i) s = .next (bmca s i)
      ∧ ∀ p pid, exec (.announceReceiptTimeout i p pid) s = .next (bmca (setPtp s i { ptp s i with foreign := (ptp s i).foreign.filter (fun f => !(f.port == p && f.pid == pid)) }) i))
    ∧ (∀ p, ptpProfile s i = 2 → ptpMaySend s i p = true → ptpPortState s i p ≠ 4 → ∃ u, exec (.l1SyncSend i p) s = .next (l1Report (ptpSend u i p 50 "Signaling"
          [("L1_SYNC", bit (l1Own s i p).tcr + 2 * bit (l1Own s i p).rcr + 4 * bit (l1Own s i p).cr)]) i) ∧ (ptpPort u i p).l1Age = (ptpPort s i p).l1Age + 1)
    ∧ (∀ e g k, clientAt s e = some (.grant g) → k < 3 → g.types.testBit k = true →
      (liveType s g k = false → exec (.grantExpiry e k) s = .next (putGrant s e (withoutType g k)))
      ∧ (liveType s g k = true → exec (.grantExpiry e k) s = .next s))
    ∧ (∀ slot k, k < 3 → ptpOn s i = true → s.fb F.PTP_INST_CFG_unicast i = true → ptpRole s i ≠ 0 → renewDue s i slot k = true →
      exec (.unicastRenew i slot k) s = .next (uniRequest s i slot k))

/-- Periodic messages, Follow_Ups and Delay_Resps are sent, and exchanges are completed (11_ptp_service.md (R232, R233, R234, R235, R239, R248,
R252)). Where the text leaves a point open the clauses are of the choice the model makes: notes/assumptions/35.md, notes/assumptions/79.md. -/
def Obligations.PtpMessagesAreSent : Prop :=
  ∀ (s : State) (i p : Nat),
    (∀ k frac u, u = advance s k → ptpMasterMay u i p = true → u.fb F.PTP_INST_CFG_unicast i = false →
      exec (.ptpPeriodicSend i p .announce k frac true) s = .next (ptpSend (setPtpPort u i p { ptpPort u i p with seqA := ((ptpPort u i p).seqA + 1) % 65536 }) i p 102 "Announce"
          (("sequenceId", ((ptpPort u i p).seqA : Int)) :: announceFields u i p))
      ∧ exec (.ptpPeriodicSend i p .sync k frac false) s = .next (u.inc .PTP_SYNC_SKIP i)
      ∧ exec (.ptpPeriodicSend i p .sync k frac true) s = .next (sendSync (setPtpPort u i p { ptpPort u i p with seqS := ((ptpPort u i p).seqS + 1) % 65536 }) i p frac
          (ptpPort u i p).seqS none))
    ∧ (∀ k frac u e g t, u = advance s k → clientAt u e = some (.grant g) → ptpMasterMay u g.inst g.port = true →
      (liveType u g 0 = true → clientDue u g.inst e g.logA g.sentA = some t → exec (.ptpPeriodicSend i p (.clientAnnounce e) k frac true) s
        = .next (ptpSend (setClient u e (some (.grant { g with seqA := (g.seqA + 1) % 65536, sentA := some t }))) g.inst g.port 102 "Announce"
          (("sequenceId", (g.seqA : Int)) :: announceFields (setClient u e (some (.grant { g with seqA := (g.seqA + 1) % 65536, sentA := some t }))) g.inst g.port)
          g.vlan false (some (g.addr, g.mac))))
      ∧ (liveType u g 1 = true → clientDue u g.inst e g.logS g.sentS = some t → exec (.ptpPeriodicSend i p (.clientSync e) k frac true) s
        = .next (sendSync (setClient u e (some (.grant { g with seqS := (g.seqS + 1) % 65536, sentS := some t }))) g.inst g.port frac g.seqS (some (e, g))))
      ∧ (clientDue u g.inst e g.logS g.sentS = none → exec (.ptpPeriodicSend i p (.clientSync e) k frac true) s = .next u))
    ∧ (∀ q t r, (ptpPort s i p).fu = (q, t, none) :: r → ptpMasterMay (setPtpPort s i p { ptpPort s i p with fu := r }) i p = true →
      exec (.followUpSend i p) s = .next (ptpSend (setPtpPort s i p { ptpPort s i p with fu := r }) i p 44 "Follow_Up"
        [("sequenceId", (q : Int)), ("origin", stampNs t), ("correction", stampFrac t)]))
    ∧ (∀ k frac r rest u, (ptp (advance s k) i).reqs = r :: rest → u = setPtp (advance s k) i { ptp (advance s k) i with reqs := rest } →
      exec (.delayRespSend i k frac false) s = .next (perf (u.inc .PTP_REQ_DROP i) 0x0015 r.port)
      ∧ (ptpMaySend u i r.port = true → ptpPortState u i r.port = 4 → u.fb F.RAN_STATUS_permission = true → r.peer = false →
          exec (.delayRespSend i k frac true) s = .next (ptpSend u i r.port 54 "Delay_Resp" [("sequenceId", r.seq), ("requesting", r.pid), ("receive", stampNs r.t),
            ("correction", r.corr / 2 ^ 32 - stampFrac r.t)] (replyTo u i r).1 false (replyTo u i r).2)))
    ∧ (∀ t4 q t3, ptpOn s i = true → ptpProfile s i = 1 → (ptpPort s i p).sync = none → (ptpPort s i p).req = some (q, t3, true) → (ptpPort s i p).resp = some t4 →
      ∃ t, exec (.slaveExchange i p) s = .next t ∧ portMpd (ptpPort t i p)
        = some (meanInt ((((t4 - t3) / 2 * 1000 / 2 ^ 48) :: (ptpPort s i p).delays).take (2 ^ s.f F.PTP_INST_CFG_delay_filt i))))

/-- NTS_COOKIE_MINT, NTP_RL_QUERY and NTP_PEER_READ take effect (12_ntp_nts_service.md (R269, R270, R271, R275, R277, R280)). Where the text leaves a
point open the clauses are of the choice the model makes: notes/assumptions/32.md, notes/assumptions/39.md. -/
def Obligations.NtpCommandsTakeEffect : Prop :=
  ∀ (s : State) (h : CmdHdr), h.mbz = true →
    (∀ a : MintArgs, 1 ≤ a.count → a.count ≤ 8 → a.aead = 15 → a.keyAddr ≠ 0 → a.keyAddr % 8 = 0 → a.outAddr ≠ 0 → a.outAddr % 8 = 0 → s.log.isolated.contains 3 = false →
      tampered s = false → s.fb F.NTS_STATUS_root_revoked = false → s.fb F.NTS_STATUS_root_valid = true → tsValid s 0 = true → s.stv.stale = false →
      exec (.ntsCookieMint h a) s = .next (addJob (begins s h 0x48) .host [(s.rg .NTS_COOKIE_ROOT).toNat] (12 * a.count) (.mint h a (ntsEpoch s))))
    ∧ (∀ a : RlQueryArgs, a.family ≤ 1 → exec (.ntpRlQuery h a) s = .next (complete s h 0x49 .ok [(0, 2, bucketOf s a.family a.addr),
        (4, 4, (bucketNow s (bucketOf s a.family a.addr)).tokens / 625000000), (8, 4, (bucketNow s (bucketOf s a.family a.addr)).overLimit)]))
    ∧ (∀ p, peerOn s p = true → (peer s p).accepted = true → ∃ x, exec (.ntpPeerRead h p) s = .next (complete s h 0x4A .ok x) ∧ x.head? = some (0, 8, twos 64 (peer s p).x))

/-- NTP instances are enabled, requests answered or dropped, and the cookie key rotated (12_ntp_nts_service.md (R256, R257, R258, R261, R264, R265,
R269, R270, R271, R274, R279)). Where the text leaves a point open the clauses are of the choice the model makes: notes/assumptions/36.md,
notes/assumptions/37.md, notes/assumptions/80.md. -/
def Obligations.NtpInstancesAct : Prop :=
  ∀ (s : State) (i : Nat), i < 4 →
    (∀ v t, t = regWrite s ⟨.NTP_INST_CFG, i, 0⟩ v → ntpOn s i = false → ntpOn t i = true →
      (ntpCfgErr t i ≠ 0 → exec (.ntpInstEnable i v) s = .next (violation ((t.setB F.NTP_INST_CFG_enable false i).setF F.NTP_INST_STATUS_cfg_err (ntpCfgErr t i) i)))
      ∧ (ntpCfgErr t i = 0 → ∃ u, exec (.ntpInstEnable i v) s = .next u ∧ tget u.ntp.enabledAt 0 i = t.ticks ∧ ntpOn u i = true))
    ∧ (∀ (r : NtpReq) u, u = advance s r.ticks → ntpClaims u i r = true → ntpAnswers u = true →
      (ntpServed u i r = none → exec (.ntpRequest i r) s = .next (u.inc .NTP_POLICY_DROP i))
      ∧ (ntpServed u i r = some none → (charge u r.family r.addr false).2 = true → ∃ t2, exec (.ntpRequest i r) s
          = .next (addReply (ntpMonitor (charge u r.family r.addr false).1 i r false false false false false) i r t2 .plain)))
    ∧ (∀ id r, s.ntp.replies.find? (fun r => r.id == id) = some r → r.started = false → r.tick + 625000 ≤ s.ticks → ∃ t, exec (.ntpRequestExpiry id) s = .next (perf t 0x0015 r.port)
        ∧ t.regs = (s.inc .NTP_REQ_DROP r.inst).regs ∧ ∀ q ∈ t.ntp.replies, q.id ≠ id)
    ∧ (∀ id r ready lost, s.ntp.replies.find? (fun r => r.id == id) = some r → replyJob s id = none → exec (.ntpReplyLaunch id ready lost) s = .next (launchReply s r ready lost))
    ∧ (∀ k, exec (.ntsEpochRotation k) s = .next (rotateEpochs (advance s k)))
    ∧ (∀ v : Word, (handleIs s v.toNat 0 = true → exec (.ntsCookieRootWrite v) s = .next (setCookieRoot s v))
        ∧ (handleIs s v.toNat 0 = false → v ≠ s.rg .NTS_COOKIE_ROOT → exec (.ntsCookieRootWrite v) s = .next (violation s)))

/-- NTP peers are enabled, polled and answered (12_ntp_nts_service.md (R264, R277, R278, R279)). Where the text leaves a point open the clauses are
of the choice the model makes: notes/assumptions/38.md, notes/assumptions/80.md. -/
def Obligations.NtpPeersAct : Prop :=
  ∀ (s : State) (p : Nat), p < 8 →
    (∀ v u, u = regWrite s ⟨.NTP_PEER_CFG, p, 0⟩ v → peerOn s p = false → peerOn u p = true →
      ∃ t, exec (.ntpPeerEnableWrite p v) s = .next t ∧ peer t p = Peer.reset ∧ (∀ n j, n ≠ .NTP_PEER_STATUS → t.rg n p j = u.rg n p j))
    ∧ (∀ k u, u = advance s k → peerOn u p = true → (peer u p).stopped = false → tsePortOk u (u.f F.NTP_PEER_CFG_port p) = true → muted u = false → peerDue u p = true →
      ∃ t, exec (.ntpPeerPoll p k) s = .next t ∧ (peer t p).reach = (false :: (peer u p).reach).take 8 ∧ (peer t p).t1.isSome = true)
    ∧ (∀ (r : PeerReply) u, u = advance s r.ticks → peerOn u p = true → (peer u p).stopped = false → tsePortOk u (u.f F.NTP_PEER_CFG_port p) = true →
      r.port = u.f F.NTP_PEER_CFG_port p → r.family = bit (u.fb F.NTP_PEER_CFG_family p) → r.addr = peerAddr u p →
      (r.stratum = 0 → exec (.ntpPeerReply p r) s = .next (peerKiss u p r.refid))
      ∧ (r.stratum ≠ 0 → (∀ t1, (peer u p).t1 = some t1 → r.origin ≠ t1.1) → exec (.ntpPeerReply p r) s = .next u)
      ∧ (∀ t1 w, 1 ≤ r.stratum → r.stratum ≤ 15 → r.li ≠ 3 → (peer u p).t1 = some (t1, w) → r.origin = t1 → 0 ≤ ntpDiff r.t3 r.t2 →
          (let t4 := ntpStamp u false (portTime u (u.f F.NTP_PEER_CFG_port p) r.frac (-(u.f F.PORT_LAT_RX_value (u.f F.NTP_PEER_CFG_port p) : Int)))
           0 ≤ ntpDiff t4 t1 - ntpDiff r.t3 r.t2 → ntpDiff t4 t1 - ntpDiff r.t3 r.t2 ≤ 2 ^ 32 →
           ∃ t, exec (.ntpPeerReply p r) s = .next t ∧ (peer t p).accepted = true ∧ (peer t p).t1 = none ∧ (peer t p).refid = r.refid
            ∧ (peer t p).x = ntpToPs (ntpDiff t1 r.t2 + ntpDiff t4 r.t3) / 2)))

/-- RAN_HANDBACK, RAN_REJOIN and RAN_PEER_READ take effect, and mirrors, keys and lane jobs are sent (13_twin.md (R287, R294, R295, R297, R298, R299),
12_ntp_nts_service.md (R275)). Where the text leaves a point open the clauses are of the choice the model makes: notes/assumptions/33.md,
notes/assumptions/42.md, notes/assumptions/43.md. -/
def Obligations.TwinCommandsTakeEffect : Prop :=
  ∀ (s : State) (h : CmdHdr), h.mbz = true →
    (ranRole s = 1 → handbackReason s = 0 → exec (.ranHandback h) s
      = .next (ranSend { begins s h 0x78 with ran := { s.ran with handback := some h, sentHandback := true, handbackAt := s.ticks } } "HANDBACK" [("claim", ownClaim s)]))
    ∧ (ranRole s = 3 → s.f F.RAN_STATUS_link = 2 → peerLeads s = true → s.hs.shclk = true →
      exec (.ranRejoin h) s = .next (complete (enterStandIn s) h 0x79 .ok [(0, 4, ((enterStandIn s).rg .RAN_STATUS).toNat)]))
    ∧ (∀ addr b t, addr ≠ 0 → addr % 64 = 0 → s.ran.state = some (b, t) → ∃ x, exec (.ranPeerRead h addr) s
      = .next (complete (s.emit (.mem addr 64 x)) h 0x7A .ok [(0, 4, satNat 32 ((s.ticks - t) / 625))]))
    ∧ (∀ e r, mirrors s = true → s.ptp.dirty = e :: r → ∃ u f, exec .mirrorSend s = .next (ranSend u "MIRROR" f) ∧ u.ptp.dirty = r)
    ∧ (mirrors s = true → s.ptp.dirty = [] → 65536 ≤ s.ran.sweepPos → ∃ u, exec .mirrorSend s = .next (ranSend u "SWEEP_END" [("sweep", s.ran.sweepNum)]) ∧ u.ran.sweepPos = 0)
    ∧ (ranRole s = 1 → (pairKey s).isNone = false → s.f F.RAN_STATUS_link = 2 → s.fb F.NTS_STATUS_root_valid = true → s.ran.revokeOwed = false → s.ran.sentRoot = none →
      ∃ u, exec (.keywrapSend 0) s = .next (addJob u .ranin [(s.rg .STV_PAIR_KEY).toNat] wrapBlocks (.wrap 0 0 (s.ran.keyGen + 1)))
        ∧ u.ran.sentRoot = some (s.rg .NTS_COOKIE_ROOT).toNat)
    ∧ (∀ lane j t, vacateLane s lane = s → laneFree s lane = true → s.wrap.retired.contains (4, lane) = false → s.f F.PWR_RUN_profile ≠ 1 → drrPick s = some (j, t) →
      j.cls ≠ .ranin → exec (.aesJobGrant lane) s = .next (grantJob t lane j))
    ∧ (∀ v p, (regWrite s ⟨.RAN_TMO, 0, 0⟩ v).ran.peer = some p →
      (p.tick + (regWrite s ⟨.RAN_TMO, 0, 0⟩ v).f F.RAN_TMO_silence * 625 ≤ (regWrite s ⟨.RAN_TMO, 0, 0⟩ v).ticks →
        exec (.ranTmoWrite v) s = .next (silence (regWrite s ⟨.RAN_TMO, 0, 0⟩ v)))
      ∧ ((regWrite s ⟨.RAN_TMO, 0, 0⟩ v).ticks < p.tick + (regWrite s ⟨.RAN_TMO, 0, 0⟩ v).f F.RAN_TMO_silence * 625 →
        exec (.ranTmoWrite v) s = .next (regWrite s ⟨.RAN_TMO, 0, 0⟩ v)))

/-- Lanes, frames, silence, PEER_LEAD_N, raises, marks and follow mode act (13_twin.md (R281, R282, R284, R286, R287, R289, R290, R297),
19_power_startup.md (R428)). Where the text leaves a point open the clauses are of the choice the model makes: notes/assumptions/41.md,
notes/assumptions/42.md, notes/assumptions/81.md. -/
def Obligations.TwinEventsTakeEffect : Prop :=
  ∀ s : State,
    (∀ lane up tr, lane < 4 → s.fb F.RAN_CFG_enable = true → ∃ t, exec (.ranLaneState lane up tr) s = .next t ∧ (t.f F.RAN_STATUS_lanes_up).testBit lane = up)
    ∧ exec .claimSend s = .next (sendClaim s)
    ∧ (ranTx s = true → ∃ f, exec .stateSend s = .next (ranSend s "STATE" f))
    ∧ (∀ (f : RanFrame) u, u = silenceEval (advance s f.ticks) → u.pwr.shutdown = none → u.fb F.RAN_CFG_enable = true →
        (f.crcOk = false → exec (.ranFrameReceive f) s = .next (u.incF F.RAN_FRAME_ERR_crc))
        ∧ (f.crcOk = true → f.body = .bad → exec (.ranFrameReceive f) s = .next (u.incF F.RAN_FRAME_ERR_other)))
    ∧ (∀ (f : RanFrame) u, u = silenceEval (advance s f.ticks) → u.fb F.RAN_CFG_enable = true → f.crcOk = true →
        (∀ b, f.body = .claim b → exec (.ranFrameReceive f) s = .next (shutdownResume (claimArrive u b)))
        ∧ (∀ b, f.body = .state b → exec (.ranFrameReceive f) s = .next (shutdownResume (stateArrive u b)))
        ∧ (∀ i e, f.body = .mirror i e → exec (.ranFrameReceive f) s = .next (shutdownResume (mirrorArrive u i e)))
        ∧ (∀ k o g w, f.body = .keywrap k o g w → exec (.ranFrameReceive f) s = .next (shutdownResume (keywrapArrive u k o g w)))
        ∧ (∀ c, f.body = .handback c → (peerFresh u).any (fun b => b.claim == c) = true → exec (.ranFrameReceive f) s = .next (shutdownResume (raise u)))
        ∧ (∀ n, f.body = .sweepEnd n → exec (.ranFrameReceive f) s = .next (shutdownResume (sweepArrive u))))
    ∧ (∀ k, (peerStale (advance s k) = true → exec (.peerSilence k) s = .next (silence (advance s k)))
      ∧ (peerStale (advance s k) = false → exec (.peerSilence k) s = .next (advance s k)) ∧ exec (.drivePermissionChange k) s = .next (permEval (advance s k)))
    ∧ (∀ k, exec (.peerLeadNChange true k) s = .next (permEval { (advance s k).setB F.RAN_STATUS_peer_lead true with ran := { (advance s k).ran with clearSince := none } }))
    ∧ (∀ b, peerFresh s = some b → (b.role = 3 → exec .claimRaise s = .next (raise s)) ∧
      (joinEnds s = true → s.ran.sawLead = false → b.role = 2 → b.claim < ownClaim s → exec .joinWaitEnd s = .next (raise { s with ran := { s.ran with joinAt := none } })))
    ∧ (joinEnds s = true → s.ran.sawLead = false → peerFresh s = none → exec .joinWaitEnd s = .next (raise { s with ran := { s.ran with joinAt := none } }))
    ∧ (joinEnds s = true → s.ran.sawLead = true → exec .joinWaitEnd s = .next { s with ran := { s.ran with joinAt := none } }) ∧ (joinEnds s = false → exec .joinWaitEnd s = .next s)
    ∧ (ranRole s = 3 → s.fb F.RAN_CFG_auto_rejoin = true → peerLeads s = true → leadHeld s = true → s.hs.shclk = true → (tsc s 0).valid = true → exec .autoRejoin s = .next (enterStandIn s))
    ∧ (∀ k frac, ranTx (advance s k) = true → markDue (advance s k) (markSlate (advance s k) frac) = true → ∃ u, exec (.markSend k frac) s = .next (markExchange u) ∧ u.ran.lastTx = markSlate (advance s k) frac)
    ∧ (∀ k frac, (advance s k).fb F.RAN_CFG_enable = true → ∃ u, exec (.markArrival k frac) s = .next (markExchange u) ∧ u.ran.lastRx = some (markSlate (advance s k) frac))
    ∧ (∀ th l, s.ran.thetas = th :: l → ranRole s = 2 → s.ran.thetaNew = true → tsRuns s 0 = true → s.hs.shclk = true →
        ∃ u, u.ran.thetaNew = false ∧ u.regs = s.regs ∧ exec .followModeUpdate s = .next (applyIncr (loadSlew u 0 (-(th * 2 ^ 48 / 256000)) (s.f F.GOV_TS_SLEW_value) false) 0
          (Config.followIncr (s.f F.RAN_CFG_align_bw) (tsIncr (loadSlew u 0 (-(th * 2 ^ 48 / 256000)) (s.f F.GOV_TS_SLEW_value) false) 0) th) 2))
    ∧ (∀ h, s.ran.handback = some h → s.ran.handbackAt + 6250000 ≤ s.ticks → s.pwr.shutdown = none → ∃ u, exec .handbackTimeout s = .next (finish u h 0x78 .timeout []) ∧ u.ran.handback = none)

/-- A raise takes the next epoch above the highest seen, and never wraps (13_twin.md (R283, R286)). -/
def Obligations.RaiseTakesTheNextEpoch : Prop :=
  ∀ s : State, (epochMax s ≤ epochMax (raise s)) ∧ (mayRaise s = true → epochMax s < 2 ^ 31 - 1 → epochMax (raise s) = epochMax s + 1)
    ∧ (epochMax s = 2 ^ 31 - 1 → epochMax (raise s) = epochMax s ∧ (raise s).rg .RAN_CLAIM 0 0 = s.rg .RAN_CLAIM 0 0
        ∧ (raise s).fb F.RAN_STATUS_raised = s.fb F.RAN_STATUS_raised)

/-- STV_DERIVE, STV_REVOKE, STV_KEY_INFO, STV_CRYPT, STV_IMPORT and STV_IDENTITY take effect (16_stavris.md (R352, R353, R354, R355, R356, R358, R359,
R360)). Where the text leaves a point open the clauses are of the choice the model makes: notes/assumptions/17.md, notes/assumptions/32.md. -/
def Obligations.StavrisKeyCommandsTakeEffect : Prop :=
  ∀ (s : State) (h : CmdHdr), h.mbz = true → 0 < lcState s → lcState s ≤ 3 → s.log.isolated.contains 15 = false → tampered s = false →
    (∀ (a : StvDeriveArgs) i p, a.parent ≠ 0 → handleNode s a.parent = some i → node s i = some p → i ≠ 2 → p.usage = 0 → p.depth < 16 → usageOk a.usage a.size = true →
      1 ≤ a.labelLen → a.labelLen ≤ 24 → a.ctxLen ≤ 24 → (a.label.drop a.labelLen).any (fun b => b != 0) = false → (a.context.drop a.ctxLen).any (fun b => b != 0) = false →
      (∀ q ∈ s.stv.nodes, q.2.any (fun n => n.parent == some i) = false) → ∀ j, freeIndex s = some j → ∃ u, exec (.stvDerive h a) s = .next (complete u h 0x50 .ok [(0, 4, handleOf u j), (4, 1, p.depth + 1), (5, 1, 0)])
        ∧ u = newNode s j ⟨Config.kdf p.key (a.label.take a.labelLen) (a.context.take a.ctxLen) a.size, a.usage, a.size, some i, p.depth + 1, false,
            a.label.take a.labelLen, a.context.take a.ctxLen, false⟩)
    ∧ (∀ hd i n, hd ≠ 0 → handleNode s hd = some i → node s i = some n →
      (3 ≤ i → exec (.stvRevoke h hd) s = .next (complete (revokeNodes s (subtree s i)) h 0x51 .ok [(0, 2, (subtree s i).length), (2, 2, jobsOn s (subtree s i))]))
      ∧ exec (.stvKeyInfo h hd 0) s = .next (complete s h 0x52 .ok (keyInfo s i n))
      ∧ (∀ a : StvCryptArgs, a.handle = hd → s.log.isolated.contains 3 = false → i ≠ 2 → cryptUsage a.op = some n.usage → 1 ≤ a.inLen → a.inLen ≤ 65536 → a.aadLen ≤ a.inLen →
          a.inAddr ≠ 0 → a.outAddr ≠ 0 → exec (.stvCrypt h a) s
          = .next (addJob (begins s h 0x53) (if a.op < 2 then .host else .direct) [a.handle] (cdiv a.inLen 16 + 2) (.crypt h a)))
      ∧ (∀ (a : StvImportArgs) j, a.parent = hd → i ≠ 2 → n.usage = 0 → n.depth < 16 → a.mode = 1 → a.addr ≠ 0 → a.curve ≤ 1 → a.onCurve = true → freeIndex s = some j →
          ∃ u, exec (.stvImport h a) s = .next (complete u h 0x54 .ok [(0, 4, handleOf u j)]) ∧ u = newNode s j ⟨a.pubKey, 6, 0, some i, n.depth + 1, true, [], [], false⟩))
    ∧ (∀ addr n, addr ≠ 0 → addr % 8 = 0 → node s 1 = some n →
      exec (.stvIdentity h addr) s = .next (complete (s.emit (.mem addr 96 [(0, 96, Config.publicKey n.key % 2 ^ 768)])) h 0x57 .ok [(0, 4, 96)]))

/-- Challenges, responses, the rollback counter, tamper and the generator act (16_stavris.md (R354, R355, R357, R358, R360, R361, R363, R364, R367),
12_ntp_nts_service.md (R280)). Where the text leaves a point open the clauses are of the choice the model makes: notes/assumptions/17.md,
notes/assumptions/32.md, notes/assumptions/82.md. -/
def Obligations.StavrisLifecycleAndEventsAct : Prop :=
  ∀ (s : State) (h : CmdHdr), h.mbz = true →
    (∀ a : StvChallengeArgs, a.purpose = 3 → purposeOk s 3 a.arg = true → a.addr ≠ 0 → s.fb F.STV_STATUS_challenge_locked = false → s.stv.stale = false →
      ∃ t, exec (.stvChallenge h a) s = .next (complete t h 0x55 .ok [(0, 4, s.stv.nextChallenge)]) ∧ t.stv.challenge = some ⟨s.stv.nextChallenge, 3, a.arg, s.ticks⟩
        ∧ t.stv.nextChallenge = (s.stv.nextChallenge + 1) % 2 ^ 32 ∧ t.regs = s.regs)
    ∧ (∀ (a : StvRespondArgs) c, a.addr ≠ 0 → lcState s ≠ 4 → s.stv.challenge = some c → c.id = a.id → challengeOld s c = false → a.len = respondLen c → c.purpose = 3 → purposeOk s 3 c.arg = true →
      (a.sigOk = true → ∃ u, u.stv.challenge = none ∧ u.stv.fails = 0 ∧ u.regs = s.regs ∧ exec (.stvRespond h a) s
        = .next (complete (respondDone u a c).1 h 0x56 .ok [(0, 1, 3), (1, 1, 0), (4, 4, (respondDone u a c).2)]))
      ∧ (a.sigOk = false → ∃ u, exec (.stvRespond h a) s = .next (complete u h 0x56 .ok [(0, 1, 3), (1, 1, 1)]) ∧ u.stv.challenge = none ∧ u.stv.fails = s.stv.fails + 1
          ∧ (3 ≤ s.stv.fails → u.fb F.STV_STATUS_challenge_locked = true)))
    ∧ (∀ v, 0 < lcState s → lcState s ≤ 3 → 1 ≤ v → v ≤ 64 → v ≤ s.stv.secVersion → s.f F.STV_ROLLBACK_counter < v →
      exec (.stvRollbackSet h v) s = .next (complete (s.setF F.STV_ROLLBACK_counter v) h 0x58 .ok [(0, 1, v)]))
    ∧ (∀ c, s.stv.challenge = some c → c.issued + 60 * secondTicks ≤ s.ticks → exec .challengeExpiry s = .next { s with stv := { s.stv with challenge := none } })
    ∧ (s.fb F.STV_STATUS_challenge_locked = true → s.stv.lockedAt + 60 * secondTicks ≤ s.ticks → ∃ t, exec .challengeLockEnd s = .next t
        ∧ t.fb F.STV_STATUS_challenge_locked = false ∧ t.stv.fails = 0)
    ∧ (∀ raw, exec (.stvTamper raw) s = .next (tamperEval (s.setF F.STV_TAMP_STATUS_raw raw)))
    ∧ (∀ v : Word, (v = 0 → exec (.stvPairKeyWrite v) s = .next (s.wr .STV_PAIR_KEY 0 0 0))
        ∧ (v ≠ 0 → v ≠ s.rg .STV_PAIR_KEY → handleIs s v.toNat 3 = false → exec (.stvPairKeyWrite v) s = .next (violation s)))
    ∧ (∃ u, exec .trngHealthFail s = .next (logEvent u 2 0x0D04 []) ∧ u.fb F.STV_STATUS_trng_ok = false ∧ u.stv.passes = 0)
    ∧ (s.fb F.STV_STATUS_trng_ok = false → s.stv.passes = 2 → s.stv.retestAt + secondTicks ≤ s.ticks → ∃ t, exec (.trngRetest true) s = .next t ∧ t.fb F.STV_STATUS_trng_ok = true)
    ∧ (s.fb F.STV_STATUS_trng_ok = true → s.stv.reseedAt + secondTicks ≤ s.ticks →
        exec .drbgReseed s = .next { s with stv := { s.stv with stale := false, reseedAt := s.ticks } })
    ∧ (s.fb F.STV_STATUS_trng_ok = false → s.stv.reseedAt + 60 * secondTicks ≤ s.ticks → exec .drbgStaleTimeout s = .next { s with stv := { s.stv with stale := true } })
    ∧ exec .keyMaskRefresh s = .next s
    ∧ (∀ id j, s.stv.jobs.find? (fun j => j.id == id) = some j → j.started = true → j.revoked = true → exec (.inFlightDone id) s = .next (freeNodes (discardJob s j .keyRevoked)))
    ∧ (∀ j r a, s.stv.jobs = [j] → j.started = true → j.revoked = false → j.what = .crypt r a → exec (.cryptoJobDone r.ring r.tag) s = .next (cryptDone (dropJob s j.id) r a))

/-- NOP, ABORT, RING_STOP, RUN_STATE, PROFILE_SET, GOV_PERMIT and an unassigned opcode act (14_host_rings.md (R306, R311, R326, R327),
17_firmware_governor_perf.md (R381), 19_power_startup.md (R415, R419, R422, R423, R428)). Where the text leaves a point open the clauses are of the
choice the model makes: notes/assumptions/44.md, notes/assumptions/46.md. -/
def Obligations.AdminCommandsTakeEffect : Prop :=
  ∀ (s : State) (h : CmdHdr), h.mbz = true →
    exec (.nop h) s = .next (complete s h 0 .ok [(0, 1, s.f F.PWR_RUN_run_state)])
    ∧ (∀ (a : AbortArgs) q op, a.ring < 64 → ringType s a.ring = 0 → ringState s a.ring = 1 → abortTarget s a.ring a.tag = .fetched q op → ∃ u,
      exec (.abort h a) s = .next (complete (complete u q op .aborted []) h 1 .ok [(0, 1, op), (1, 1, 1)]) ∧ u.regs = s.regs
        ∧ (ring u a.ring).fetched = dropFirst (fun f => f.hdr.tag == a.tag) (ring s a.ring).fetched)
    ∧ (h.ring = 0 →
      (∀ r, 2 ≤ r → r < 64 → ringState s r = 1 → ringType s r = 0 → ∃ t, exec (.ringStop h r) s = .next t ∧ ringState t r = 2 ∧ (ring t r).stop = some h)
      ∧ (∀ target, s.sheets.applying = none → s.ran.handback = none →
          (target = 1 → s.f F.PWR_RUN_run_state = 2 → exec (.runState h target) s = .next (complete (enterRun s) h 0x03 .ok [(0, 1, 3)]))
          ∧ (target = 2 → s.f F.PWR_RUN_run_state = 3 → exec (.runState h target) s = .next (complete (runSet s 2) h 0x03 .ok [(0, 1, 2)]))
          ∧ (target = 3 → s.f F.PWR_RUN_run_state = 3 → exec (.runState h target) s = .next (shutdownBegin s h)))
      ∧ (∀ p, p ≤ 4 → s.f F.PWR_RUN_therm_step < 2 → exec (.profileSet h p) s = .next (complete (setProfile s p) h 0x04 .ok [(0, 1, p), (1, 1, s.f F.PWR_RUN_cap)]))
      ∧ (∀ ts, ts < 4 → s.log.isolated.contains 14 = false → s.fb F.TS_CTRL_enable ts = true → s.f F.GOV_TS_CFG_step_allow ts ≠ 0 →
          (permitOf s ts).any (fun p => p.reserved.isSome) = false → ∃ t v x, exec (.govPermit h ts) s = .next (complete t h 0x05 .ok ([(0, 4, v)] ++ x)) ∧ 0 < v ∧ v < 2 ^ 32
            ∧ permitOf t ts = some ⟨v, none, s.ticks + s.f F.GOV_PERMIT_CFG_life * secondTicks⟩))
    ∧ (∀ r, r < 64 → ringState s r = 2 → drained s r = true → (ring s r).stop = none → exec (.ringDrainDone r) s = .next (ringDisable s r))
    ∧ (∀ ts p, permitOf s ts = some p → p.reserved = none → p.expires ≤ s.ticks → exec (.permitExpiry ts) s = .next (permitEvent (setPermit s ts none) ts 2))
    ∧ (∀ op, exec (.unassignedOpcode h op) s = .next (badArg s h op))

/-- Ring enables, polls, commits, completion writes, interrupts, errors and resets of the host interface act (14_host_rings.md (R301, R302, R305,
R306, R307, R308, R309, R310, R313, R322, R323, R330)). Where the text leaves a point open the clauses are of the choice the model makes:
notes/assumptions/44.md, notes/assumptions/45.md. -/
def Obligations.HostRingsAct : Prop :=
  ∀ s : State,
    (∀ r v t, r < 64 → t = regWrite s ⟨.HOST_RING_CFG, r, 0⟩ (fput v 31 31 0) → s.fb F.HOST_RING_CFG_enable r = false → fget v 31 31 = 1 → ringState s r = 0 →
      (ringErr t r ≠ 0 → exec (.hostRingEnable r v) s = .next (violation (t.setF F.HOST_RING_STATUS_err (ringErr t r) r)))
      ∧ (ringErr t r = 0 → ∃ u, exec (.hostRingEnable r v) s = .next u ∧ ringState u r = 1 ∧ u.fb F.HOST_RING_CFG_enable r = true ∧ (ring u r).fetched = [] ∧ (ring u r).waiting = []))
    ∧ (∀ es cs ts rs, s.fb F.HOST_STATUS_bus_master = true → ∃ t, exec (.doorbellPoll es cs ts rs) s = .next t ∧ t.host.repoll = false ∧ t.host.dbFailing = false)
    ∧ (∀ v p, ∃ t, exec (.hostNudge v p) s = .next t ∧ t.host.repoll = (s.host.repoll || p))
    ∧ (∀ r f rest u, (ring s r).fetched = f :: rest → commitHeld s r f = false → u = perf (setRing s r { ring s r with fetched := rest }) 0x0001 r →
      (adminOnly f.cmd.opcode = true → r ≠ 0 → exec (.commandCommit r) s = .next (badArg u f.hdr f.cmd.opcode))
      ∧ (adminOnly f.cmd.opcode = false ∨ r = 0 → exec (.commandCommit r) s = hostCmd f.hdr f.cmd u ∧ ∃ t, exec (.commandCommit r) s = .next t))
    ∧ (∀ r e l, r < 64 → (ring s r).waiting = e :: l → ringType s r = 1 → ringState s r = 1 → s.fb F.HOST_STATUS_bus_master = true → cplSlots e ≤ cplRoom s r →
        exec (.completionWrite r) s = .next (cplWrite (setRing s r { ring s r with waiting := l }) r e))
    ∧ (∀ r, cplEnabled s r = true → s.fb F.HOST_RING_STATUS_armed r = true → s.fb F.HOST_RING_IRQ_irq_en r = true → s.fb F.HOST_STATUS_bus_master = true →
        (s.f F.HOST_RING_IRQ_count r ≤ cplPending s r → exec (.ringInterrupt r false) s = .next (signal s r))
        ∧ (timeDue s r = true → exec (.ringInterrupt r true) s = .next (signal s r)))
    ∧ (∀ v, v < 64 → (s.setB F.MSIX_CTRL_mask false v).fb (pbaFld v) (v / 32) = true → ∃ t, exec (.msixUnmask v) s = .next t ∧ .msix v ∈ t.out)
    ∧ (∀ r, r < 64 → ringState s r = 1 → exec (.hostDmaError (.descriptorRead r)) s = .next (ringError (s.inc .HOST_DMA_ERR) r 6)
        ∧ exec (.hostDmaError (.entryWrite r)) s = .next (ringError (s.inc .HOST_DMA_ERR) r 7))
    ∧ (∀ b, ∃ t, exec (.functionLevelReset b) s = .next t ∧ (∀ r, ring t r = Ring.reset) ∧ t.time = s.time ∧ t.outs = s.outs ∧ t.cues = s.cues)
    ∧ (∀ w p, exec (.busMasterEnableChange false w p) s = .next (s.setB F.HOST_STATUS_bus_master false))

/-- Register writes, the W1C write, the read that clears and a refused access act (00_scope.md (R5, R6, R7, R8), 14_host_rings.md (R303),
21_register_map.md (R449, R450)). Where the text leaves a point open the clauses are of the choice the model makes: notes/assumptions/49.md. -/
def Obligations.RegisterAccessesAct : Prop :=
  ∀ s : State,
    (∀ a v, barTakes s a = true → (∀ r, regAt a = some r → exec (.registerWrite a v) s = .next (hostWrite s r v)) ∧ (regAt a = none → exec (.registerWrite a v) s = .next (violation s)))
    ∧ (∀ a v e r, regAt a = some r → barTakes s a = true → ∃ t, exec (.w1cWrite a v e) s = .next t ∧ t.rg r.name r.i r.j = (hostWrite s r v).rg r.name r.i r.j ||| (e &&& w1cMask r.name)
        ∧ ∀ n i j, ¬(n = r.name ∧ i = r.i ∧ j = r.j) → t.rg n i j = (hostWrite s r v).rg n i j)
    ∧ (∀ a k r, regAt a = some r → r.name ≠ .PORT_CNT_LO → isRc r.name = true → barTakes s a = true → ∃ t, exec (.rcRead a k) s = .next t
        ∧ t.out = .read a (s.rg r.name r.i r.j) :: s.out ∧ t.rg r.name r.i r.j = BitVec.ofNat 32 (rcAfter r.name k) ∧ ∀ n i j, ¬(n = r.name ∧ i = r.i ∧ j = r.j) → t.rg n i j = s.rg n i j)
    ∧ (∀ x, accessRefused x = true → s.pwr.inReset = false → barDead s = false →
        (x.write = true → exec (.barAccessRefused x) s = .next (violation s)) ∧ (x.write = false → exec (.barAccessRefused x) s = .next (s.emit (.read x.offset 0))))

/-- The call-sheet commands and their ends act (15_call_sheets.md (R331, R337, R338, R339, R340, R341, R343, R348), 17_firmware_governor_perf.md
(R390)). Where the text leaves a point open the clauses are of the choice the model makes: notes/assumptions/55.md, notes/assumptions/56.md. -/
def Obligations.CallSheetCommandsTakeEffect : Prop :=
  ∀ (s : State) (h : CmdHdr), h.mbz = true →
    (∀ (a : CshtStageArgs) sh, parseSheet s a = .inr sh → s.sheets.applying = none → s.sheets.writing = none → lifeAccepts s sh = true → slotVersion s.sheets.active < sh.version →
      (sh.base = 0 ∨ sh.base = slotVersion s.sheets.active) → exec (.cshtStage h a) s = .next { begins s h 0x60 with sheets := { s.sheets with writing := some (h, sh) } })
    ∧ (∀ a : CshtCommitArgs, a.ns < 10 ^ 9 → a.sec < 2 ^ 48 → a.confirm = 0 → commitStatus s a = none →
      (a.trigger = 0 → a.ts < 4 → exec (.cshtCommit h a) s = .next (commitNow (begins s h 0x61) h a))
      ∧ (a.trigger = 1 → a.ts < 4 → tsRuns s a.ts = true → instantPast s a.ts a.sec a.ns 0 = false → s.hs.shclk = true →
          exec (.cshtCommit h a) s = .next (atTsWait (begins s h 0x61) ⟨h, .cshtCommit a, a.ts, a.sec, a.ns, 0⟩)))
    ∧ (s.sheets.confirm = true → lcState s ≠ 2 → ∃ u, u = directoryWrite { s with sheets := { s.sheets with confirm := false, trial := 0 } } ∧
        exec (.cshtConfirm h (slotVersion s.sheets.active)) s = .next (complete (logEvent u 3 0x0C02 [(0, 4, slotVersion s.sheets.active)]) h 0x62 .ok
          [(0, 4, slotVersion s.sheets.active)]))
    ∧ (∀ q, s.sheets.applying = none → s.sheets.previous = some q → exec (.cshtRevert h (slotVersion s.sheets.active)) s = .next (revertNow (begins s h 0x63) (some h) 1))
    ∧ (∀ (a : CshtReadArgs) q, a.slot = 1 → a.addr ≠ 0 → a.addr % 8 = 0 → s.sheets.active = some q → q.sheet.image.length ≤ a.length →
      exec (.cshtRead h a) s = .next (complete (s.emit (.mem a.addr q.sheet.image.length [(0, q.sheet.image.length, leVal q.sheet.image)])) h 0x64 .ok
        [(0, 4, q.sheet.image.length), (4, 4, q.sheet.version)]))
    ∧ (∀ x, s.sheets.applying = some x → x.cause = 0 → x.hdr = none → ∃ u, exec .cshtApplyEnd s = .next (logEvent u 3 0x0C01 [(0, 4, x.new), (4, 4, x.prev)]) ∧ u.sheets.applying = none
        ∧ u.fb F.CSHT_STATUS_applying = false)
    ∧ (s.f F.CSHT_CFG_warn ≠ 0 → s.f F.CSHT_CFG_warn ≤ s.sheets.deadline → confirmWithin s (s.f F.CSHT_CFG_warn) = true → confirmWithin s 0 = false →
        s.sheets.warned = false →
        exec .cshtDeadlineWarn s = .next (logEvent { s with sheets := { s.sheets with warned := true } } 3 0x0C04
          [(0, 4, slotVersion s.sheets.active), (4, 2, s.f F.CSHT_CFG_warn)]))
    ∧ (s.sheets.confirm = true → s.sheets.deadline ≠ 0 → s.sheets.deadline * 625000000 ≤ s.ticks - s.sheets.since → s.sheets.applying = none →
        exec .confirmDeadlineExpiry s = .next (revertNow s none 2))
    ∧ (∀ good, exec (.qspiWriteDone true good) s = .next (sheetWritten s good) ∧ exec (.qspiWriteDone false good) s = .next (fwWritten s good))

/-- FW_STAGE, FW_SELECT, FW_CONFIRM, PLUGIN_CTL and the plug-ins act (17_firmware_governor_perf.md (R370, R372, R390)). Where the text leaves a point
open the clauses are of the choice the model makes: notes/assumptions/47.md. -/
def Obligations.FirmwareCommandsTakeEffect : Prop :=
  ∀ (s : State) (h : CmdHdr), h.mbz = true →
    (∀ a : FwStageArgs, a.addr ≠ 0 → a.addr % 8 = 0 → a.length ≤ 4194304 → a.image.sigGood = true → s.fw.trial = false → s.fw.writing = none →
      s.f F.STV_ROLLBACK_counter ≤ a.image.security →
      exec (.fwStage h a) s = .next { begins s h 0x6A with fw := { s.fw with writing := some (h, 1 - s.fw.running, a.image) } })
    ∧ (∀ slot, slot ≤ 1 → slot ≠ s.fw.running → fwPasses s (tget s.fw.slots none slot) = true → s.fw.trial = false →
      exec (.fwSelect h slot) s = .next (complete { s with fw := { s.fw with preferred := slot, trial := true, trialCount := 0, seq := s.fw.seq + 1 } } h 0x6B .ok [(0, 1, slot), (1, 1, 1)]))
    ∧ (s.fw.trial = true → s.fw.preferred = s.fw.running → ∃ t, exec (.fwConfirm h) s = .next (complete t h 0x6C .ok [(0, 1, s.fw.running)]) ∧ t.fw.trial = false
        ∧ t.fb F.GLOBAL_FW_STATE_trial = false)
    ∧ (∀ id p, plugin s id = some p → exec (.pluginCtl h id 0) s = .next (complete (pluginStop s id 5) h 0x6D .ok [(0, 1, 0)])
        ∧ (p.hashOk = true → exec (.pluginCtl h id 1) s = .next (complete (setPlugin s id { p with running := true }) h 0x6D .ok [(0, 1, 1)])))
    ∧ (∀ id c, (c = 1 ∨ c = 2 ∨ c = 4) → exec (.fwPluginFault id c) s = .next (pluginStop s id c))
    ∧ (∀ id p call, plugin s id = some p → p.running = true → s.f F.PWR_RUN_run_state ≠ 4 →
      (callPermitted s p call = false → exec (.pluginKernelCall id call) s = .next (pluginStop s id 2))
      ∧ (∀ o v, callPermitted s p (.write o v) = true → exec (.pluginKernelCall id (.write o v)) s = .next (barWrite s o v)))

/-- The performance counters and the sampling unit act (17_firmware_governor_perf.md (R383, R384, R385, R387, R388, R389, R390)). Where the text
leaves a point open the clauses are of the choice the model makes: notes/assumptions/46.md, notes/assumptions/48.md. -/
def Obligations.PerformanceCountersAct : Prop :=
  ∀ (s : State) (h : CmdHdr), h.mbz = true →
    (s.log.isolated.contains 14 = false → exec (.perfSample h 0) s = .next (complete { s with perf := { s.perf with sampling := false } } h 0x6E .ok [(0, 1, s.perf.buffer.length)])
      ∧ (s.f F.PERF_SAMPLE_CFG_cores ≠ 0 → s.perf.sampling = false →
          exec (.perfSample h 1) s = .next (complete { s with perf := { s.perf with sampling := true } } h 0x6E .ok [(0, 1, s.perf.buffer.length)])))
    ∧ (∀ c, c < 48 →
        (s.perf.wrapped.contains c = true → s.fb F.PERF_SEL_ovf_evt c = true →
          exec (.perfOvf c) s = .next (event { s with perf := { s.perf with wrapped := s.perf.wrapped.erase c } } 0x0E06 [(0, 1, c)]))
        ∧ (s.perf.wrapped.contains c = true → s.fb F.PERF_SEL_ovf_evt c = false →
          exec (.perfOvf c) s = .next { s with perf := { s.perf with wrapped := s.perf.wrapped.erase c } })
        ∧ (s.perf.wrapped.contains c = false → perfWrapsInside s c = true →
          exec (.perfOvf c) s = .next (perfOvfEvent (perfOverflow (setPerfCount s c 0) c) c)))
    ∧ (∀ c, c < 48 → (s.fb F.PERF_SEL_user_rd c = false → exec (.perfCntRead c true) s = .next ((violation s).emit (.read (0x7200 + 8 * c) 0)))
        ∧ (perfUpper s c = false →
            exec (.perfCntRead c false) s = .next ((perfLatch s c).emit (.read (0x7200 + 8 * c) (BitVec.ofNat 32 (s.f F.PERF_CNT_LO_value c))))))
    ∧ (∀ r : SampleIn, s.perf.sampling = true → s.f F.PWR_RUN_run_state ≠ 4 → (s.f F.PERF_SAMPLE_CFG_cores).testBit (r.core % 4) = true → r.cls ≤ 9 →
        (s.f F.PERF_SAMPLE_CLASS_mask).testBit r.cls = true →
      (64 ≤ s.perf.buffer.length → ∃ t, exec (.perfSampleRecord r) s = .next t ∧ t.regs = (s.inc .PERF_SAMPLE_LOST).regs ∧ t.perf.lost = true ∧ t.perf.buffer = s.perf.buffer)
      ∧ (s.perf.buffer.length < 64 → ∃ t, exec (.perfSampleRecord r) s = .next t ∧ t.perf.buffer = s.perf.buffer ++ [sampleRecord s r] ∧ t.perf.seq = (s.perf.seq + 1) % 65536
          ∧ t.regs = s.regs))
    ∧ exec .perfSampleDrain s = .next (sampleDrain s).1

/-- The log commands, the record writer, the scrub, the wrap test and the idle test act (18_log_and_wrap.md (R392, R397, R399, R400, R401, R402,
R404, R405, R407, R408, R409)). Where the text leaves a point open the clauses are of the choice the model makes: notes/assumptions/51.md,
notes/assumptions/52.md, notes/assumptions/53.md, notes/assumptions/54.md. -/
def Obligations.LogAndSelfTestCommandsTakeEffect : Prop :=
  ∀ (s : State) (h : CmdHdr), h.mbz = true →
    (∀ a : LogReadArgs, a.sev ≤ 7 → addr64Ok a.addr = true → 0 < a.max → a.max ≤ 8192 → a.badCells = [] →
      ∃ u l p, exec (.logRead h a) s = .next (complete (putRecords u a.addr l) h 0x65 .ok ((0, 4, l.length) :: p)) ∧ l.length ≤ a.max)
    ∧ (∀ a : LogReadArgs, a.sev ≤ 7 → addr64Ok a.addr = true → 0 < a.max → a.max ≤ 8192 → ∃ u p, exec (.logRead h a) s = .next (complete u h 0x65 .ok p))
    ∧ (∀ a : LogWriteArgs, 3 ≤ a.sev → a.sev ≤ 7 → a.code / 256 = 0x10 → a.len ≤ 36 → (a.data.drop a.len).any (fun b => b != 0) = false → s.log.queue.length < 256 →
      ∃ t, exec (.logWrite h a) s = .next t ∧ ((s.rg .LOG_SEQ).toNat, h) ∈ t.log.waiters)
    ∧ (∀ addr, addr64Ok addr = true → s.fb F.LOG_STATUS_media_dead = false → ∃ l, exec (.lwRead h addr false) s = .next (complete (s.emit (.mem addr 4096 l)) h 0x67 .ok [(0, 8, lwMask s)]))
    ∧ (∀ mask, mask ≠ 0 → s.fb F.LOG_STATUS_media_dead = false → ∃ t, exec (.lwClear h mask) s = .next (complete t h 0x68 .ok
        [(0, 1, ((List.range 64).filter (fun k => mask.testBit k && (tget s.log.lastWords none k).isSome)).length)])
        ∧ ∀ k < 64, mask.testBit k = true → tget t.log.lastWords none k = none)
    ∧ (∀ r l, s.log.queue = r :: l → exec (.logRecordWrite false false) s = .next (recordWrite s).1)
    ∧ (∀ c, c < 8192 → s.log.retired.contains (segmentOf c) = false → exec (.logScrub c true false) s = .next (perf s 0x8002 4)
        ∧ exec (.logScrub c false true) s = .next (retireSegment s (segmentOf c)))
    ∧ (∀ w f, s.wrap.run = some w → w.block < 16 → w.slices + 1 < blockSlices s w.full w.block → w.since + s.f F.BIST_CFG_slice * 625000 ≤ s.ticks →
        exec (.wrapBlockSlice f) s = .next { s with wrap := { s.wrap with run := some { w with slices := w.slices + 1, budget := w.budget - s.f F.BIST_CFG_slice, since := s.ticks } } })
    ∧ (∀ w, s.wrap.run = some w → 16 ≤ w.block → exec .wrapTestEnd s = .next (wrapEnd s w.full))
    ∧ (∀ i k, s.fb F.BIST_CFG_idle_en = true → s.wrap.under = none → s.f F.PWR_RUN_run_state = 3 → idleKind s = some k → idleFree s k i = true →
        s.wrap.idleAt + s.f F.BIST_CFG_idle_int * 60 * 625000000 ≤ s.ticks →
        exec (.idleSlice i none) s = .next { s with wrap := { s.wrap with under := some (k, i, none), kind := (k + 1) % 5, underAt := s.ticks, idleAt := s.ticks } })
    ∧ exec .idleSlicePreempt s = .next (idleEnd s none)
    ∧ (∀ k i, k ≤ 4 → k ≠ 2 → i < idleCount k → idleRetired s k i = false → s.wrap.under = none → idleFree s k i = true →
        ∃ t, exec (.bistIdleRun h k i) s = .next t ∧ t.wrap.under = some (k, i, some h))
    ∧ (∀ k, tsValid (advance s k) 0 = true → wholeSecond (advance s k) 0 = true → ∃ t, exec (.rtcLoad k) s = .next t ∧ t.log.rtcSec = (tsc (advance s k) 0).cnt.sec % 2 ^ 32 ∧ t.log.rtcValid = true ∧ t.regs = (advance s k).regs)

/-- Reset, brown-out, rails, boot, automatic RUN and thermal samples act (19_power_startup.md (R412, R416, R418, R422, R424)). Where the text leaves
a point open the clauses are of the choice the model makes: notes/assumptions/57.md, notes/assumptions/59.md, notes/assumptions/83.md. -/
def Obligations.PowerEventsTakeEffect : Prop :=
  ∀ s : State,
    (s.pwr.inReset = false → exec .resetNAssert s = .next (deviceReset { s with pwr := { s.pwr with brown := 0, coreLost := false, vioLost := false, allLost := false } } 0))
    ∧ (∀ rails, rails % 64 &&& s.f F.PWR_RAIL_in_range ≠ 0 → s.pwr.inReset = false → ∃ u, exec (.brownout rails) s = .next (deviceReset u 1))
    ∧ (∀ k, k < 6 → exec (.railBackInRange k) s = .next (s.setF F.PWR_RAIL_in_range (s.f F.PWR_RAIL_in_range ||| 2 ^ k)))
    ∧ (∀ b, s.f F.PWR_RUN_run_state = 1 → s.pwr.stopped = false → s.f F.PWR_RAIL_in_range = 63 → ∃ t u, exec (.bootSequence b) s = .next t
        ∧ (t = u ∧ u.pwr.stopped = true ∨ t = bootSetup (floorBoot (stvOpen u) b.floorOk) b ∧ u.pwr.stopped = false))
    ∧ (s.f F.PWR_RUN_run_state = 2 → s.pwr.ran = false → s.fb F.PWR_CFG_auto_run = true → s.sheets.applying = none → exec .autoRun s = .next (enterRun s))
    ∧ (∀ tj, s.pwr.inReset = false → s.f F.PWR_RUN_run_state < 2 → -2048 ≤ tj → tj < 2048 → ∃ t, exec (.thermalSample tj) s = .next t ∧ t.fi F.PWR_THERM_tj = tj
        ∧ tj ≤ t.fi F.PWR_THERM_tj_max ∧ s.fi F.PWR_THERM_tj_max ≤ t.fi F.PWR_THERM_tj_max)
    ∧ (∀ tj, s.pwr.inReset = false → 2 ≤ s.f F.PWR_RUN_run_state → s.f F.PWR_RUN_run_state ≤ 5 → ∃ u, exec (.thermalSample tj) s = .next (if thermalNext u = u.f F.PWR_RUN_therm_step then u
        else thermalSet u tj (thermalNext u)))

/-- Admin opcodes are accepted on ring 0 alone, NOP and ABORT on any ring, and an unassigned opcode changes nothing (14_host_rings.md (R311),
04_ensemble_and_bounds.md (R98), 07_outputs.md (R160), 08_cues_captures_tod.md (R181)). -/
def Obligations.AdminAndUnassignedOpcodes : Prop :=
  (∀ (s : State) (r : Nat) (f : Fetched) (rest : List Fetched), r ≠ 0 → (ring s r).fetched = f :: rest → commitHeld s r f = false → 2 ≤ f.cmd.opcode → f.cmd.opcode ≤ 0x0F →
      exec (.commandCommit r) s = .next (badArg (perf (setRing s r { ring s r with fetched := rest }) 0x0001 r) f.hdr f.cmd.opcode))
    ∧ (∀ (s : State) (h : CmdHdr) (n : Nat), h.ring ≠ 0 → exec (.ringStop h n) s = .next (badArg s h 0x02) ∧ exec (.runState h n) s = .next (badArg s h 0x03)
      ∧ exec (.profileSet h n) s = .next (badArg s h 0x04) ∧ exec (.govPermit h n) s = .next (badArg s h 0x05))
    ∧ (∀ (s : State) (h : CmdHdr), h.mbz = true → exec (.nop h) s = .next (complete s h 0x00 .ok [(0, 1, s.f F.PWR_RUN_run_state)])
      ∧ ∀ a : AbortArgs, a.ring < 64 → ringType s a.ring = 0 → ringState s a.ring = 1 → abortTarget s a.ring a.tag = .none → exec (.abort h a) s = .next (complete s h 0x01 .notFound []))
    ∧ (∀ (s : State) (h : CmdHdr) (op : Nat), exec (.unassignedOpcode h op) s = .next (badArg s h op)
      ∧ (h.ring < 64 → (badArg s h op).regs = s.regs ∧ badArg s h op = { s with host := (badArg s h op).host }))

/-- A W1C bit that hardware sets in the access that clears it stays set, and a counter that clears keeps the event of its own read (00_scope.md (R6,
R7)). -/
def Obligations.EventsOfTheSameAccessAreKept : Prop :=
  (∀ (s t : State) (a : Nat) (v e : Word) (r : Reg) (k : Nat), regAt a = some r → barTakes s a = true → exec (.w1cWrite a v e) s = .next t → (e &&& w1cMask r.name).getLsbD k = true →
      (t.rg r.name r.i r.j).getLsbD k = true)
    ∧ (∀ (s t : State) (a n m : Nat) (r : Reg), regAt a = some r → barTakes s a = true → isRc r.name = true → r.name ≠ .PORT_CNT_LO → exec (.rcRead a [n, m]) s = .next t →
      t.out = .read a (s.rg r.name r.i r.j) :: s.out
        ∧ (t.rg r.name r.i r.j).toNat = (if rcPair r.name then min n (2 ^ 16 - 1) + 2 ^ 16 * min m (2 ^ 16 - 1) else min n (2 ^ 32 - 1)))
    ∧ (∀ (s t : State) (a n : Nat) (r : Reg), regAt a = some r → barTakes s a = true → r.name = .PORT_CNT_LO → r.i < 4 → r.j < 12 → s.fb F.PORT_CFG_stats_reader r.i = false → n < 2 ^ 64 →
      exec (.rcRead a [n]) s = .next t → t.out = .read a (BitVec.ofNat 32 (portCnt s r.i r.j)) :: s.out ∧ portCnt t r.i r.j = n)

/-- A host command with a byte set that must be 0 completes with BAD_ARG and does nothing else (14_host_rings.md (R310, R325), 00_scope.md (R9)). -/
def Obligations.BytesThatMustBeZero : Prop :=
  ∀ (s : State) (h : CmdHdr) (c : HostCmd), h.mbz = false → hostCmd h c s = .next (badArg s h c.opcode)
    ∧ (h.ring < 64 → (badArg s h c.opcode).regs = s.regs ∧ badArg s h c.opcode = { s with host := (badArg s h c.opcode).host })

/-- The commands that only ask change no register and nothing but the host rings (03_timescales.md (R70), 11_ptp_service.md (R254),
12_ntp_nts_service.md (R280), 14_host_rings.md (R327), 16_stavris.md (R358)). -/
def Obligations.QueriesChangeOnlyTheRings : Prop :=
  ∀ (s t : State) (h : CmdHdr), h.ring < 64 →
    ((∃ a b, exec (.tsReadView h a b) s = .next t) ∨ (∃ a, exec (.ptpClientFind h a) s = .next t) ∨ (∃ i, exec (.ptpParentRead h i) s = .next t)
      ∨ (∃ a, exec (.ntpRlQuery h a) s = .next t) ∨ (∃ p, exec (.ntpPeerRead h p) s = .next t) ∨ exec (.nop h) s = .next t ∨ (∃ a b, exec (.stvKeyInfo h a b) s = .next t)) →
    t.regs = s.regs ∧ t = { s with host := t.host }

/-- A bound is encoded as the smallest code that reaches it (03_timescales.md (R55, R56)). -/
def Obligations.BoundCodeIsLeast : Prop :=
  ∀ b : Nat, (b ≤ 32212254720 → ∃ v, boundPs (boundCode b) = some v ∧ b ≤ v ∧ ∀ c w, c < boundCode b → boundPs c = some w → w < b)
    ∧ (32212254720 < b → boundCode b = 0xFF) ∧ (∀ c d v w, c < d → d < 0xFF → boundPs c = some v → boundPs d = some w → v < w)

/-- A tick updates a running timescale exactly as the code of R44 does (03_timescales.md (R44, R45, R61)). -/
def Obligations.TickIsTheExactUpdate : Prop :=
  ∀ (s : State) (n : Nat), n < 4 → clocked s = true → tsRuns s n = true → tsDerived s n = false → (tsc s n).cnt.frac < 2 ^ 48 → (tsc s n).cnt.ns < 10 ^ 9 → (tsc s n).cnt.sec < 2 ^ 48 →
    2 ^ 48 ≤ tsIncr s n → tsIncr s n < 2 * 2 ^ 48 → s.f F.GOV_TS_SLEW_value n ≤ 50000000 →
    let q := slewMoved (tsc s n).slewRem (slewRateOf s n) 1
    let f : Int := (tsc s n).cnt.frac + (tsIncr s n % 2 ^ 48 : Nat) + q
    let k : Int := (tsc s n).cnt.ns + (tsIncr s n / 2 ^ 48 : Nat) + f / 2 ^ 48
    let t := (tsc (advance s 1) n).cnt
    (t.frac : Int) = f % 2 ^ 48 ∧ (t.ns : Int) = (if 1000000000 ≤ k then k - 1000000000 else k)
      ∧ t.sec = (if 1000000000 ≤ k then ((tsc s n).cnt.sec + 1) % 2 ^ 48 else (tsc s n).cnt.sec)
      ∧ (tsc (advance s 1) n).slewRem = (tsc s n).slewRem - q

/-- TS_STEP uses its permit exactly when it takes effect (03_timescales.md (R49, R62), 17_firmware_governor_perf.md (R381, R382)). -/
def Obligations.StepNeedsItsPermit : Prop :=
  ∀ (s : State) (h : CmdHdr) (a : TsStepArgs), h.mbz = true → h.ring < 64 → s.log.isolated.contains 5 = false → s.hs.shclk = true → a.ts < 4 → s.fb F.TS_CTRL_enable a.ts = true →
    tsDerived s a.ts = false →
    (permitFits s a.ts a.permit = false → ∃ t, exec (.tsStep h a) s = .next t ∧ ∀ m, (tsc t m).cnt = (tsc s m).cnt)
    ∧ (permitFits s a.ts a.permit = true → ((counterUnits (tsc s a.ts).cnt : Int) + stepUnits a < 0 ∨ (2 ^ 48 * unitsPerSec : Nat) ≤ (counterUnits (tsc s a.ts).cnt : Int) + stepUnits a) →
      ∃ t, exec (.tsStep h a) s = .next t ∧ t.time = s.time ∧ t.gov = s.gov)
    ∧ (permitFits s a.ts a.permit = true → 0 ≤ (counterUnits (tsc s a.ts).cnt : Int) + stepUnits a → (counterUnits (tsc s a.ts).cnt : Int) + stepUnits a < (2 ^ 48 * unitsPerSec : Nat) →
      ∃ t, exec (.tsStep h a) s = .next t ∧ (counterUnits (tsc t a.ts).cnt : Int) = counterUnits (tsc s a.ts).cnt + stepUnits a ∧ (tsc t a.ts).slewRem = 0
        ∧ permitOf t a.ts = none ∧ ∀ m < 4, m ≠ a.ts → derivesFrom s 4 m a.ts = false → (tsc t m).cnt = (tsc s m).cnt)
end

