-- ==== Sys2Proof/Laws/State.lean ====
section
/-! SUPPORT. What each update of the state leaves: one lemma for each field and each shared update, true by unfolding. -/
namespace Sys2Proof.Machine
open Sys2Proof

@[simp] theorem State.wr_hs (s : State) (n : RegName) (i j : Nat) (v : Word) : (s.wr n i j v).hs = s.hs := (rfl)
@[simp] theorem State.wr_time (s : State) (n : RegName) (i j : Nat) (v : Word) : (s.wr n i j v).time = s.time := (rfl)
@[simp] theorem State.wr_ens (s : State) (n : RegName) (i j : Nat) (v : Word) : (s.wr n i j v).ens = s.ens := (rfl)
@[simp] theorem State.wr_clap (s : State) (n : RegName) (i j : Nat) (v : Word) : (s.wr n i j v).clap = s.clap := (rfl)
@[simp] theorem State.wr_loops (s : State) (n : RegName) (i j : Nat) (v : Word) : (s.wr n i j v).loops = s.loops := (rfl)
@[simp] theorem State.wr_outs (s : State) (n : RegName) (i j : Nat) (v : Word) : (s.wr n i j v).outs = s.outs := (rfl)
@[simp] theorem State.wr_cues (s : State) (n : RegName) (i j : Nat) (v : Word) : (s.wr n i j v).cues = s.cues := (rfl)
@[simp] theorem State.wr_gnss (s : State) (n : RegName) (i j : Nat) (v : Word) : (s.wr n i j v).gnss = s.gnss := (rfl)
@[simp] theorem State.wr_ports (s : State) (n : RegName) (i j : Nat) (v : Word) : (s.wr n i j v).ports = s.ports := (rfl)
@[simp] theorem State.wr_stv (s : State) (n : RegName) (i j : Nat) (v : Word) : (s.wr n i j v).stv = s.stv := (rfl)
@[simp] theorem State.wr_ptp (s : State) (n : RegName) (i j : Nat) (v : Word) : (s.wr n i j v).ptp = s.ptp := (rfl)
@[simp] theorem State.wr_ntp (s : State) (n : RegName) (i j : Nat) (v : Word) : (s.wr n i j v).ntp = s.ntp := (rfl)
@[simp] theorem State.wr_ran (s : State) (n : RegName) (i j : Nat) (v : Word) : (s.wr n i j v).ran = s.ran := (rfl)
@[simp] theorem State.wr_areas (s : State) (n : RegName) (i j : Nat) (v : Word) : (s.wr n i j v).areas = s.areas := (rfl)
@[simp] theorem State.wr_host (s : State) (n : RegName) (i j : Nat) (v : Word) : (s.wr n i j v).host = s.host := (rfl)
@[simp] theorem State.wr_gov (s : State) (n : RegName) (i j : Nat) (v : Word) : (s.wr n i j v).gov = s.gov := (rfl)
@[simp] theorem State.wr_log (s : State) (n : RegName) (i j : Nat) (v : Word) : (s.wr n i j v).log = s.log := (rfl)
@[simp] theorem State.wr_sheets (s : State) (n : RegName) (i j : Nat) (v : Word) : (s.wr n i j v).sheets = s.sheets := (rfl)
@[simp] theorem State.wr_fw (s : State) (n : RegName) (i j : Nat) (v : Word) : (s.wr n i j v).fw = s.fw := (rfl)
@[simp] theorem State.wr_perf (s : State) (n : RegName) (i j : Nat) (v : Word) : (s.wr n i j v).perf = s.perf := (rfl)
@[simp] theorem State.wr_wrap (s : State) (n : RegName) (i j : Nat) (v : Word) : (s.wr n i j v).wrap = s.wrap := (rfl)
@[simp] theorem State.wr_pwr (s : State) (n : RegName) (i j : Nat) (v : Word) : (s.wr n i j v).pwr = s.pwr := (rfl)
@[simp] theorem State.wr_ticks (s : State) (n : RegName) (i j : Nat) (v : Word) : (s.wr n i j v).ticks = s.ticks := (rfl)
@[simp] theorem State.wr_fresh (s : State) (n : RegName) (i j : Nat) (v : Word) : (s.wr n i j v).fresh = s.fresh := (rfl)
@[simp] theorem State.wr_out (s : State) (n : RegName) (i j : Nat) (v : Word) : (s.wr n i j v).out = s.out := (rfl)
@[simp] theorem State.wr_pending (s : State) (n : RegName) (i j : Nat) (v : Word) : (s.wr n i j v).pending = s.pending := (rfl)
@[simp] theorem State.setF_hs (s : State) (d : Fld) (v i j : Nat) : (s.setF d v i j).hs = s.hs := (rfl)
@[simp] theorem State.setF_time (s : State) (d : Fld) (v i j : Nat) : (s.setF d v i j).time = s.time := (rfl)
@[simp] theorem State.setF_ens (s : State) (d : Fld) (v i j : Nat) : (s.setF d v i j).ens = s.ens := (rfl)
@[simp] theorem State.setF_clap (s : State) (d : Fld) (v i j : Nat) : (s.setF d v i j).clap = s.clap := (rfl)
@[simp] theorem State.setF_loops (s : State) (d : Fld) (v i j : Nat) : (s.setF d v i j).loops = s.loops := (rfl)
@[simp] theorem State.setF_outs (s : State) (d : Fld) (v i j : Nat) : (s.setF d v i j).outs = s.outs := (rfl)
@[simp] theorem State.setF_cues (s : State) (d : Fld) (v i j : Nat) : (s.setF d v i j).cues = s.cues := (rfl)
@[simp] theorem State.setF_gnss (s : State) (d : Fld) (v i j : Nat) : (s.setF d v i j).gnss = s.gnss := (rfl)
@[simp] theorem State.setF_ports (s : State) (d : Fld) (v i j : Nat) : (s.setF d v i j).ports = s.ports := (rfl)
@[simp] theorem State.setF_stv (s : State) (d : Fld) (v i j : Nat) : (s.setF d v i j).stv = s.stv := (rfl)
@[simp] theorem State.setF_ptp (s : State) (d : Fld) (v i j : Nat) : (s.setF d v i j).ptp = s.ptp := (rfl)
@[simp] theorem State.setF_ntp (s : State) (d : Fld) (v i j : Nat) : (s.setF d v i j).ntp = s.ntp := (rfl)
@[simp] theorem State.setF_ran (s : State) (d : Fld) (v i j : Nat) : (s.setF d v i j).ran = s.ran := (rfl)
@[simp] theorem State.setF_areas (s : State) (d : Fld) (v i j : Nat) : (s.setF d v i j).areas = s.areas := (rfl)
@[simp] theorem State.setF_host (s : State) (d : Fld) (v i j : Nat) : (s.setF d v i j).host = s.host := (rfl)
@[simp] theorem State.setF_gov (s : State) (d : Fld) (v i j : Nat) : (s.setF d v i j).gov = s.gov := (rfl)
@[simp] theorem State.setF_log (s : State) (d : Fld) (v i j : Nat) : (s.setF d v i j).log = s.log := (rfl)
@[simp] theorem State.setF_sheets (s : State) (d : Fld) (v i j : Nat) : (s.setF d v i j).sheets = s.sheets := (rfl)
@[simp] theorem State.setF_fw (s : State) (d : Fld) (v i j : Nat) : (s.setF d v i j).fw = s.fw := (rfl)
@[simp] theorem State.setF_perf (s : State) (d : Fld) (v i j : Nat) : (s.setF d v i j).perf = s.perf := (rfl)
@[simp] theorem State.setF_wrap (s : State) (d : Fld) (v i j : Nat) : (s.setF d v i j).wrap = s.wrap := (rfl)
@[simp] theorem State.setF_pwr (s : State) (d : Fld) (v i j : Nat) : (s.setF d v i j).pwr = s.pwr := (rfl)
@[simp] theorem State.setF_ticks (s : State) (d : Fld) (v i j : Nat) : (s.setF d v i j).ticks = s.ticks := (rfl)
@[simp] theorem State.setF_fresh (s : State) (d : Fld) (v i j : Nat) : (s.setF d v i j).fresh = s.fresh := (rfl)
@[simp] theorem State.setF_out (s : State) (d : Fld) (v i j : Nat) : (s.setF d v i j).out = s.out := (rfl)
@[simp] theorem State.setF_pending (s : State) (d : Fld) (v i j : Nat) : (s.setF d v i j).pending = s.pending := (rfl)
@[simp] theorem State.setB_hs (s : State) (d : Fld) (b : Bool) (i j : Nat) : (s.setB d b i j).hs = s.hs := (rfl)
@[simp] theorem State.setB_time (s : State) (d : Fld) (b : Bool) (i j : Nat) : (s.setB d b i j).time = s.time := (rfl)
@[simp] theorem State.setB_ens (s : State) (d : Fld) (b : Bool) (i j : Nat) : (s.setB d b i j).ens = s.ens := (rfl)
@[simp] theorem State.setB_clap (s : State) (d : Fld) (b : Bool) (i j : Nat) : (s.setB d b i j).clap = s.clap := (rfl)
@[simp] theorem State.setB_loops (s : State) (d : Fld) (b : Bool) (i j : Nat) : (s.setB d b i j).loops = s.loops := (rfl)
@[simp] theorem State.setB_outs (s : State) (d : Fld) (b : Bool) (i j : Nat) : (s.setB d b i j).outs = s.outs := (rfl)
@[simp] theorem State.setB_cues (s : State) (d : Fld) (b : Bool) (i j : Nat) : (s.setB d b i j).cues = s.cues := (rfl)
@[simp] theorem State.setB_gnss (s : State) (d : Fld) (b : Bool) (i j : Nat) : (s.setB d b i j).gnss = s.gnss := (rfl)
@[simp] theorem State.setB_ports (s : State) (d : Fld) (b : Bool) (i j : Nat) : (s.setB d b i j).ports = s.ports := (rfl)
@[simp] theorem State.setB_stv (s : State) (d : Fld) (b : Bool) (i j : Nat) : (s.setB d b i j).stv = s.stv := (rfl)
@[simp] theorem State.setB_ptp (s : State) (d : Fld) (b : Bool) (i j : Nat) : (s.setB d b i j).ptp = s.ptp := (rfl)
@[simp] theorem State.setB_ntp (s : State) (d : Fld) (b : Bool) (i j : Nat) : (s.setB d b i j).ntp = s.ntp := (rfl)
@[simp] theorem State.setB_ran (s : State) (d : Fld) (b : Bool) (i j : Nat) : (s.setB d b i j).ran = s.ran := (rfl)
@[simp] theorem State.setB_areas (s : State) (d : Fld) (b : Bool) (i j : Nat) : (s.setB d b i j).areas = s.areas := (rfl)
@[simp] theorem State.setB_host (s : State) (d : Fld) (b : Bool) (i j : Nat) : (s.setB d b i j).host = s.host := (rfl)
@[simp] theorem State.setB_gov (s : State) (d : Fld) (b : Bool) (i j : Nat) : (s.setB d b i j).gov = s.gov := (rfl)
@[simp] theorem State.setB_log (s : State) (d : Fld) (b : Bool) (i j : Nat) : (s.setB d b i j).log = s.log := (rfl)
@[simp] theorem State.setB_sheets (s : State) (d : Fld) (b : Bool) (i j : Nat) : (s.setB d b i j).sheets = s.sheets := (rfl)
@[simp] theorem State.setB_fw (s : State) (d : Fld) (b : Bool) (i j : Nat) : (s.setB d b i j).fw = s.fw := (rfl)
@[simp] theorem State.setB_perf (s : State) (d : Fld) (b : Bool) (i j : Nat) : (s.setB d b i j).perf = s.perf := (rfl)
@[simp] theorem State.setB_wrap (s : State) (d : Fld) (b : Bool) (i j : Nat) : (s.setB d b i j).wrap = s.wrap := (rfl)
@[simp] theorem State.setB_pwr (s : State) (d : Fld) (b : Bool) (i j : Nat) : (s.setB d b i j).pwr = s.pwr := (rfl)
@[simp] theorem State.setB_ticks (s : State) (d : Fld) (b : Bool) (i j : Nat) : (s.setB d b i j).ticks = s.ticks := (rfl)
@[simp] theorem State.setB_fresh (s : State) (d : Fld) (b : Bool) (i j : Nat) : (s.setB d b i j).fresh = s.fresh := (rfl)
@[simp] theorem State.setB_out (s : State) (d : Fld) (b : Bool) (i j : Nat) : (s.setB d b i j).out = s.out := (rfl)
@[simp] theorem State.setB_pending (s : State) (d : Fld) (b : Bool) (i j : Nat) : (s.setB d b i j).pending = s.pending := (rfl)
@[simp] theorem State.setI_hs (s : State) (d : Fld) (x : Int) (i j : Nat) : (s.setI d x i j).hs = s.hs := (rfl)
@[simp] theorem State.setI_time (s : State) (d : Fld) (x : Int) (i j : Nat) : (s.setI d x i j).time = s.time := (rfl)
@[simp] theorem State.setI_ens (s : State) (d : Fld) (x : Int) (i j : Nat) : (s.setI d x i j).ens = s.ens := (rfl)
@[simp] theorem State.setI_clap (s : State) (d : Fld) (x : Int) (i j : Nat) : (s.setI d x i j).clap = s.clap := (rfl)
@[simp] theorem State.setI_loops (s : State) (d : Fld) (x : Int) (i j : Nat) : (s.setI d x i j).loops = s.loops := (rfl)
@[simp] theorem State.setI_outs (s : State) (d : Fld) (x : Int) (i j : Nat) : (s.setI d x i j).outs = s.outs := (rfl)
@[simp] theorem State.setI_cues (s : State) (d : Fld) (x : Int) (i j : Nat) : (s.setI d x i j).cues = s.cues := (rfl)
@[simp] theorem State.setI_gnss (s : State) (d : Fld) (x : Int) (i j : Nat) : (s.setI d x i j).gnss = s.gnss := (rfl)
@[simp] theorem State.setI_ports (s : State) (d : Fld) (x : Int) (i j : Nat) : (s.setI d x i j).ports = s.ports := (rfl)
@[simp] theorem State.setI_stv (s : State) (d : Fld) (x : Int) (i j : Nat) : (s.setI d x i j).stv = s.stv := (rfl)
@[simp] theorem State.setI_ptp (s : State) (d : Fld) (x : Int) (i j : Nat) : (s.setI d x i j).ptp = s.ptp := (rfl)
@[simp] theorem State.setI_ntp (s : State) (d : Fld) (x : Int) (i j : Nat) : (s.setI d x i j).ntp = s.ntp := (rfl)
@[simp] theorem State.setI_ran (s : State) (d : Fld) (x : Int) (i j : Nat) : (s.setI d x i j).ran = s.ran := (rfl)
@[simp] theorem State.setI_areas (s : State) (d : Fld) (x : Int) (i j : Nat) : (s.setI d x i j).areas = s.areas := (rfl)
@[simp] theorem State.setI_host (s : State) (d : Fld) (x : Int) (i j : Nat) : (s.setI d x i j).host = s.host := (rfl)
@[simp] theorem State.setI_gov (s : State) (d : Fld) (x : Int) (i j : Nat) : (s.setI d x i j).gov = s.gov := (rfl)
@[simp] theorem State.setI_log (s : State) (d : Fld) (x : Int) (i j : Nat) : (s.setI d x i j).log = s.log := (rfl)
@[simp] theorem State.setI_sheets (s : State) (d : Fld) (x : Int) (i j : Nat) : (s.setI d x i j).sheets = s.sheets := (rfl)
@[simp] theorem State.setI_fw (s : State) (d : Fld) (x : Int) (i j : Nat) : (s.setI d x i j).fw = s.fw := (rfl)
@[simp] theorem State.setI_perf (s : State) (d : Fld) (x : Int) (i j : Nat) : (s.setI d x i j).perf = s.perf := (rfl)
@[simp] theorem State.setI_wrap (s : State) (d : Fld) (x : Int) (i j : Nat) : (s.setI d x i j).wrap = s.wrap := (rfl)
@[simp] theorem State.setI_pwr (s : State) (d : Fld) (x : Int) (i j : Nat) : (s.setI d x i j).pwr = s.pwr := (rfl)
@[simp] theorem State.setI_ticks (s : State) (d : Fld) (x : Int) (i j : Nat) : (s.setI d x i j).ticks = s.ticks := (rfl)
@[simp] theorem State.setI_fresh (s : State) (d : Fld) (x : Int) (i j : Nat) : (s.setI d x i j).fresh = s.fresh := (rfl)
@[simp] theorem State.setI_out (s : State) (d : Fld) (x : Int) (i j : Nat) : (s.setI d x i j).out = s.out := (rfl)
@[simp] theorem State.setI_pending (s : State) (d : Fld) (x : Int) (i j : Nat) : (s.setI d x i j).pending = s.pending := (rfl)
@[simp] theorem State.incF_hs (s : State) (d : Fld) (i j k : Nat) : (s.incF d i j k).hs = s.hs := (rfl)
@[simp] theorem State.incF_time (s : State) (d : Fld) (i j k : Nat) : (s.incF d i j k).time = s.time := (rfl)
@[simp] theorem State.incF_ens (s : State) (d : Fld) (i j k : Nat) : (s.incF d i j k).ens = s.ens := (rfl)
@[simp] theorem State.incF_clap (s : State) (d : Fld) (i j k : Nat) : (s.incF d i j k).clap = s.clap := (rfl)
@[simp] theorem State.incF_loops (s : State) (d : Fld) (i j k : Nat) : (s.incF d i j k).loops = s.loops := (rfl)
@[simp] theorem State.incF_outs (s : State) (d : Fld) (i j k : Nat) : (s.incF d i j k).outs = s.outs := (rfl)
@[simp] theorem State.incF_cues (s : State) (d : Fld) (i j k : Nat) : (s.incF d i j k).cues = s.cues := (rfl)
@[simp] theorem State.incF_gnss (s : State) (d : Fld) (i j k : Nat) : (s.incF d i j k).gnss = s.gnss := (rfl)
@[simp] theorem State.incF_ports (s : State) (d : Fld) (i j k : Nat) : (s.incF d i j k).ports = s.ports := (rfl)
@[simp] theorem State.incF_stv (s : State) (d : Fld) (i j k : Nat) : (s.incF d i j k).stv = s.stv := (rfl)
@[simp] theorem State.incF_ptp (s : State) (d : Fld) (i j k : Nat) : (s.incF d i j k).ptp = s.ptp := (rfl)
@[simp] theorem State.incF_ntp (s : State) (d : Fld) (i j k : Nat) : (s.incF d i j k).ntp = s.ntp := (rfl)
@[simp] theorem State.incF_ran (s : State) (d : Fld) (i j k : Nat) : (s.incF d i j k).ran = s.ran := (rfl)
@[simp] theorem State.incF_areas (s : State) (d : Fld) (i j k : Nat) : (s.incF d i j k).areas = s.areas := (rfl)
@[simp] theorem State.incF_host (s : State) (d : Fld) (i j k : Nat) : (s.incF d i j k).host = s.host := (rfl)
@[simp] theorem State.incF_gov (s : State) (d : Fld) (i j k : Nat) : (s.incF d i j k).gov = s.gov := (rfl)
@[simp] theorem State.incF_log (s : State) (d : Fld) (i j k : Nat) : (s.incF d i j k).log = s.log := (rfl)
@[simp] theorem State.incF_sheets (s : State) (d : Fld) (i j k : Nat) : (s.incF d i j k).sheets = s.sheets := (rfl)
@[simp] theorem State.incF_fw (s : State) (d : Fld) (i j k : Nat) : (s.incF d i j k).fw = s.fw := (rfl)
@[simp] theorem State.incF_perf (s : State) (d : Fld) (i j k : Nat) : (s.incF d i j k).perf = s.perf := (rfl)
@[simp] theorem State.incF_wrap (s : State) (d : Fld) (i j k : Nat) : (s.incF d i j k).wrap = s.wrap := (rfl)
@[simp] theorem State.incF_pwr (s : State) (d : Fld) (i j k : Nat) : (s.incF d i j k).pwr = s.pwr := (rfl)
@[simp] theorem State.incF_ticks (s : State) (d : Fld) (i j k : Nat) : (s.incF d i j k).ticks = s.ticks := (rfl)
@[simp] theorem State.incF_fresh (s : State) (d : Fld) (i j k : Nat) : (s.incF d i j k).fresh = s.fresh := (rfl)
@[simp] theorem State.incF_out (s : State) (d : Fld) (i j k : Nat) : (s.incF d i j k).out = s.out := (rfl)
@[simp] theorem State.incF_pending (s : State) (d : Fld) (i j k : Nat) : (s.incF d i j k).pending = s.pending := (rfl)
@[simp] theorem State.inc_hs (s : State) (n : RegName) (i k : Nat) : (s.inc n i k).hs = s.hs := (rfl)
@[simp] theorem State.inc_time (s : State) (n : RegName) (i k : Nat) : (s.inc n i k).time = s.time := (rfl)
@[simp] theorem State.inc_ens (s : State) (n : RegName) (i k : Nat) : (s.inc n i k).ens = s.ens := (rfl)
@[simp] theorem State.inc_clap (s : State) (n : RegName) (i k : Nat) : (s.inc n i k).clap = s.clap := (rfl)
@[simp] theorem State.inc_loops (s : State) (n : RegName) (i k : Nat) : (s.inc n i k).loops = s.loops := (rfl)
@[simp] theorem State.inc_outs (s : State) (n : RegName) (i k : Nat) : (s.inc n i k).outs = s.outs := (rfl)
@[simp] theorem State.inc_cues (s : State) (n : RegName) (i k : Nat) : (s.inc n i k).cues = s.cues := (rfl)
@[simp] theorem State.inc_gnss (s : State) (n : RegName) (i k : Nat) : (s.inc n i k).gnss = s.gnss := (rfl)
@[simp] theorem State.inc_ports (s : State) (n : RegName) (i k : Nat) : (s.inc n i k).ports = s.ports := (rfl)
@[simp] theorem State.inc_stv (s : State) (n : RegName) (i k : Nat) : (s.inc n i k).stv = s.stv := (rfl)
@[simp] theorem State.inc_ptp (s : State) (n : RegName) (i k : Nat) : (s.inc n i k).ptp = s.ptp := (rfl)
@[simp] theorem State.inc_ntp (s : State) (n : RegName) (i k : Nat) : (s.inc n i k).ntp = s.ntp := (rfl)
@[simp] theorem State.inc_ran (s : State) (n : RegName) (i k : Nat) : (s.inc n i k).ran = s.ran := (rfl)
@[simp] theorem State.inc_areas (s : State) (n : RegName) (i k : Nat) : (s.inc n i k).areas = s.areas := (rfl)
@[simp] theorem State.inc_host (s : State) (n : RegName) (i k : Nat) : (s.inc n i k).host = s.host := (rfl)
@[simp] theorem State.inc_gov (s : State) (n : RegName) (i k : Nat) : (s.inc n i k).gov = s.gov := (rfl)
@[simp] theorem State.inc_log (s : State) (n : RegName) (i k : Nat) : (s.inc n i k).log = s.log := (rfl)
@[simp] theorem State.inc_sheets (s : State) (n : RegName) (i k : Nat) : (s.inc n i k).sheets = s.sheets := (rfl)
@[simp] theorem State.inc_fw (s : State) (n : RegName) (i k : Nat) : (s.inc n i k).fw = s.fw := (rfl)
@[simp] theorem State.inc_perf (s : State) (n : RegName) (i k : Nat) : (s.inc n i k).perf = s.perf := (rfl)
@[simp] theorem State.inc_wrap (s : State) (n : RegName) (i k : Nat) : (s.inc n i k).wrap = s.wrap := (rfl)
@[simp] theorem State.inc_pwr (s : State) (n : RegName) (i k : Nat) : (s.inc n i k).pwr = s.pwr := (rfl)
@[simp] theorem State.inc_ticks (s : State) (n : RegName) (i k : Nat) : (s.inc n i k).ticks = s.ticks := (rfl)
@[simp] theorem State.inc_fresh (s : State) (n : RegName) (i k : Nat) : (s.inc n i k).fresh = s.fresh := (rfl)
@[simp] theorem State.inc_out (s : State) (n : RegName) (i k : Nat) : (s.inc n i k).out = s.out := (rfl)
@[simp] theorem State.inc_pending (s : State) (n : RegName) (i k : Nat) : (s.inc n i k).pending = s.pending := (rfl)
@[simp] theorem State.emit_regs (s : State) (e : Emit) : (s.emit e).regs = s.regs := (rfl)
@[simp] theorem State.emit_hs (s : State) (e : Emit) : (s.emit e).hs = s.hs := (rfl)
@[simp] theorem State.emit_time (s : State) (e : Emit) : (s.emit e).time = s.time := (rfl)
@[simp] theorem State.emit_ens (s : State) (e : Emit) : (s.emit e).ens = s.ens := (rfl)
@[simp] theorem State.emit_clap (s : State) (e : Emit) : (s.emit e).clap = s.clap := (rfl)
@[simp] theorem State.emit_loops (s : State) (e : Emit) : (s.emit e).loops = s.loops := (rfl)
@[simp] theorem State.emit_outs (s : State) (e : Emit) : (s.emit e).outs = s.outs := (rfl)
@[simp] theorem State.emit_cues (s : State) (e : Emit) : (s.emit e).cues = s.cues := (rfl)
@[simp] theorem State.emit_gnss (s : State) (e : Emit) : (s.emit e).gnss = s.gnss := (rfl)
@[simp] theorem State.emit_ports (s : State) (e : Emit) : (s.emit e).ports = s.ports := (rfl)
@[simp] theorem State.emit_stv (s : State) (e : Emit) : (s.emit e).stv = s.stv := (rfl)
@[simp] theorem State.emit_ptp (s : State) (e : Emit) : (s.emit e).ptp = s.ptp := (rfl)
@[simp] theorem State.emit_ntp (s : State) (e : Emit) : (s.emit e).ntp = s.ntp := (rfl)
@[simp] theorem State.emit_ran (s : State) (e : Emit) : (s.emit e).ran = s.ran := (rfl)
@[simp] theorem State.emit_areas (s : State) (e : Emit) : (s.emit e).areas = s.areas := (rfl)
@[simp] theorem State.emit_host (s : State) (e : Emit) : (s.emit e).host = s.host := (rfl)
@[simp] theorem State.emit_gov (s : State) (e : Emit) : (s.emit e).gov = s.gov := (rfl)
@[simp] theorem State.emit_log (s : State) (e : Emit) : (s.emit e).log = s.log := (rfl)
@[simp] theorem State.emit_sheets (s : State) (e : Emit) : (s.emit e).sheets = s.sheets := (rfl)
@[simp] theorem State.emit_fw (s : State) (e : Emit) : (s.emit e).fw = s.fw := (rfl)
@[simp] theorem State.emit_perf (s : State) (e : Emit) : (s.emit e).perf = s.perf := (rfl)
@[simp] theorem State.emit_wrap (s : State) (e : Emit) : (s.emit e).wrap = s.wrap := (rfl)
@[simp] theorem State.emit_pwr (s : State) (e : Emit) : (s.emit e).pwr = s.pwr := (rfl)
@[simp] theorem State.emit_ticks (s : State) (e : Emit) : (s.emit e).ticks = s.ticks := (rfl)
@[simp] theorem State.emit_fresh (s : State) (e : Emit) : (s.emit e).fresh = s.fresh := (rfl)
@[simp] theorem State.emit_pending (s : State) (e : Emit) : (s.emit e).pending = s.pending := (rfl)
@[simp] theorem State.emit_rg (s : State) (e : Emit) (rn : RegName) (ri rj : Nat) : (s.emit e).rg rn ri rj = s.rg rn ri rj := (rfl)
@[simp] theorem State.emit_f (s : State) (e : Emit) (rd : Fld) (ri rj : Nat) : (s.emit e).f rd ri rj = s.f rd ri rj := (rfl)
@[simp] theorem State.emit_fb (s : State) (e : Emit) (rd : Fld) (ri rj : Nat) : (s.emit e).fb rd ri rj = s.fb rd ri rj := (rfl)
@[simp] theorem State.nextFresh_regs (s : State)  : (s.nextFresh).regs = s.regs := (rfl)
@[simp] theorem State.nextFresh_hs (s : State)  : (s.nextFresh).hs = s.hs := (rfl)
@[simp] theorem State.nextFresh_time (s : State)  : (s.nextFresh).time = s.time := (rfl)
@[simp] theorem State.nextFresh_ens (s : State)  : (s.nextFresh).ens = s.ens := (rfl)
@[simp] theorem State.nextFresh_clap (s : State)  : (s.nextFresh).clap = s.clap := (rfl)
@[simp] theorem State.nextFresh_loops (s : State)  : (s.nextFresh).loops = s.loops := (rfl)
@[simp] theorem State.nextFresh_outs (s : State)  : (s.nextFresh).outs = s.outs := (rfl)
@[simp] theorem State.nextFresh_cues (s : State)  : (s.nextFresh).cues = s.cues := (rfl)
@[simp] theorem State.nextFresh_gnss (s : State)  : (s.nextFresh).gnss = s.gnss := (rfl)
@[simp] theorem State.nextFresh_ports (s : State)  : (s.nextFresh).ports = s.ports := (rfl)
@[simp] theorem State.nextFresh_stv (s : State)  : (s.nextFresh).stv = s.stv := (rfl)
@[simp] theorem State.nextFresh_ptp (s : State)  : (s.nextFresh).ptp = s.ptp := (rfl)
@[simp] theorem State.nextFresh_ntp (s : State)  : (s.nextFresh).ntp = s.ntp := (rfl)
@[simp] theorem State.nextFresh_ran (s : State)  : (s.nextFresh).ran = s.ran := (rfl)
@[simp] theorem State.nextFresh_areas (s : State)  : (s.nextFresh).areas = s.areas := (rfl)
@[simp] theorem State.nextFresh_host (s : State)  : (s.nextFresh).host = s.host := (rfl)
@[simp] theorem State.nextFresh_gov (s : State)  : (s.nextFresh).gov = s.gov := (rfl)
@[simp] theorem State.nextFresh_log (s : State)  : (s.nextFresh).log = s.log := (rfl)
@[simp] theorem State.nextFresh_sheets (s : State)  : (s.nextFresh).sheets = s.sheets := (rfl)
@[simp] theorem State.nextFresh_fw (s : State)  : (s.nextFresh).fw = s.fw := (rfl)
@[simp] theorem State.nextFresh_perf (s : State)  : (s.nextFresh).perf = s.perf := (rfl)
@[simp] theorem State.nextFresh_wrap (s : State)  : (s.nextFresh).wrap = s.wrap := (rfl)
@[simp] theorem State.nextFresh_pwr (s : State)  : (s.nextFresh).pwr = s.pwr := (rfl)
@[simp] theorem State.nextFresh_ticks (s : State)  : (s.nextFresh).ticks = s.ticks := (rfl)
@[simp] theorem State.nextFresh_out (s : State)  : (s.nextFresh).out = s.out := (rfl)
@[simp] theorem State.nextFresh_pending (s : State)  : (s.nextFresh).pending = s.pending := (rfl)
@[simp] theorem State.nextFresh_rg (s : State)  (rn : RegName) (ri rj : Nat) : (s.nextFresh).rg rn ri rj = s.rg rn ri rj := (rfl)
@[simp] theorem State.nextFresh_f (s : State)  (rd : Fld) (ri rj : Nat) : (s.nextFresh).f rd ri rj = s.f rd ri rj := (rfl)
@[simp] theorem State.nextFresh_fb (s : State)  (rd : Fld) (ri rj : Nat) : (s.nextFresh).fb rd ri rj = s.fb rd ri rj := (rfl)
@[simp] theorem setTsc_regs (s : State) (n : Nat) (t : Tscale) : (setTsc s n t).regs = s.regs := (rfl)
@[simp] theorem setTsc_hs (s : State) (n : Nat) (t : Tscale) : (setTsc s n t).hs = s.hs := (rfl)
@[simp] theorem setTsc_ens (s : State) (n : Nat) (t : Tscale) : (setTsc s n t).ens = s.ens := (rfl)
@[simp] theorem setTsc_clap (s : State) (n : Nat) (t : Tscale) : (setTsc s n t).clap = s.clap := (rfl)
@[simp] theorem setTsc_loops (s : State) (n : Nat) (t : Tscale) : (setTsc s n t).loops = s.loops := (rfl)
@[simp] theorem setTsc_outs (s : State) (n : Nat) (t : Tscale) : (setTsc s n t).outs = s.outs := (rfl)
@[simp] theorem setTsc_cues (s : State) (n : Nat) (t : Tscale) : (setTsc s n t).cues = s.cues := (rfl)
@[simp] theorem setTsc_gnss (s : State) (n : Nat) (t : Tscale) : (setTsc s n t).gnss = s.gnss := (rfl)
@[simp] theorem setTsc_ports (s : State) (n : Nat) (t : Tscale) : (setTsc s n t).ports = s.ports := (rfl)
@[simp] theorem setTsc_stv (s : State) (n : Nat) (t : Tscale) : (setTsc s n t).stv = s.stv := (rfl)
@[simp] theorem setTsc_ptp (s : State) (n : Nat) (t : Tscale) : (setTsc s n t).ptp = s.ptp := (rfl)
@[simp] theorem setTsc_ntp (s : State) (n : Nat) (t : Tscale) : (setTsc s n t).ntp = s.ntp := (rfl)
@[simp] theorem setTsc_ran (s : State) (n : Nat) (t : Tscale) : (setTsc s n t).ran = s.ran := (rfl)
@[simp] theorem setTsc_areas (s : State) (n : Nat) (t : Tscale) : (setTsc s n t).areas = s.areas := (rfl)
@[simp] theorem setTsc_host (s : State) (n : Nat) (t : Tscale) : (setTsc s n t).host = s.host := (rfl)
@[simp] theorem setTsc_gov (s : State) (n : Nat) (t : Tscale) : (setTsc s n t).gov = s.gov := (rfl)
@[simp] theorem setTsc_log (s : State) (n : Nat) (t : Tscale) : (setTsc s n t).log = s.log := (rfl)
@[simp] theorem setTsc_sheets (s : State) (n : Nat) (t : Tscale) : (setTsc s n t).sheets = s.sheets := (rfl)
@[simp] theorem setTsc_fw (s : State) (n : Nat) (t : Tscale) : (setTsc s n t).fw = s.fw := (rfl)
@[simp] theorem setTsc_perf (s : State) (n : Nat) (t : Tscale) : (setTsc s n t).perf = s.perf := (rfl)
@[simp] theorem setTsc_wrap (s : State) (n : Nat) (t : Tscale) : (setTsc s n t).wrap = s.wrap := (rfl)
@[simp] theorem setTsc_pwr (s : State) (n : Nat) (t : Tscale) : (setTsc s n t).pwr = s.pwr := (rfl)
@[simp] theorem setTsc_ticks (s : State) (n : Nat) (t : Tscale) : (setTsc s n t).ticks = s.ticks := (rfl)
@[simp] theorem setTsc_fresh (s : State) (n : Nat) (t : Tscale) : (setTsc s n t).fresh = s.fresh := (rfl)
@[simp] theorem setTsc_out (s : State) (n : Nat) (t : Tscale) : (setTsc s n t).out = s.out := (rfl)
@[simp] theorem setTsc_pending (s : State) (n : Nat) (t : Tscale) : (setTsc s n t).pending = s.pending := (rfl)
@[simp] theorem setTsc_rg (s : State) (n : Nat) (t : Tscale) (rn : RegName) (ri rj : Nat) : (setTsc s n t).rg rn ri rj = s.rg rn ri rj := (rfl)
@[simp] theorem setTsc_f (s : State) (n : Nat) (t : Tscale) (rd : Fld) (ri rj : Nat) : (setTsc s n t).f rd ri rj = s.f rd ri rj := (rfl)
@[simp] theorem setTsc_fb (s : State) (n : Nat) (t : Tscale) (rd : Fld) (ri rj : Nat) : (setTsc s n t).fb rd ri rj = s.fb rd ri rj := (rfl)
@[simp] theorem setStepped_regs (s : State) (n : Nat) : (setStepped s n).regs = s.regs := (rfl)
@[simp] theorem setStepped_hs (s : State) (n : Nat) : (setStepped s n).hs = s.hs := (rfl)
@[simp] theorem setStepped_ens (s : State) (n : Nat) : (setStepped s n).ens = s.ens := (rfl)
@[simp] theorem setStepped_clap (s : State) (n : Nat) : (setStepped s n).clap = s.clap := (rfl)
@[simp] theorem setStepped_loops (s : State) (n : Nat) : (setStepped s n).loops = s.loops := (rfl)
@[simp] theorem setStepped_outs (s : State) (n : Nat) : (setStepped s n).outs = s.outs := (rfl)
@[simp] theorem setStepped_cues (s : State) (n : Nat) : (setStepped s n).cues = s.cues := (rfl)
@[simp] theorem setStepped_gnss (s : State) (n : Nat) : (setStepped s n).gnss = s.gnss := (rfl)
@[simp] theorem setStepped_ports (s : State) (n : Nat) : (setStepped s n).ports = s.ports := (rfl)
@[simp] theorem setStepped_stv (s : State) (n : Nat) : (setStepped s n).stv = s.stv := (rfl)
@[simp] theorem setStepped_ptp (s : State) (n : Nat) : (setStepped s n).ptp = s.ptp := (rfl)
@[simp] theorem setStepped_ntp (s : State) (n : Nat) : (setStepped s n).ntp = s.ntp := (rfl)
@[simp] theorem setStepped_ran (s : State) (n : Nat) : (setStepped s n).ran = s.ran := (rfl)
@[simp] theorem setStepped_areas (s : State) (n : Nat) : (setStepped s n).areas = s.areas := (rfl)
@[simp] theorem setStepped_host (s : State) (n : Nat) : (setStepped s n).host = s.host := (rfl)
@[simp] theorem setStepped_gov (s : State) (n : Nat) : (setStepped s n).gov = s.gov := (rfl)
@[simp] theorem setStepped_log (s : State) (n : Nat) : (setStepped s n).log = s.log := (rfl)
@[simp] theorem setStepped_sheets (s : State) (n : Nat) : (setStepped s n).sheets = s.sheets := (rfl)
@[simp] theorem setStepped_fw (s : State) (n : Nat) : (setStepped s n).fw = s.fw := (rfl)
@[simp] theorem setStepped_perf (s : State) (n : Nat) : (setStepped s n).perf = s.perf := (rfl)
@[simp] theorem setStepped_wrap (s : State) (n : Nat) : (setStepped s n).wrap = s.wrap := (rfl)
@[simp] theorem setStepped_pwr (s : State) (n : Nat) : (setStepped s n).pwr = s.pwr := (rfl)
@[simp] theorem setStepped_ticks (s : State) (n : Nat) : (setStepped s n).ticks = s.ticks := (rfl)
@[simp] theorem setStepped_fresh (s : State) (n : Nat) : (setStepped s n).fresh = s.fresh := (rfl)
@[simp] theorem setStepped_out (s : State) (n : Nat) : (setStepped s n).out = s.out := (rfl)
@[simp] theorem setStepped_pending (s : State) (n : Nat) : (setStepped s n).pending = s.pending := (rfl)
@[simp] theorem setStepped_rg (s : State) (n : Nat) (rn : RegName) (ri rj : Nat) : (setStepped s n).rg rn ri rj = s.rg rn ri rj := (rfl)
@[simp] theorem setStepped_f (s : State) (n : Nat) (rd : Fld) (ri rj : Nat) : (setStepped s n).f rd ri rj = s.f rd ri rj := (rfl)
@[simp] theorem setStepped_fb (s : State) (n : Nat) (rd : Fld) (ri rj : Nat) : (setStepped s n).fb rd ri rj = s.fb rd ri rj := (rfl)
@[simp] theorem sentTo_regs (s : State) (n : Nat) (d : Dest) : (sentTo s n d).regs = s.regs := (rfl)
@[simp] theorem sentTo_hs (s : State) (n : Nat) (d : Dest) : (sentTo s n d).hs = s.hs := (rfl)
@[simp] theorem sentTo_ens (s : State) (n : Nat) (d : Dest) : (sentTo s n d).ens = s.ens := (rfl)
@[simp] theorem sentTo_clap (s : State) (n : Nat) (d : Dest) : (sentTo s n d).clap = s.clap := (rfl)
@[simp] theorem sentTo_loops (s : State) (n : Nat) (d : Dest) : (sentTo s n d).loops = s.loops := (rfl)
@[simp] theorem sentTo_outs (s : State) (n : Nat) (d : Dest) : (sentTo s n d).outs = s.outs := (rfl)
@[simp] theorem sentTo_cues (s : State) (n : Nat) (d : Dest) : (sentTo s n d).cues = s.cues := (rfl)
@[simp] theorem sentTo_gnss (s : State) (n : Nat) (d : Dest) : (sentTo s n d).gnss = s.gnss := (rfl)
@[simp] theorem sentTo_ports (s : State) (n : Nat) (d : Dest) : (sentTo s n d).ports = s.ports := (rfl)
@[simp] theorem sentTo_stv (s : State) (n : Nat) (d : Dest) : (sentTo s n d).stv = s.stv := (rfl)
@[simp] theorem sentTo_ptp (s : State) (n : Nat) (d : Dest) : (sentTo s n d).ptp = s.ptp := (rfl)
@[simp] theorem sentTo_ntp (s : State) (n : Nat) (d : Dest) : (sentTo s n d).ntp = s.ntp := (rfl)
@[simp] theorem sentTo_ran (s : State) (n : Nat) (d : Dest) : (sentTo s n d).ran = s.ran := (rfl)
@[simp] theorem sentTo_areas (s : State) (n : Nat) (d : Dest) : (sentTo s n d).areas = s.areas := (rfl)
@[simp] theorem sentTo_host (s : State) (n : Nat) (d : Dest) : (sentTo s n d).host = s.host := (rfl)
@[simp] theorem sentTo_gov (s : State) (n : Nat) (d : Dest) : (sentTo s n d).gov = s.gov := (rfl)
@[simp] theorem sentTo_log (s : State) (n : Nat) (d : Dest) : (sentTo s n d).log = s.log := (rfl)
@[simp] theorem sentTo_sheets (s : State) (n : Nat) (d : Dest) : (sentTo s n d).sheets = s.sheets := (rfl)
@[simp] theorem sentTo_fw (s : State) (n : Nat) (d : Dest) : (sentTo s n d).fw = s.fw := (rfl)
@[simp] theorem sentTo_perf (s : State) (n : Nat) (d : Dest) : (sentTo s n d).perf = s.perf := (rfl)
@[simp] theorem sentTo_wrap (s : State) (n : Nat) (d : Dest) : (sentTo s n d).wrap = s.wrap := (rfl)
@[simp] theorem sentTo_pwr (s : State) (n : Nat) (d : Dest) : (sentTo s n d).pwr = s.pwr := (rfl)
@[simp] theorem sentTo_ticks (s : State) (n : Nat) (d : Dest) : (sentTo s n d).ticks = s.ticks := (rfl)
@[simp] theorem sentTo_fresh (s : State) (n : Nat) (d : Dest) : (sentTo s n d).fresh = s.fresh := (rfl)
@[simp] theorem sentTo_out (s : State) (n : Nat) (d : Dest) : (sentTo s n d).out = s.out := (rfl)
@[simp] theorem sentTo_pending (s : State) (n : Nat) (d : Dest) : (sentTo s n d).pending = s.pending := (rfl)
@[simp] theorem sentTo_rg (s : State) (n : Nat) (d : Dest) (rn : RegName) (ri rj : Nat) : (sentTo s n d).rg rn ri rj = s.rg rn ri rj := (rfl)
@[simp] theorem sentTo_f (s : State) (n : Nat) (d : Dest) (rd : Fld) (ri rj : Nat) : (sentTo s n d).f rd ri rj = s.f rd ri rj := (rfl)
@[simp] theorem sentTo_fb (s : State) (n : Nat) (d : Dest) (rd : Fld) (ri rj : Nat) : (sentTo s n d).fb rd ri rj = s.fb rd ri rj := (rfl)
@[simp] theorem setRing_regs (s : State) (r : Nat) (x : Ring) : (setRing s r x).regs = s.regs := (rfl)
@[simp] theorem setRing_hs (s : State) (r : Nat) (x : Ring) : (setRing s r x).hs = s.hs := (rfl)
@[simp] theorem setRing_time (s : State) (r : Nat) (x : Ring) : (setRing s r x).time = s.time := (rfl)
@[simp] theorem setRing_ens (s : State) (r : Nat) (x : Ring) : (setRing s r x).ens = s.ens := (rfl)
@[simp] theorem setRing_clap (s : State) (r : Nat) (x : Ring) : (setRing s r x).clap = s.clap := (rfl)
@[simp] theorem setRing_loops (s : State) (r : Nat) (x : Ring) : (setRing s r x).loops = s.loops := (rfl)
@[simp] theorem setRing_outs (s : State) (r : Nat) (x : Ring) : (setRing s r x).outs = s.outs := (rfl)
@[simp] theorem setRing_cues (s : State) (r : Nat) (x : Ring) : (setRing s r x).cues = s.cues := (rfl)
@[simp] theorem setRing_gnss (s : State) (r : Nat) (x : Ring) : (setRing s r x).gnss = s.gnss := (rfl)
@[simp] theorem setRing_ports (s : State) (r : Nat) (x : Ring) : (setRing s r x).ports = s.ports := (rfl)
@[simp] theorem setRing_stv (s : State) (r : Nat) (x : Ring) : (setRing s r x).stv = s.stv := (rfl)
@[simp] theorem setRing_ptp (s : State) (r : Nat) (x : Ring) : (setRing s r x).ptp = s.ptp := (rfl)
@[simp] theorem setRing_ntp (s : State) (r : Nat) (x : Ring) : (setRing s r x).ntp = s.ntp := (rfl)
@[simp] theorem setRing_ran (s : State) (r : Nat) (x : Ring) : (setRing s r x).ran = s.ran := (rfl)
@[simp] theorem setRing_areas (s : State) (r : Nat) (x : Ring) : (setRing s r x).areas = s.areas := (rfl)
@[simp] theorem setRing_gov (s : State) (r : Nat) (x : Ring) : (setRing s r x).gov = s.gov := (rfl)
@[simp] theorem setRing_log (s : State) (r : Nat) (x : Ring) : (setRing s r x).log = s.log := (rfl)
@[simp] theorem setRing_sheets (s : State) (r : Nat) (x : Ring) : (setRing s r x).sheets = s.sheets := (rfl)
@[simp] theorem setRing_fw (s : State) (r : Nat) (x : Ring) : (setRing s r x).fw = s.fw := (rfl)
@[simp] theorem setRing_perf (s : State) (r : Nat) (x : Ring) : (setRing s r x).perf = s.perf := (rfl)
@[simp] theorem setRing_wrap (s : State) (r : Nat) (x : Ring) : (setRing s r x).wrap = s.wrap := (rfl)
@[simp] theorem setRing_pwr (s : State) (r : Nat) (x : Ring) : (setRing s r x).pwr = s.pwr := (rfl)
@[simp] theorem setRing_ticks (s : State) (r : Nat) (x : Ring) : (setRing s r x).ticks = s.ticks := (rfl)
@[simp] theorem setRing_fresh (s : State) (r : Nat) (x : Ring) : (setRing s r x).fresh = s.fresh := (rfl)
@[simp] theorem setRing_out (s : State) (r : Nat) (x : Ring) : (setRing s r x).out = s.out := (rfl)
@[simp] theorem setRing_pending (s : State) (r : Nat) (x : Ring) : (setRing s r x).pending = s.pending := (rfl)
@[simp] theorem setRing_rg (s : State) (r : Nat) (x : Ring) (rn : RegName) (ri rj : Nat) : (setRing s r x).rg rn ri rj = s.rg rn ri rj := (rfl)
@[simp] theorem setRing_f (s : State) (r : Nat) (x : Ring) (rd : Fld) (ri rj : Nat) : (setRing s r x).f rd ri rj = s.f rd ri rj := (rfl)
@[simp] theorem setRing_fb (s : State) (r : Nat) (x : Ring) (rd : Fld) (ri rj : Nat) : (setRing s r x).fb rd ri rj = s.fb rd ri rj := (rfl)
@[simp] theorem cplQueue_regs (s : State) (r : Nat) (e : CplEntry) : (cplQueue s r e).regs = s.regs := (rfl)
@[simp] theorem cplQueue_hs (s : State) (r : Nat) (e : CplEntry) : (cplQueue s r e).hs = s.hs := (rfl)
@[simp] theorem cplQueue_time (s : State) (r : Nat) (e : CplEntry) : (cplQueue s r e).time = s.time := (rfl)
@[simp] theorem cplQueue_ens (s : State) (r : Nat) (e : CplEntry) : (cplQueue s r e).ens = s.ens := (rfl)
@[simp] theorem cplQueue_clap (s : State) (r : Nat) (e : CplEntry) : (cplQueue s r e).clap = s.clap := (rfl)
@[simp] theorem cplQueue_loops (s : State) (r : Nat) (e : CplEntry) : (cplQueue s r e).loops = s.loops := (rfl)
@[simp] theorem cplQueue_outs (s : State) (r : Nat) (e : CplEntry) : (cplQueue s r e).outs = s.outs := (rfl)
@[simp] theorem cplQueue_cues (s : State) (r : Nat) (e : CplEntry) : (cplQueue s r e).cues = s.cues := (rfl)
@[simp] theorem cplQueue_gnss (s : State) (r : Nat) (e : CplEntry) : (cplQueue s r e).gnss = s.gnss := (rfl)
@[simp] theorem cplQueue_ports (s : State) (r : Nat) (e : CplEntry) : (cplQueue s r e).ports = s.ports := (rfl)
@[simp] theorem cplQueue_stv (s : State) (r : Nat) (e : CplEntry) : (cplQueue s r e).stv = s.stv := (rfl)
@[simp] theorem cplQueue_ptp (s : State) (r : Nat) (e : CplEntry) : (cplQueue s r e).ptp = s.ptp := (rfl)
@[simp] theorem cplQueue_ntp (s : State) (r : Nat) (e : CplEntry) : (cplQueue s r e).ntp = s.ntp := (rfl)
@[simp] theorem cplQueue_ran (s : State) (r : Nat) (e : CplEntry) : (cplQueue s r e).ran = s.ran := (rfl)
@[simp] theorem cplQueue_areas (s : State) (r : Nat) (e : CplEntry) : (cplQueue s r e).areas = s.areas := (rfl)
@[simp] theorem cplQueue_gov (s : State) (r : Nat) (e : CplEntry) : (cplQueue s r e).gov = s.gov := (rfl)
@[simp] theorem cplQueue_log (s : State) (r : Nat) (e : CplEntry) : (cplQueue s r e).log = s.log := (rfl)
@[simp] theorem cplQueue_sheets (s : State) (r : Nat) (e : CplEntry) : (cplQueue s r e).sheets = s.sheets := (rfl)
@[simp] theorem cplQueue_fw (s : State) (r : Nat) (e : CplEntry) : (cplQueue s r e).fw = s.fw := (rfl)
@[simp] theorem cplQueue_perf (s : State) (r : Nat) (e : CplEntry) : (cplQueue s r e).perf = s.perf := (rfl)
@[simp] theorem cplQueue_wrap (s : State) (r : Nat) (e : CplEntry) : (cplQueue s r e).wrap = s.wrap := (rfl)
@[simp] theorem cplQueue_pwr (s : State) (r : Nat) (e : CplEntry) : (cplQueue s r e).pwr = s.pwr := (rfl)
@[simp] theorem cplQueue_ticks (s : State) (r : Nat) (e : CplEntry) : (cplQueue s r e).ticks = s.ticks := (rfl)
@[simp] theorem cplQueue_fresh (s : State) (r : Nat) (e : CplEntry) : (cplQueue s r e).fresh = s.fresh := (rfl)
@[simp] theorem cplQueue_out (s : State) (r : Nat) (e : CplEntry) : (cplQueue s r e).out = s.out := (rfl)
@[simp] theorem cplQueue_pending (s : State) (r : Nat) (e : CplEntry) : (cplQueue s r e).pending = s.pending := (rfl)
@[simp] theorem cplQueue_rg (s : State) (r : Nat) (e : CplEntry) (rn : RegName) (ri rj : Nat) : (cplQueue s r e).rg rn ri rj = s.rg rn ri rj := (rfl)
@[simp] theorem cplQueue_f (s : State) (r : Nat) (e : CplEntry) (rd : Fld) (ri rj : Nat) : (cplQueue s r e).f rd ri rj = s.f rd ri rj := (rfl)
@[simp] theorem cplQueue_fb (s : State) (r : Nat) (e : CplEntry) (rd : Fld) (ri rj : Nat) : (cplQueue s r e).fb rd ri rj = s.fb rd ri rj := (rfl)
@[simp] theorem begins_regs (s : State) (h : CmdHdr) (op : Nat) : (begins s h op).regs = s.regs := (rfl)
@[simp] theorem begins_hs (s : State) (h : CmdHdr) (op : Nat) : (begins s h op).hs = s.hs := (rfl)
@[simp] theorem begins_time (s : State) (h : CmdHdr) (op : Nat) : (begins s h op).time = s.time := (rfl)
@[simp] theorem begins_ens (s : State) (h : CmdHdr) (op : Nat) : (begins s h op).ens = s.ens := (rfl)
@[simp] theorem begins_clap (s : State) (h : CmdHdr) (op : Nat) : (begins s h op).clap = s.clap := (rfl)
@[simp] theorem begins_loops (s : State) (h : CmdHdr) (op : Nat) : (begins s h op).loops = s.loops := (rfl)
@[simp] theorem begins_outs (s : State) (h : CmdHdr) (op : Nat) : (begins s h op).outs = s.outs := (rfl)
@[simp] theorem begins_cues (s : State) (h : CmdHdr) (op : Nat) : (begins s h op).cues = s.cues := (rfl)
@[simp] theorem begins_gnss (s : State) (h : CmdHdr) (op : Nat) : (begins s h op).gnss = s.gnss := (rfl)
@[simp] theorem begins_ports (s : State) (h : CmdHdr) (op : Nat) : (begins s h op).ports = s.ports := (rfl)
@[simp] theorem begins_stv (s : State) (h : CmdHdr) (op : Nat) : (begins s h op).stv = s.stv := (rfl)
@[simp] theorem begins_ptp (s : State) (h : CmdHdr) (op : Nat) : (begins s h op).ptp = s.ptp := (rfl)
@[simp] theorem begins_ntp (s : State) (h : CmdHdr) (op : Nat) : (begins s h op).ntp = s.ntp := (rfl)
@[simp] theorem begins_ran (s : State) (h : CmdHdr) (op : Nat) : (begins s h op).ran = s.ran := (rfl)
@[simp] theorem begins_areas (s : State) (h : CmdHdr) (op : Nat) : (begins s h op).areas = s.areas := (rfl)
@[simp] theorem begins_gov (s : State) (h : CmdHdr) (op : Nat) : (begins s h op).gov = s.gov := (rfl)
@[simp] theorem begins_log (s : State) (h : CmdHdr) (op : Nat) : (begins s h op).log = s.log := (rfl)
@[simp] theorem begins_sheets (s : State) (h : CmdHdr) (op : Nat) : (begins s h op).sheets = s.sheets := (rfl)
@[simp] theorem begins_fw (s : State) (h : CmdHdr) (op : Nat) : (begins s h op).fw = s.fw := (rfl)
@[simp] theorem begins_perf (s : State) (h : CmdHdr) (op : Nat) : (begins s h op).perf = s.perf := (rfl)
@[simp] theorem begins_wrap (s : State) (h : CmdHdr) (op : Nat) : (begins s h op).wrap = s.wrap := (rfl)
@[simp] theorem begins_pwr (s : State) (h : CmdHdr) (op : Nat) : (begins s h op).pwr = s.pwr := (rfl)
@[simp] theorem begins_ticks (s : State) (h : CmdHdr) (op : Nat) : (begins s h op).ticks = s.ticks := (rfl)
@[simp] theorem begins_fresh (s : State) (h : CmdHdr) (op : Nat) : (begins s h op).fresh = s.fresh := (rfl)
@[simp] theorem begins_out (s : State) (h : CmdHdr) (op : Nat) : (begins s h op).out = s.out := (rfl)
@[simp] theorem begins_pending (s : State) (h : CmdHdr) (op : Nat) : (begins s h op).pending = s.pending := (rfl)
@[simp] theorem begins_rg (s : State) (h : CmdHdr) (op : Nat) (rn : RegName) (ri rj : Nat) : (begins s h op).rg rn ri rj = s.rg rn ri rj := (rfl)
@[simp] theorem begins_f (s : State) (h : CmdHdr) (op : Nat) (rd : Fld) (ri rj : Nat) : (begins s h op).f rd ri rj = s.f rd ri rj := (rfl)
@[simp] theorem begins_fb (s : State) (h : CmdHdr) (op : Nat) (rd : Fld) (ri rj : Nat) : (begins s h op).fb rd ri rj = s.fb rd ri rj := (rfl)

end Sys2Proof.Machine
end

