-- ==== Sys2Proof/Laws/Blocks.lean ====
section
/-! SUPPORT. What the update of one block's entry leaves: one lemma for each field, true by unfolding. -/
namespace Sys2Proof.Machine
open Sys2Proof

@[simp] theorem setArea_regs (s : State) (a : AreaId) (x : Area) : (setArea s a x).regs = s.regs := (rfl)
@[simp] theorem setArea_hs (s : State) (a : AreaId) (x : Area) : (setArea s a x).hs = s.hs := (rfl)
@[simp] theorem setArea_time (s : State) (a : AreaId) (x : Area) : (setArea s a x).time = s.time := (rfl)
@[simp] theorem setArea_ens (s : State) (a : AreaId) (x : Area) : (setArea s a x).ens = s.ens := (rfl)
@[simp] theorem setArea_clap (s : State) (a : AreaId) (x : Area) : (setArea s a x).clap = s.clap := (rfl)
@[simp] theorem setArea_loops (s : State) (a : AreaId) (x : Area) : (setArea s a x).loops = s.loops := (rfl)
@[simp] theorem setArea_outs (s : State) (a : AreaId) (x : Area) : (setArea s a x).outs = s.outs := (rfl)
@[simp] theorem setArea_cues (s : State) (a : AreaId) (x : Area) : (setArea s a x).cues = s.cues := (rfl)
@[simp] theorem setArea_gnss (s : State) (a : AreaId) (x : Area) : (setArea s a x).gnss = s.gnss := (rfl)
@[simp] theorem setArea_ports (s : State) (a : AreaId) (x : Area) : (setArea s a x).ports = s.ports := (rfl)
@[simp] theorem setArea_stv (s : State) (a : AreaId) (x : Area) : (setArea s a x).stv = s.stv := (rfl)
@[simp] theorem setArea_ptp (s : State) (a : AreaId) (x : Area) : (setArea s a x).ptp = s.ptp := (rfl)
@[simp] theorem setArea_ntp (s : State) (a : AreaId) (x : Area) : (setArea s a x).ntp = s.ntp := (rfl)
@[simp] theorem setArea_ran (s : State) (a : AreaId) (x : Area) : (setArea s a x).ran = s.ran := (rfl)
@[simp] theorem setArea_host (s : State) (a : AreaId) (x : Area) : (setArea s a x).host = s.host := (rfl)
@[simp] theorem setArea_gov (s : State) (a : AreaId) (x : Area) : (setArea s a x).gov = s.gov := (rfl)
@[simp] theorem setArea_log (s : State) (a : AreaId) (x : Area) : (setArea s a x).log = s.log := (rfl)
@[simp] theorem setArea_sheets (s : State) (a : AreaId) (x : Area) : (setArea s a x).sheets = s.sheets := (rfl)
@[simp] theorem setArea_fw (s : State) (a : AreaId) (x : Area) : (setArea s a x).fw = s.fw := (rfl)
@[simp] theorem setArea_perf (s : State) (a : AreaId) (x : Area) : (setArea s a x).perf = s.perf := (rfl)
@[simp] theorem setArea_wrap (s : State) (a : AreaId) (x : Area) : (setArea s a x).wrap = s.wrap := (rfl)
@[simp] theorem setArea_pwr (s : State) (a : AreaId) (x : Area) : (setArea s a x).pwr = s.pwr := (rfl)
@[simp] theorem setArea_ticks (s : State) (a : AreaId) (x : Area) : (setArea s a x).ticks = s.ticks := (rfl)
@[simp] theorem setArea_fresh (s : State) (a : AreaId) (x : Area) : (setArea s a x).fresh = s.fresh := (rfl)
@[simp] theorem setArea_out (s : State) (a : AreaId) (x : Area) : (setArea s a x).out = s.out := (rfl)
@[simp] theorem setArea_pending (s : State) (a : AreaId) (x : Area) : (setArea s a x).pending = s.pending := (rfl)
@[simp] theorem setArea_rg (s : State) (a : AreaId) (x : Area) (rn : RegName) (ri rj : Nat) : (setArea s a x).rg rn ri rj = s.rg rn ri rj := (rfl)
@[simp] theorem setArea_f (s : State) (a : AreaId) (x : Area) (rd : Fld) (ri rj : Nat) : (setArea s a x).f rd ri rj = s.f rd ri rj := (rfl)
@[simp] theorem setArea_fb (s : State) (a : AreaId) (x : Area) (rd : Fld) (ri rj : Nat) : (setArea s a x).fb rd ri rj = s.fb rd ri rj := (rfl)
@[simp] theorem setClapCh_regs (s : State) (c : Nat) (x : ClapCh) : (setClapCh s c x).regs = s.regs := (rfl)
@[simp] theorem setClapCh_hs (s : State) (c : Nat) (x : ClapCh) : (setClapCh s c x).hs = s.hs := (rfl)
@[simp] theorem setClapCh_time (s : State) (c : Nat) (x : ClapCh) : (setClapCh s c x).time = s.time := (rfl)
@[simp] theorem setClapCh_ens (s : State) (c : Nat) (x : ClapCh) : (setClapCh s c x).ens = s.ens := (rfl)
@[simp] theorem setClapCh_loops (s : State) (c : Nat) (x : ClapCh) : (setClapCh s c x).loops = s.loops := (rfl)
@[simp] theorem setClapCh_outs (s : State) (c : Nat) (x : ClapCh) : (setClapCh s c x).outs = s.outs := (rfl)
@[simp] theorem setClapCh_cues (s : State) (c : Nat) (x : ClapCh) : (setClapCh s c x).cues = s.cues := (rfl)
@[simp] theorem setClapCh_gnss (s : State) (c : Nat) (x : ClapCh) : (setClapCh s c x).gnss = s.gnss := (rfl)
@[simp] theorem setClapCh_ports (s : State) (c : Nat) (x : ClapCh) : (setClapCh s c x).ports = s.ports := (rfl)
@[simp] theorem setClapCh_stv (s : State) (c : Nat) (x : ClapCh) : (setClapCh s c x).stv = s.stv := (rfl)
@[simp] theorem setClapCh_ptp (s : State) (c : Nat) (x : ClapCh) : (setClapCh s c x).ptp = s.ptp := (rfl)
@[simp] theorem setClapCh_ntp (s : State) (c : Nat) (x : ClapCh) : (setClapCh s c x).ntp = s.ntp := (rfl)
@[simp] theorem setClapCh_ran (s : State) (c : Nat) (x : ClapCh) : (setClapCh s c x).ran = s.ran := (rfl)
@[simp] theorem setClapCh_areas (s : State) (c : Nat) (x : ClapCh) : (setClapCh s c x).areas = s.areas := (rfl)
@[simp] theorem setClapCh_host (s : State) (c : Nat) (x : ClapCh) : (setClapCh s c x).host = s.host := (rfl)
@[simp] theorem setClapCh_gov (s : State) (c : Nat) (x : ClapCh) : (setClapCh s c x).gov = s.gov := (rfl)
@[simp] theorem setClapCh_log (s : State) (c : Nat) (x : ClapCh) : (setClapCh s c x).log = s.log := (rfl)
@[simp] theorem setClapCh_sheets (s : State) (c : Nat) (x : ClapCh) : (setClapCh s c x).sheets = s.sheets := (rfl)
@[simp] theorem setClapCh_fw (s : State) (c : Nat) (x : ClapCh) : (setClapCh s c x).fw = s.fw := (rfl)
@[simp] theorem setClapCh_perf (s : State) (c : Nat) (x : ClapCh) : (setClapCh s c x).perf = s.perf := (rfl)
@[simp] theorem setClapCh_wrap (s : State) (c : Nat) (x : ClapCh) : (setClapCh s c x).wrap = s.wrap := (rfl)
@[simp] theorem setClapCh_pwr (s : State) (c : Nat) (x : ClapCh) : (setClapCh s c x).pwr = s.pwr := (rfl)
@[simp] theorem setClapCh_ticks (s : State) (c : Nat) (x : ClapCh) : (setClapCh s c x).ticks = s.ticks := (rfl)
@[simp] theorem setClapCh_fresh (s : State) (c : Nat) (x : ClapCh) : (setClapCh s c x).fresh = s.fresh := (rfl)
@[simp] theorem setClapCh_out (s : State) (c : Nat) (x : ClapCh) : (setClapCh s c x).out = s.out := (rfl)
@[simp] theorem setClapCh_pending (s : State) (c : Nat) (x : ClapCh) : (setClapCh s c x).pending = s.pending := (rfl)
@[simp] theorem setClapCh_rg (s : State) (c : Nat) (x : ClapCh) (rn : RegName) (ri rj : Nat) : (setClapCh s c x).rg rn ri rj = s.rg rn ri rj := (rfl)
@[simp] theorem setClapCh_f (s : State) (c : Nat) (x : ClapCh) (rd : Fld) (ri rj : Nat) : (setClapCh s c x).f rd ri rj = s.f rd ri rj := (rfl)
@[simp] theorem setClapCh_fb (s : State) (c : Nat) (x : ClapCh) (rd : Fld) (ri rj : Nat) : (setClapCh s c x).fb rd ri rj = s.fb rd ri rj := (rfl)
@[simp] theorem setCue_regs (s : State) (g : Nat) (c : Cue) : (setCue s g c).regs = s.regs := (rfl)
@[simp] theorem setCue_hs (s : State) (g : Nat) (c : Cue) : (setCue s g c).hs = s.hs := (rfl)
@[simp] theorem setCue_time (s : State) (g : Nat) (c : Cue) : (setCue s g c).time = s.time := (rfl)
@[simp] theorem setCue_ens (s : State) (g : Nat) (c : Cue) : (setCue s g c).ens = s.ens := (rfl)
@[simp] theorem setCue_clap (s : State) (g : Nat) (c : Cue) : (setCue s g c).clap = s.clap := (rfl)
@[simp] theorem setCue_loops (s : State) (g : Nat) (c : Cue) : (setCue s g c).loops = s.loops := (rfl)
@[simp] theorem setCue_outs (s : State) (g : Nat) (c : Cue) : (setCue s g c).outs = s.outs := (rfl)
@[simp] theorem setCue_gnss (s : State) (g : Nat) (c : Cue) : (setCue s g c).gnss = s.gnss := (rfl)
@[simp] theorem setCue_ports (s : State) (g : Nat) (c : Cue) : (setCue s g c).ports = s.ports := (rfl)
@[simp] theorem setCue_stv (s : State) (g : Nat) (c : Cue) : (setCue s g c).stv = s.stv := (rfl)
@[simp] theorem setCue_ptp (s : State) (g : Nat) (c : Cue) : (setCue s g c).ptp = s.ptp := (rfl)
@[simp] theorem setCue_ntp (s : State) (g : Nat) (c : Cue) : (setCue s g c).ntp = s.ntp := (rfl)
@[simp] theorem setCue_ran (s : State) (g : Nat) (c : Cue) : (setCue s g c).ran = s.ran := (rfl)
@[simp] theorem setCue_areas (s : State) (g : Nat) (c : Cue) : (setCue s g c).areas = s.areas := (rfl)
@[simp] theorem setCue_host (s : State) (g : Nat) (c : Cue) : (setCue s g c).host = s.host := (rfl)
@[simp] theorem setCue_gov (s : State) (g : Nat) (c : Cue) : (setCue s g c).gov = s.gov := (rfl)
@[simp] theorem setCue_log (s : State) (g : Nat) (c : Cue) : (setCue s g c).log = s.log := (rfl)
@[simp] theorem setCue_sheets (s : State) (g : Nat) (c : Cue) : (setCue s g c).sheets = s.sheets := (rfl)
@[simp] theorem setCue_fw (s : State) (g : Nat) (c : Cue) : (setCue s g c).fw = s.fw := (rfl)
@[simp] theorem setCue_perf (s : State) (g : Nat) (c : Cue) : (setCue s g c).perf = s.perf := (rfl)
@[simp] theorem setCue_wrap (s : State) (g : Nat) (c : Cue) : (setCue s g c).wrap = s.wrap := (rfl)
@[simp] theorem setCue_pwr (s : State) (g : Nat) (c : Cue) : (setCue s g c).pwr = s.pwr := (rfl)
@[simp] theorem setCue_ticks (s : State) (g : Nat) (c : Cue) : (setCue s g c).ticks = s.ticks := (rfl)
@[simp] theorem setCue_fresh (s : State) (g : Nat) (c : Cue) : (setCue s g c).fresh = s.fresh := (rfl)
@[simp] theorem setCue_out (s : State) (g : Nat) (c : Cue) : (setCue s g c).out = s.out := (rfl)
@[simp] theorem setCue_pending (s : State) (g : Nat) (c : Cue) : (setCue s g c).pending = s.pending := (rfl)
@[simp] theorem setCue_rg (s : State) (g : Nat) (c : Cue) (rn : RegName) (ri rj : Nat) : (setCue s g c).rg rn ri rj = s.rg rn ri rj := (rfl)
@[simp] theorem setCue_f (s : State) (g : Nat) (c : Cue) (rd : Fld) (ri rj : Nat) : (setCue s g c).f rd ri rj = s.f rd ri rj := (rfl)
@[simp] theorem setCue_fb (s : State) (g : Nat) (c : Cue) (rd : Fld) (ri rj : Nat) : (setCue s g c).fb rd ri rj = s.fb rd ri rj := (rfl)
@[simp] theorem setCuePin_regs (s : State) (p : Nat) (x : CuePin) : (setCuePin s p x).regs = s.regs := (rfl)
@[simp] theorem setCuePin_hs (s : State) (p : Nat) (x : CuePin) : (setCuePin s p x).hs = s.hs := (rfl)
@[simp] theorem setCuePin_time (s : State) (p : Nat) (x : CuePin) : (setCuePin s p x).time = s.time := (rfl)
@[simp] theorem setCuePin_ens (s : State) (p : Nat) (x : CuePin) : (setCuePin s p x).ens = s.ens := (rfl)
@[simp] theorem setCuePin_clap (s : State) (p : Nat) (x : CuePin) : (setCuePin s p x).clap = s.clap := (rfl)
@[simp] theorem setCuePin_loops (s : State) (p : Nat) (x : CuePin) : (setCuePin s p x).loops = s.loops := (rfl)
@[simp] theorem setCuePin_outs (s : State) (p : Nat) (x : CuePin) : (setCuePin s p x).outs = s.outs := (rfl)
@[simp] theorem setCuePin_gnss (s : State) (p : Nat) (x : CuePin) : (setCuePin s p x).gnss = s.gnss := (rfl)
@[simp] theorem setCuePin_ports (s : State) (p : Nat) (x : CuePin) : (setCuePin s p x).ports = s.ports := (rfl)
@[simp] theorem setCuePin_stv (s : State) (p : Nat) (x : CuePin) : (setCuePin s p x).stv = s.stv := (rfl)
@[simp] theorem setCuePin_ptp (s : State) (p : Nat) (x : CuePin) : (setCuePin s p x).ptp = s.ptp := (rfl)
@[simp] theorem setCuePin_ntp (s : State) (p : Nat) (x : CuePin) : (setCuePin s p x).ntp = s.ntp := (rfl)
@[simp] theorem setCuePin_ran (s : State) (p : Nat) (x : CuePin) : (setCuePin s p x).ran = s.ran := (rfl)
@[simp] theorem setCuePin_areas (s : State) (p : Nat) (x : CuePin) : (setCuePin s p x).areas = s.areas := (rfl)
@[simp] theorem setCuePin_host (s : State) (p : Nat) (x : CuePin) : (setCuePin s p x).host = s.host := (rfl)
@[simp] theorem setCuePin_gov (s : State) (p : Nat) (x : CuePin) : (setCuePin s p x).gov = s.gov := (rfl)
@[simp] theorem setCuePin_log (s : State) (p : Nat) (x : CuePin) : (setCuePin s p x).log = s.log := (rfl)
@[simp] theorem setCuePin_sheets (s : State) (p : Nat) (x : CuePin) : (setCuePin s p x).sheets = s.sheets := (rfl)
@[simp] theorem setCuePin_fw (s : State) (p : Nat) (x : CuePin) : (setCuePin s p x).fw = s.fw := (rfl)
@[simp] theorem setCuePin_perf (s : State) (p : Nat) (x : CuePin) : (setCuePin s p x).perf = s.perf := (rfl)
@[simp] theorem setCuePin_wrap (s : State) (p : Nat) (x : CuePin) : (setCuePin s p x).wrap = s.wrap := (rfl)
@[simp] theorem setCuePin_pwr (s : State) (p : Nat) (x : CuePin) : (setCuePin s p x).pwr = s.pwr := (rfl)
@[simp] theorem setCuePin_ticks (s : State) (p : Nat) (x : CuePin) : (setCuePin s p x).ticks = s.ticks := (rfl)
@[simp] theorem setCuePin_fresh (s : State) (p : Nat) (x : CuePin) : (setCuePin s p x).fresh = s.fresh := (rfl)
@[simp] theorem setCuePin_out (s : State) (p : Nat) (x : CuePin) : (setCuePin s p x).out = s.out := (rfl)
@[simp] theorem setCuePin_pending (s : State) (p : Nat) (x : CuePin) : (setCuePin s p x).pending = s.pending := (rfl)
@[simp] theorem setCuePin_rg (s : State) (p : Nat) (x : CuePin) (rn : RegName) (ri rj : Nat) : (setCuePin s p x).rg rn ri rj = s.rg rn ri rj := (rfl)
@[simp] theorem setCuePin_f (s : State) (p : Nat) (x : CuePin) (rd : Fld) (ri rj : Nat) : (setCuePin s p x).f rd ri rj = s.f rd ri rj := (rfl)
@[simp] theorem setCuePin_fb (s : State) (p : Nat) (x : CuePin) (rd : Fld) (ri rj : Nat) : (setCuePin s p x).fb rd ri rj = s.fb rd ri rj := (rfl)
@[simp] theorem setSlot_regs (s : State) (k : Nat) (x : Slot) : (setSlot s k x).regs = s.regs := (rfl)
@[simp] theorem setSlot_hs (s : State) (k : Nat) (x : Slot) : (setSlot s k x).hs = s.hs := (rfl)
@[simp] theorem setSlot_time (s : State) (k : Nat) (x : Slot) : (setSlot s k x).time = s.time := (rfl)
@[simp] theorem setSlot_clap (s : State) (k : Nat) (x : Slot) : (setSlot s k x).clap = s.clap := (rfl)
@[simp] theorem setSlot_loops (s : State) (k : Nat) (x : Slot) : (setSlot s k x).loops = s.loops := (rfl)
@[simp] theorem setSlot_outs (s : State) (k : Nat) (x : Slot) : (setSlot s k x).outs = s.outs := (rfl)
@[simp] theorem setSlot_cues (s : State) (k : Nat) (x : Slot) : (setSlot s k x).cues = s.cues := (rfl)
@[simp] theorem setSlot_gnss (s : State) (k : Nat) (x : Slot) : (setSlot s k x).gnss = s.gnss := (rfl)
@[simp] theorem setSlot_ports (s : State) (k : Nat) (x : Slot) : (setSlot s k x).ports = s.ports := (rfl)
@[simp] theorem setSlot_stv (s : State) (k : Nat) (x : Slot) : (setSlot s k x).stv = s.stv := (rfl)
@[simp] theorem setSlot_ptp (s : State) (k : Nat) (x : Slot) : (setSlot s k x).ptp = s.ptp := (rfl)
@[simp] theorem setSlot_ntp (s : State) (k : Nat) (x : Slot) : (setSlot s k x).ntp = s.ntp := (rfl)
@[simp] theorem setSlot_ran (s : State) (k : Nat) (x : Slot) : (setSlot s k x).ran = s.ran := (rfl)
@[simp] theorem setSlot_areas (s : State) (k : Nat) (x : Slot) : (setSlot s k x).areas = s.areas := (rfl)
@[simp] theorem setSlot_host (s : State) (k : Nat) (x : Slot) : (setSlot s k x).host = s.host := (rfl)
@[simp] theorem setSlot_gov (s : State) (k : Nat) (x : Slot) : (setSlot s k x).gov = s.gov := (rfl)
@[simp] theorem setSlot_log (s : State) (k : Nat) (x : Slot) : (setSlot s k x).log = s.log := (rfl)
@[simp] theorem setSlot_sheets (s : State) (k : Nat) (x : Slot) : (setSlot s k x).sheets = s.sheets := (rfl)
@[simp] theorem setSlot_fw (s : State) (k : Nat) (x : Slot) : (setSlot s k x).fw = s.fw := (rfl)
@[simp] theorem setSlot_perf (s : State) (k : Nat) (x : Slot) : (setSlot s k x).perf = s.perf := (rfl)
@[simp] theorem setSlot_wrap (s : State) (k : Nat) (x : Slot) : (setSlot s k x).wrap = s.wrap := (rfl)
@[simp] theorem setSlot_pwr (s : State) (k : Nat) (x : Slot) : (setSlot s k x).pwr = s.pwr := (rfl)
@[simp] theorem setSlot_ticks (s : State) (k : Nat) (x : Slot) : (setSlot s k x).ticks = s.ticks := (rfl)
@[simp] theorem setSlot_fresh (s : State) (k : Nat) (x : Slot) : (setSlot s k x).fresh = s.fresh := (rfl)
@[simp] theorem setSlot_out (s : State) (k : Nat) (x : Slot) : (setSlot s k x).out = s.out := (rfl)
@[simp] theorem setSlot_pending (s : State) (k : Nat) (x : Slot) : (setSlot s k x).pending = s.pending := (rfl)
@[simp] theorem setSlot_rg (s : State) (k : Nat) (x : Slot) (rn : RegName) (ri rj : Nat) : (setSlot s k x).rg rn ri rj = s.rg rn ri rj := (rfl)
@[simp] theorem setSlot_f (s : State) (k : Nat) (x : Slot) (rd : Fld) (ri rj : Nat) : (setSlot s k x).f rd ri rj = s.f rd ri rj := (rfl)
@[simp] theorem setSlot_fb (s : State) (k : Nat) (x : Slot) (rd : Fld) (ri rj : Nat) : (setSlot s k x).fb rd ri rj = s.fb rd ri rj := (rfl)
@[simp] theorem setEns_regs (s : State) (n : Nat) (x : Ens) : (setEns s n x).regs = s.regs := (rfl)
@[simp] theorem setEns_hs (s : State) (n : Nat) (x : Ens) : (setEns s n x).hs = s.hs := (rfl)
@[simp] theorem setEns_time (s : State) (n : Nat) (x : Ens) : (setEns s n x).time = s.time := (rfl)
@[simp] theorem setEns_clap (s : State) (n : Nat) (x : Ens) : (setEns s n x).clap = s.clap := (rfl)
@[simp] theorem setEns_loops (s : State) (n : Nat) (x : Ens) : (setEns s n x).loops = s.loops := (rfl)
@[simp] theorem setEns_outs (s : State) (n : Nat) (x : Ens) : (setEns s n x).outs = s.outs := (rfl)
@[simp] theorem setEns_cues (s : State) (n : Nat) (x : Ens) : (setEns s n x).cues = s.cues := (rfl)
@[simp] theorem setEns_gnss (s : State) (n : Nat) (x : Ens) : (setEns s n x).gnss = s.gnss := (rfl)
@[simp] theorem setEns_ports (s : State) (n : Nat) (x : Ens) : (setEns s n x).ports = s.ports := (rfl)
@[simp] theorem setEns_stv (s : State) (n : Nat) (x : Ens) : (setEns s n x).stv = s.stv := (rfl)
@[simp] theorem setEns_ptp (s : State) (n : Nat) (x : Ens) : (setEns s n x).ptp = s.ptp := (rfl)
@[simp] theorem setEns_ntp (s : State) (n : Nat) (x : Ens) : (setEns s n x).ntp = s.ntp := (rfl)
@[simp] theorem setEns_ran (s : State) (n : Nat) (x : Ens) : (setEns s n x).ran = s.ran := (rfl)
@[simp] theorem setEns_areas (s : State) (n : Nat) (x : Ens) : (setEns s n x).areas = s.areas := (rfl)
@[simp] theorem setEns_host (s : State) (n : Nat) (x : Ens) : (setEns s n x).host = s.host := (rfl)
@[simp] theorem setEns_gov (s : State) (n : Nat) (x : Ens) : (setEns s n x).gov = s.gov := (rfl)
@[simp] theorem setEns_log (s : State) (n : Nat) (x : Ens) : (setEns s n x).log = s.log := (rfl)
@[simp] theorem setEns_sheets (s : State) (n : Nat) (x : Ens) : (setEns s n x).sheets = s.sheets := (rfl)
@[simp] theorem setEns_fw (s : State) (n : Nat) (x : Ens) : (setEns s n x).fw = s.fw := (rfl)
@[simp] theorem setEns_perf (s : State) (n : Nat) (x : Ens) : (setEns s n x).perf = s.perf := (rfl)
@[simp] theorem setEns_wrap (s : State) (n : Nat) (x : Ens) : (setEns s n x).wrap = s.wrap := (rfl)
@[simp] theorem setEns_pwr (s : State) (n : Nat) (x : Ens) : (setEns s n x).pwr = s.pwr := (rfl)
@[simp] theorem setEns_ticks (s : State) (n : Nat) (x : Ens) : (setEns s n x).ticks = s.ticks := (rfl)
@[simp] theorem setEns_fresh (s : State) (n : Nat) (x : Ens) : (setEns s n x).fresh = s.fresh := (rfl)
@[simp] theorem setEns_out (s : State) (n : Nat) (x : Ens) : (setEns s n x).out = s.out := (rfl)
@[simp] theorem setEns_pending (s : State) (n : Nat) (x : Ens) : (setEns s n x).pending = s.pending := (rfl)
@[simp] theorem setEns_rg (s : State) (n : Nat) (x : Ens) (rn : RegName) (ri rj : Nat) : (setEns s n x).rg rn ri rj = s.rg rn ri rj := (rfl)
@[simp] theorem setEns_f (s : State) (n : Nat) (x : Ens) (rd : Fld) (ri rj : Nat) : (setEns s n x).f rd ri rj = s.f rd ri rj := (rfl)
@[simp] theorem setEns_fb (s : State) (n : Nat) (x : Ens) (rd : Fld) (ri rj : Nat) : (setEns s n x).fb rd ri rj = s.fb rd ri rj := (rfl)
@[simp] theorem setPlugin_regs (s : State) (i : Nat) (p : Plugin) : (setPlugin s i p).regs = s.regs := (rfl)
@[simp] theorem setPlugin_hs (s : State) (i : Nat) (p : Plugin) : (setPlugin s i p).hs = s.hs := (rfl)
@[simp] theorem setPlugin_time (s : State) (i : Nat) (p : Plugin) : (setPlugin s i p).time = s.time := (rfl)
@[simp] theorem setPlugin_ens (s : State) (i : Nat) (p : Plugin) : (setPlugin s i p).ens = s.ens := (rfl)
@[simp] theorem setPlugin_clap (s : State) (i : Nat) (p : Plugin) : (setPlugin s i p).clap = s.clap := (rfl)
@[simp] theorem setPlugin_loops (s : State) (i : Nat) (p : Plugin) : (setPlugin s i p).loops = s.loops := (rfl)
@[simp] theorem setPlugin_outs (s : State) (i : Nat) (p : Plugin) : (setPlugin s i p).outs = s.outs := (rfl)
@[simp] theorem setPlugin_cues (s : State) (i : Nat) (p : Plugin) : (setPlugin s i p).cues = s.cues := (rfl)
@[simp] theorem setPlugin_gnss (s : State) (i : Nat) (p : Plugin) : (setPlugin s i p).gnss = s.gnss := (rfl)
@[simp] theorem setPlugin_ports (s : State) (i : Nat) (p : Plugin) : (setPlugin s i p).ports = s.ports := (rfl)
@[simp] theorem setPlugin_stv (s : State) (i : Nat) (p : Plugin) : (setPlugin s i p).stv = s.stv := (rfl)
@[simp] theorem setPlugin_ptp (s : State) (i : Nat) (p : Plugin) : (setPlugin s i p).ptp = s.ptp := (rfl)
@[simp] theorem setPlugin_ntp (s : State) (i : Nat) (p : Plugin) : (setPlugin s i p).ntp = s.ntp := (rfl)
@[simp] theorem setPlugin_ran (s : State) (i : Nat) (p : Plugin) : (setPlugin s i p).ran = s.ran := (rfl)
@[simp] theorem setPlugin_areas (s : State) (i : Nat) (p : Plugin) : (setPlugin s i p).areas = s.areas := (rfl)
@[simp] theorem setPlugin_host (s : State) (i : Nat) (p : Plugin) : (setPlugin s i p).host = s.host := (rfl)
@[simp] theorem setPlugin_gov (s : State) (i : Nat) (p : Plugin) : (setPlugin s i p).gov = s.gov := (rfl)
@[simp] theorem setPlugin_log (s : State) (i : Nat) (p : Plugin) : (setPlugin s i p).log = s.log := (rfl)
@[simp] theorem setPlugin_sheets (s : State) (i : Nat) (p : Plugin) : (setPlugin s i p).sheets = s.sheets := (rfl)
@[simp] theorem setPlugin_perf (s : State) (i : Nat) (p : Plugin) : (setPlugin s i p).perf = s.perf := (rfl)
@[simp] theorem setPlugin_wrap (s : State) (i : Nat) (p : Plugin) : (setPlugin s i p).wrap = s.wrap := (rfl)
@[simp] theorem setPlugin_pwr (s : State) (i : Nat) (p : Plugin) : (setPlugin s i p).pwr = s.pwr := (rfl)
@[simp] theorem setPlugin_ticks (s : State) (i : Nat) (p : Plugin) : (setPlugin s i p).ticks = s.ticks := (rfl)
@[simp] theorem setPlugin_fresh (s : State) (i : Nat) (p : Plugin) : (setPlugin s i p).fresh = s.fresh := (rfl)
@[simp] theorem setPlugin_out (s : State) (i : Nat) (p : Plugin) : (setPlugin s i p).out = s.out := (rfl)
@[simp] theorem setPlugin_pending (s : State) (i : Nat) (p : Plugin) : (setPlugin s i p).pending = s.pending := (rfl)
@[simp] theorem setPlugin_rg (s : State) (i : Nat) (p : Plugin) (rn : RegName) (ri rj : Nat) : (setPlugin s i p).rg rn ri rj = s.rg rn ri rj := (rfl)
@[simp] theorem setPlugin_f (s : State) (i : Nat) (p : Plugin) (rd : Fld) (ri rj : Nat) : (setPlugin s i p).f rd ri rj = s.f rd ri rj := (rfl)
@[simp] theorem setPlugin_fb (s : State) (i : Nat) (p : Plugin) (rd : Fld) (ri rj : Nat) : (setPlugin s i p).fb rd ri rj = s.fb rd ri rj := (rfl)
@[simp] theorem setGnssPort_regs (s : State) (p : Nat) (x : GnssPort) : (setGnssPort s p x).regs = s.regs := (rfl)
@[simp] theorem setGnssPort_hs (s : State) (p : Nat) (x : GnssPort) : (setGnssPort s p x).hs = s.hs := (rfl)
@[simp] theorem setGnssPort_time (s : State) (p : Nat) (x : GnssPort) : (setGnssPort s p x).time = s.time := (rfl)
@[simp] theorem setGnssPort_ens (s : State) (p : Nat) (x : GnssPort) : (setGnssPort s p x).ens = s.ens := (rfl)
@[simp] theorem setGnssPort_clap (s : State) (p : Nat) (x : GnssPort) : (setGnssPort s p x).clap = s.clap := (rfl)
@[simp] theorem setGnssPort_loops (s : State) (p : Nat) (x : GnssPort) : (setGnssPort s p x).loops = s.loops := (rfl)
@[simp] theorem setGnssPort_outs (s : State) (p : Nat) (x : GnssPort) : (setGnssPort s p x).outs = s.outs := (rfl)
@[simp] theorem setGnssPort_cues (s : State) (p : Nat) (x : GnssPort) : (setGnssPort s p x).cues = s.cues := (rfl)
@[simp] theorem setGnssPort_ports (s : State) (p : Nat) (x : GnssPort) : (setGnssPort s p x).ports = s.ports := (rfl)
@[simp] theorem setGnssPort_stv (s : State) (p : Nat) (x : GnssPort) : (setGnssPort s p x).stv = s.stv := (rfl)
@[simp] theorem setGnssPort_ptp (s : State) (p : Nat) (x : GnssPort) : (setGnssPort s p x).ptp = s.ptp := (rfl)
@[simp] theorem setGnssPort_ntp (s : State) (p : Nat) (x : GnssPort) : (setGnssPort s p x).ntp = s.ntp := (rfl)
@[simp] theorem setGnssPort_ran (s : State) (p : Nat) (x : GnssPort) : (setGnssPort s p x).ran = s.ran := (rfl)
@[simp] theorem setGnssPort_areas (s : State) (p : Nat) (x : GnssPort) : (setGnssPort s p x).areas = s.areas := (rfl)
@[simp] theorem setGnssPort_host (s : State) (p : Nat) (x : GnssPort) : (setGnssPort s p x).host = s.host := (rfl)
@[simp] theorem setGnssPort_gov (s : State) (p : Nat) (x : GnssPort) : (setGnssPort s p x).gov = s.gov := (rfl)
@[simp] theorem setGnssPort_log (s : State) (p : Nat) (x : GnssPort) : (setGnssPort s p x).log = s.log := (rfl)
@[simp] theorem setGnssPort_sheets (s : State) (p : Nat) (x : GnssPort) : (setGnssPort s p x).sheets = s.sheets := (rfl)
@[simp] theorem setGnssPort_fw (s : State) (p : Nat) (x : GnssPort) : (setGnssPort s p x).fw = s.fw := (rfl)
@[simp] theorem setGnssPort_perf (s : State) (p : Nat) (x : GnssPort) : (setGnssPort s p x).perf = s.perf := (rfl)
@[simp] theorem setGnssPort_wrap (s : State) (p : Nat) (x : GnssPort) : (setGnssPort s p x).wrap = s.wrap := (rfl)
@[simp] theorem setGnssPort_pwr (s : State) (p : Nat) (x : GnssPort) : (setGnssPort s p x).pwr = s.pwr := (rfl)
@[simp] theorem setGnssPort_ticks (s : State) (p : Nat) (x : GnssPort) : (setGnssPort s p x).ticks = s.ticks := (rfl)
@[simp] theorem setGnssPort_fresh (s : State) (p : Nat) (x : GnssPort) : (setGnssPort s p x).fresh = s.fresh := (rfl)
@[simp] theorem setGnssPort_out (s : State) (p : Nat) (x : GnssPort) : (setGnssPort s p x).out = s.out := (rfl)
@[simp] theorem setGnssPort_pending (s : State) (p : Nat) (x : GnssPort) : (setGnssPort s p x).pending = s.pending := (rfl)
@[simp] theorem setGnssPort_rg (s : State) (p : Nat) (x : GnssPort) (rn : RegName) (ri rj : Nat) : (setGnssPort s p x).rg rn ri rj = s.rg rn ri rj := (rfl)
@[simp] theorem setGnssPort_f (s : State) (p : Nat) (x : GnssPort) (rd : Fld) (ri rj : Nat) : (setGnssPort s p x).f rd ri rj = s.f rd ri rj := (rfl)
@[simp] theorem setGnssPort_fb (s : State) (p : Nat) (x : GnssPort) (rd : Fld) (ri rj : Nat) : (setGnssPort s p x).fb rd ri rj = s.fb rd ri rj := (rfl)
@[simp] theorem setGnssCh_regs (s : State) (c : Nat) (x : GnssCh) : (setGnssCh s c x).regs = s.regs := (rfl)
@[simp] theorem setGnssCh_hs (s : State) (c : Nat) (x : GnssCh) : (setGnssCh s c x).hs = s.hs := (rfl)
@[simp] theorem setGnssCh_time (s : State) (c : Nat) (x : GnssCh) : (setGnssCh s c x).time = s.time := (rfl)
@[simp] theorem setGnssCh_ens (s : State) (c : Nat) (x : GnssCh) : (setGnssCh s c x).ens = s.ens := (rfl)
@[simp] theorem setGnssCh_clap (s : State) (c : Nat) (x : GnssCh) : (setGnssCh s c x).clap = s.clap := (rfl)
@[simp] theorem setGnssCh_loops (s : State) (c : Nat) (x : GnssCh) : (setGnssCh s c x).loops = s.loops := (rfl)
@[simp] theorem setGnssCh_outs (s : State) (c : Nat) (x : GnssCh) : (setGnssCh s c x).outs = s.outs := (rfl)
@[simp] theorem setGnssCh_cues (s : State) (c : Nat) (x : GnssCh) : (setGnssCh s c x).cues = s.cues := (rfl)
@[simp] theorem setGnssCh_ports (s : State) (c : Nat) (x : GnssCh) : (setGnssCh s c x).ports = s.ports := (rfl)
@[simp] theorem setGnssCh_stv (s : State) (c : Nat) (x : GnssCh) : (setGnssCh s c x).stv = s.stv := (rfl)
@[simp] theorem setGnssCh_ptp (s : State) (c : Nat) (x : GnssCh) : (setGnssCh s c x).ptp = s.ptp := (rfl)
@[simp] theorem setGnssCh_ntp (s : State) (c : Nat) (x : GnssCh) : (setGnssCh s c x).ntp = s.ntp := (rfl)
@[simp] theorem setGnssCh_ran (s : State) (c : Nat) (x : GnssCh) : (setGnssCh s c x).ran = s.ran := (rfl)
@[simp] theorem setGnssCh_areas (s : State) (c : Nat) (x : GnssCh) : (setGnssCh s c x).areas = s.areas := (rfl)
@[simp] theorem setGnssCh_host (s : State) (c : Nat) (x : GnssCh) : (setGnssCh s c x).host = s.host := (rfl)
@[simp] theorem setGnssCh_gov (s : State) (c : Nat) (x : GnssCh) : (setGnssCh s c x).gov = s.gov := (rfl)
@[simp] theorem setGnssCh_log (s : State) (c : Nat) (x : GnssCh) : (setGnssCh s c x).log = s.log := (rfl)
@[simp] theorem setGnssCh_sheets (s : State) (c : Nat) (x : GnssCh) : (setGnssCh s c x).sheets = s.sheets := (rfl)
@[simp] theorem setGnssCh_fw (s : State) (c : Nat) (x : GnssCh) : (setGnssCh s c x).fw = s.fw := (rfl)
@[simp] theorem setGnssCh_perf (s : State) (c : Nat) (x : GnssCh) : (setGnssCh s c x).perf = s.perf := (rfl)
@[simp] theorem setGnssCh_wrap (s : State) (c : Nat) (x : GnssCh) : (setGnssCh s c x).wrap = s.wrap := (rfl)
@[simp] theorem setGnssCh_pwr (s : State) (c : Nat) (x : GnssCh) : (setGnssCh s c x).pwr = s.pwr := (rfl)
@[simp] theorem setGnssCh_ticks (s : State) (c : Nat) (x : GnssCh) : (setGnssCh s c x).ticks = s.ticks := (rfl)
@[simp] theorem setGnssCh_fresh (s : State) (c : Nat) (x : GnssCh) : (setGnssCh s c x).fresh = s.fresh := (rfl)
@[simp] theorem setGnssCh_out (s : State) (c : Nat) (x : GnssCh) : (setGnssCh s c x).out = s.out := (rfl)
@[simp] theorem setGnssCh_pending (s : State) (c : Nat) (x : GnssCh) : (setGnssCh s c x).pending = s.pending := (rfl)
@[simp] theorem setGnssCh_rg (s : State) (c : Nat) (x : GnssCh) (rn : RegName) (ri rj : Nat) : (setGnssCh s c x).rg rn ri rj = s.rg rn ri rj := (rfl)
@[simp] theorem setGnssCh_f (s : State) (c : Nat) (x : GnssCh) (rd : Fld) (ri rj : Nat) : (setGnssCh s c x).f rd ri rj = s.f rd ri rj := (rfl)
@[simp] theorem setGnssCh_fb (s : State) (c : Nat) (x : GnssCh) (rd : Fld) (ri rj : Nat) : (setGnssCh s c x).fb rd ri rj = s.fb rd ri rj := (rfl)
@[simp] theorem setOut_regs (s : State) (o : Nat) (x : Out) : (setOut s o x).regs = s.regs := (rfl)
@[simp] theorem setOut_hs (s : State) (o : Nat) (x : Out) : (setOut s o x).hs = s.hs := (rfl)
@[simp] theorem setOut_time (s : State) (o : Nat) (x : Out) : (setOut s o x).time = s.time := (rfl)
@[simp] theorem setOut_ens (s : State) (o : Nat) (x : Out) : (setOut s o x).ens = s.ens := (rfl)
@[simp] theorem setOut_clap (s : State) (o : Nat) (x : Out) : (setOut s o x).clap = s.clap := (rfl)
@[simp] theorem setOut_loops (s : State) (o : Nat) (x : Out) : (setOut s o x).loops = s.loops := (rfl)
@[simp] theorem setOut_cues (s : State) (o : Nat) (x : Out) : (setOut s o x).cues = s.cues := (rfl)
@[simp] theorem setOut_gnss (s : State) (o : Nat) (x : Out) : (setOut s o x).gnss = s.gnss := (rfl)
@[simp] theorem setOut_ports (s : State) (o : Nat) (x : Out) : (setOut s o x).ports = s.ports := (rfl)
@[simp] theorem setOut_stv (s : State) (o : Nat) (x : Out) : (setOut s o x).stv = s.stv := (rfl)
@[simp] theorem setOut_ptp (s : State) (o : Nat) (x : Out) : (setOut s o x).ptp = s.ptp := (rfl)
@[simp] theorem setOut_ntp (s : State) (o : Nat) (x : Out) : (setOut s o x).ntp = s.ntp := (rfl)
@[simp] theorem setOut_ran (s : State) (o : Nat) (x : Out) : (setOut s o x).ran = s.ran := (rfl)
@[simp] theorem setOut_areas (s : State) (o : Nat) (x : Out) : (setOut s o x).areas = s.areas := (rfl)
@[simp] theorem setOut_host (s : State) (o : Nat) (x : Out) : (setOut s o x).host = s.host := (rfl)
@[simp] theorem setOut_gov (s : State) (o : Nat) (x : Out) : (setOut s o x).gov = s.gov := (rfl)
@[simp] theorem setOut_log (s : State) (o : Nat) (x : Out) : (setOut s o x).log = s.log := (rfl)
@[simp] theorem setOut_sheets (s : State) (o : Nat) (x : Out) : (setOut s o x).sheets = s.sheets := (rfl)
@[simp] theorem setOut_fw (s : State) (o : Nat) (x : Out) : (setOut s o x).fw = s.fw := (rfl)
@[simp] theorem setOut_perf (s : State) (o : Nat) (x : Out) : (setOut s o x).perf = s.perf := (rfl)
@[simp] theorem setOut_wrap (s : State) (o : Nat) (x : Out) : (setOut s o x).wrap = s.wrap := (rfl)
@[simp] theorem setOut_pwr (s : State) (o : Nat) (x : Out) : (setOut s o x).pwr = s.pwr := (rfl)
@[simp] theorem setOut_ticks (s : State) (o : Nat) (x : Out) : (setOut s o x).ticks = s.ticks := (rfl)
@[simp] theorem setOut_fresh (s : State) (o : Nat) (x : Out) : (setOut s o x).fresh = s.fresh := (rfl)
@[simp] theorem setOut_out (s : State) (o : Nat) (x : Out) : (setOut s o x).out = s.out := (rfl)
@[simp] theorem setOut_pending (s : State) (o : Nat) (x : Out) : (setOut s o x).pending = s.pending := (rfl)
@[simp] theorem setOut_rg (s : State) (o : Nat) (x : Out) (rn : RegName) (ri rj : Nat) : (setOut s o x).rg rn ri rj = s.rg rn ri rj := (rfl)
@[simp] theorem setOut_f (s : State) (o : Nat) (x : Out) (rd : Fld) (ri rj : Nat) : (setOut s o x).f rd ri rj = s.f rd ri rj := (rfl)
@[simp] theorem setOut_fb (s : State) (o : Nat) (x : Out) (rd : Fld) (ri rj : Nat) : (setOut s o x).fb rd ri rj = s.fb rd ri rj := (rfl)
@[simp] theorem setDp_regs (s : State) (d : Nat) (x : Dpll) : (setDp s d x).regs = s.regs := (rfl)
@[simp] theorem setDp_hs (s : State) (d : Nat) (x : Dpll) : (setDp s d x).hs = s.hs := (rfl)
@[simp] theorem setDp_time (s : State) (d : Nat) (x : Dpll) : (setDp s d x).time = s.time := (rfl)
@[simp] theorem setDp_ens (s : State) (d : Nat) (x : Dpll) : (setDp s d x).ens = s.ens := (rfl)
@[simp] theorem setDp_clap (s : State) (d : Nat) (x : Dpll) : (setDp s d x).clap = s.clap := (rfl)
@[simp] theorem setDp_outs (s : State) (d : Nat) (x : Dpll) : (setDp s d x).outs = s.outs := (rfl)
@[simp] theorem setDp_cues (s : State) (d : Nat) (x : Dpll) : (setDp s d x).cues = s.cues := (rfl)
@[simp] theorem setDp_gnss (s : State) (d : Nat) (x : Dpll) : (setDp s d x).gnss = s.gnss := (rfl)
@[simp] theorem setDp_ports (s : State) (d : Nat) (x : Dpll) : (setDp s d x).ports = s.ports := (rfl)
@[simp] theorem setDp_stv (s : State) (d : Nat) (x : Dpll) : (setDp s d x).stv = s.stv := (rfl)
@[simp] theorem setDp_ptp (s : State) (d : Nat) (x : Dpll) : (setDp s d x).ptp = s.ptp := (rfl)
@[simp] theorem setDp_ntp (s : State) (d : Nat) (x : Dpll) : (setDp s d x).ntp = s.ntp := (rfl)
@[simp] theorem setDp_ran (s : State) (d : Nat) (x : Dpll) : (setDp s d x).ran = s.ran := (rfl)
@[simp] theorem setDp_areas (s : State) (d : Nat) (x : Dpll) : (setDp s d x).areas = s.areas := (rfl)
@[simp] theorem setDp_host (s : State) (d : Nat) (x : Dpll) : (setDp s d x).host = s.host := (rfl)
@[simp] theorem setDp_gov (s : State) (d : Nat) (x : Dpll) : (setDp s d x).gov = s.gov := (rfl)
@[simp] theorem setDp_log (s : State) (d : Nat) (x : Dpll) : (setDp s d x).log = s.log := (rfl)
@[simp] theorem setDp_sheets (s : State) (d : Nat) (x : Dpll) : (setDp s d x).sheets = s.sheets := (rfl)
@[simp] theorem setDp_fw (s : State) (d : Nat) (x : Dpll) : (setDp s d x).fw = s.fw := (rfl)
@[simp] theorem setDp_perf (s : State) (d : Nat) (x : Dpll) : (setDp s d x).perf = s.perf := (rfl)
@[simp] theorem setDp_wrap (s : State) (d : Nat) (x : Dpll) : (setDp s d x).wrap = s.wrap := (rfl)
@[simp] theorem setDp_pwr (s : State) (d : Nat) (x : Dpll) : (setDp s d x).pwr = s.pwr := (rfl)
@[simp] theorem setDp_ticks (s : State) (d : Nat) (x : Dpll) : (setDp s d x).ticks = s.ticks := (rfl)
@[simp] theorem setDp_fresh (s : State) (d : Nat) (x : Dpll) : (setDp s d x).fresh = s.fresh := (rfl)
@[simp] theorem setDp_out (s : State) (d : Nat) (x : Dpll) : (setDp s d x).out = s.out := (rfl)
@[simp] theorem setDp_pending (s : State) (d : Nat) (x : Dpll) : (setDp s d x).pending = s.pending := (rfl)
@[simp] theorem setDp_rg (s : State) (d : Nat) (x : Dpll) (rn : RegName) (ri rj : Nat) : (setDp s d x).rg rn ri rj = s.rg rn ri rj := (rfl)
@[simp] theorem setDp_f (s : State) (d : Nat) (x : Dpll) (rd : Fld) (ri rj : Nat) : (setDp s d x).f rd ri rj = s.f rd ri rj := (rfl)
@[simp] theorem setDp_fb (s : State) (d : Nat) (x : Dpll) (rd : Fld) (ri rj : Nat) : (setDp s d x).fb rd ri rj = s.fb rd ri rj := (rfl)
@[simp] theorem setAp_regs (s : State) (a : Nat) (x : Apll) : (setAp s a x).regs = s.regs := (rfl)
@[simp] theorem setAp_hs (s : State) (a : Nat) (x : Apll) : (setAp s a x).hs = s.hs := (rfl)
@[simp] theorem setAp_time (s : State) (a : Nat) (x : Apll) : (setAp s a x).time = s.time := (rfl)
@[simp] theorem setAp_ens (s : State) (a : Nat) (x : Apll) : (setAp s a x).ens = s.ens := (rfl)
@[simp] theorem setAp_clap (s : State) (a : Nat) (x : Apll) : (setAp s a x).clap = s.clap := (rfl)
@[simp] theorem setAp_outs (s : State) (a : Nat) (x : Apll) : (setAp s a x).outs = s.outs := (rfl)
@[simp] theorem setAp_cues (s : State) (a : Nat) (x : Apll) : (setAp s a x).cues = s.cues := (rfl)
@[simp] theorem setAp_gnss (s : State) (a : Nat) (x : Apll) : (setAp s a x).gnss = s.gnss := (rfl)
@[simp] theorem setAp_ports (s : State) (a : Nat) (x : Apll) : (setAp s a x).ports = s.ports := (rfl)
@[simp] theorem setAp_stv (s : State) (a : Nat) (x : Apll) : (setAp s a x).stv = s.stv := (rfl)
@[simp] theorem setAp_ptp (s : State) (a : Nat) (x : Apll) : (setAp s a x).ptp = s.ptp := (rfl)
@[simp] theorem setAp_ntp (s : State) (a : Nat) (x : Apll) : (setAp s a x).ntp = s.ntp := (rfl)
@[simp] theorem setAp_ran (s : State) (a : Nat) (x : Apll) : (setAp s a x).ran = s.ran := (rfl)
@[simp] theorem setAp_areas (s : State) (a : Nat) (x : Apll) : (setAp s a x).areas = s.areas := (rfl)
@[simp] theorem setAp_host (s : State) (a : Nat) (x : Apll) : (setAp s a x).host = s.host := (rfl)
@[simp] theorem setAp_gov (s : State) (a : Nat) (x : Apll) : (setAp s a x).gov = s.gov := (rfl)
@[simp] theorem setAp_log (s : State) (a : Nat) (x : Apll) : (setAp s a x).log = s.log := (rfl)
@[simp] theorem setAp_sheets (s : State) (a : Nat) (x : Apll) : (setAp s a x).sheets = s.sheets := (rfl)
@[simp] theorem setAp_fw (s : State) (a : Nat) (x : Apll) : (setAp s a x).fw = s.fw := (rfl)
@[simp] theorem setAp_perf (s : State) (a : Nat) (x : Apll) : (setAp s a x).perf = s.perf := (rfl)
@[simp] theorem setAp_wrap (s : State) (a : Nat) (x : Apll) : (setAp s a x).wrap = s.wrap := (rfl)
@[simp] theorem setAp_pwr (s : State) (a : Nat) (x : Apll) : (setAp s a x).pwr = s.pwr := (rfl)
@[simp] theorem setAp_ticks (s : State) (a : Nat) (x : Apll) : (setAp s a x).ticks = s.ticks := (rfl)
@[simp] theorem setAp_fresh (s : State) (a : Nat) (x : Apll) : (setAp s a x).fresh = s.fresh := (rfl)
@[simp] theorem setAp_out (s : State) (a : Nat) (x : Apll) : (setAp s a x).out = s.out := (rfl)
@[simp] theorem setAp_pending (s : State) (a : Nat) (x : Apll) : (setAp s a x).pending = s.pending := (rfl)
@[simp] theorem setAp_rg (s : State) (a : Nat) (x : Apll) (rn : RegName) (ri rj : Nat) : (setAp s a x).rg rn ri rj = s.rg rn ri rj := (rfl)
@[simp] theorem setAp_f (s : State) (a : Nat) (x : Apll) (rd : Fld) (ri rj : Nat) : (setAp s a x).f rd ri rj = s.f rd ri rj := (rfl)
@[simp] theorem setAp_fb (s : State) (a : Nat) (x : Apll) (rd : Fld) (ri rj : Nat) : (setAp s a x).fb rd ri rj = s.fb rd ri rj := (rfl)
@[simp] theorem setReplies_regs (s : State) (l : List NtpReply) : (setReplies s l).regs = s.regs := (rfl)
@[simp] theorem setReplies_hs (s : State) (l : List NtpReply) : (setReplies s l).hs = s.hs := (rfl)
@[simp] theorem setReplies_time (s : State) (l : List NtpReply) : (setReplies s l).time = s.time := (rfl)
@[simp] theorem setReplies_ens (s : State) (l : List NtpReply) : (setReplies s l).ens = s.ens := (rfl)
@[simp] theorem setReplies_clap (s : State) (l : List NtpReply) : (setReplies s l).clap = s.clap := (rfl)
@[simp] theorem setReplies_loops (s : State) (l : List NtpReply) : (setReplies s l).loops = s.loops := (rfl)
@[simp] theorem setReplies_outs (s : State) (l : List NtpReply) : (setReplies s l).outs = s.outs := (rfl)
@[simp] theorem setReplies_cues (s : State) (l : List NtpReply) : (setReplies s l).cues = s.cues := (rfl)
@[simp] theorem setReplies_gnss (s : State) (l : List NtpReply) : (setReplies s l).gnss = s.gnss := (rfl)
@[simp] theorem setReplies_ports (s : State) (l : List NtpReply) : (setReplies s l).ports = s.ports := (rfl)
@[simp] theorem setReplies_stv (s : State) (l : List NtpReply) : (setReplies s l).stv = s.stv := (rfl)
@[simp] theorem setReplies_ptp (s : State) (l : List NtpReply) : (setReplies s l).ptp = s.ptp := (rfl)
@[simp] theorem setReplies_ran (s : State) (l : List NtpReply) : (setReplies s l).ran = s.ran := (rfl)
@[simp] theorem setReplies_areas (s : State) (l : List NtpReply) : (setReplies s l).areas = s.areas := (rfl)
@[simp] theorem setReplies_host (s : State) (l : List NtpReply) : (setReplies s l).host = s.host := (rfl)
@[simp] theorem setReplies_gov (s : State) (l : List NtpReply) : (setReplies s l).gov = s.gov := (rfl)
@[simp] theorem setReplies_log (s : State) (l : List NtpReply) : (setReplies s l).log = s.log := (rfl)
@[simp] theorem setReplies_sheets (s : State) (l : List NtpReply) : (setReplies s l).sheets = s.sheets := (rfl)
@[simp] theorem setReplies_fw (s : State) (l : List NtpReply) : (setReplies s l).fw = s.fw := (rfl)
@[simp] theorem setReplies_perf (s : State) (l : List NtpReply) : (setReplies s l).perf = s.perf := (rfl)
@[simp] theorem setReplies_wrap (s : State) (l : List NtpReply) : (setReplies s l).wrap = s.wrap := (rfl)
@[simp] theorem setReplies_pwr (s : State) (l : List NtpReply) : (setReplies s l).pwr = s.pwr := (rfl)
@[simp] theorem setReplies_ticks (s : State) (l : List NtpReply) : (setReplies s l).ticks = s.ticks := (rfl)
@[simp] theorem setReplies_fresh (s : State) (l : List NtpReply) : (setReplies s l).fresh = s.fresh := (rfl)
@[simp] theorem setReplies_out (s : State) (l : List NtpReply) : (setReplies s l).out = s.out := (rfl)
@[simp] theorem setReplies_pending (s : State) (l : List NtpReply) : (setReplies s l).pending = s.pending := (rfl)
@[simp] theorem setReplies_rg (s : State) (l : List NtpReply) (rn : RegName) (ri rj : Nat) : (setReplies s l).rg rn ri rj = s.rg rn ri rj := (rfl)
@[simp] theorem setReplies_f (s : State) (l : List NtpReply) (rd : Fld) (ri rj : Nat) : (setReplies s l).f rd ri rj = s.f rd ri rj := (rfl)
@[simp] theorem setReplies_fb (s : State) (l : List NtpReply) (rd : Fld) (ri rj : Nat) : (setReplies s l).fb rd ri rj = s.fb rd ri rj := (rfl)
@[simp] theorem setBucket_regs (s : State) (b : Nat) (x : Bucket) : (setBucket s b x).regs = s.regs := (rfl)
@[simp] theorem setBucket_hs (s : State) (b : Nat) (x : Bucket) : (setBucket s b x).hs = s.hs := (rfl)
@[simp] theorem setBucket_time (s : State) (b : Nat) (x : Bucket) : (setBucket s b x).time = s.time := (rfl)
@[simp] theorem setBucket_ens (s : State) (b : Nat) (x : Bucket) : (setBucket s b x).ens = s.ens := (rfl)
@[simp] theorem setBucket_clap (s : State) (b : Nat) (x : Bucket) : (setBucket s b x).clap = s.clap := (rfl)
@[simp] theorem setBucket_loops (s : State) (b : Nat) (x : Bucket) : (setBucket s b x).loops = s.loops := (rfl)
@[simp] theorem setBucket_outs (s : State) (b : Nat) (x : Bucket) : (setBucket s b x).outs = s.outs := (rfl)
@[simp] theorem setBucket_cues (s : State) (b : Nat) (x : Bucket) : (setBucket s b x).cues = s.cues := (rfl)
@[simp] theorem setBucket_gnss (s : State) (b : Nat) (x : Bucket) : (setBucket s b x).gnss = s.gnss := (rfl)
@[simp] theorem setBucket_ports (s : State) (b : Nat) (x : Bucket) : (setBucket s b x).ports = s.ports := (rfl)
@[simp] theorem setBucket_stv (s : State) (b : Nat) (x : Bucket) : (setBucket s b x).stv = s.stv := (rfl)
@[simp] theorem setBucket_ptp (s : State) (b : Nat) (x : Bucket) : (setBucket s b x).ptp = s.ptp := (rfl)
@[simp] theorem setBucket_ran (s : State) (b : Nat) (x : Bucket) : (setBucket s b x).ran = s.ran := (rfl)
@[simp] theorem setBucket_areas (s : State) (b : Nat) (x : Bucket) : (setBucket s b x).areas = s.areas := (rfl)
@[simp] theorem setBucket_host (s : State) (b : Nat) (x : Bucket) : (setBucket s b x).host = s.host := (rfl)
@[simp] theorem setBucket_gov (s : State) (b : Nat) (x : Bucket) : (setBucket s b x).gov = s.gov := (rfl)
@[simp] theorem setBucket_log (s : State) (b : Nat) (x : Bucket) : (setBucket s b x).log = s.log := (rfl)
@[simp] theorem setBucket_sheets (s : State) (b : Nat) (x : Bucket) : (setBucket s b x).sheets = s.sheets := (rfl)
@[simp] theorem setBucket_fw (s : State) (b : Nat) (x : Bucket) : (setBucket s b x).fw = s.fw := (rfl)
@[simp] theorem setBucket_perf (s : State) (b : Nat) (x : Bucket) : (setBucket s b x).perf = s.perf := (rfl)
@[simp] theorem setBucket_wrap (s : State) (b : Nat) (x : Bucket) : (setBucket s b x).wrap = s.wrap := (rfl)
@[simp] theorem setBucket_pwr (s : State) (b : Nat) (x : Bucket) : (setBucket s b x).pwr = s.pwr := (rfl)
@[simp] theorem setBucket_ticks (s : State) (b : Nat) (x : Bucket) : (setBucket s b x).ticks = s.ticks := (rfl)
@[simp] theorem setBucket_fresh (s : State) (b : Nat) (x : Bucket) : (setBucket s b x).fresh = s.fresh := (rfl)
@[simp] theorem setBucket_out (s : State) (b : Nat) (x : Bucket) : (setBucket s b x).out = s.out := (rfl)
@[simp] theorem setBucket_pending (s : State) (b : Nat) (x : Bucket) : (setBucket s b x).pending = s.pending := (rfl)
@[simp] theorem setBucket_rg (s : State) (b : Nat) (x : Bucket) (rn : RegName) (ri rj : Nat) : (setBucket s b x).rg rn ri rj = s.rg rn ri rj := (rfl)
@[simp] theorem setBucket_f (s : State) (b : Nat) (x : Bucket) (rd : Fld) (ri rj : Nat) : (setBucket s b x).f rd ri rj = s.f rd ri rj := (rfl)
@[simp] theorem setBucket_fb (s : State) (b : Nat) (x : Bucket) (rd : Fld) (ri rj : Nat) : (setBucket s b x).fb rd ri rj = s.fb rd ri rj := (rfl)
@[simp] theorem setPort_regs (s : State) (p : Nat) (x : PortSt) : (setPort s p x).regs = s.regs := (rfl)
@[simp] theorem setPort_hs (s : State) (p : Nat) (x : PortSt) : (setPort s p x).hs = s.hs := (rfl)
@[simp] theorem setPort_time (s : State) (p : Nat) (x : PortSt) : (setPort s p x).time = s.time := (rfl)
@[simp] theorem setPort_ens (s : State) (p : Nat) (x : PortSt) : (setPort s p x).ens = s.ens := (rfl)
@[simp] theorem setPort_clap (s : State) (p : Nat) (x : PortSt) : (setPort s p x).clap = s.clap := (rfl)
@[simp] theorem setPort_loops (s : State) (p : Nat) (x : PortSt) : (setPort s p x).loops = s.loops := (rfl)
@[simp] theorem setPort_outs (s : State) (p : Nat) (x : PortSt) : (setPort s p x).outs = s.outs := (rfl)
@[simp] theorem setPort_cues (s : State) (p : Nat) (x : PortSt) : (setPort s p x).cues = s.cues := (rfl)
@[simp] theorem setPort_gnss (s : State) (p : Nat) (x : PortSt) : (setPort s p x).gnss = s.gnss := (rfl)
@[simp] theorem setPort_stv (s : State) (p : Nat) (x : PortSt) : (setPort s p x).stv = s.stv := (rfl)
@[simp] theorem setPort_ptp (s : State) (p : Nat) (x : PortSt) : (setPort s p x).ptp = s.ptp := (rfl)
@[simp] theorem setPort_ntp (s : State) (p : Nat) (x : PortSt) : (setPort s p x).ntp = s.ntp := (rfl)
@[simp] theorem setPort_ran (s : State) (p : Nat) (x : PortSt) : (setPort s p x).ran = s.ran := (rfl)
@[simp] theorem setPort_areas (s : State) (p : Nat) (x : PortSt) : (setPort s p x).areas = s.areas := (rfl)
@[simp] theorem setPort_host (s : State) (p : Nat) (x : PortSt) : (setPort s p x).host = s.host := (rfl)
@[simp] theorem setPort_gov (s : State) (p : Nat) (x : PortSt) : (setPort s p x).gov = s.gov := (rfl)
@[simp] theorem setPort_log (s : State) (p : Nat) (x : PortSt) : (setPort s p x).log = s.log := (rfl)
@[simp] theorem setPort_sheets (s : State) (p : Nat) (x : PortSt) : (setPort s p x).sheets = s.sheets := (rfl)
@[simp] theorem setPort_fw (s : State) (p : Nat) (x : PortSt) : (setPort s p x).fw = s.fw := (rfl)
@[simp] theorem setPort_perf (s : State) (p : Nat) (x : PortSt) : (setPort s p x).perf = s.perf := (rfl)
@[simp] theorem setPort_wrap (s : State) (p : Nat) (x : PortSt) : (setPort s p x).wrap = s.wrap := (rfl)
@[simp] theorem setPort_pwr (s : State) (p : Nat) (x : PortSt) : (setPort s p x).pwr = s.pwr := (rfl)
@[simp] theorem setPort_ticks (s : State) (p : Nat) (x : PortSt) : (setPort s p x).ticks = s.ticks := (rfl)
@[simp] theorem setPort_fresh (s : State) (p : Nat) (x : PortSt) : (setPort s p x).fresh = s.fresh := (rfl)
@[simp] theorem setPort_out (s : State) (p : Nat) (x : PortSt) : (setPort s p x).out = s.out := (rfl)
@[simp] theorem setPort_pending (s : State) (p : Nat) (x : PortSt) : (setPort s p x).pending = s.pending := (rfl)
@[simp] theorem setPort_rg (s : State) (p : Nat) (x : PortSt) (rn : RegName) (ri rj : Nat) : (setPort s p x).rg rn ri rj = s.rg rn ri rj := (rfl)
@[simp] theorem setPort_f (s : State) (p : Nat) (x : PortSt) (rd : Fld) (ri rj : Nat) : (setPort s p x).f rd ri rj = s.f rd ri rj := (rfl)
@[simp] theorem setPort_fb (s : State) (p : Nat) (x : PortSt) (rd : Fld) (ri rj : Nat) : (setPort s p x).fb rd ri rj = s.fb rd ri rj := (rfl)
@[simp] theorem setPtp_regs (s : State) (i : Nat) (x : PtpInst) : (setPtp s i x).regs = s.regs := (rfl)
@[simp] theorem setPtp_hs (s : State) (i : Nat) (x : PtpInst) : (setPtp s i x).hs = s.hs := (rfl)
@[simp] theorem setPtp_time (s : State) (i : Nat) (x : PtpInst) : (setPtp s i x).time = s.time := (rfl)
@[simp] theorem setPtp_ens (s : State) (i : Nat) (x : PtpInst) : (setPtp s i x).ens = s.ens := (rfl)
@[simp] theorem setPtp_clap (s : State) (i : Nat) (x : PtpInst) : (setPtp s i x).clap = s.clap := (rfl)
@[simp] theorem setPtp_loops (s : State) (i : Nat) (x : PtpInst) : (setPtp s i x).loops = s.loops := (rfl)
@[simp] theorem setPtp_outs (s : State) (i : Nat) (x : PtpInst) : (setPtp s i x).outs = s.outs := (rfl)
@[simp] theorem setPtp_cues (s : State) (i : Nat) (x : PtpInst) : (setPtp s i x).cues = s.cues := (rfl)
@[simp] theorem setPtp_gnss (s : State) (i : Nat) (x : PtpInst) : (setPtp s i x).gnss = s.gnss := (rfl)
@[simp] theorem setPtp_ports (s : State) (i : Nat) (x : PtpInst) : (setPtp s i x).ports = s.ports := (rfl)
@[simp] theorem setPtp_stv (s : State) (i : Nat) (x : PtpInst) : (setPtp s i x).stv = s.stv := (rfl)
@[simp] theorem setPtp_ntp (s : State) (i : Nat) (x : PtpInst) : (setPtp s i x).ntp = s.ntp := (rfl)
@[simp] theorem setPtp_ran (s : State) (i : Nat) (x : PtpInst) : (setPtp s i x).ran = s.ran := (rfl)
@[simp] theorem setPtp_areas (s : State) (i : Nat) (x : PtpInst) : (setPtp s i x).areas = s.areas := (rfl)
@[simp] theorem setPtp_host (s : State) (i : Nat) (x : PtpInst) : (setPtp s i x).host = s.host := (rfl)
@[simp] theorem setPtp_gov (s : State) (i : Nat) (x : PtpInst) : (setPtp s i x).gov = s.gov := (rfl)
@[simp] theorem setPtp_log (s : State) (i : Nat) (x : PtpInst) : (setPtp s i x).log = s.log := (rfl)
@[simp] theorem setPtp_sheets (s : State) (i : Nat) (x : PtpInst) : (setPtp s i x).sheets = s.sheets := (rfl)
@[simp] theorem setPtp_fw (s : State) (i : Nat) (x : PtpInst) : (setPtp s i x).fw = s.fw := (rfl)
@[simp] theorem setPtp_perf (s : State) (i : Nat) (x : PtpInst) : (setPtp s i x).perf = s.perf := (rfl)
@[simp] theorem setPtp_wrap (s : State) (i : Nat) (x : PtpInst) : (setPtp s i x).wrap = s.wrap := (rfl)
@[simp] theorem setPtp_pwr (s : State) (i : Nat) (x : PtpInst) : (setPtp s i x).pwr = s.pwr := (rfl)
@[simp] theorem setPtp_ticks (s : State) (i : Nat) (x : PtpInst) : (setPtp s i x).ticks = s.ticks := (rfl)
@[simp] theorem setPtp_fresh (s : State) (i : Nat) (x : PtpInst) : (setPtp s i x).fresh = s.fresh := (rfl)
@[simp] theorem setPtp_out (s : State) (i : Nat) (x : PtpInst) : (setPtp s i x).out = s.out := (rfl)
@[simp] theorem setPtp_pending (s : State) (i : Nat) (x : PtpInst) : (setPtp s i x).pending = s.pending := (rfl)
@[simp] theorem setPtp_rg (s : State) (i : Nat) (x : PtpInst) (rn : RegName) (ri rj : Nat) : (setPtp s i x).rg rn ri rj = s.rg rn ri rj := (rfl)
@[simp] theorem setPtp_f (s : State) (i : Nat) (x : PtpInst) (rd : Fld) (ri rj : Nat) : (setPtp s i x).f rd ri rj = s.f rd ri rj := (rfl)
@[simp] theorem setPtp_fb (s : State) (i : Nat) (x : PtpInst) (rd : Fld) (ri rj : Nat) : (setPtp s i x).fb rd ri rj = s.fb rd ri rj := (rfl)
@[simp] theorem setPtpPort_regs (s : State) (i p : Nat) (x : PtpPort) : (setPtpPort s i p x).regs = s.regs := (rfl)
@[simp] theorem setPtpPort_hs (s : State) (i p : Nat) (x : PtpPort) : (setPtpPort s i p x).hs = s.hs := (rfl)
@[simp] theorem setPtpPort_time (s : State) (i p : Nat) (x : PtpPort) : (setPtpPort s i p x).time = s.time := (rfl)
@[simp] theorem setPtpPort_ens (s : State) (i p : Nat) (x : PtpPort) : (setPtpPort s i p x).ens = s.ens := (rfl)
@[simp] theorem setPtpPort_clap (s : State) (i p : Nat) (x : PtpPort) : (setPtpPort s i p x).clap = s.clap := (rfl)
@[simp] theorem setPtpPort_loops (s : State) (i p : Nat) (x : PtpPort) : (setPtpPort s i p x).loops = s.loops := (rfl)
@[simp] theorem setPtpPort_outs (s : State) (i p : Nat) (x : PtpPort) : (setPtpPort s i p x).outs = s.outs := (rfl)
@[simp] theorem setPtpPort_cues (s : State) (i p : Nat) (x : PtpPort) : (setPtpPort s i p x).cues = s.cues := (rfl)
@[simp] theorem setPtpPort_gnss (s : State) (i p : Nat) (x : PtpPort) : (setPtpPort s i p x).gnss = s.gnss := (rfl)
@[simp] theorem setPtpPort_ports (s : State) (i p : Nat) (x : PtpPort) : (setPtpPort s i p x).ports = s.ports := (rfl)
@[simp] theorem setPtpPort_stv (s : State) (i p : Nat) (x : PtpPort) : (setPtpPort s i p x).stv = s.stv := (rfl)
@[simp] theorem setPtpPort_ntp (s : State) (i p : Nat) (x : PtpPort) : (setPtpPort s i p x).ntp = s.ntp := (rfl)
@[simp] theorem setPtpPort_ran (s : State) (i p : Nat) (x : PtpPort) : (setPtpPort s i p x).ran = s.ran := (rfl)
@[simp] theorem setPtpPort_areas (s : State) (i p : Nat) (x : PtpPort) : (setPtpPort s i p x).areas = s.areas := (rfl)
@[simp] theorem setPtpPort_host (s : State) (i p : Nat) (x : PtpPort) : (setPtpPort s i p x).host = s.host := (rfl)
@[simp] theorem setPtpPort_gov (s : State) (i p : Nat) (x : PtpPort) : (setPtpPort s i p x).gov = s.gov := (rfl)
@[simp] theorem setPtpPort_log (s : State) (i p : Nat) (x : PtpPort) : (setPtpPort s i p x).log = s.log := (rfl)
@[simp] theorem setPtpPort_sheets (s : State) (i p : Nat) (x : PtpPort) : (setPtpPort s i p x).sheets = s.sheets := (rfl)
@[simp] theorem setPtpPort_fw (s : State) (i p : Nat) (x : PtpPort) : (setPtpPort s i p x).fw = s.fw := (rfl)
@[simp] theorem setPtpPort_perf (s : State) (i p : Nat) (x : PtpPort) : (setPtpPort s i p x).perf = s.perf := (rfl)
@[simp] theorem setPtpPort_wrap (s : State) (i p : Nat) (x : PtpPort) : (setPtpPort s i p x).wrap = s.wrap := (rfl)
@[simp] theorem setPtpPort_pwr (s : State) (i p : Nat) (x : PtpPort) : (setPtpPort s i p x).pwr = s.pwr := (rfl)
@[simp] theorem setPtpPort_ticks (s : State) (i p : Nat) (x : PtpPort) : (setPtpPort s i p x).ticks = s.ticks := (rfl)
@[simp] theorem setPtpPort_fresh (s : State) (i p : Nat) (x : PtpPort) : (setPtpPort s i p x).fresh = s.fresh := (rfl)
@[simp] theorem setPtpPort_out (s : State) (i p : Nat) (x : PtpPort) : (setPtpPort s i p x).out = s.out := (rfl)
@[simp] theorem setPtpPort_pending (s : State) (i p : Nat) (x : PtpPort) : (setPtpPort s i p x).pending = s.pending := (rfl)
@[simp] theorem setPtpPort_rg (s : State) (i p : Nat) (x : PtpPort) (rn : RegName) (ri rj : Nat) : (setPtpPort s i p x).rg rn ri rj = s.rg rn ri rj := (rfl)
@[simp] theorem setPtpPort_f (s : State) (i p : Nat) (x : PtpPort) (rd : Fld) (ri rj : Nat) : (setPtpPort s i p x).f rd ri rj = s.f rd ri rj := (rfl)
@[simp] theorem setPtpPort_fb (s : State) (i p : Nat) (x : PtpPort) (rd : Fld) (ri rj : Nat) : (setPtpPort s i p x).fb rd ri rj = s.fb rd ri rj := (rfl)
@[simp] theorem setNode_regs (s : State) (i : Nat) (n : Option Node) : (setNode s i n).regs = s.regs := (rfl)
@[simp] theorem setNode_hs (s : State) (i : Nat) (n : Option Node) : (setNode s i n).hs = s.hs := (rfl)
@[simp] theorem setNode_time (s : State) (i : Nat) (n : Option Node) : (setNode s i n).time = s.time := (rfl)
@[simp] theorem setNode_ens (s : State) (i : Nat) (n : Option Node) : (setNode s i n).ens = s.ens := (rfl)
@[simp] theorem setNode_clap (s : State) (i : Nat) (n : Option Node) : (setNode s i n).clap = s.clap := (rfl)
@[simp] theorem setNode_loops (s : State) (i : Nat) (n : Option Node) : (setNode s i n).loops = s.loops := (rfl)
@[simp] theorem setNode_outs (s : State) (i : Nat) (n : Option Node) : (setNode s i n).outs = s.outs := (rfl)
@[simp] theorem setNode_cues (s : State) (i : Nat) (n : Option Node) : (setNode s i n).cues = s.cues := (rfl)
@[simp] theorem setNode_gnss (s : State) (i : Nat) (n : Option Node) : (setNode s i n).gnss = s.gnss := (rfl)
@[simp] theorem setNode_ports (s : State) (i : Nat) (n : Option Node) : (setNode s i n).ports = s.ports := (rfl)
@[simp] theorem setNode_ptp (s : State) (i : Nat) (n : Option Node) : (setNode s i n).ptp = s.ptp := (rfl)
@[simp] theorem setNode_ntp (s : State) (i : Nat) (n : Option Node) : (setNode s i n).ntp = s.ntp := (rfl)
@[simp] theorem setNode_ran (s : State) (i : Nat) (n : Option Node) : (setNode s i n).ran = s.ran := (rfl)
@[simp] theorem setNode_areas (s : State) (i : Nat) (n : Option Node) : (setNode s i n).areas = s.areas := (rfl)
@[simp] theorem setNode_host (s : State) (i : Nat) (n : Option Node) : (setNode s i n).host = s.host := (rfl)
@[simp] theorem setNode_gov (s : State) (i : Nat) (n : Option Node) : (setNode s i n).gov = s.gov := (rfl)
@[simp] theorem setNode_log (s : State) (i : Nat) (n : Option Node) : (setNode s i n).log = s.log := (rfl)
@[simp] theorem setNode_sheets (s : State) (i : Nat) (n : Option Node) : (setNode s i n).sheets = s.sheets := (rfl)
@[simp] theorem setNode_fw (s : State) (i : Nat) (n : Option Node) : (setNode s i n).fw = s.fw := (rfl)
@[simp] theorem setNode_perf (s : State) (i : Nat) (n : Option Node) : (setNode s i n).perf = s.perf := (rfl)
@[simp] theorem setNode_wrap (s : State) (i : Nat) (n : Option Node) : (setNode s i n).wrap = s.wrap := (rfl)
@[simp] theorem setNode_pwr (s : State) (i : Nat) (n : Option Node) : (setNode s i n).pwr = s.pwr := (rfl)
@[simp] theorem setNode_ticks (s : State) (i : Nat) (n : Option Node) : (setNode s i n).ticks = s.ticks := (rfl)
@[simp] theorem setNode_fresh (s : State) (i : Nat) (n : Option Node) : (setNode s i n).fresh = s.fresh := (rfl)
@[simp] theorem setNode_out (s : State) (i : Nat) (n : Option Node) : (setNode s i n).out = s.out := (rfl)
@[simp] theorem setNode_pending (s : State) (i : Nat) (n : Option Node) : (setNode s i n).pending = s.pending := (rfl)
@[simp] theorem setNode_rg (s : State) (i : Nat) (n : Option Node) (rn : RegName) (ri rj : Nat) : (setNode s i n).rg rn ri rj = s.rg rn ri rj := (rfl)
@[simp] theorem setNode_f (s : State) (i : Nat) (n : Option Node) (rd : Fld) (ri rj : Nat) : (setNode s i n).f rd ri rj = s.f rd ri rj := (rfl)
@[simp] theorem setNode_fb (s : State) (i : Nat) (n : Option Node) (rd : Fld) (ri rj : Nat) : (setNode s i n).fb rd ri rj = s.fb rd ri rj := (rfl)
@[simp] theorem setResidual_regs (s : State) (c : Nat) (r : Residual) : (setResidual s c r).regs = s.regs := (rfl)
@[simp] theorem setResidual_hs (s : State) (c : Nat) (r : Residual) : (setResidual s c r).hs = s.hs := (rfl)
@[simp] theorem setResidual_ens (s : State) (c : Nat) (r : Residual) : (setResidual s c r).ens = s.ens := (rfl)
@[simp] theorem setResidual_clap (s : State) (c : Nat) (r : Residual) : (setResidual s c r).clap = s.clap := (rfl)
@[simp] theorem setResidual_loops (s : State) (c : Nat) (r : Residual) : (setResidual s c r).loops = s.loops := (rfl)
@[simp] theorem setResidual_outs (s : State) (c : Nat) (r : Residual) : (setResidual s c r).outs = s.outs := (rfl)
@[simp] theorem setResidual_cues (s : State) (c : Nat) (r : Residual) : (setResidual s c r).cues = s.cues := (rfl)
@[simp] theorem setResidual_gnss (s : State) (c : Nat) (r : Residual) : (setResidual s c r).gnss = s.gnss := (rfl)
@[simp] theorem setResidual_ports (s : State) (c : Nat) (r : Residual) : (setResidual s c r).ports = s.ports := (rfl)
@[simp] theorem setResidual_stv (s : State) (c : Nat) (r : Residual) : (setResidual s c r).stv = s.stv := (rfl)
@[simp] theorem setResidual_ptp (s : State) (c : Nat) (r : Residual) : (setResidual s c r).ptp = s.ptp := (rfl)
@[simp] theorem setResidual_ntp (s : State) (c : Nat) (r : Residual) : (setResidual s c r).ntp = s.ntp := (rfl)
@[simp] theorem setResidual_ran (s : State) (c : Nat) (r : Residual) : (setResidual s c r).ran = s.ran := (rfl)
@[simp] theorem setResidual_areas (s : State) (c : Nat) (r : Residual) : (setResidual s c r).areas = s.areas := (rfl)
@[simp] theorem setResidual_host (s : State) (c : Nat) (r : Residual) : (setResidual s c r).host = s.host := (rfl)
@[simp] theorem setResidual_gov (s : State) (c : Nat) (r : Residual) : (setResidual s c r).gov = s.gov := (rfl)
@[simp] theorem setResidual_log (s : State) (c : Nat) (r : Residual) : (setResidual s c r).log = s.log := (rfl)
@[simp] theorem setResidual_sheets (s : State) (c : Nat) (r : Residual) : (setResidual s c r).sheets = s.sheets := (rfl)
@[simp] theorem setResidual_fw (s : State) (c : Nat) (r : Residual) : (setResidual s c r).fw = s.fw := (rfl)
@[simp] theorem setResidual_perf (s : State) (c : Nat) (r : Residual) : (setResidual s c r).perf = s.perf := (rfl)
@[simp] theorem setResidual_wrap (s : State) (c : Nat) (r : Residual) : (setResidual s c r).wrap = s.wrap := (rfl)
@[simp] theorem setResidual_pwr (s : State) (c : Nat) (r : Residual) : (setResidual s c r).pwr = s.pwr := (rfl)
@[simp] theorem setResidual_ticks (s : State) (c : Nat) (r : Residual) : (setResidual s c r).ticks = s.ticks := (rfl)
@[simp] theorem setResidual_fresh (s : State) (c : Nat) (r : Residual) : (setResidual s c r).fresh = s.fresh := (rfl)
@[simp] theorem setResidual_out (s : State) (c : Nat) (r : Residual) : (setResidual s c r).out = s.out := (rfl)
@[simp] theorem setResidual_pending (s : State) (c : Nat) (r : Residual) : (setResidual s c r).pending = s.pending := (rfl)
@[simp] theorem setResidual_rg (s : State) (c : Nat) (r : Residual) (rn : RegName) (ri rj : Nat) : (setResidual s c r).rg rn ri rj = s.rg rn ri rj := (rfl)
@[simp] theorem setResidual_f (s : State) (c : Nat) (r : Residual) (rd : Fld) (ri rj : Nat) : (setResidual s c r).f rd ri rj = s.f rd ri rj := (rfl)
@[simp] theorem setResidual_fb (s : State) (c : Nat) (r : Residual) (rd : Fld) (ri rj : Nat) : (setResidual s c r).fb rd ri rj = s.fb rd ri rj := (rfl)

end Sys2Proof.Machine
end

