-- ==== Sys2Proof/Laws/Tables.lean ====
section
/-! SUPPORT. Tables: an entry set reads as it was set, and every other entry as before. -/
namespace Sys2Proof.Machine
open Sys2Proof

@[simp] theorem tget_tset_same {α : Type} (t : Tbl α) (d v : α) (i : Nat) : tget (tset t i v) d i = v := by
  induction t with
  | nil => simp [tset, tget]
  | cons p r ih =>
    obtain ⟨k, w⟩ := p
    by_cases h : k = i
    · simp [tset, h, tget]
    · by_cases hl : i < k
      · simp [tset, h, hl, tget]
      · simp [tset, h, hl, tget, ih]

theorem tget_tset_other {α : Type} (t : Tbl α) (d v : α) (i j : Nat) (hj : j ≠ i) : tget (tset t i v) d j = tget t d j := by
  induction t with
  | nil => simp [tset, tget, Ne.symm hj]
  | cons p r ih =>
    obtain ⟨k, w⟩ := p
    by_cases h : k = i
    · simp [tset, h, tget, Ne.symm hj]
    · by_cases hl : i < k
      · simp [tset, h, hl, tget, Ne.symm hj]
      · by_cases hk : k = j
        · subst hk; simp [tset, h, hl, tget]
        · simp [tset, h, hl, tget, hk, ih]

@[simp] theorem tget_nil {α : Type} (d : α) (i : Nat) : tget [] d i = d := rfl

@[simp] theorem ring_setRing_same (s : State) (r : Nat) (x : Ring) : ring (setRing s r x) r = x := by
  simp [ring, setRing]

theorem ring_setRing_other (s : State) (r q : Nat) (x : Ring) (h : q ≠ r) : ring (setRing s r x) q = ring s q := by
  simp [ring, setRing, tget_tset_other _ _ _ _ _ h]

@[simp] theorem tsc_setTsc_same (s : State) (n : Nat) (t : Tscale) : tsc (setTsc s n t) n = t := by
  simp [tsc, setTsc]

theorem tsc_setTsc_other (s : State) (n m : Nat) (t : Tscale) (h : m ≠ n) : tsc (setTsc s n t) m = tsc s m := by
  simp [tsc, setTsc, tget_tset_other _ _ _ _ _ h]

/-- What a slate sent to a destination leaves of every timescale: all but the destinations whose bit is set (R54). -/
theorem tsc_sentTo_cnt (s : State) (n m : Nat) (d : Dest) : (tsc (sentTo s n d) m).cnt = (tsc s m).cnt := by
  by_cases h : m = n
  · subst h; simp [sentTo]
  · simp [sentTo, tsc_setTsc_other _ _ _ _ h]

end Sys2Proof.Machine
end

