-- ==== Sys2Proof/Laws/Regs.lean ====
section
/-! SUPPORT. The register file: a register written reads as it was written, every other as before; fields of a word; and the canonical form is kept by
every write. -/
namespace Sys2Proof.Machine
open Sys2Proof

/-! ### The list of registers -/

theorem regFind_regPut_same (l : List (Reg × Word)) (r : Reg) (v : Word) : regFind (regPut l r v) r = some v := by
  induction l with
  | nil => simp [regPut, regFind]
  | cons p t ih =>
    obtain ⟨q, w⟩ := p
    by_cases h : q = r
    · simp [regPut, h, regFind]
    · by_cases hl : r.lt q = true
      · simp [regPut, h, hl, regFind]
      · simp [regPut, h, hl, regFind, ih]

theorem regFind_regPut_other (l : List (Reg × Word)) (r q : Reg) (v : Word) (hq : q ≠ r) : regFind (regPut l r v) q = regFind l q := by
  induction l with
  | nil => simp [regPut, regFind, Ne.symm hq]
  | cons p t ih =>
    obtain ⟨k, w⟩ := p
    by_cases h : k = r
    · simp [regPut, h, regFind, Ne.symm hq]
    · by_cases hl : r.lt k = true
      · simp [regPut, h, hl, regFind, Ne.symm hq]
      · by_cases hk : k = q
        · subst hk; simp [regPut, h, hl, regFind]
        · simp [regPut, h, hl, regFind, hk, ih]

theorem regFind_regDrop_same (l : List (Reg × Word)) (r : Reg) : regFind (regDrop l r) r = none := by
  induction l with
  | nil => simp [regDrop, regFind]
  | cons p t ih =>
    obtain ⟨k, w⟩ := p
    by_cases h : k = r
    · simp [regDrop, h, ih]
    · simp [regDrop, h, regFind, ih]

theorem regFind_regDrop_other (l : List (Reg × Word)) (r q : Reg) (hq : q ≠ r) : regFind (regDrop l r) q = regFind l q := by
  induction l with
  | nil => simp [regDrop]
  | cons p t ih =>
    obtain ⟨k, w⟩ := p
    by_cases h : k = r
    · simp [regDrop, h, regFind, Ne.symm hq, ih]
    · by_cases hk : k = q
      · subst hk; simp [regDrop, h, regFind]
      · simp [regDrop, h, regFind, hk, ih]

/-! ### Reading what was written -/

@[simp] theorem rg_wr_same (s : State) (n : RegName) (i j : Nat) (v : Word) : (s.wr n i j v).rg n i j = v := by
  unfold State.wr State.rg
  by_cases h : v = resetVal n i
  · simp [h, regFind_regDrop_same]
  · simp [h, regFind_regPut_same]

theorem rg_wr_other (s : State) (n m : RegName) (i j k l : Nat) (v : Word) (h : (⟨m, k, l⟩ : Reg) ≠ ⟨n, i, j⟩) :
    (s.wr n i j v).rg m k l = s.rg m k l := by
  unfold State.wr State.rg
  by_cases hv : v = resetVal n i
  · simp [hv, regFind_regDrop_other _ _ _ h]
  · simp [hv, regFind_regPut_other _ _ _ _ h]

theorem rg_wr_name (s : State) (n m : RegName) (i j k l : Nat) (v : Word) (h : m ≠ n) : (s.wr n i j v).rg m k l = s.rg m k l :=
  rg_wr_other s n m i j k l v (by simp [h])

theorem rg_wr_index (s : State) (n : RegName) (i j k l : Nat) (v : Word) (h : k ≠ i) : (s.wr n i j v).rg n k l = s.rg n k l :=
  rg_wr_other s n n i j k l v (by simp [h])

theorem rg_setF_name (s : State) (d : Fld) (v i j k l : Nat) (m : RegName) (h : m ≠ d.reg) : (s.setF d v i j).rg m k l = s.rg m k l :=
  rg_wr_name _ _ _ _ _ _ _ _ h

theorem rg_setF_index (s : State) (d : Fld) (v i j k l : Nat) (m : RegName) (h : k ≠ i) : (s.setF d v i j).rg m k l = s.rg m k l :=
  rg_wr_other _ _ _ _ _ _ _ _ (by simp [h])

/-- A state whose register file is another's reads every register as that one does. -/
theorem rg_congr {s t : State} (h : t.regs = s.regs) (n : RegName) (i j : Nat) : t.rg n i j = s.rg n i j := by
  simp [State.rg, h]

/-- The same for fields. -/
theorem f_congr {s t : State} (h : t.regs = s.regs) (d : Fld) (i j : Nat) : t.f d i j = s.f d i j := by
  simp [State.f, State.rg, h]

/-! ### Fields of a word -/

theorem fget_lt (w : Word) (hi lo : Nat) : fget w hi lo < 2 ^ (hi - lo + 1) := Nat.mod_lt _ (Nat.two_pow_pos _)

/-- A number in three parts whose middle part is replaced. -/
theorem parts_put (q m c u L N T : Nat) (hu : u < N) (hc : c < L) (hT : (q + 1) * (L * N) ≤ T) :
    (q * (L * N) + m * L + c - m * L + u * L) % T = (q * N + u) * L + c := by
  have h1 : q * (L * N) + m * L + c - m * L + u * L = (q * N + u) * L + c := by
    have : q * (L * N) + m * L + c - m * L = q * (L * N) + c := by omega
    rw [this]; ring
  rw [h1]
  apply Nat.mod_eq_of_lt
  have h2 : (u + 1) * L ≤ N * L := Nat.mul_le_mul_right _ hu
  nlinarith

/-- A number is its quotients and remainders. -/
theorem parts_eq (x L N : Nat) : x / L / N * (L * N) + x / L % N * L + x % L = x := by
  have h1 := Nat.div_add_mod x L
  have h2 := Nat.div_add_mod (x / L) N
  calc x / L / N * (L * N) + x / L % N * L + x % L = (N * (x / L / N) + x / L % N) * L + x % L := by ring
    _ = L * (x / L) + x % L := by rw [h2]; ring
    _ = x := h1

/-- The word with a field replaced, as a number. -/
theorem fput_toNat (w : Word) (hi lo v : Nat) (h1 : lo ≤ hi) (h2 : hi < 32) :
    (fput w hi lo v).toNat
      = (w.toNat / 2 ^ lo / 2 ^ (hi - lo + 1) * 2 ^ (hi - lo + 1) + v % 2 ^ (hi - lo + 1)) * 2 ^ lo + w.toNat % 2 ^ lo := by
  have hw := w.isLt
  have hL := Nat.two_pow_pos lo
  have hN := Nat.two_pow_pos (hi - lo + 1)
  have hT : (w.toNat / 2 ^ lo / 2 ^ (hi - lo + 1) + 1) * (2 ^ lo * 2 ^ (hi - lo + 1)) ≤ 2 ^ 32 := by
    have hd : 2 ^ lo * 2 ^ (hi - lo + 1) ∣ 2 ^ 32 := by rw [← pow_add]; exact pow_dvd_pow 2 (by omega)
    have hlt : w.toNat / 2 ^ lo / 2 ^ (hi - lo + 1) < 2 ^ 32 / (2 ^ lo * 2 ^ (hi - lo + 1)) := by
      rw [Nat.div_div_eq_div_mul]; exact Nat.div_lt_div_of_lt_of_dvd hd hw
    calc _ ≤ 2 ^ 32 / (2 ^ lo * 2 ^ (hi - lo + 1)) * (2 ^ lo * 2 ^ (hi - lo + 1)) := Nat.mul_le_mul_right _ hlt
      _ ≤ 2 ^ 32 := Nat.div_mul_le_self _ _
  have hx := parts_eq w.toNat (2 ^ lo) (2 ^ (hi - lo + 1))
  have hp := parts_put (w.toNat / 2 ^ lo / 2 ^ (hi - lo + 1)) (w.toNat / 2 ^ lo % 2 ^ (hi - lo + 1)) (w.toNat % 2 ^ lo) (v % 2 ^ (hi - lo + 1)) (2 ^ lo)
    (2 ^ (hi - lo + 1)) (2 ^ 32) (Nat.mod_lt _ hN) (Nat.mod_lt _ hL) hT
  rw [hx] at hp
  simpa [fput, fget] using hp

/-- A field in range reads as its value. -/
theorem fget_fput_same (w : Word) (hi lo v : Nat) (h1 : lo ≤ hi) (h2 : hi < 32) : fget (fput w hi lo v) hi lo = v % 2 ^ (hi - lo + 1) := by
  unfold fget
  rw [fput_toNat w hi lo v h1 h2]
  rw [Nat.add_comm, Nat.add_mul_div_right _ _ (Nat.two_pow_pos _), Nat.div_eq_of_lt (Nat.mod_lt _ (Nat.two_pow_pos _)), Nat.zero_add, Nat.add_comm,
    Nat.add_mul_mod_self_right, Nat.mod_mod]

/-- A field above the one replaced keeps its value. -/
theorem fget_fput_above (w : Word) (hi lo hi' lo' v : Nat) (h1 : lo ≤ hi) (h2 : hi < 32) (h3 : hi < lo') :
    fget (fput w hi lo v) hi' lo' = fget w hi' lo' := by
  unfold fget
  rw [fput_toNat w hi lo v h1 h2]
  have hdiv : ∀ a b c L N : Nat, 0 < L → 0 < N → b < N → c < L → ((a * N + b) * L + c) / (L * N) = a := by
    intro a b c L N hL hN hb hc
    rw [← Nat.div_div_eq_div_mul, Nat.add_comm ((a * N + b) * L), Nat.add_mul_div_right _ _ hL, Nat.div_eq_of_lt hc, Nat.zero_add, Nat.add_comm,
      Nat.add_mul_div_right _ _ hN, Nat.div_eq_of_lt hb, Nat.zero_add]
  have he : 2 ^ lo' = (2 ^ lo * 2 ^ (hi - lo + 1)) * 2 ^ (lo' - (hi + 1)) := by
    rw [← pow_add, ← pow_add]; congr 1; omega
  rw [he, ← Nat.div_div_eq_div_mul, hdiv _ _ _ _ _ (Nat.two_pow_pos _) (Nat.two_pow_pos _) (Nat.mod_lt _ (Nat.two_pow_pos _)) (Nat.mod_lt _ (Nat.two_pow_pos _)),
    ← Nat.div_div_eq_div_mul, ← Nat.div_div_eq_div_mul]

/-- A field below the one replaced keeps its value. -/
theorem fget_fput_below (w : Word) (hi lo hi' lo' v : Nat) (h1 : lo ≤ hi) (h2 : hi < 32) (h3 : lo' ≤ hi') (h4 : hi' < lo) :
    fget (fput w hi lo v) hi' lo' = fget w hi' lo' := by
  unfold fget
  rw [fput_toNat w hi lo v h1 h2]
  have hL : 2 ^ lo = 2 ^ (lo - (hi' + 1)) * 2 ^ (hi' - lo' + 1) * 2 ^ lo' := by rw [← pow_add, ← pow_add]; congr 1; omega
  have key : ∀ A x K N M : Nat, 0 < M → (A * (K * N * M) + x % (K * N * M)) / M % N = x / M % N := by
    intro A x K N M hM
    have e1 : A * (K * N * M) + x % (K * N * M) = x % (K * N * M) + (A * K * N) * M := by ring
    rw [e1, Nat.add_mul_div_right _ _ hM]
    have e2 : x % (K * N * M) / M = x / M % (K * N) := by
      rw [Nat.mul_comm (K * N) M, Nat.mod_mul_right_div_self]
    rw [e2, Nat.add_mul_mod_self_right, Nat.mod_mod_of_dvd _ (Dvd.intro_left K rfl)]
  rw [hL]
  exact key _ _ _ _ _ (Nat.two_pow_pos _)

/-! ### Fields of a register -/

theorem f_setF_same (s : State) (d : Fld) (v i j : Nat) (h1 : d.lo ≤ d.hi) (h2 : d.hi < 32) :
    (s.setF d v i j).f d i j = v % 2 ^ (d.hi - d.lo + 1) := by
  simp [State.f, State.setF, fget_fput_same _ _ _ _ h1 h2]

theorem f_setF_name (s : State) (d e : Fld) (v i j k l : Nat) (h : e.reg ≠ d.reg) : (s.setF d v i j).f e k l = s.f e k l := by
  simp [State.f, rg_setF_name _ _ _ _ _ _ _ _ h]

theorem f_setF_index (s : State) (d e : Fld) (v i j k l : Nat) (h : k ≠ i) : (s.setF d v i j).f e k l = s.f e k l := by
  simp [State.f, rg_setF_index _ _ _ _ _ _ _ _ h]

theorem f_setF_apart (s : State) (d e : Fld) (v i j : Nat) (hr : e.reg = d.reg) (h1 : d.lo ≤ d.hi) (h2 : d.hi < 32) (h3 : e.lo ≤ e.hi)
    (h4 : d.hi < e.lo ∨ e.hi < d.lo) : (s.setF d v i j).f e i j = s.f e i j := by
  simp only [State.f, State.setF, hr, rg_wr_same]
  rcases h4 with h | h
  · exact fget_fput_above _ _ _ _ _ _ h1 h2 h
  · exact fget_fput_below _ _ _ _ _ _ h1 h2 h3 h

/-! ### The canonical form -/

/-- The order of the register file in words. -/
theorem Reg.lt_iff (a b : Reg) : a.lt b = true ↔
    a.name.ctorIdx < b.name.ctorIdx ∨ (a.name.ctorIdx = b.name.ctorIdx ∧ (a.i < b.i ∨ (a.i = b.i ∧ a.j < b.j))) := by
  unfold Reg.lt
  by_cases e : a.name.ctorIdx = b.name.ctorIdx
  · by_cases e2 : a.i = b.i
    · simp [e, e2]
    · simp [e, e2]
  · simp [e]

theorem Reg.lt_trans {a b c : Reg} (h1 : a.lt b = true) (h2 : b.lt c = true) : a.lt c = true := by
  rw [Reg.lt_iff] at *; omega

theorem Reg.lt_irrefl (a : Reg) : a.lt a = false := by
  rw [Bool.eq_false_iff, ne_eq, Reg.lt_iff]; omega

theorem RegName.eq_of_ctorIdx {a b : RegName} (h : a.ctorIdx = b.ctorIdx) : a = b := by
  have ha := RegName.ofNat_ctorIdx a
  have hb := RegName.ofNat_ctorIdx b
  rw [← ha, ← hb, h]

/-- The order is total: of two registers one is before the other or they are the same. -/
theorem Reg.lt_total (a b : Reg) (h : a ≠ b) (h1 : a.lt b = false) : b.lt a = true := by
  rw [Bool.eq_false_iff, ne_eq, Reg.lt_iff] at h1
  rw [Reg.lt_iff]
  by_contra hc
  apply h
  have e1 : a.name.ctorIdx = b.name.ctorIdx := by omega
  have e2 : a.i = b.i := by omega
  have e3 : a.j = b.j := by omega
  have e0 := RegName.eq_of_ctorIdx e1
  cases a; cases b; simp_all

/-- Every register of a list stands after `r`, and none is listed with its reset value. -/
def after (r : Reg) (l : List (Reg × Word)) : Prop := ∀ p ∈ l, r.lt p.1 = true

/-- The canonical form by its head: the head is not at reset, everything after it is later, and the rest is canonical. -/
theorem regsWf_cons (q : Reg) (w : Word) (t : List (Reg × Word)) :
    regsWf ((q, w) :: t) = true ↔ w ≠ resetVal q.name q.i ∧ after q t ∧ regsWf t = true := by
  induction t generalizing q w with
  | nil => simp [regsWf, after]
  | cons p t ih =>
    obtain ⟨q', w'⟩ := p
    rw [show regsWf ((q, w) :: (q', w') :: t) = ((w != resetVal q.name q.i) && q.lt q' && regsWf ((q', w') :: t)) from rfl]
    simp only [Bool.and_eq_true, bne_iff_ne, ne_eq]
    constructor
    · rintro ⟨⟨h1, h2⟩, h3⟩
      refine ⟨h1, ?_, h3⟩
      intro p hp
      rcases List.mem_cons.1 hp with h | h
      · rw [h]; exact h2
      · exact Reg.lt_trans h2 (((ih q' w').1 h3).2.1 p h)
    · rintro ⟨h1, h2, h3⟩
      exact ⟨⟨h1, h2 _ (List.mem_cons_self ..)⟩, h3⟩

theorem mem_regDrop {l : List (Reg × Word)} {r : Reg} {p : Reg × Word} (h : p ∈ regDrop l r) : p ∈ l := by
  induction l with
  | nil => simp [regDrop] at h
  | cons q t ih =>
    obtain ⟨k, w⟩ := q
    by_cases hk : k = r
    · simp [regDrop, hk] at h; exact List.mem_cons_of_mem _ (ih h)
    · simp [regDrop, hk] at h
      rcases h with h | h
      · simp [h]
      · exact List.mem_cons_of_mem _ (ih h)

theorem mem_regPut {l : List (Reg × Word)} {r : Reg} {v : Word} {p : Reg × Word} (h : p ∈ regPut l r v) : p = (r, v) ∨ p ∈ l := by
  induction l with
  | nil => simp [regPut] at h; exact .inl h
  | cons q t ih =>
    obtain ⟨k, w⟩ := q
    by_cases hk : k = r
    · simp [regPut, hk] at h
      rcases h with h | h
      · exact .inl h
      · exact .inr (List.mem_cons_of_mem _ h)
    · by_cases hl : r.lt k = true
      · simp [regPut, hk, hl] at h
        rcases h with h | h | h
        · exact .inl h
        · exact .inr (by simp [h])
        · exact .inr (List.mem_cons_of_mem _ h)
      · simp [regPut, hk, hl] at h
        rcases h with h | h
        · exact .inr (by simp [h])
        · rcases ih h with h | h
          · exact .inl h
          · exact .inr (List.mem_cons_of_mem _ h)

theorem regsWf_regDrop {l : List (Reg × Word)} (r : Reg) (h : regsWf l = true) : regsWf (regDrop l r) = true := by
  induction l with
  | nil => rfl
  | cons q t ih =>
    obtain ⟨k, w⟩ := q
    rw [regsWf_cons] at h
    by_cases hk : k = r
    · simp only [regDrop, hk, if_true]; exact ih h.2.2
    · simp only [regDrop, hk, if_false]
      rw [regsWf_cons]
      exact ⟨h.1, fun p hp => h.2.1 p (mem_regDrop hp), ih h.2.2⟩

theorem regsWf_regPut {l : List (Reg × Word)} (r : Reg) (v : Word) (hv : v ≠ resetVal r.name r.i) (h : regsWf l = true) :
    regsWf (regPut l r v) = true := by
  induction l with
  | nil => simp [regPut, regsWf, hv]
  | cons q t ih =>
    obtain ⟨k, w⟩ := q
    have h0 := (regsWf_cons k w t).1 h
    by_cases hk : k = r
    · subst hk
      simp only [regPut, if_true]
      rw [regsWf_cons]; exact ⟨hv, h0.2.1, h0.2.2⟩
    · by_cases hl : r.lt k = true
      · simp only [regPut, hk, if_false, hl, if_true]
        rw [regsWf_cons]
        refine ⟨hv, ?_, h⟩
        intro p hp
        rcases List.mem_cons.1 hp with e | e
        · rw [e]; exact hl
        · exact Reg.lt_trans hl (h0.2.1 p e)
      · rw [show regPut ((k, w) :: t) r v = (k, w) :: regPut t r v by simp [regPut, hk, hl], regsWf_cons]
        refine ⟨h0.1, ?_, ih h0.2.2⟩
        intro p hp
        rcases mem_regPut hp with e | e
        · rw [e]; exact Reg.lt_total _ _ (Ne.symm hk) (by simpa using hl)
        · exact h0.2.1 p e

/-- Every write of a register keeps the canonical form. -/
theorem regsWf_wr {s : State} (n : RegName) (i j : Nat) (v : Word) (h : regsWf s.regs = true) : regsWf (s.wr n i j v).regs = true := by
  unfold State.wr
  by_cases hv : v = resetVal n i
  · simp only [hv, if_true]; exact regsWf_regDrop _ h
  · simp only [hv, if_false]; exact regsWf_regPut _ _ hv h

/-- Leaving registers out keeps the canonical form. -/
theorem regsWf_filter {l : List (Reg × Word)} (p : Reg × Word → Bool) (h : regsWf l = true) : regsWf (l.filter p) = true := by
  induction l with
  | nil => rfl
  | cons q t ih =>
    obtain ⟨k, w⟩ := q
    rw [regsWf_cons] at h
    by_cases hp : p (k, w) = true
    · rw [List.filter_cons_of_pos hp, regsWf_cons]
      exact ⟨h.1, fun x hx => h.2.1 x (List.mem_of_mem_filter hx), ih h.2.2⟩
    · rw [List.filter_cons_of_neg hp]; exact ih h.2.2

end Sys2Proof.Machine
end

