-- ==== Sys2Proof/Laws/Ops.lean ====
section
/-! SUPPORT. The shared operations: what counting, CPL entries, events, log records and completions leave unchanged, and where a completion goes. -/
namespace Sys2Proof.Machine
open Sys2Proof

/-- What every step of a fold keeps, the fold keeps. -/
theorem foldl_keeps {α β : Type} (g : State → β) (f : State → α → State) (h : ∀ t x, g (f t x) = g t) (l : List α) (s : State) :
    g (l.foldl f s) = g s := by
  induction l generalizing s with
  | nil => rfl
  | cons x l ih => rw [List.foldl_cons, ih, h]

/-- What holds at the start of a fold and is kept by every step holds at its end. -/
theorem foldl_inv {α : Type} (P : State → Prop) (f : State → α → State) (h : ∀ t x, P t → P (f t x)) (l : List α) (s : State) (hs : P s) :
    P (l.foldl f s) := by
  induction l generalizing s with
  | nil => exact hs
  | cons x l ih => exact ih _ (h _ _ hs)


@[simp] theorem setPerfCount_hs (s : State) (c v : Nat) : (setPerfCount s c v).hs = s.hs := by
  simp [setPerfCount]
@[simp] theorem setPerfCount_time (s : State) (c v : Nat) : (setPerfCount s c v).time = s.time := by
  simp [setPerfCount]
@[simp] theorem setPerfCount_ens (s : State) (c v : Nat) : (setPerfCount s c v).ens = s.ens := by
  simp [setPerfCount]
@[simp] theorem setPerfCount_clap (s : State) (c v : Nat) : (setPerfCount s c v).clap = s.clap := by
  simp [setPerfCount]
@[simp] theorem setPerfCount_loops (s : State) (c v : Nat) : (setPerfCount s c v).loops = s.loops := by
  simp [setPerfCount]
@[simp] theorem setPerfCount_outs (s : State) (c v : Nat) : (setPerfCount s c v).outs = s.outs := by
  simp [setPerfCount]
@[simp] theorem setPerfCount_cues (s : State) (c v : Nat) : (setPerfCount s c v).cues = s.cues := by
  simp [setPerfCount]
@[simp] theorem setPerfCount_gnss (s : State) (c v : Nat) : (setPerfCount s c v).gnss = s.gnss := by
  simp [setPerfCount]
@[simp] theorem setPerfCount_ports (s : State) (c v : Nat) : (setPerfCount s c v).ports = s.ports := by
  simp [setPerfCount]
@[simp] theorem setPerfCount_stv (s : State) (c v : Nat) : (setPerfCount s c v).stv = s.stv := by
  simp [setPerfCount]
@[simp] theorem setPerfCount_ptp (s : State) (c v : Nat) : (setPerfCount s c v).ptp = s.ptp := by
  simp [setPerfCount]
@[simp] theorem setPerfCount_ntp (s : State) (c v : Nat) : (setPerfCount s c v).ntp = s.ntp := by
  simp [setPerfCount]
@[simp] theorem setPerfCount_ran (s : State) (c v : Nat) : (setPerfCount s c v).ran = s.ran := by
  simp [setPerfCount]
@[simp] theorem setPerfCount_areas (s : State) (c v : Nat) : (setPerfCount s c v).areas = s.areas := by
  simp [setPerfCount]
@[simp] theorem setPerfCount_host (s : State) (c v : Nat) : (setPerfCount s c v).host = s.host := by
  simp [setPerfCount]
@[simp] theorem setPerfCount_gov (s : State) (c v : Nat) : (setPerfCount s c v).gov = s.gov := by
  simp [setPerfCount]
@[simp] theorem setPerfCount_log (s : State) (c v : Nat) : (setPerfCount s c v).log = s.log := by
  simp [setPerfCount]
@[simp] theorem setPerfCount_sheets (s : State) (c v : Nat) : (setPerfCount s c v).sheets = s.sheets := by
  simp [setPerfCount]
@[simp] theorem setPerfCount_fw (s : State) (c v : Nat) : (setPerfCount s c v).fw = s.fw := by
  simp [setPerfCount]
@[simp] theorem setPerfCount_perf (s : State) (c v : Nat) : (setPerfCount s c v).perf = s.perf := by
  simp [setPerfCount]
@[simp] theorem setPerfCount_wrap (s : State) (c v : Nat) : (setPerfCount s c v).wrap = s.wrap := by
  simp [setPerfCount]
@[simp] theorem setPerfCount_pwr (s : State) (c v : Nat) : (setPerfCount s c v).pwr = s.pwr := by
  simp [setPerfCount]
@[simp] theorem setPerfCount_ticks (s : State) (c v : Nat) : (setPerfCount s c v).ticks = s.ticks := by
  simp [setPerfCount]
@[simp] theorem setPerfCount_fresh (s : State) (c v : Nat) : (setPerfCount s c v).fresh = s.fresh := by
  simp [setPerfCount]
@[simp] theorem setPerfCount_out (s : State) (c v : Nat) : (setPerfCount s c v).out = s.out := by
  simp [setPerfCount]
@[simp] theorem setPerfCount_pending (s : State) (c v : Nat) : (setPerfCount s c v).pending = s.pending := by
  simp [setPerfCount]

@[simp] theorem perfOverflow_hs (s : State) (c : Nat) : (perfOverflow s c).hs = s.hs := by
  unfold perfOverflow; split <;> simp
@[simp] theorem perfOverflow_time (s : State) (c : Nat) : (perfOverflow s c).time = s.time := by
  unfold perfOverflow; split <;> simp
@[simp] theorem perfOverflow_ens (s : State) (c : Nat) : (perfOverflow s c).ens = s.ens := by
  unfold perfOverflow; split <;> simp
@[simp] theorem perfOverflow_clap (s : State) (c : Nat) : (perfOverflow s c).clap = s.clap := by
  unfold perfOverflow; split <;> simp
@[simp] theorem perfOverflow_loops (s : State) (c : Nat) : (perfOverflow s c).loops = s.loops := by
  unfold perfOverflow; split <;> simp
@[simp] theorem perfOverflow_outs (s : State) (c : Nat) : (perfOverflow s c).outs = s.outs := by
  unfold perfOverflow; split <;> simp
@[simp] theorem perfOverflow_cues (s : State) (c : Nat) : (perfOverflow s c).cues = s.cues := by
  unfold perfOverflow; split <;> simp
@[simp] theorem perfOverflow_gnss (s : State) (c : Nat) : (perfOverflow s c).gnss = s.gnss := by
  unfold perfOverflow; split <;> simp
@[simp] theorem perfOverflow_ports (s : State) (c : Nat) : (perfOverflow s c).ports = s.ports := by
  unfold perfOverflow; split <;> simp
@[simp] theorem perfOverflow_stv (s : State) (c : Nat) : (perfOverflow s c).stv = s.stv := by
  unfold perfOverflow; split <;> simp
@[simp] theorem perfOverflow_ptp (s : State) (c : Nat) : (perfOverflow s c).ptp = s.ptp := by
  unfold perfOverflow; split <;> simp
@[simp] theorem perfOverflow_ntp (s : State) (c : Nat) : (perfOverflow s c).ntp = s.ntp := by
  unfold perfOverflow; split <;> simp
@[simp] theorem perfOverflow_ran (s : State) (c : Nat) : (perfOverflow s c).ran = s.ran := by
  unfold perfOverflow; split <;> simp
@[simp] theorem perfOverflow_areas (s : State) (c : Nat) : (perfOverflow s c).areas = s.areas := by
  unfold perfOverflow; split <;> simp
@[simp] theorem perfOverflow_host (s : State) (c : Nat) : (perfOverflow s c).host = s.host := by
  unfold perfOverflow; split <;> simp
@[simp] theorem perfOverflow_gov (s : State) (c : Nat) : (perfOverflow s c).gov = s.gov := by
  unfold perfOverflow; split <;> simp
@[simp] theorem perfOverflow_log (s : State) (c : Nat) : (perfOverflow s c).log = s.log := by
  unfold perfOverflow; split <;> simp
@[simp] theorem perfOverflow_sheets (s : State) (c : Nat) : (perfOverflow s c).sheets = s.sheets := by
  unfold perfOverflow; split <;> simp
@[simp] theorem perfOverflow_fw (s : State) (c : Nat) : (perfOverflow s c).fw = s.fw := by
  unfold perfOverflow; split <;> simp
@[simp] theorem perfOverflow_perf (s : State) (c : Nat) : (perfOverflow s c).perf = s.perf := by
  unfold perfOverflow; split <;> simp
@[simp] theorem perfOverflow_wrap (s : State) (c : Nat) : (perfOverflow s c).wrap = s.wrap := by
  unfold perfOverflow; split <;> simp
@[simp] theorem perfOverflow_pwr (s : State) (c : Nat) : (perfOverflow s c).pwr = s.pwr := by
  unfold perfOverflow; split <;> simp
@[simp] theorem perfOverflow_ticks (s : State) (c : Nat) : (perfOverflow s c).ticks = s.ticks := by
  unfold perfOverflow; split <;> simp
@[simp] theorem perfOverflow_fresh (s : State) (c : Nat) : (perfOverflow s c).fresh = s.fresh := by
  unfold perfOverflow; split <;> simp
@[simp] theorem perfOverflow_out (s : State) (c : Nat) : (perfOverflow s c).out = s.out := by
  unfold perfOverflow; split <;> simp
@[simp] theorem perfOverflow_pending (s : State) (c : Nat) : (perfOverflow s c).pending = s.pending := by
  unfold perfOverflow; split <;> simp

@[simp] theorem perfPut_hs (s : State) (c v : Nat) : (perfPut s c v).hs = s.hs := by
  unfold perfPut; split <;> simp
@[simp] theorem perfPut_time (s : State) (c v : Nat) : (perfPut s c v).time = s.time := by
  unfold perfPut; split <;> simp
@[simp] theorem perfPut_ens (s : State) (c v : Nat) : (perfPut s c v).ens = s.ens := by
  unfold perfPut; split <;> simp
@[simp] theorem perfPut_clap (s : State) (c v : Nat) : (perfPut s c v).clap = s.clap := by
  unfold perfPut; split <;> simp
@[simp] theorem perfPut_loops (s : State) (c v : Nat) : (perfPut s c v).loops = s.loops := by
  unfold perfPut; split <;> simp
@[simp] theorem perfPut_outs (s : State) (c v : Nat) : (perfPut s c v).outs = s.outs := by
  unfold perfPut; split <;> simp
@[simp] theorem perfPut_cues (s : State) (c v : Nat) : (perfPut s c v).cues = s.cues := by
  unfold perfPut; split <;> simp
@[simp] theorem perfPut_gnss (s : State) (c v : Nat) : (perfPut s c v).gnss = s.gnss := by
  unfold perfPut; split <;> simp
@[simp] theorem perfPut_ports (s : State) (c v : Nat) : (perfPut s c v).ports = s.ports := by
  unfold perfPut; split <;> simp
@[simp] theorem perfPut_stv (s : State) (c v : Nat) : (perfPut s c v).stv = s.stv := by
  unfold perfPut; split <;> simp
@[simp] theorem perfPut_ptp (s : State) (c v : Nat) : (perfPut s c v).ptp = s.ptp := by
  unfold perfPut; split <;> simp
@[simp] theorem perfPut_ntp (s : State) (c v : Nat) : (perfPut s c v).ntp = s.ntp := by
  unfold perfPut; split <;> simp
@[simp] theorem perfPut_ran (s : State) (c v : Nat) : (perfPut s c v).ran = s.ran := by
  unfold perfPut; split <;> simp
@[simp] theorem perfPut_areas (s : State) (c v : Nat) : (perfPut s c v).areas = s.areas := by
  unfold perfPut; split <;> simp
@[simp] theorem perfPut_host (s : State) (c v : Nat) : (perfPut s c v).host = s.host := by
  unfold perfPut; split <;> simp
@[simp] theorem perfPut_gov (s : State) (c v : Nat) : (perfPut s c v).gov = s.gov := by
  unfold perfPut; split <;> simp
@[simp] theorem perfPut_log (s : State) (c v : Nat) : (perfPut s c v).log = s.log := by
  unfold perfPut; split <;> simp
@[simp] theorem perfPut_sheets (s : State) (c v : Nat) : (perfPut s c v).sheets = s.sheets := by
  unfold perfPut; split <;> simp
@[simp] theorem perfPut_fw (s : State) (c v : Nat) : (perfPut s c v).fw = s.fw := by
  unfold perfPut; split <;> simp
@[simp] theorem perfPut_wrap (s : State) (c v : Nat) : (perfPut s c v).wrap = s.wrap := by
  unfold perfPut; split <;> simp
@[simp] theorem perfPut_pwr (s : State) (c v : Nat) : (perfPut s c v).pwr = s.pwr := by
  unfold perfPut; split <;> simp
@[simp] theorem perfPut_ticks (s : State) (c v : Nat) : (perfPut s c v).ticks = s.ticks := by
  unfold perfPut; split <;> simp
@[simp] theorem perfPut_fresh (s : State) (c v : Nat) : (perfPut s c v).fresh = s.fresh := by
  unfold perfPut; split <;> simp
@[simp] theorem perfPut_out (s : State) (c v : Nat) : (perfPut s c v).out = s.out := by
  unfold perfPut; split <;> simp
@[simp] theorem perfPut_pending (s : State) (c v : Nat) : (perfPut s c v).pending = s.pending := by
  unfold perfPut; split <;> simp

@[simp] theorem perfBump1_hs (s : State) (c k : Nat) : (perfBump1 s c k).hs = s.hs := by
  simp [perfBump1]
@[simp] theorem perfBump1_time (s : State) (c k : Nat) : (perfBump1 s c k).time = s.time := by
  simp [perfBump1]
@[simp] theorem perfBump1_ens (s : State) (c k : Nat) : (perfBump1 s c k).ens = s.ens := by
  simp [perfBump1]
@[simp] theorem perfBump1_clap (s : State) (c k : Nat) : (perfBump1 s c k).clap = s.clap := by
  simp [perfBump1]
@[simp] theorem perfBump1_loops (s : State) (c k : Nat) : (perfBump1 s c k).loops = s.loops := by
  simp [perfBump1]
@[simp] theorem perfBump1_outs (s : State) (c k : Nat) : (perfBump1 s c k).outs = s.outs := by
  simp [perfBump1]
@[simp] theorem perfBump1_cues (s : State) (c k : Nat) : (perfBump1 s c k).cues = s.cues := by
  simp [perfBump1]
@[simp] theorem perfBump1_gnss (s : State) (c k : Nat) : (perfBump1 s c k).gnss = s.gnss := by
  simp [perfBump1]
@[simp] theorem perfBump1_ports (s : State) (c k : Nat) : (perfBump1 s c k).ports = s.ports := by
  simp [perfBump1]
@[simp] theorem perfBump1_stv (s : State) (c k : Nat) : (perfBump1 s c k).stv = s.stv := by
  simp [perfBump1]
@[simp] theorem perfBump1_ptp (s : State) (c k : Nat) : (perfBump1 s c k).ptp = s.ptp := by
  simp [perfBump1]
@[simp] theorem perfBump1_ntp (s : State) (c k : Nat) : (perfBump1 s c k).ntp = s.ntp := by
  simp [perfBump1]
@[simp] theorem perfBump1_ran (s : State) (c k : Nat) : (perfBump1 s c k).ran = s.ran := by
  simp [perfBump1]
@[simp] theorem perfBump1_areas (s : State) (c k : Nat) : (perfBump1 s c k).areas = s.areas := by
  simp [perfBump1]
@[simp] theorem perfBump1_host (s : State) (c k : Nat) : (perfBump1 s c k).host = s.host := by
  simp [perfBump1]
@[simp] theorem perfBump1_gov (s : State) (c k : Nat) : (perfBump1 s c k).gov = s.gov := by
  simp [perfBump1]
@[simp] theorem perfBump1_log (s : State) (c k : Nat) : (perfBump1 s c k).log = s.log := by
  simp [perfBump1]
@[simp] theorem perfBump1_sheets (s : State) (c k : Nat) : (perfBump1 s c k).sheets = s.sheets := by
  simp [perfBump1]
@[simp] theorem perfBump1_fw (s : State) (c k : Nat) : (perfBump1 s c k).fw = s.fw := by
  simp [perfBump1]
@[simp] theorem perfBump1_wrap (s : State) (c k : Nat) : (perfBump1 s c k).wrap = s.wrap := by
  simp [perfBump1]
@[simp] theorem perfBump1_pwr (s : State) (c k : Nat) : (perfBump1 s c k).pwr = s.pwr := by
  simp [perfBump1]
@[simp] theorem perfBump1_ticks (s : State) (c k : Nat) : (perfBump1 s c k).ticks = s.ticks := by
  simp [perfBump1]
@[simp] theorem perfBump1_fresh (s : State) (c k : Nat) : (perfBump1 s c k).fresh = s.fresh := by
  simp [perfBump1]
@[simp] theorem perfBump1_out (s : State) (c k : Nat) : (perfBump1 s c k).out = s.out := by
  simp [perfBump1]
@[simp] theorem perfBump1_pending (s : State) (c k : Nat) : (perfBump1 s c k).pending = s.pending := by
  simp [perfBump1]

@[simp] theorem perfPutLower_hs (s : State) (c v : Nat) : (perfPutLower s c v).hs = s.hs := by
  unfold perfPutLower; split <;> simp
@[simp] theorem perfPutLower_time (s : State) (c v : Nat) : (perfPutLower s c v).time = s.time := by
  unfold perfPutLower; split <;> simp
@[simp] theorem perfPutLower_ens (s : State) (c v : Nat) : (perfPutLower s c v).ens = s.ens := by
  unfold perfPutLower; split <;> simp
@[simp] theorem perfPutLower_clap (s : State) (c v : Nat) : (perfPutLower s c v).clap = s.clap := by
  unfold perfPutLower; split <;> simp
@[simp] theorem perfPutLower_loops (s : State) (c v : Nat) : (perfPutLower s c v).loops = s.loops := by
  unfold perfPutLower; split <;> simp
@[simp] theorem perfPutLower_outs (s : State) (c v : Nat) : (perfPutLower s c v).outs = s.outs := by
  unfold perfPutLower; split <;> simp
@[simp] theorem perfPutLower_cues (s : State) (c v : Nat) : (perfPutLower s c v).cues = s.cues := by
  unfold perfPutLower; split <;> simp
@[simp] theorem perfPutLower_gnss (s : State) (c v : Nat) : (perfPutLower s c v).gnss = s.gnss := by
  unfold perfPutLower; split <;> simp
@[simp] theorem perfPutLower_ports (s : State) (c v : Nat) : (perfPutLower s c v).ports = s.ports := by
  unfold perfPutLower; split <;> simp
@[simp] theorem perfPutLower_stv (s : State) (c v : Nat) : (perfPutLower s c v).stv = s.stv := by
  unfold perfPutLower; split <;> simp
@[simp] theorem perfPutLower_ptp (s : State) (c v : Nat) : (perfPutLower s c v).ptp = s.ptp := by
  unfold perfPutLower; split <;> simp
@[simp] theorem perfPutLower_ntp (s : State) (c v : Nat) : (perfPutLower s c v).ntp = s.ntp := by
  unfold perfPutLower; split <;> simp
@[simp] theorem perfPutLower_ran (s : State) (c v : Nat) : (perfPutLower s c v).ran = s.ran := by
  unfold perfPutLower; split <;> simp
@[simp] theorem perfPutLower_areas (s : State) (c v : Nat) : (perfPutLower s c v).areas = s.areas := by
  unfold perfPutLower; split <;> simp
@[simp] theorem perfPutLower_host (s : State) (c v : Nat) : (perfPutLower s c v).host = s.host := by
  unfold perfPutLower; split <;> simp
@[simp] theorem perfPutLower_gov (s : State) (c v : Nat) : (perfPutLower s c v).gov = s.gov := by
  unfold perfPutLower; split <;> simp
@[simp] theorem perfPutLower_log (s : State) (c v : Nat) : (perfPutLower s c v).log = s.log := by
  unfold perfPutLower; split <;> simp
@[simp] theorem perfPutLower_sheets (s : State) (c v : Nat) : (perfPutLower s c v).sheets = s.sheets := by
  unfold perfPutLower; split <;> simp
@[simp] theorem perfPutLower_fw (s : State) (c v : Nat) : (perfPutLower s c v).fw = s.fw := by
  unfold perfPutLower; split <;> simp
@[simp] theorem perfPutLower_wrap (s : State) (c v : Nat) : (perfPutLower s c v).wrap = s.wrap := by
  unfold perfPutLower; split <;> simp
@[simp] theorem perfPutLower_pwr (s : State) (c v : Nat) : (perfPutLower s c v).pwr = s.pwr := by
  unfold perfPutLower; split <;> simp
@[simp] theorem perfPutLower_ticks (s : State) (c v : Nat) : (perfPutLower s c v).ticks = s.ticks := by
  unfold perfPutLower; split <;> simp
@[simp] theorem perfPutLower_fresh (s : State) (c v : Nat) : (perfPutLower s c v).fresh = s.fresh := by
  unfold perfPutLower; split <;> simp
@[simp] theorem perfPutLower_out (s : State) (c v : Nat) : (perfPutLower s c v).out = s.out := by
  unfold perfPutLower; split <;> simp
@[simp] theorem perfPutLower_pending (s : State) (c v : Nat) : (perfPutLower s c v).pending = s.pending := by
  unfold perfPutLower; split <;> simp

@[simp] theorem perfBump_hs (s : State) (c k : Nat) : (perfBump s c k).hs = s.hs := by
  unfold perfBump; split <;> simp
@[simp] theorem perfBump_time (s : State) (c k : Nat) : (perfBump s c k).time = s.time := by
  unfold perfBump; split <;> simp
@[simp] theorem perfBump_ens (s : State) (c k : Nat) : (perfBump s c k).ens = s.ens := by
  unfold perfBump; split <;> simp
@[simp] theorem perfBump_clap (s : State) (c k : Nat) : (perfBump s c k).clap = s.clap := by
  unfold perfBump; split <;> simp
@[simp] theorem perfBump_loops (s : State) (c k : Nat) : (perfBump s c k).loops = s.loops := by
  unfold perfBump; split <;> simp
@[simp] theorem perfBump_outs (s : State) (c k : Nat) : (perfBump s c k).outs = s.outs := by
  unfold perfBump; split <;> simp
@[simp] theorem perfBump_cues (s : State) (c k : Nat) : (perfBump s c k).cues = s.cues := by
  unfold perfBump; split <;> simp
@[simp] theorem perfBump_gnss (s : State) (c k : Nat) : (perfBump s c k).gnss = s.gnss := by
  unfold perfBump; split <;> simp
@[simp] theorem perfBump_ports (s : State) (c k : Nat) : (perfBump s c k).ports = s.ports := by
  unfold perfBump; split <;> simp
@[simp] theorem perfBump_stv (s : State) (c k : Nat) : (perfBump s c k).stv = s.stv := by
  unfold perfBump; split <;> simp
@[simp] theorem perfBump_ptp (s : State) (c k : Nat) : (perfBump s c k).ptp = s.ptp := by
  unfold perfBump; split <;> simp
@[simp] theorem perfBump_ntp (s : State) (c k : Nat) : (perfBump s c k).ntp = s.ntp := by
  unfold perfBump; split <;> simp
@[simp] theorem perfBump_ran (s : State) (c k : Nat) : (perfBump s c k).ran = s.ran := by
  unfold perfBump; split <;> simp
@[simp] theorem perfBump_areas (s : State) (c k : Nat) : (perfBump s c k).areas = s.areas := by
  unfold perfBump; split <;> simp
@[simp] theorem perfBump_host (s : State) (c k : Nat) : (perfBump s c k).host = s.host := by
  unfold perfBump; split <;> simp
@[simp] theorem perfBump_gov (s : State) (c k : Nat) : (perfBump s c k).gov = s.gov := by
  unfold perfBump; split <;> simp
@[simp] theorem perfBump_log (s : State) (c k : Nat) : (perfBump s c k).log = s.log := by
  unfold perfBump; split <;> simp
@[simp] theorem perfBump_sheets (s : State) (c k : Nat) : (perfBump s c k).sheets = s.sheets := by
  unfold perfBump; split <;> simp
@[simp] theorem perfBump_fw (s : State) (c k : Nat) : (perfBump s c k).fw = s.fw := by
  unfold perfBump; split <;> simp
@[simp] theorem perfBump_wrap (s : State) (c k : Nat) : (perfBump s c k).wrap = s.wrap := by
  unfold perfBump; split <;> simp
@[simp] theorem perfBump_pwr (s : State) (c k : Nat) : (perfBump s c k).pwr = s.pwr := by
  unfold perfBump; split <;> simp
@[simp] theorem perfBump_ticks (s : State) (c k : Nat) : (perfBump s c k).ticks = s.ticks := by
  unfold perfBump; split <;> simp
@[simp] theorem perfBump_fresh (s : State) (c k : Nat) : (perfBump s c k).fresh = s.fresh := by
  unfold perfBump; split <;> simp
@[simp] theorem perfBump_out (s : State) (c k : Nat) : (perfBump s c k).out = s.out := by
  unfold perfBump; split <;> simp
@[simp] theorem perfBump_pending (s : State) (c k : Nat) : (perfBump s c k).pending = s.pending := by
  unfold perfBump; split <;> simp

@[simp] theorem perf_hs (s : State) (ev i k : Nat) : (perf s ev i k).hs = s.hs := by
  unfold perf
  split
  · exact foldl_keeps (fun t => t.hs) _ (fun t x => by split <;> simp) _ _
  · rfl
@[simp] theorem perf_time (s : State) (ev i k : Nat) : (perf s ev i k).time = s.time := by
  unfold perf
  split
  · exact foldl_keeps (fun t => t.time) _ (fun t x => by split <;> simp) _ _
  · rfl
@[simp] theorem perf_ens (s : State) (ev i k : Nat) : (perf s ev i k).ens = s.ens := by
  unfold perf
  split
  · exact foldl_keeps (fun t => t.ens) _ (fun t x => by split <;> simp) _ _
  · rfl
@[simp] theorem perf_clap (s : State) (ev i k : Nat) : (perf s ev i k).clap = s.clap := by
  unfold perf
  split
  · exact foldl_keeps (fun t => t.clap) _ (fun t x => by split <;> simp) _ _
  · rfl
@[simp] theorem perf_loops (s : State) (ev i k : Nat) : (perf s ev i k).loops = s.loops := by
  unfold perf
  split
  · exact foldl_keeps (fun t => t.loops) _ (fun t x => by split <;> simp) _ _
  · rfl
@[simp] theorem perf_outs (s : State) (ev i k : Nat) : (perf s ev i k).outs = s.outs := by
  unfold perf
  split
  · exact foldl_keeps (fun t => t.outs) _ (fun t x => by split <;> simp) _ _
  · rfl
@[simp] theorem perf_cues (s : State) (ev i k : Nat) : (perf s ev i k).cues = s.cues := by
  unfold perf
  split
  · exact foldl_keeps (fun t => t.cues) _ (fun t x => by split <;> simp) _ _
  · rfl
@[simp] theorem perf_gnss (s : State) (ev i k : Nat) : (perf s ev i k).gnss = s.gnss := by
  unfold perf
  split
  · exact foldl_keeps (fun t => t.gnss) _ (fun t x => by split <;> simp) _ _
  · rfl
@[simp] theorem perf_ports (s : State) (ev i k : Nat) : (perf s ev i k).ports = s.ports := by
  unfold perf
  split
  · exact foldl_keeps (fun t => t.ports) _ (fun t x => by split <;> simp) _ _
  · rfl
@[simp] theorem perf_stv (s : State) (ev i k : Nat) : (perf s ev i k).stv = s.stv := by
  unfold perf
  split
  · exact foldl_keeps (fun t => t.stv) _ (fun t x => by split <;> simp) _ _
  · rfl
@[simp] theorem perf_ptp (s : State) (ev i k : Nat) : (perf s ev i k).ptp = s.ptp := by
  unfold perf
  split
  · exact foldl_keeps (fun t => t.ptp) _ (fun t x => by split <;> simp) _ _
  · rfl
@[simp] theorem perf_ntp (s : State) (ev i k : Nat) : (perf s ev i k).ntp = s.ntp := by
  unfold perf
  split
  · exact foldl_keeps (fun t => t.ntp) _ (fun t x => by split <;> simp) _ _
  · rfl
@[simp] theorem perf_ran (s : State) (ev i k : Nat) : (perf s ev i k).ran = s.ran := by
  unfold perf
  split
  · exact foldl_keeps (fun t => t.ran) _ (fun t x => by split <;> simp) _ _
  · rfl
@[simp] theorem perf_areas (s : State) (ev i k : Nat) : (perf s ev i k).areas = s.areas := by
  unfold perf
  split
  · exact foldl_keeps (fun t => t.areas) _ (fun t x => by split <;> simp) _ _
  · rfl
@[simp] theorem perf_host (s : State) (ev i k : Nat) : (perf s ev i k).host = s.host := by
  unfold perf
  split
  · exact foldl_keeps (fun t => t.host) _ (fun t x => by split <;> simp) _ _
  · rfl
@[simp] theorem perf_gov (s : State) (ev i k : Nat) : (perf s ev i k).gov = s.gov := by
  unfold perf
  split
  · exact foldl_keeps (fun t => t.gov) _ (fun t x => by split <;> simp) _ _
  · rfl
@[simp] theorem perf_log (s : State) (ev i k : Nat) : (perf s ev i k).log = s.log := by
  unfold perf
  split
  · exact foldl_keeps (fun t => t.log) _ (fun t x => by split <;> simp) _ _
  · rfl
@[simp] theorem perf_sheets (s : State) (ev i k : Nat) : (perf s ev i k).sheets = s.sheets := by
  unfold perf
  split
  · exact foldl_keeps (fun t => t.sheets) _ (fun t x => by split <;> simp) _ _
  · rfl
@[simp] theorem perf_fw (s : State) (ev i k : Nat) : (perf s ev i k).fw = s.fw := by
  unfold perf
  split
  · exact foldl_keeps (fun t => t.fw) _ (fun t x => by split <;> simp) _ _
  · rfl
@[simp] theorem perf_wrap (s : State) (ev i k : Nat) : (perf s ev i k).wrap = s.wrap := by
  unfold perf
  split
  · exact foldl_keeps (fun t => t.wrap) _ (fun t x => by split <;> simp) _ _
  · rfl
@[simp] theorem perf_pwr (s : State) (ev i k : Nat) : (perf s ev i k).pwr = s.pwr := by
  unfold perf
  split
  · exact foldl_keeps (fun t => t.pwr) _ (fun t x => by split <;> simp) _ _
  · rfl
@[simp] theorem perf_ticks (s : State) (ev i k : Nat) : (perf s ev i k).ticks = s.ticks := by
  unfold perf
  split
  · exact foldl_keeps (fun t => t.ticks) _ (fun t x => by split <;> simp) _ _
  · rfl
@[simp] theorem perf_fresh (s : State) (ev i k : Nat) : (perf s ev i k).fresh = s.fresh := by
  unfold perf
  split
  · exact foldl_keeps (fun t => t.fresh) _ (fun t x => by split <;> simp) _ _
  · rfl
@[simp] theorem perf_out (s : State) (ev i k : Nat) : (perf s ev i k).out = s.out := by
  unfold perf
  split
  · exact foldl_keeps (fun t => t.out) _ (fun t x => by split <;> simp) _ _
  · rfl
@[simp] theorem perf_pending (s : State) (ev i k : Nat) : (perf s ev i k).pending = s.pending := by
  unfold perf
  split
  · exact foldl_keeps (fun t => t.pending) _ (fun t x => by split <;> simp) _ _
  · rfl

@[simp] theorem violation_hs (s : State) : (violation s).hs = s.hs := by
  simp [violation]
@[simp] theorem violation_time (s : State) : (violation s).time = s.time := by
  simp [violation]
@[simp] theorem violation_ens (s : State) : (violation s).ens = s.ens := by
  simp [violation]
@[simp] theorem violation_clap (s : State) : (violation s).clap = s.clap := by
  simp [violation]
@[simp] theorem violation_loops (s : State) : (violation s).loops = s.loops := by
  simp [violation]
@[simp] theorem violation_outs (s : State) : (violation s).outs = s.outs := by
  simp [violation]
@[simp] theorem violation_cues (s : State) : (violation s).cues = s.cues := by
  simp [violation]
@[simp] theorem violation_gnss (s : State) : (violation s).gnss = s.gnss := by
  simp [violation]
@[simp] theorem violation_ports (s : State) : (violation s).ports = s.ports := by
  simp [violation]
@[simp] theorem violation_stv (s : State) : (violation s).stv = s.stv := by
  simp [violation]
@[simp] theorem violation_ptp (s : State) : (violation s).ptp = s.ptp := by
  simp [violation]
@[simp] theorem violation_ntp (s : State) : (violation s).ntp = s.ntp := by
  simp [violation]
@[simp] theorem violation_ran (s : State) : (violation s).ran = s.ran := by
  simp [violation]
@[simp] theorem violation_areas (s : State) : (violation s).areas = s.areas := by
  simp [violation]
@[simp] theorem violation_host (s : State) : (violation s).host = s.host := by
  simp [violation]
@[simp] theorem violation_gov (s : State) : (violation s).gov = s.gov := by
  simp [violation]
@[simp] theorem violation_log (s : State) : (violation s).log = s.log := by
  simp [violation]
@[simp] theorem violation_sheets (s : State) : (violation s).sheets = s.sheets := by
  simp [violation]
@[simp] theorem violation_fw (s : State) : (violation s).fw = s.fw := by
  simp [violation]
@[simp] theorem violation_wrap (s : State) : (violation s).wrap = s.wrap := by
  simp [violation]
@[simp] theorem violation_pwr (s : State) : (violation s).pwr = s.pwr := by
  simp [violation]
@[simp] theorem violation_ticks (s : State) : (violation s).ticks = s.ticks := by
  simp [violation]
@[simp] theorem violation_fresh (s : State) : (violation s).fresh = s.fresh := by
  simp [violation]
@[simp] theorem violation_out (s : State) : (violation s).out = s.out := by
  simp [violation]
@[simp] theorem violation_pending (s : State) : (violation s).pending = s.pending := by
  simp [violation]

@[simp] theorem cplStep_hs (s : State) (r : Nat) : (cplStep s r).hs = s.hs := by
  simp only [cplStep]; split <;> simp
@[simp] theorem cplStep_time (s : State) (r : Nat) : (cplStep s r).time = s.time := by
  simp only [cplStep]; split <;> simp
@[simp] theorem cplStep_ens (s : State) (r : Nat) : (cplStep s r).ens = s.ens := by
  simp only [cplStep]; split <;> simp
@[simp] theorem cplStep_clap (s : State) (r : Nat) : (cplStep s r).clap = s.clap := by
  simp only [cplStep]; split <;> simp
@[simp] theorem cplStep_loops (s : State) (r : Nat) : (cplStep s r).loops = s.loops := by
  simp only [cplStep]; split <;> simp
@[simp] theorem cplStep_outs (s : State) (r : Nat) : (cplStep s r).outs = s.outs := by
  simp only [cplStep]; split <;> simp
@[simp] theorem cplStep_cues (s : State) (r : Nat) : (cplStep s r).cues = s.cues := by
  simp only [cplStep]; split <;> simp
@[simp] theorem cplStep_gnss (s : State) (r : Nat) : (cplStep s r).gnss = s.gnss := by
  simp only [cplStep]; split <;> simp
@[simp] theorem cplStep_ports (s : State) (r : Nat) : (cplStep s r).ports = s.ports := by
  simp only [cplStep]; split <;> simp
@[simp] theorem cplStep_stv (s : State) (r : Nat) : (cplStep s r).stv = s.stv := by
  simp only [cplStep]; split <;> simp
@[simp] theorem cplStep_ptp (s : State) (r : Nat) : (cplStep s r).ptp = s.ptp := by
  simp only [cplStep]; split <;> simp
@[simp] theorem cplStep_ntp (s : State) (r : Nat) : (cplStep s r).ntp = s.ntp := by
  simp only [cplStep]; split <;> simp
@[simp] theorem cplStep_ran (s : State) (r : Nat) : (cplStep s r).ran = s.ran := by
  simp only [cplStep]; split <;> simp
@[simp] theorem cplStep_areas (s : State) (r : Nat) : (cplStep s r).areas = s.areas := by
  simp only [cplStep]; split <;> simp
@[simp] theorem cplStep_gov (s : State) (r : Nat) : (cplStep s r).gov = s.gov := by
  simp only [cplStep]; split <;> simp
@[simp] theorem cplStep_log (s : State) (r : Nat) : (cplStep s r).log = s.log := by
  simp only [cplStep]; split <;> simp
@[simp] theorem cplStep_sheets (s : State) (r : Nat) : (cplStep s r).sheets = s.sheets := by
  simp only [cplStep]; split <;> simp
@[simp] theorem cplStep_fw (s : State) (r : Nat) : (cplStep s r).fw = s.fw := by
  simp only [cplStep]; split <;> simp
@[simp] theorem cplStep_perf (s : State) (r : Nat) : (cplStep s r).perf = s.perf := by
  simp only [cplStep]; split <;> simp
@[simp] theorem cplStep_wrap (s : State) (r : Nat) : (cplStep s r).wrap = s.wrap := by
  simp only [cplStep]; split <;> simp
@[simp] theorem cplStep_pwr (s : State) (r : Nat) : (cplStep s r).pwr = s.pwr := by
  simp only [cplStep]; split <;> simp
@[simp] theorem cplStep_ticks (s : State) (r : Nat) : (cplStep s r).ticks = s.ticks := by
  simp only [cplStep]; split <;> simp
@[simp] theorem cplStep_fresh (s : State) (r : Nat) : (cplStep s r).fresh = s.fresh := by
  simp only [cplStep]; split <;> simp
@[simp] theorem cplStep_out (s : State) (r : Nat) : (cplStep s r).out = s.out := by
  simp only [cplStep]; split <;> simp
@[simp] theorem cplStep_pending (s : State) (r : Nat) : (cplStep s r).pending = s.pending := by
  simp only [cplStep]; split <;> simp

@[simp] theorem cplWrite1_hs (s : State) (r : Nat) (e : CplEntry) : (cplWrite1 s r e).hs = s.hs := by
  simp [cplWrite1]
@[simp] theorem cplWrite1_time (s : State) (r : Nat) (e : CplEntry) : (cplWrite1 s r e).time = s.time := by
  simp [cplWrite1]
@[simp] theorem cplWrite1_ens (s : State) (r : Nat) (e : CplEntry) : (cplWrite1 s r e).ens = s.ens := by
  simp [cplWrite1]
@[simp] theorem cplWrite1_clap (s : State) (r : Nat) (e : CplEntry) : (cplWrite1 s r e).clap = s.clap := by
  simp [cplWrite1]
@[simp] theorem cplWrite1_loops (s : State) (r : Nat) (e : CplEntry) : (cplWrite1 s r e).loops = s.loops := by
  simp [cplWrite1]
@[simp] theorem cplWrite1_outs (s : State) (r : Nat) (e : CplEntry) : (cplWrite1 s r e).outs = s.outs := by
  simp [cplWrite1]
@[simp] theorem cplWrite1_cues (s : State) (r : Nat) (e : CplEntry) : (cplWrite1 s r e).cues = s.cues := by
  simp [cplWrite1]
@[simp] theorem cplWrite1_gnss (s : State) (r : Nat) (e : CplEntry) : (cplWrite1 s r e).gnss = s.gnss := by
  simp [cplWrite1]
@[simp] theorem cplWrite1_ports (s : State) (r : Nat) (e : CplEntry) : (cplWrite1 s r e).ports = s.ports := by
  simp [cplWrite1]
@[simp] theorem cplWrite1_stv (s : State) (r : Nat) (e : CplEntry) : (cplWrite1 s r e).stv = s.stv := by
  simp [cplWrite1]
@[simp] theorem cplWrite1_ptp (s : State) (r : Nat) (e : CplEntry) : (cplWrite1 s r e).ptp = s.ptp := by
  simp [cplWrite1]
@[simp] theorem cplWrite1_ntp (s : State) (r : Nat) (e : CplEntry) : (cplWrite1 s r e).ntp = s.ntp := by
  simp [cplWrite1]
@[simp] theorem cplWrite1_ran (s : State) (r : Nat) (e : CplEntry) : (cplWrite1 s r e).ran = s.ran := by
  simp [cplWrite1]
@[simp] theorem cplWrite1_areas (s : State) (r : Nat) (e : CplEntry) : (cplWrite1 s r e).areas = s.areas := by
  simp [cplWrite1]
@[simp] theorem cplWrite1_gov (s : State) (r : Nat) (e : CplEntry) : (cplWrite1 s r e).gov = s.gov := by
  simp [cplWrite1]
@[simp] theorem cplWrite1_log (s : State) (r : Nat) (e : CplEntry) : (cplWrite1 s r e).log = s.log := by
  simp [cplWrite1]
@[simp] theorem cplWrite1_sheets (s : State) (r : Nat) (e : CplEntry) : (cplWrite1 s r e).sheets = s.sheets := by
  simp [cplWrite1]
@[simp] theorem cplWrite1_fw (s : State) (r : Nat) (e : CplEntry) : (cplWrite1 s r e).fw = s.fw := by
  simp [cplWrite1]
@[simp] theorem cplWrite1_perf (s : State) (r : Nat) (e : CplEntry) : (cplWrite1 s r e).perf = s.perf := by
  simp [cplWrite1]
@[simp] theorem cplWrite1_wrap (s : State) (r : Nat) (e : CplEntry) : (cplWrite1 s r e).wrap = s.wrap := by
  simp [cplWrite1]
@[simp] theorem cplWrite1_pwr (s : State) (r : Nat) (e : CplEntry) : (cplWrite1 s r e).pwr = s.pwr := by
  simp [cplWrite1]
@[simp] theorem cplWrite1_ticks (s : State) (r : Nat) (e : CplEntry) : (cplWrite1 s r e).ticks = s.ticks := by
  simp [cplWrite1]
@[simp] theorem cplWrite1_fresh (s : State) (r : Nat) (e : CplEntry) : (cplWrite1 s r e).fresh = s.fresh := by
  simp [cplWrite1]
@[simp] theorem cplWrite1_pending (s : State) (r : Nat) (e : CplEntry) : (cplWrite1 s r e).pending = s.pending := by
  simp [cplWrite1]

@[simp] theorem cplWrite_hs (s : State) (r : Nat) (e : CplEntry) : (cplWrite s r e).hs = s.hs := by
  unfold cplWrite; split <;> (try split) <;> simp
@[simp] theorem cplWrite_time (s : State) (r : Nat) (e : CplEntry) : (cplWrite s r e).time = s.time := by
  unfold cplWrite; split <;> (try split) <;> simp
@[simp] theorem cplWrite_ens (s : State) (r : Nat) (e : CplEntry) : (cplWrite s r e).ens = s.ens := by
  unfold cplWrite; split <;> (try split) <;> simp
@[simp] theorem cplWrite_clap (s : State) (r : Nat) (e : CplEntry) : (cplWrite s r e).clap = s.clap := by
  unfold cplWrite; split <;> (try split) <;> simp
@[simp] theorem cplWrite_loops (s : State) (r : Nat) (e : CplEntry) : (cplWrite s r e).loops = s.loops := by
  unfold cplWrite; split <;> (try split) <;> simp
@[simp] theorem cplWrite_outs (s : State) (r : Nat) (e : CplEntry) : (cplWrite s r e).outs = s.outs := by
  unfold cplWrite; split <;> (try split) <;> simp
@[simp] theorem cplWrite_cues (s : State) (r : Nat) (e : CplEntry) : (cplWrite s r e).cues = s.cues := by
  unfold cplWrite; split <;> (try split) <;> simp
@[simp] theorem cplWrite_gnss (s : State) (r : Nat) (e : CplEntry) : (cplWrite s r e).gnss = s.gnss := by
  unfold cplWrite; split <;> (try split) <;> simp
@[simp] theorem cplWrite_ports (s : State) (r : Nat) (e : CplEntry) : (cplWrite s r e).ports = s.ports := by
  unfold cplWrite; split <;> (try split) <;> simp
@[simp] theorem cplWrite_stv (s : State) (r : Nat) (e : CplEntry) : (cplWrite s r e).stv = s.stv := by
  unfold cplWrite; split <;> (try split) <;> simp
@[simp] theorem cplWrite_ptp (s : State) (r : Nat) (e : CplEntry) : (cplWrite s r e).ptp = s.ptp := by
  unfold cplWrite; split <;> (try split) <;> simp
@[simp] theorem cplWrite_ntp (s : State) (r : Nat) (e : CplEntry) : (cplWrite s r e).ntp = s.ntp := by
  unfold cplWrite; split <;> (try split) <;> simp
@[simp] theorem cplWrite_ran (s : State) (r : Nat) (e : CplEntry) : (cplWrite s r e).ran = s.ran := by
  unfold cplWrite; split <;> (try split) <;> simp
@[simp] theorem cplWrite_areas (s : State) (r : Nat) (e : CplEntry) : (cplWrite s r e).areas = s.areas := by
  unfold cplWrite; split <;> (try split) <;> simp
@[simp] theorem cplWrite_gov (s : State) (r : Nat) (e : CplEntry) : (cplWrite s r e).gov = s.gov := by
  unfold cplWrite; split <;> (try split) <;> simp
@[simp] theorem cplWrite_log (s : State) (r : Nat) (e : CplEntry) : (cplWrite s r e).log = s.log := by
  unfold cplWrite; split <;> (try split) <;> simp
@[simp] theorem cplWrite_sheets (s : State) (r : Nat) (e : CplEntry) : (cplWrite s r e).sheets = s.sheets := by
  unfold cplWrite; split <;> (try split) <;> simp
@[simp] theorem cplWrite_fw (s : State) (r : Nat) (e : CplEntry) : (cplWrite s r e).fw = s.fw := by
  unfold cplWrite; split <;> (try split) <;> simp
@[simp] theorem cplWrite_perf (s : State) (r : Nat) (e : CplEntry) : (cplWrite s r e).perf = s.perf := by
  unfold cplWrite; split <;> (try split) <;> simp
@[simp] theorem cplWrite_wrap (s : State) (r : Nat) (e : CplEntry) : (cplWrite s r e).wrap = s.wrap := by
  unfold cplWrite; split <;> (try split) <;> simp
@[simp] theorem cplWrite_pwr (s : State) (r : Nat) (e : CplEntry) : (cplWrite s r e).pwr = s.pwr := by
  unfold cplWrite; split <;> (try split) <;> simp
@[simp] theorem cplWrite_ticks (s : State) (r : Nat) (e : CplEntry) : (cplWrite s r e).ticks = s.ticks := by
  unfold cplWrite; split <;> (try split) <;> simp
@[simp] theorem cplWrite_fresh (s : State) (r : Nat) (e : CplEntry) : (cplWrite s r e).fresh = s.fresh := by
  unfold cplWrite; split <;> (try split) <;> simp
@[simp] theorem cplWrite_pending (s : State) (r : Nat) (e : CplEntry) : (cplWrite s r e).pending = s.pending := by
  unfold cplWrite; split <;> (try split) <;> simp

@[simp] theorem postTo_hs (s : State) (r c : Nat) (d : Layout) (x : Slate) (n : Nat) : (postTo s r c d x n).hs = s.hs := by
  unfold postTo; split <;> simp
@[simp] theorem postTo_ens (s : State) (r c : Nat) (d : Layout) (x : Slate) (n : Nat) : (postTo s r c d x n).ens = s.ens := by
  unfold postTo; split <;> simp
@[simp] theorem postTo_clap (s : State) (r c : Nat) (d : Layout) (x : Slate) (n : Nat) : (postTo s r c d x n).clap = s.clap := by
  unfold postTo; split <;> simp
@[simp] theorem postTo_loops (s : State) (r c : Nat) (d : Layout) (x : Slate) (n : Nat) : (postTo s r c d x n).loops = s.loops := by
  unfold postTo; split <;> simp
@[simp] theorem postTo_outs (s : State) (r c : Nat) (d : Layout) (x : Slate) (n : Nat) : (postTo s r c d x n).outs = s.outs := by
  unfold postTo; split <;> simp
@[simp] theorem postTo_cues (s : State) (r c : Nat) (d : Layout) (x : Slate) (n : Nat) : (postTo s r c d x n).cues = s.cues := by
  unfold postTo; split <;> simp
@[simp] theorem postTo_gnss (s : State) (r c : Nat) (d : Layout) (x : Slate) (n : Nat) : (postTo s r c d x n).gnss = s.gnss := by
  unfold postTo; split <;> simp
@[simp] theorem postTo_ports (s : State) (r c : Nat) (d : Layout) (x : Slate) (n : Nat) : (postTo s r c d x n).ports = s.ports := by
  unfold postTo; split <;> simp
@[simp] theorem postTo_stv (s : State) (r c : Nat) (d : Layout) (x : Slate) (n : Nat) : (postTo s r c d x n).stv = s.stv := by
  unfold postTo; split <;> simp
@[simp] theorem postTo_ptp (s : State) (r c : Nat) (d : Layout) (x : Slate) (n : Nat) : (postTo s r c d x n).ptp = s.ptp := by
  unfold postTo; split <;> simp
@[simp] theorem postTo_ntp (s : State) (r c : Nat) (d : Layout) (x : Slate) (n : Nat) : (postTo s r c d x n).ntp = s.ntp := by
  unfold postTo; split <;> simp
@[simp] theorem postTo_ran (s : State) (r c : Nat) (d : Layout) (x : Slate) (n : Nat) : (postTo s r c d x n).ran = s.ran := by
  unfold postTo; split <;> simp
@[simp] theorem postTo_areas (s : State) (r c : Nat) (d : Layout) (x : Slate) (n : Nat) : (postTo s r c d x n).areas = s.areas := by
  unfold postTo; split <;> simp
@[simp] theorem postTo_gov (s : State) (r c : Nat) (d : Layout) (x : Slate) (n : Nat) : (postTo s r c d x n).gov = s.gov := by
  unfold postTo; split <;> simp
@[simp] theorem postTo_log (s : State) (r c : Nat) (d : Layout) (x : Slate) (n : Nat) : (postTo s r c d x n).log = s.log := by
  unfold postTo; split <;> simp
@[simp] theorem postTo_sheets (s : State) (r c : Nat) (d : Layout) (x : Slate) (n : Nat) : (postTo s r c d x n).sheets = s.sheets := by
  unfold postTo; split <;> simp
@[simp] theorem postTo_fw (s : State) (r c : Nat) (d : Layout) (x : Slate) (n : Nat) : (postTo s r c d x n).fw = s.fw := by
  unfold postTo; split <;> simp
@[simp] theorem postTo_perf (s : State) (r c : Nat) (d : Layout) (x : Slate) (n : Nat) : (postTo s r c d x n).perf = s.perf := by
  unfold postTo; split <;> simp
@[simp] theorem postTo_wrap (s : State) (r c : Nat) (d : Layout) (x : Slate) (n : Nat) : (postTo s r c d x n).wrap = s.wrap := by
  unfold postTo; split <;> simp
@[simp] theorem postTo_pwr (s : State) (r c : Nat) (d : Layout) (x : Slate) (n : Nat) : (postTo s r c d x n).pwr = s.pwr := by
  unfold postTo; split <;> simp
@[simp] theorem postTo_ticks (s : State) (r c : Nat) (d : Layout) (x : Slate) (n : Nat) : (postTo s r c d x n).ticks = s.ticks := by
  unfold postTo; split <;> simp
@[simp] theorem postTo_fresh (s : State) (r c : Nat) (d : Layout) (x : Slate) (n : Nat) : (postTo s r c d x n).fresh = s.fresh := by
  unfold postTo; split <;> simp
@[simp] theorem postTo_pending (s : State) (r c : Nat) (d : Layout) (x : Slate) (n : Nat) : (postTo s r c d x n).pending = s.pending := by
  unfold postTo; split <;> simp

@[simp] theorem notice_hs (s : State) (r c : Nat) (d : Layout) : (notice s r c d).hs = s.hs := by
  simp [notice]
@[simp] theorem notice_ens (s : State) (r c : Nat) (d : Layout) : (notice s r c d).ens = s.ens := by
  simp [notice]
@[simp] theorem notice_clap (s : State) (r c : Nat) (d : Layout) : (notice s r c d).clap = s.clap := by
  simp [notice]
@[simp] theorem notice_loops (s : State) (r c : Nat) (d : Layout) : (notice s r c d).loops = s.loops := by
  simp [notice]
@[simp] theorem notice_outs (s : State) (r c : Nat) (d : Layout) : (notice s r c d).outs = s.outs := by
  simp [notice]
@[simp] theorem notice_cues (s : State) (r c : Nat) (d : Layout) : (notice s r c d).cues = s.cues := by
  simp [notice]
@[simp] theorem notice_gnss (s : State) (r c : Nat) (d : Layout) : (notice s r c d).gnss = s.gnss := by
  simp [notice]
@[simp] theorem notice_ports (s : State) (r c : Nat) (d : Layout) : (notice s r c d).ports = s.ports := by
  simp [notice]
@[simp] theorem notice_stv (s : State) (r c : Nat) (d : Layout) : (notice s r c d).stv = s.stv := by
  simp [notice]
@[simp] theorem notice_ptp (s : State) (r c : Nat) (d : Layout) : (notice s r c d).ptp = s.ptp := by
  simp [notice]
@[simp] theorem notice_ntp (s : State) (r c : Nat) (d : Layout) : (notice s r c d).ntp = s.ntp := by
  simp [notice]
@[simp] theorem notice_ran (s : State) (r c : Nat) (d : Layout) : (notice s r c d).ran = s.ran := by
  simp [notice]
@[simp] theorem notice_areas (s : State) (r c : Nat) (d : Layout) : (notice s r c d).areas = s.areas := by
  simp [notice]
@[simp] theorem notice_gov (s : State) (r c : Nat) (d : Layout) : (notice s r c d).gov = s.gov := by
  simp [notice]
@[simp] theorem notice_log (s : State) (r c : Nat) (d : Layout) : (notice s r c d).log = s.log := by
  simp [notice]
@[simp] theorem notice_sheets (s : State) (r c : Nat) (d : Layout) : (notice s r c d).sheets = s.sheets := by
  simp [notice]
@[simp] theorem notice_fw (s : State) (r c : Nat) (d : Layout) : (notice s r c d).fw = s.fw := by
  simp [notice]
@[simp] theorem notice_perf (s : State) (r c : Nat) (d : Layout) : (notice s r c d).perf = s.perf := by
  simp [notice]
@[simp] theorem notice_wrap (s : State) (r c : Nat) (d : Layout) : (notice s r c d).wrap = s.wrap := by
  simp [notice]
@[simp] theorem notice_pwr (s : State) (r c : Nat) (d : Layout) : (notice s r c d).pwr = s.pwr := by
  simp [notice]
@[simp] theorem notice_ticks (s : State) (r c : Nat) (d : Layout) : (notice s r c d).ticks = s.ticks := by
  simp [notice]
@[simp] theorem notice_fresh (s : State) (r c : Nat) (d : Layout) : (notice s r c d).fresh = s.fresh := by
  simp [notice]
@[simp] theorem notice_pending (s : State) (r c : Nat) (d : Layout) : (notice s r c d).pending = s.pending := by
  simp [notice]

@[simp] theorem event_hs (s : State) (c : Nat) (d : Layout) : (event s c d).hs = s.hs := by
  simp only [event]; split <;> (try split) <;> simp
@[simp] theorem event_ens (s : State) (c : Nat) (d : Layout) : (event s c d).ens = s.ens := by
  simp only [event]; split <;> (try split) <;> simp
@[simp] theorem event_clap (s : State) (c : Nat) (d : Layout) : (event s c d).clap = s.clap := by
  simp only [event]; split <;> (try split) <;> simp
@[simp] theorem event_loops (s : State) (c : Nat) (d : Layout) : (event s c d).loops = s.loops := by
  simp only [event]; split <;> (try split) <;> simp
@[simp] theorem event_outs (s : State) (c : Nat) (d : Layout) : (event s c d).outs = s.outs := by
  simp only [event]; split <;> (try split) <;> simp
@[simp] theorem event_cues (s : State) (c : Nat) (d : Layout) : (event s c d).cues = s.cues := by
  simp only [event]; split <;> (try split) <;> simp
@[simp] theorem event_gnss (s : State) (c : Nat) (d : Layout) : (event s c d).gnss = s.gnss := by
  simp only [event]; split <;> (try split) <;> simp
@[simp] theorem event_ports (s : State) (c : Nat) (d : Layout) : (event s c d).ports = s.ports := by
  simp only [event]; split <;> (try split) <;> simp
@[simp] theorem event_stv (s : State) (c : Nat) (d : Layout) : (event s c d).stv = s.stv := by
  simp only [event]; split <;> (try split) <;> simp
@[simp] theorem event_ptp (s : State) (c : Nat) (d : Layout) : (event s c d).ptp = s.ptp := by
  simp only [event]; split <;> (try split) <;> simp
@[simp] theorem event_ntp (s : State) (c : Nat) (d : Layout) : (event s c d).ntp = s.ntp := by
  simp only [event]; split <;> (try split) <;> simp
@[simp] theorem event_ran (s : State) (c : Nat) (d : Layout) : (event s c d).ran = s.ran := by
  simp only [event]; split <;> (try split) <;> simp
@[simp] theorem event_areas (s : State) (c : Nat) (d : Layout) : (event s c d).areas = s.areas := by
  simp only [event]; split <;> (try split) <;> simp
@[simp] theorem event_gov (s : State) (c : Nat) (d : Layout) : (event s c d).gov = s.gov := by
  simp only [event]; split <;> (try split) <;> simp
@[simp] theorem event_log (s : State) (c : Nat) (d : Layout) : (event s c d).log = s.log := by
  simp only [event]; split <;> (try split) <;> simp
@[simp] theorem event_sheets (s : State) (c : Nat) (d : Layout) : (event s c d).sheets = s.sheets := by
  simp only [event]; split <;> (try split) <;> simp
@[simp] theorem event_fw (s : State) (c : Nat) (d : Layout) : (event s c d).fw = s.fw := by
  simp only [event]; split <;> (try split) <;> simp
@[simp] theorem event_perf (s : State) (c : Nat) (d : Layout) : (event s c d).perf = s.perf := by
  simp only [event]; split <;> (try split) <;> simp
@[simp] theorem event_wrap (s : State) (c : Nat) (d : Layout) : (event s c d).wrap = s.wrap := by
  simp only [event]; split <;> (try split) <;> simp
@[simp] theorem event_pwr (s : State) (c : Nat) (d : Layout) : (event s c d).pwr = s.pwr := by
  simp only [event]; split <;> (try split) <;> simp
@[simp] theorem event_ticks (s : State) (c : Nat) (d : Layout) : (event s c d).ticks = s.ticks := by
  simp only [event]; split <;> (try split) <;> simp
@[simp] theorem event_fresh (s : State) (c : Nat) (d : Layout) : (event s c d).fresh = s.fresh := by
  simp only [event]; split <;> (try split) <;> simp
@[simp] theorem event_pending (s : State) (c : Nat) (d : Layout) : (event s c d).pending = s.pending := by
  simp only [event]; split <;> (try split) <;> simp

@[simp] theorem setLwValid_hs (s : State) (k : Nat) (b : Bool) : (setLwValid s k b).hs = s.hs := by
  unfold setLwValid; split <;> simp
@[simp] theorem setLwValid_time (s : State) (k : Nat) (b : Bool) : (setLwValid s k b).time = s.time := by
  unfold setLwValid; split <;> simp
@[simp] theorem setLwValid_ens (s : State) (k : Nat) (b : Bool) : (setLwValid s k b).ens = s.ens := by
  unfold setLwValid; split <;> simp
@[simp] theorem setLwValid_clap (s : State) (k : Nat) (b : Bool) : (setLwValid s k b).clap = s.clap := by
  unfold setLwValid; split <;> simp
@[simp] theorem setLwValid_loops (s : State) (k : Nat) (b : Bool) : (setLwValid s k b).loops = s.loops := by
  unfold setLwValid; split <;> simp
@[simp] theorem setLwValid_outs (s : State) (k : Nat) (b : Bool) : (setLwValid s k b).outs = s.outs := by
  unfold setLwValid; split <;> simp
@[simp] theorem setLwValid_cues (s : State) (k : Nat) (b : Bool) : (setLwValid s k b).cues = s.cues := by
  unfold setLwValid; split <;> simp
@[simp] theorem setLwValid_gnss (s : State) (k : Nat) (b : Bool) : (setLwValid s k b).gnss = s.gnss := by
  unfold setLwValid; split <;> simp
@[simp] theorem setLwValid_ports (s : State) (k : Nat) (b : Bool) : (setLwValid s k b).ports = s.ports := by
  unfold setLwValid; split <;> simp
@[simp] theorem setLwValid_stv (s : State) (k : Nat) (b : Bool) : (setLwValid s k b).stv = s.stv := by
  unfold setLwValid; split <;> simp
@[simp] theorem setLwValid_ptp (s : State) (k : Nat) (b : Bool) : (setLwValid s k b).ptp = s.ptp := by
  unfold setLwValid; split <;> simp
@[simp] theorem setLwValid_ntp (s : State) (k : Nat) (b : Bool) : (setLwValid s k b).ntp = s.ntp := by
  unfold setLwValid; split <;> simp
@[simp] theorem setLwValid_ran (s : State) (k : Nat) (b : Bool) : (setLwValid s k b).ran = s.ran := by
  unfold setLwValid; split <;> simp
@[simp] theorem setLwValid_areas (s : State) (k : Nat) (b : Bool) : (setLwValid s k b).areas = s.areas := by
  unfold setLwValid; split <;> simp
@[simp] theorem setLwValid_host (s : State) (k : Nat) (b : Bool) : (setLwValid s k b).host = s.host := by
  unfold setLwValid; split <;> simp
@[simp] theorem setLwValid_gov (s : State) (k : Nat) (b : Bool) : (setLwValid s k b).gov = s.gov := by
  unfold setLwValid; split <;> simp
@[simp] theorem setLwValid_log (s : State) (k : Nat) (b : Bool) : (setLwValid s k b).log = s.log := by
  unfold setLwValid; split <;> simp
@[simp] theorem setLwValid_sheets (s : State) (k : Nat) (b : Bool) : (setLwValid s k b).sheets = s.sheets := by
  unfold setLwValid; split <;> simp
@[simp] theorem setLwValid_fw (s : State) (k : Nat) (b : Bool) : (setLwValid s k b).fw = s.fw := by
  unfold setLwValid; split <;> simp
@[simp] theorem setLwValid_perf (s : State) (k : Nat) (b : Bool) : (setLwValid s k b).perf = s.perf := by
  unfold setLwValid; split <;> simp
@[simp] theorem setLwValid_wrap (s : State) (k : Nat) (b : Bool) : (setLwValid s k b).wrap = s.wrap := by
  unfold setLwValid; split <;> simp
@[simp] theorem setLwValid_pwr (s : State) (k : Nat) (b : Bool) : (setLwValid s k b).pwr = s.pwr := by
  unfold setLwValid; split <;> simp
@[simp] theorem setLwValid_ticks (s : State) (k : Nat) (b : Bool) : (setLwValid s k b).ticks = s.ticks := by
  unfold setLwValid; split <;> simp
@[simp] theorem setLwValid_fresh (s : State) (k : Nat) (b : Bool) : (setLwValid s k b).fresh = s.fresh := by
  unfold setLwValid; split <;> simp
@[simp] theorem setLwValid_out (s : State) (k : Nat) (b : Bool) : (setLwValid s k b).out = s.out := by
  unfold setLwValid; split <;> simp
@[simp] theorem setLwValid_pending (s : State) (k : Nat) (b : Bool) : (setLwValid s k b).pending = s.pending := by
  unfold setLwValid; split <;> simp

@[simp] theorem mediaDead_hs (s : State) : (mediaDead s).hs = s.hs := by
  unfold mediaDead; split <;> simp
@[simp] theorem mediaDead_ens (s : State) : (mediaDead s).ens = s.ens := by
  unfold mediaDead; split <;> simp
@[simp] theorem mediaDead_clap (s : State) : (mediaDead s).clap = s.clap := by
  unfold mediaDead; split <;> simp
@[simp] theorem mediaDead_loops (s : State) : (mediaDead s).loops = s.loops := by
  unfold mediaDead; split <;> simp
@[simp] theorem mediaDead_outs (s : State) : (mediaDead s).outs = s.outs := by
  unfold mediaDead; split <;> simp
@[simp] theorem mediaDead_cues (s : State) : (mediaDead s).cues = s.cues := by
  unfold mediaDead; split <;> simp
@[simp] theorem mediaDead_gnss (s : State) : (mediaDead s).gnss = s.gnss := by
  unfold mediaDead; split <;> simp
@[simp] theorem mediaDead_ports (s : State) : (mediaDead s).ports = s.ports := by
  unfold mediaDead; split <;> simp
@[simp] theorem mediaDead_stv (s : State) : (mediaDead s).stv = s.stv := by
  unfold mediaDead; split <;> simp
@[simp] theorem mediaDead_ptp (s : State) : (mediaDead s).ptp = s.ptp := by
  unfold mediaDead; split <;> simp
@[simp] theorem mediaDead_ntp (s : State) : (mediaDead s).ntp = s.ntp := by
  unfold mediaDead; split <;> simp
@[simp] theorem mediaDead_ran (s : State) : (mediaDead s).ran = s.ran := by
  unfold mediaDead; split <;> simp
@[simp] theorem mediaDead_areas (s : State) : (mediaDead s).areas = s.areas := by
  unfold mediaDead; split <;> simp
@[simp] theorem mediaDead_gov (s : State) : (mediaDead s).gov = s.gov := by
  unfold mediaDead; split <;> simp
@[simp] theorem mediaDead_log (s : State) : (mediaDead s).log = s.log := by
  unfold mediaDead; split <;> simp
@[simp] theorem mediaDead_sheets (s : State) : (mediaDead s).sheets = s.sheets := by
  unfold mediaDead; split <;> simp
@[simp] theorem mediaDead_fw (s : State) : (mediaDead s).fw = s.fw := by
  unfold mediaDead; split <;> simp
@[simp] theorem mediaDead_perf (s : State) : (mediaDead s).perf = s.perf := by
  unfold mediaDead; split <;> simp
@[simp] theorem mediaDead_wrap (s : State) : (mediaDead s).wrap = s.wrap := by
  unfold mediaDead; split <;> simp
@[simp] theorem mediaDead_pwr (s : State) : (mediaDead s).pwr = s.pwr := by
  unfold mediaDead; split <;> simp
@[simp] theorem mediaDead_ticks (s : State) : (mediaDead s).ticks = s.ticks := by
  unfold mediaDead; split <;> simp
@[simp] theorem mediaDead_fresh (s : State) : (mediaDead s).fresh = s.fresh := by
  unfold mediaDead; split <;> simp
@[simp] theorem mediaDead_pending (s : State) : (mediaDead s).pending = s.pending := by
  unfold mediaDead; split <;> simp

@[simp] theorem lwWrite_hs (s : State) (r : LogRec) : (lwWrite s r).hs = s.hs := by
  unfold lwWrite; split <;> (try split) <;> (try split) <;> simp
@[simp] theorem lwWrite_ens (s : State) (r : LogRec) : (lwWrite s r).ens = s.ens := by
  unfold lwWrite; split <;> (try split) <;> (try split) <;> simp
@[simp] theorem lwWrite_clap (s : State) (r : LogRec) : (lwWrite s r).clap = s.clap := by
  unfold lwWrite; split <;> (try split) <;> (try split) <;> simp
@[simp] theorem lwWrite_loops (s : State) (r : LogRec) : (lwWrite s r).loops = s.loops := by
  unfold lwWrite; split <;> (try split) <;> (try split) <;> simp
@[simp] theorem lwWrite_outs (s : State) (r : LogRec) : (lwWrite s r).outs = s.outs := by
  unfold lwWrite; split <;> (try split) <;> (try split) <;> simp
@[simp] theorem lwWrite_cues (s : State) (r : LogRec) : (lwWrite s r).cues = s.cues := by
  unfold lwWrite; split <;> (try split) <;> (try split) <;> simp
@[simp] theorem lwWrite_gnss (s : State) (r : LogRec) : (lwWrite s r).gnss = s.gnss := by
  unfold lwWrite; split <;> (try split) <;> (try split) <;> simp
@[simp] theorem lwWrite_ports (s : State) (r : LogRec) : (lwWrite s r).ports = s.ports := by
  unfold lwWrite; split <;> (try split) <;> (try split) <;> simp
@[simp] theorem lwWrite_stv (s : State) (r : LogRec) : (lwWrite s r).stv = s.stv := by
  unfold lwWrite; split <;> (try split) <;> (try split) <;> simp
@[simp] theorem lwWrite_ptp (s : State) (r : LogRec) : (lwWrite s r).ptp = s.ptp := by
  unfold lwWrite; split <;> (try split) <;> (try split) <;> simp
@[simp] theorem lwWrite_ntp (s : State) (r : LogRec) : (lwWrite s r).ntp = s.ntp := by
  unfold lwWrite; split <;> (try split) <;> (try split) <;> simp
@[simp] theorem lwWrite_ran (s : State) (r : LogRec) : (lwWrite s r).ran = s.ran := by
  unfold lwWrite; split <;> (try split) <;> (try split) <;> simp
@[simp] theorem lwWrite_areas (s : State) (r : LogRec) : (lwWrite s r).areas = s.areas := by
  unfold lwWrite; split <;> (try split) <;> (try split) <;> simp
@[simp] theorem lwWrite_gov (s : State) (r : LogRec) : (lwWrite s r).gov = s.gov := by
  unfold lwWrite; split <;> (try split) <;> (try split) <;> simp
@[simp] theorem lwWrite_sheets (s : State) (r : LogRec) : (lwWrite s r).sheets = s.sheets := by
  unfold lwWrite; split <;> (try split) <;> (try split) <;> simp
@[simp] theorem lwWrite_fw (s : State) (r : LogRec) : (lwWrite s r).fw = s.fw := by
  unfold lwWrite; split <;> (try split) <;> (try split) <;> simp
@[simp] theorem lwWrite_perf (s : State) (r : LogRec) : (lwWrite s r).perf = s.perf := by
  unfold lwWrite; split <;> (try split) <;> (try split) <;> simp
@[simp] theorem lwWrite_wrap (s : State) (r : LogRec) : (lwWrite s r).wrap = s.wrap := by
  unfold lwWrite; split <;> (try split) <;> (try split) <;> simp
@[simp] theorem lwWrite_pwr (s : State) (r : LogRec) : (lwWrite s r).pwr = s.pwr := by
  unfold lwWrite; split <;> (try split) <;> (try split) <;> simp
@[simp] theorem lwWrite_ticks (s : State) (r : LogRec) : (lwWrite s r).ticks = s.ticks := by
  unfold lwWrite; split <;> (try split) <;> (try split) <;> simp
@[simp] theorem lwWrite_fresh (s : State) (r : LogRec) : (lwWrite s r).fresh = s.fresh := by
  unfold lwWrite; split <;> (try split) <;> (try split) <;> simp
@[simp] theorem lwWrite_pending (s : State) (r : LogRec) : (lwWrite s r).pending = s.pending := by
  unfold lwWrite; split <;> (try split) <;> (try split) <;> simp

@[simp] theorem logPut_hs (s : State) (sev src c : Nat) (d : Layout) (x : Slate) : (logPut s sev src c d x).hs = s.hs := by
  simp only [logPut]; split <;> split <;> simp
@[simp] theorem logPut_ens (s : State) (sev src c : Nat) (d : Layout) (x : Slate) : (logPut s sev src c d x).ens = s.ens := by
  simp only [logPut]; split <;> split <;> simp
@[simp] theorem logPut_clap (s : State) (sev src c : Nat) (d : Layout) (x : Slate) : (logPut s sev src c d x).clap = s.clap := by
  simp only [logPut]; split <;> split <;> simp
@[simp] theorem logPut_loops (s : State) (sev src c : Nat) (d : Layout) (x : Slate) : (logPut s sev src c d x).loops = s.loops := by
  simp only [logPut]; split <;> split <;> simp
@[simp] theorem logPut_outs (s : State) (sev src c : Nat) (d : Layout) (x : Slate) : (logPut s sev src c d x).outs = s.outs := by
  simp only [logPut]; split <;> split <;> simp
@[simp] theorem logPut_cues (s : State) (sev src c : Nat) (d : Layout) (x : Slate) : (logPut s sev src c d x).cues = s.cues := by
  simp only [logPut]; split <;> split <;> simp
@[simp] theorem logPut_gnss (s : State) (sev src c : Nat) (d : Layout) (x : Slate) : (logPut s sev src c d x).gnss = s.gnss := by
  simp only [logPut]; split <;> split <;> simp
@[simp] theorem logPut_ports (s : State) (sev src c : Nat) (d : Layout) (x : Slate) : (logPut s sev src c d x).ports = s.ports := by
  simp only [logPut]; split <;> split <;> simp
@[simp] theorem logPut_stv (s : State) (sev src c : Nat) (d : Layout) (x : Slate) : (logPut s sev src c d x).stv = s.stv := by
  simp only [logPut]; split <;> split <;> simp
@[simp] theorem logPut_ptp (s : State) (sev src c : Nat) (d : Layout) (x : Slate) : (logPut s sev src c d x).ptp = s.ptp := by
  simp only [logPut]; split <;> split <;> simp
@[simp] theorem logPut_ntp (s : State) (sev src c : Nat) (d : Layout) (x : Slate) : (logPut s sev src c d x).ntp = s.ntp := by
  simp only [logPut]; split <;> split <;> simp
@[simp] theorem logPut_ran (s : State) (sev src c : Nat) (d : Layout) (x : Slate) : (logPut s sev src c d x).ran = s.ran := by
  simp only [logPut]; split <;> split <;> simp
@[simp] theorem logPut_areas (s : State) (sev src c : Nat) (d : Layout) (x : Slate) : (logPut s sev src c d x).areas = s.areas := by
  simp only [logPut]; split <;> split <;> simp
@[simp] theorem logPut_gov (s : State) (sev src c : Nat) (d : Layout) (x : Slate) : (logPut s sev src c d x).gov = s.gov := by
  simp only [logPut]; split <;> split <;> simp
@[simp] theorem logPut_sheets (s : State) (sev src c : Nat) (d : Layout) (x : Slate) : (logPut s sev src c d x).sheets = s.sheets := by
  simp only [logPut]; split <;> split <;> simp
@[simp] theorem logPut_fw (s : State) (sev src c : Nat) (d : Layout) (x : Slate) : (logPut s sev src c d x).fw = s.fw := by
  simp only [logPut]; split <;> split <;> simp
@[simp] theorem logPut_perf (s : State) (sev src c : Nat) (d : Layout) (x : Slate) : (logPut s sev src c d x).perf = s.perf := by
  simp only [logPut]; split <;> split <;> simp
@[simp] theorem logPut_wrap (s : State) (sev src c : Nat) (d : Layout) (x : Slate) : (logPut s sev src c d x).wrap = s.wrap := by
  simp only [logPut]; split <;> split <;> simp
@[simp] theorem logPut_pwr (s : State) (sev src c : Nat) (d : Layout) (x : Slate) : (logPut s sev src c d x).pwr = s.pwr := by
  simp only [logPut]; split <;> split <;> simp
@[simp] theorem logPut_ticks (s : State) (sev src c : Nat) (d : Layout) (x : Slate) : (logPut s sev src c d x).ticks = s.ticks := by
  simp only [logPut]; split <;> split <;> simp
@[simp] theorem logPut_fresh (s : State) (sev src c : Nat) (d : Layout) (x : Slate) : (logPut s sev src c d x).fresh = s.fresh := by
  simp only [logPut]; split <;> split <;> simp
@[simp] theorem logPut_pending (s : State) (sev src c : Nat) (d : Layout) (x : Slate) : (logPut s sev src c d x).pending = s.pending := by
  simp only [logPut]; split <;> split <;> simp

@[simp] theorem logRec_hs (s : State) (sev c : Nat) (d : Layout) : (logRec s sev c d).hs = s.hs := by
  simp [logRec]
@[simp] theorem logRec_ens (s : State) (sev c : Nat) (d : Layout) : (logRec s sev c d).ens = s.ens := by
  simp [logRec]
@[simp] theorem logRec_clap (s : State) (sev c : Nat) (d : Layout) : (logRec s sev c d).clap = s.clap := by
  simp [logRec]
@[simp] theorem logRec_loops (s : State) (sev c : Nat) (d : Layout) : (logRec s sev c d).loops = s.loops := by
  simp [logRec]
@[simp] theorem logRec_outs (s : State) (sev c : Nat) (d : Layout) : (logRec s sev c d).outs = s.outs := by
  simp [logRec]
@[simp] theorem logRec_cues (s : State) (sev c : Nat) (d : Layout) : (logRec s sev c d).cues = s.cues := by
  simp [logRec]
@[simp] theorem logRec_gnss (s : State) (sev c : Nat) (d : Layout) : (logRec s sev c d).gnss = s.gnss := by
  simp [logRec]
@[simp] theorem logRec_ports (s : State) (sev c : Nat) (d : Layout) : (logRec s sev c d).ports = s.ports := by
  simp [logRec]
@[simp] theorem logRec_stv (s : State) (sev c : Nat) (d : Layout) : (logRec s sev c d).stv = s.stv := by
  simp [logRec]
@[simp] theorem logRec_ptp (s : State) (sev c : Nat) (d : Layout) : (logRec s sev c d).ptp = s.ptp := by
  simp [logRec]
@[simp] theorem logRec_ntp (s : State) (sev c : Nat) (d : Layout) : (logRec s sev c d).ntp = s.ntp := by
  simp [logRec]
@[simp] theorem logRec_ran (s : State) (sev c : Nat) (d : Layout) : (logRec s sev c d).ran = s.ran := by
  simp [logRec]
@[simp] theorem logRec_areas (s : State) (sev c : Nat) (d : Layout) : (logRec s sev c d).areas = s.areas := by
  simp [logRec]
@[simp] theorem logRec_gov (s : State) (sev c : Nat) (d : Layout) : (logRec s sev c d).gov = s.gov := by
  simp [logRec]
@[simp] theorem logRec_sheets (s : State) (sev c : Nat) (d : Layout) : (logRec s sev c d).sheets = s.sheets := by
  simp [logRec]
@[simp] theorem logRec_fw (s : State) (sev c : Nat) (d : Layout) : (logRec s sev c d).fw = s.fw := by
  simp [logRec]
@[simp] theorem logRec_perf (s : State) (sev c : Nat) (d : Layout) : (logRec s sev c d).perf = s.perf := by
  simp [logRec]
@[simp] theorem logRec_wrap (s : State) (sev c : Nat) (d : Layout) : (logRec s sev c d).wrap = s.wrap := by
  simp [logRec]
@[simp] theorem logRec_pwr (s : State) (sev c : Nat) (d : Layout) : (logRec s sev c d).pwr = s.pwr := by
  simp [logRec]
@[simp] theorem logRec_ticks (s : State) (sev c : Nat) (d : Layout) : (logRec s sev c d).ticks = s.ticks := by
  simp [logRec]
@[simp] theorem logRec_fresh (s : State) (sev c : Nat) (d : Layout) : (logRec s sev c d).fresh = s.fresh := by
  simp [logRec]
@[simp] theorem logRec_pending (s : State) (sev c : Nat) (d : Layout) : (logRec s sev c d).pending = s.pending := by
  simp [logRec]

@[simp] theorem logEvent_hs (s : State) (sev c : Nat) (d : Layout) : (logEvent s sev c d).hs = s.hs := by
  simp [logEvent]
@[simp] theorem logEvent_ens (s : State) (sev c : Nat) (d : Layout) : (logEvent s sev c d).ens = s.ens := by
  simp [logEvent]
@[simp] theorem logEvent_clap (s : State) (sev c : Nat) (d : Layout) : (logEvent s sev c d).clap = s.clap := by
  simp [logEvent]
@[simp] theorem logEvent_loops (s : State) (sev c : Nat) (d : Layout) : (logEvent s sev c d).loops = s.loops := by
  simp [logEvent]
@[simp] theorem logEvent_outs (s : State) (sev c : Nat) (d : Layout) : (logEvent s sev c d).outs = s.outs := by
  simp [logEvent]
@[simp] theorem logEvent_cues (s : State) (sev c : Nat) (d : Layout) : (logEvent s sev c d).cues = s.cues := by
  simp [logEvent]
@[simp] theorem logEvent_gnss (s : State) (sev c : Nat) (d : Layout) : (logEvent s sev c d).gnss = s.gnss := by
  simp [logEvent]
@[simp] theorem logEvent_ports (s : State) (sev c : Nat) (d : Layout) : (logEvent s sev c d).ports = s.ports := by
  simp [logEvent]
@[simp] theorem logEvent_stv (s : State) (sev c : Nat) (d : Layout) : (logEvent s sev c d).stv = s.stv := by
  simp [logEvent]
@[simp] theorem logEvent_ptp (s : State) (sev c : Nat) (d : Layout) : (logEvent s sev c d).ptp = s.ptp := by
  simp [logEvent]
@[simp] theorem logEvent_ntp (s : State) (sev c : Nat) (d : Layout) : (logEvent s sev c d).ntp = s.ntp := by
  simp [logEvent]
@[simp] theorem logEvent_ran (s : State) (sev c : Nat) (d : Layout) : (logEvent s sev c d).ran = s.ran := by
  simp [logEvent]
@[simp] theorem logEvent_areas (s : State) (sev c : Nat) (d : Layout) : (logEvent s sev c d).areas = s.areas := by
  simp [logEvent]
@[simp] theorem logEvent_gov (s : State) (sev c : Nat) (d : Layout) : (logEvent s sev c d).gov = s.gov := by
  simp [logEvent]
@[simp] theorem logEvent_sheets (s : State) (sev c : Nat) (d : Layout) : (logEvent s sev c d).sheets = s.sheets := by
  simp [logEvent]
@[simp] theorem logEvent_fw (s : State) (sev c : Nat) (d : Layout) : (logEvent s sev c d).fw = s.fw := by
  simp [logEvent]
@[simp] theorem logEvent_perf (s : State) (sev c : Nat) (d : Layout) : (logEvent s sev c d).perf = s.perf := by
  simp [logEvent]
@[simp] theorem logEvent_wrap (s : State) (sev c : Nat) (d : Layout) : (logEvent s sev c d).wrap = s.wrap := by
  simp [logEvent]
@[simp] theorem logEvent_pwr (s : State) (sev c : Nat) (d : Layout) : (logEvent s sev c d).pwr = s.pwr := by
  simp [logEvent]
@[simp] theorem logEvent_ticks (s : State) (sev c : Nat) (d : Layout) : (logEvent s sev c d).ticks = s.ticks := by
  simp [logEvent]
@[simp] theorem logEvent_fresh (s : State) (sev c : Nat) (d : Layout) : (logEvent s sev c d).fresh = s.fresh := by
  simp [logEvent]
@[simp] theorem logEvent_pending (s : State) (sev c : Nat) (d : Layout) : (logEvent s sev c d).pending = s.pending := by
  simp [logEvent]

@[simp] theorem releaseAborts_regs (s : State) (h : CmdHdr) (op : Nat) (st : Status) : (releaseAborts s h op st).regs = s.regs := by
  unfold releaseAborts
  exact (foldl_keeps (fun t => t.regs) _ (fun t x => by simp) _ _).trans (by simp)
@[simp] theorem releaseAborts_hs (s : State) (h : CmdHdr) (op : Nat) (st : Status) : (releaseAborts s h op st).hs = s.hs := by
  unfold releaseAborts
  exact (foldl_keeps (fun t => t.hs) _ (fun t x => by simp) _ _).trans (by simp)
@[simp] theorem releaseAborts_time (s : State) (h : CmdHdr) (op : Nat) (st : Status) : (releaseAborts s h op st).time = s.time := by
  unfold releaseAborts
  exact (foldl_keeps (fun t => t.time) _ (fun t x => by simp) _ _).trans (by simp)
@[simp] theorem releaseAborts_ens (s : State) (h : CmdHdr) (op : Nat) (st : Status) : (releaseAborts s h op st).ens = s.ens := by
  unfold releaseAborts
  exact (foldl_keeps (fun t => t.ens) _ (fun t x => by simp) _ _).trans (by simp)
@[simp] theorem releaseAborts_clap (s : State) (h : CmdHdr) (op : Nat) (st : Status) : (releaseAborts s h op st).clap = s.clap := by
  unfold releaseAborts
  exact (foldl_keeps (fun t => t.clap) _ (fun t x => by simp) _ _).trans (by simp)
@[simp] theorem releaseAborts_loops (s : State) (h : CmdHdr) (op : Nat) (st : Status) : (releaseAborts s h op st).loops = s.loops := by
  unfold releaseAborts
  exact (foldl_keeps (fun t => t.loops) _ (fun t x => by simp) _ _).trans (by simp)
@[simp] theorem releaseAborts_outs (s : State) (h : CmdHdr) (op : Nat) (st : Status) : (releaseAborts s h op st).outs = s.outs := by
  unfold releaseAborts
  exact (foldl_keeps (fun t => t.outs) _ (fun t x => by simp) _ _).trans (by simp)
@[simp] theorem releaseAborts_cues (s : State) (h : CmdHdr) (op : Nat) (st : Status) : (releaseAborts s h op st).cues = s.cues := by
  unfold releaseAborts
  exact (foldl_keeps (fun t => t.cues) _ (fun t x => by simp) _ _).trans (by simp)
@[simp] theorem releaseAborts_gnss (s : State) (h : CmdHdr) (op : Nat) (st : Status) : (releaseAborts s h op st).gnss = s.gnss := by
  unfold releaseAborts
  exact (foldl_keeps (fun t => t.gnss) _ (fun t x => by simp) _ _).trans (by simp)
@[simp] theorem releaseAborts_ports (s : State) (h : CmdHdr) (op : Nat) (st : Status) : (releaseAborts s h op st).ports = s.ports := by
  unfold releaseAborts
  exact (foldl_keeps (fun t => t.ports) _ (fun t x => by simp) _ _).trans (by simp)
@[simp] theorem releaseAborts_stv (s : State) (h : CmdHdr) (op : Nat) (st : Status) : (releaseAborts s h op st).stv = s.stv := by
  unfold releaseAborts
  exact (foldl_keeps (fun t => t.stv) _ (fun t x => by simp) _ _).trans (by simp)
@[simp] theorem releaseAborts_ptp (s : State) (h : CmdHdr) (op : Nat) (st : Status) : (releaseAborts s h op st).ptp = s.ptp := by
  unfold releaseAborts
  exact (foldl_keeps (fun t => t.ptp) _ (fun t x => by simp) _ _).trans (by simp)
@[simp] theorem releaseAborts_ntp (s : State) (h : CmdHdr) (op : Nat) (st : Status) : (releaseAborts s h op st).ntp = s.ntp := by
  unfold releaseAborts
  exact (foldl_keeps (fun t => t.ntp) _ (fun t x => by simp) _ _).trans (by simp)
@[simp] theorem releaseAborts_ran (s : State) (h : CmdHdr) (op : Nat) (st : Status) : (releaseAborts s h op st).ran = s.ran := by
  unfold releaseAborts
  exact (foldl_keeps (fun t => t.ran) _ (fun t x => by simp) _ _).trans (by simp)
@[simp] theorem releaseAborts_areas (s : State) (h : CmdHdr) (op : Nat) (st : Status) : (releaseAborts s h op st).areas = s.areas := by
  unfold releaseAborts
  exact (foldl_keeps (fun t => t.areas) _ (fun t x => by simp) _ _).trans (by simp)
@[simp] theorem releaseAborts_gov (s : State) (h : CmdHdr) (op : Nat) (st : Status) : (releaseAborts s h op st).gov = s.gov := by
  unfold releaseAborts
  exact (foldl_keeps (fun t => t.gov) _ (fun t x => by simp) _ _).trans (by simp)
@[simp] theorem releaseAborts_log (s : State) (h : CmdHdr) (op : Nat) (st : Status) : (releaseAborts s h op st).log = s.log := by
  unfold releaseAborts
  exact (foldl_keeps (fun t => t.log) _ (fun t x => by simp) _ _).trans (by simp)
@[simp] theorem releaseAborts_sheets (s : State) (h : CmdHdr) (op : Nat) (st : Status) : (releaseAborts s h op st).sheets = s.sheets := by
  unfold releaseAborts
  exact (foldl_keeps (fun t => t.sheets) _ (fun t x => by simp) _ _).trans (by simp)
@[simp] theorem releaseAborts_fw (s : State) (h : CmdHdr) (op : Nat) (st : Status) : (releaseAborts s h op st).fw = s.fw := by
  unfold releaseAborts
  exact (foldl_keeps (fun t => t.fw) _ (fun t x => by simp) _ _).trans (by simp)
@[simp] theorem releaseAborts_perf (s : State) (h : CmdHdr) (op : Nat) (st : Status) : (releaseAborts s h op st).perf = s.perf := by
  unfold releaseAborts
  exact (foldl_keeps (fun t => t.perf) _ (fun t x => by simp) _ _).trans (by simp)
@[simp] theorem releaseAborts_wrap (s : State) (h : CmdHdr) (op : Nat) (st : Status) : (releaseAborts s h op st).wrap = s.wrap := by
  unfold releaseAborts
  exact (foldl_keeps (fun t => t.wrap) _ (fun t x => by simp) _ _).trans (by simp)
@[simp] theorem releaseAborts_pwr (s : State) (h : CmdHdr) (op : Nat) (st : Status) : (releaseAborts s h op st).pwr = s.pwr := by
  unfold releaseAborts
  exact (foldl_keeps (fun t => t.pwr) _ (fun t x => by simp) _ _).trans (by simp)
@[simp] theorem releaseAborts_ticks (s : State) (h : CmdHdr) (op : Nat) (st : Status) : (releaseAborts s h op st).ticks = s.ticks := by
  unfold releaseAborts
  exact (foldl_keeps (fun t => t.ticks) _ (fun t x => by simp) _ _).trans (by simp)
@[simp] theorem releaseAborts_fresh (s : State) (h : CmdHdr) (op : Nat) (st : Status) : (releaseAborts s h op st).fresh = s.fresh := by
  unfold releaseAborts
  exact (foldl_keeps (fun t => t.fresh) _ (fun t x => by simp) _ _).trans (by simp)
@[simp] theorem releaseAborts_out (s : State) (h : CmdHdr) (op : Nat) (st : Status) : (releaseAborts s h op st).out = s.out := by
  unfold releaseAborts
  exact (foldl_keeps (fun t => t.out) _ (fun t x => by simp) _ _).trans (by simp)
@[simp] theorem releaseAborts_pending (s : State) (h : CmdHdr) (op : Nat) (st : Status) : (releaseAborts s h op st).pending = s.pending := by
  unfold releaseAborts
  exact (foldl_keeps (fun t => t.pending) _ (fun t x => by simp) _ _).trans (by simp)

@[simp] theorem altDone_hs (s : State) (i : Nat) (st : Status) : (altDone s i st).hs = s.hs := by
  simp only [altDone]; split <;> simp
@[simp] theorem altDone_time (s : State) (i : Nat) (st : Status) : (altDone s i st).time = s.time := by
  simp only [altDone]; split <;> simp
@[simp] theorem altDone_ens (s : State) (i : Nat) (st : Status) : (altDone s i st).ens = s.ens := by
  simp only [altDone]; split <;> simp
@[simp] theorem altDone_clap (s : State) (i : Nat) (st : Status) : (altDone s i st).clap = s.clap := by
  simp only [altDone]; split <;> simp
@[simp] theorem altDone_loops (s : State) (i : Nat) (st : Status) : (altDone s i st).loops = s.loops := by
  simp only [altDone]; split <;> simp
@[simp] theorem altDone_outs (s : State) (i : Nat) (st : Status) : (altDone s i st).outs = s.outs := by
  simp only [altDone]; split <;> simp
@[simp] theorem altDone_cues (s : State) (i : Nat) (st : Status) : (altDone s i st).cues = s.cues := by
  simp only [altDone]; split <;> simp
@[simp] theorem altDone_gnss (s : State) (i : Nat) (st : Status) : (altDone s i st).gnss = s.gnss := by
  simp only [altDone]; split <;> simp
@[simp] theorem altDone_ports (s : State) (i : Nat) (st : Status) : (altDone s i st).ports = s.ports := by
  simp only [altDone]; split <;> simp
@[simp] theorem altDone_stv (s : State) (i : Nat) (st : Status) : (altDone s i st).stv = s.stv := by
  simp only [altDone]; split <;> simp
@[simp] theorem altDone_ntp (s : State) (i : Nat) (st : Status) : (altDone s i st).ntp = s.ntp := by
  simp only [altDone]; split <;> simp
@[simp] theorem altDone_ran (s : State) (i : Nat) (st : Status) : (altDone s i st).ran = s.ran := by
  simp only [altDone]; split <;> simp
@[simp] theorem altDone_areas (s : State) (i : Nat) (st : Status) : (altDone s i st).areas = s.areas := by
  simp only [altDone]; split <;> simp
@[simp] theorem altDone_host (s : State) (i : Nat) (st : Status) : (altDone s i st).host = s.host := by
  simp only [altDone]; split <;> simp
@[simp] theorem altDone_gov (s : State) (i : Nat) (st : Status) : (altDone s i st).gov = s.gov := by
  simp only [altDone]; split <;> simp
@[simp] theorem altDone_log (s : State) (i : Nat) (st : Status) : (altDone s i st).log = s.log := by
  simp only [altDone]; split <;> simp
@[simp] theorem altDone_sheets (s : State) (i : Nat) (st : Status) : (altDone s i st).sheets = s.sheets := by
  simp only [altDone]; split <;> simp
@[simp] theorem altDone_fw (s : State) (i : Nat) (st : Status) : (altDone s i st).fw = s.fw := by
  simp only [altDone]; split <;> simp
@[simp] theorem altDone_perf (s : State) (i : Nat) (st : Status) : (altDone s i st).perf = s.perf := by
  simp only [altDone]; split <;> simp
@[simp] theorem altDone_wrap (s : State) (i : Nat) (st : Status) : (altDone s i st).wrap = s.wrap := by
  simp only [altDone]; split <;> simp
@[simp] theorem altDone_pwr (s : State) (i : Nat) (st : Status) : (altDone s i st).pwr = s.pwr := by
  simp only [altDone]; split <;> simp
@[simp] theorem altDone_ticks (s : State) (i : Nat) (st : Status) : (altDone s i st).ticks = s.ticks := by
  simp only [altDone]; split <;> simp
@[simp] theorem altDone_fresh (s : State) (i : Nat) (st : Status) : (altDone s i st).fresh = s.fresh := by
  simp only [altDone]; split <;> simp
@[simp] theorem altDone_out (s : State) (i : Nat) (st : Status) : (altDone s i st).out = s.out := by
  simp only [altDone]; split <;> simp
@[simp] theorem altDone_pending (s : State) (i : Nat) (st : Status) : (altDone s i st).pending = s.pending := by
  simp only [altDone]; split <;> simp

@[simp] theorem complete_hs (s : State) (h : CmdHdr) (op : Nat) (st : Status) (p : Layout) : (complete s h op st p).hs = s.hs := by
  unfold complete; split <;> simp
@[simp] theorem complete_time (s : State) (h : CmdHdr) (op : Nat) (st : Status) (p : Layout) : (complete s h op st p).time = s.time := by
  unfold complete; split <;> simp
@[simp] theorem complete_ens (s : State) (h : CmdHdr) (op : Nat) (st : Status) (p : Layout) : (complete s h op st p).ens = s.ens := by
  unfold complete; split <;> simp
@[simp] theorem complete_clap (s : State) (h : CmdHdr) (op : Nat) (st : Status) (p : Layout) : (complete s h op st p).clap = s.clap := by
  unfold complete; split <;> simp
@[simp] theorem complete_loops (s : State) (h : CmdHdr) (op : Nat) (st : Status) (p : Layout) : (complete s h op st p).loops = s.loops := by
  unfold complete; split <;> simp
@[simp] theorem complete_outs (s : State) (h : CmdHdr) (op : Nat) (st : Status) (p : Layout) : (complete s h op st p).outs = s.outs := by
  unfold complete; split <;> simp
@[simp] theorem complete_cues (s : State) (h : CmdHdr) (op : Nat) (st : Status) (p : Layout) : (complete s h op st p).cues = s.cues := by
  unfold complete; split <;> simp
@[simp] theorem complete_gnss (s : State) (h : CmdHdr) (op : Nat) (st : Status) (p : Layout) : (complete s h op st p).gnss = s.gnss := by
  unfold complete; split <;> simp
@[simp] theorem complete_ports (s : State) (h : CmdHdr) (op : Nat) (st : Status) (p : Layout) : (complete s h op st p).ports = s.ports := by
  unfold complete; split <;> simp
@[simp] theorem complete_stv (s : State) (h : CmdHdr) (op : Nat) (st : Status) (p : Layout) : (complete s h op st p).stv = s.stv := by
  unfold complete; split <;> simp
@[simp] theorem complete_ntp (s : State) (h : CmdHdr) (op : Nat) (st : Status) (p : Layout) : (complete s h op st p).ntp = s.ntp := by
  unfold complete; split <;> simp
@[simp] theorem complete_ran (s : State) (h : CmdHdr) (op : Nat) (st : Status) (p : Layout) : (complete s h op st p).ran = s.ran := by
  unfold complete; split <;> simp
@[simp] theorem complete_areas (s : State) (h : CmdHdr) (op : Nat) (st : Status) (p : Layout) : (complete s h op st p).areas = s.areas := by
  unfold complete; split <;> simp
@[simp] theorem complete_gov (s : State) (h : CmdHdr) (op : Nat) (st : Status) (p : Layout) : (complete s h op st p).gov = s.gov := by
  unfold complete; split <;> simp
@[simp] theorem complete_log (s : State) (h : CmdHdr) (op : Nat) (st : Status) (p : Layout) : (complete s h op st p).log = s.log := by
  unfold complete; split <;> simp
@[simp] theorem complete_sheets (s : State) (h : CmdHdr) (op : Nat) (st : Status) (p : Layout) : (complete s h op st p).sheets = s.sheets := by
  unfold complete; split <;> simp
@[simp] theorem complete_fw (s : State) (h : CmdHdr) (op : Nat) (st : Status) (p : Layout) : (complete s h op st p).fw = s.fw := by
  unfold complete; split <;> simp
@[simp] theorem complete_perf (s : State) (h : CmdHdr) (op : Nat) (st : Status) (p : Layout) : (complete s h op st p).perf = s.perf := by
  unfold complete; split <;> simp
@[simp] theorem complete_wrap (s : State) (h : CmdHdr) (op : Nat) (st : Status) (p : Layout) : (complete s h op st p).wrap = s.wrap := by
  unfold complete; split <;> simp
@[simp] theorem complete_pwr (s : State) (h : CmdHdr) (op : Nat) (st : Status) (p : Layout) : (complete s h op st p).pwr = s.pwr := by
  unfold complete; split <;> simp
@[simp] theorem complete_ticks (s : State) (h : CmdHdr) (op : Nat) (st : Status) (p : Layout) : (complete s h op st p).ticks = s.ticks := by
  unfold complete; split <;> simp
@[simp] theorem complete_fresh (s : State) (h : CmdHdr) (op : Nat) (st : Status) (p : Layout) : (complete s h op st p).fresh = s.fresh := by
  unfold complete; split <;> simp
@[simp] theorem complete_out (s : State) (h : CmdHdr) (op : Nat) (st : Status) (p : Layout) : (complete s h op st p).out = s.out := by
  unfold complete; split <;> simp
@[simp] theorem complete_pending (s : State) (h : CmdHdr) (op : Nat) (st : Status) (p : Layout) : (complete s h op st p).pending = s.pending := by
  unfold complete; split <;> simp

@[simp] theorem finish_hs (s : State) (h : CmdHdr) (op : Nat) (st : Status) (p : Layout) : (finish s h op st p).hs = s.hs := by
  unfold finish; split <;> simp
@[simp] theorem finish_time (s : State) (h : CmdHdr) (op : Nat) (st : Status) (p : Layout) : (finish s h op st p).time = s.time := by
  unfold finish; split <;> simp
@[simp] theorem finish_ens (s : State) (h : CmdHdr) (op : Nat) (st : Status) (p : Layout) : (finish s h op st p).ens = s.ens := by
  unfold finish; split <;> simp
@[simp] theorem finish_clap (s : State) (h : CmdHdr) (op : Nat) (st : Status) (p : Layout) : (finish s h op st p).clap = s.clap := by
  unfold finish; split <;> simp
@[simp] theorem finish_loops (s : State) (h : CmdHdr) (op : Nat) (st : Status) (p : Layout) : (finish s h op st p).loops = s.loops := by
  unfold finish; split <;> simp
@[simp] theorem finish_outs (s : State) (h : CmdHdr) (op : Nat) (st : Status) (p : Layout) : (finish s h op st p).outs = s.outs := by
  unfold finish; split <;> simp
@[simp] theorem finish_cues (s : State) (h : CmdHdr) (op : Nat) (st : Status) (p : Layout) : (finish s h op st p).cues = s.cues := by
  unfold finish; split <;> simp
@[simp] theorem finish_gnss (s : State) (h : CmdHdr) (op : Nat) (st : Status) (p : Layout) : (finish s h op st p).gnss = s.gnss := by
  unfold finish; split <;> simp
@[simp] theorem finish_ports (s : State) (h : CmdHdr) (op : Nat) (st : Status) (p : Layout) : (finish s h op st p).ports = s.ports := by
  unfold finish; split <;> simp
@[simp] theorem finish_stv (s : State) (h : CmdHdr) (op : Nat) (st : Status) (p : Layout) : (finish s h op st p).stv = s.stv := by
  unfold finish; split <;> simp
@[simp] theorem finish_ntp (s : State) (h : CmdHdr) (op : Nat) (st : Status) (p : Layout) : (finish s h op st p).ntp = s.ntp := by
  unfold finish; split <;> simp
@[simp] theorem finish_ran (s : State) (h : CmdHdr) (op : Nat) (st : Status) (p : Layout) : (finish s h op st p).ran = s.ran := by
  unfold finish; split <;> simp
@[simp] theorem finish_areas (s : State) (h : CmdHdr) (op : Nat) (st : Status) (p : Layout) : (finish s h op st p).areas = s.areas := by
  unfold finish; split <;> simp
@[simp] theorem finish_gov (s : State) (h : CmdHdr) (op : Nat) (st : Status) (p : Layout) : (finish s h op st p).gov = s.gov := by
  unfold finish; split <;> simp
@[simp] theorem finish_log (s : State) (h : CmdHdr) (op : Nat) (st : Status) (p : Layout) : (finish s h op st p).log = s.log := by
  unfold finish; split <;> simp
@[simp] theorem finish_sheets (s : State) (h : CmdHdr) (op : Nat) (st : Status) (p : Layout) : (finish s h op st p).sheets = s.sheets := by
  unfold finish; split <;> simp
@[simp] theorem finish_fw (s : State) (h : CmdHdr) (op : Nat) (st : Status) (p : Layout) : (finish s h op st p).fw = s.fw := by
  unfold finish; split <;> simp
@[simp] theorem finish_perf (s : State) (h : CmdHdr) (op : Nat) (st : Status) (p : Layout) : (finish s h op st p).perf = s.perf := by
  unfold finish; split <;> simp
@[simp] theorem finish_wrap (s : State) (h : CmdHdr) (op : Nat) (st : Status) (p : Layout) : (finish s h op st p).wrap = s.wrap := by
  unfold finish; split <;> simp
@[simp] theorem finish_pwr (s : State) (h : CmdHdr) (op : Nat) (st : Status) (p : Layout) : (finish s h op st p).pwr = s.pwr := by
  unfold finish; split <;> simp
@[simp] theorem finish_ticks (s : State) (h : CmdHdr) (op : Nat) (st : Status) (p : Layout) : (finish s h op st p).ticks = s.ticks := by
  unfold finish; split <;> simp
@[simp] theorem finish_fresh (s : State) (h : CmdHdr) (op : Nat) (st : Status) (p : Layout) : (finish s h op st p).fresh = s.fresh := by
  unfold finish; split <;> simp
@[simp] theorem finish_out (s : State) (h : CmdHdr) (op : Nat) (st : Status) (p : Layout) : (finish s h op st p).out = s.out := by
  unfold finish; split <;> simp
@[simp] theorem finish_pending (s : State) (h : CmdHdr) (op : Nat) (st : Status) (p : Layout) : (finish s h op st p).pending = s.pending := by
  unfold finish; split <;> simp

@[simp] theorem badArg_hs (s : State) (h : CmdHdr) (op : Nat) : (badArg s h op).hs = s.hs := by
  simp [badArg]
@[simp] theorem badArg_time (s : State) (h : CmdHdr) (op : Nat) : (badArg s h op).time = s.time := by
  simp [badArg]
@[simp] theorem badArg_ens (s : State) (h : CmdHdr) (op : Nat) : (badArg s h op).ens = s.ens := by
  simp [badArg]
@[simp] theorem badArg_clap (s : State) (h : CmdHdr) (op : Nat) : (badArg s h op).clap = s.clap := by
  simp [badArg]
@[simp] theorem badArg_loops (s : State) (h : CmdHdr) (op : Nat) : (badArg s h op).loops = s.loops := by
  simp [badArg]
@[simp] theorem badArg_outs (s : State) (h : CmdHdr) (op : Nat) : (badArg s h op).outs = s.outs := by
  simp [badArg]
@[simp] theorem badArg_cues (s : State) (h : CmdHdr) (op : Nat) : (badArg s h op).cues = s.cues := by
  simp [badArg]
@[simp] theorem badArg_gnss (s : State) (h : CmdHdr) (op : Nat) : (badArg s h op).gnss = s.gnss := by
  simp [badArg]
@[simp] theorem badArg_ports (s : State) (h : CmdHdr) (op : Nat) : (badArg s h op).ports = s.ports := by
  simp [badArg]
@[simp] theorem badArg_stv (s : State) (h : CmdHdr) (op : Nat) : (badArg s h op).stv = s.stv := by
  simp [badArg]
@[simp] theorem badArg_ntp (s : State) (h : CmdHdr) (op : Nat) : (badArg s h op).ntp = s.ntp := by
  simp [badArg]
@[simp] theorem badArg_ran (s : State) (h : CmdHdr) (op : Nat) : (badArg s h op).ran = s.ran := by
  simp [badArg]
@[simp] theorem badArg_areas (s : State) (h : CmdHdr) (op : Nat) : (badArg s h op).areas = s.areas := by
  simp [badArg]
@[simp] theorem badArg_gov (s : State) (h : CmdHdr) (op : Nat) : (badArg s h op).gov = s.gov := by
  simp [badArg]
@[simp] theorem badArg_log (s : State) (h : CmdHdr) (op : Nat) : (badArg s h op).log = s.log := by
  simp [badArg]
@[simp] theorem badArg_sheets (s : State) (h : CmdHdr) (op : Nat) : (badArg s h op).sheets = s.sheets := by
  simp [badArg]
@[simp] theorem badArg_fw (s : State) (h : CmdHdr) (op : Nat) : (badArg s h op).fw = s.fw := by
  simp [badArg]
@[simp] theorem badArg_perf (s : State) (h : CmdHdr) (op : Nat) : (badArg s h op).perf = s.perf := by
  simp [badArg]
@[simp] theorem badArg_wrap (s : State) (h : CmdHdr) (op : Nat) : (badArg s h op).wrap = s.wrap := by
  simp [badArg]
@[simp] theorem badArg_pwr (s : State) (h : CmdHdr) (op : Nat) : (badArg s h op).pwr = s.pwr := by
  simp [badArg]
@[simp] theorem badArg_ticks (s : State) (h : CmdHdr) (op : Nat) : (badArg s h op).ticks = s.ticks := by
  simp [badArg]
@[simp] theorem badArg_fresh (s : State) (h : CmdHdr) (op : Nat) : (badArg s h op).fresh = s.fresh := by
  simp [badArg]
@[simp] theorem badArg_out (s : State) (h : CmdHdr) (op : Nat) : (badArg s h op).out = s.out := by
  simp [badArg]
@[simp] theorem badArg_pending (s : State) (h : CmdHdr) (op : Nat) : (badArg s h op).pending = s.pending := by
  simp [badArg]

@[simp] theorem governorRefuses_hs (s : State) (op limit : Nat) : (governorRefuses s op limit).hs = s.hs := by
  simp only [governorRefuses]; split <;> (try split) <;> simp
@[simp] theorem governorRefuses_ens (s : State) (op limit : Nat) : (governorRefuses s op limit).ens = s.ens := by
  simp only [governorRefuses]; split <;> (try split) <;> simp
@[simp] theorem governorRefuses_clap (s : State) (op limit : Nat) : (governorRefuses s op limit).clap = s.clap := by
  simp only [governorRefuses]; split <;> (try split) <;> simp
@[simp] theorem governorRefuses_loops (s : State) (op limit : Nat) : (governorRefuses s op limit).loops = s.loops := by
  simp only [governorRefuses]; split <;> (try split) <;> simp
@[simp] theorem governorRefuses_outs (s : State) (op limit : Nat) : (governorRefuses s op limit).outs = s.outs := by
  simp only [governorRefuses]; split <;> (try split) <;> simp
@[simp] theorem governorRefuses_cues (s : State) (op limit : Nat) : (governorRefuses s op limit).cues = s.cues := by
  simp only [governorRefuses]; split <;> (try split) <;> simp
@[simp] theorem governorRefuses_gnss (s : State) (op limit : Nat) : (governorRefuses s op limit).gnss = s.gnss := by
  simp only [governorRefuses]; split <;> (try split) <;> simp
@[simp] theorem governorRefuses_ports (s : State) (op limit : Nat) : (governorRefuses s op limit).ports = s.ports := by
  simp only [governorRefuses]; split <;> (try split) <;> simp
@[simp] theorem governorRefuses_stv (s : State) (op limit : Nat) : (governorRefuses s op limit).stv = s.stv := by
  simp only [governorRefuses]; split <;> (try split) <;> simp
@[simp] theorem governorRefuses_ptp (s : State) (op limit : Nat) : (governorRefuses s op limit).ptp = s.ptp := by
  simp only [governorRefuses]; split <;> (try split) <;> simp
@[simp] theorem governorRefuses_ntp (s : State) (op limit : Nat) : (governorRefuses s op limit).ntp = s.ntp := by
  simp only [governorRefuses]; split <;> (try split) <;> simp
@[simp] theorem governorRefuses_ran (s : State) (op limit : Nat) : (governorRefuses s op limit).ran = s.ran := by
  simp only [governorRefuses]; split <;> (try split) <;> simp
@[simp] theorem governorRefuses_areas (s : State) (op limit : Nat) : (governorRefuses s op limit).areas = s.areas := by
  simp only [governorRefuses]; split <;> (try split) <;> simp
@[simp] theorem governorRefuses_sheets (s : State) (op limit : Nat) : (governorRefuses s op limit).sheets = s.sheets := by
  simp only [governorRefuses]; split <;> (try split) <;> simp
@[simp] theorem governorRefuses_fw (s : State) (op limit : Nat) : (governorRefuses s op limit).fw = s.fw := by
  simp only [governorRefuses]; split <;> (try split) <;> simp
@[simp] theorem governorRefuses_perf (s : State) (op limit : Nat) : (governorRefuses s op limit).perf = s.perf := by
  simp only [governorRefuses]; split <;> (try split) <;> simp
@[simp] theorem governorRefuses_wrap (s : State) (op limit : Nat) : (governorRefuses s op limit).wrap = s.wrap := by
  simp only [governorRefuses]; split <;> (try split) <;> simp
@[simp] theorem governorRefuses_pwr (s : State) (op limit : Nat) : (governorRefuses s op limit).pwr = s.pwr := by
  simp only [governorRefuses]; split <;> (try split) <;> simp
@[simp] theorem governorRefuses_ticks (s : State) (op limit : Nat) : (governorRefuses s op limit).ticks = s.ticks := by
  simp only [governorRefuses]; split <;> (try split) <;> simp
@[simp] theorem governorRefuses_fresh (s : State) (op limit : Nat) : (governorRefuses s op limit).fresh = s.fresh := by
  simp only [governorRefuses]; split <;> (try split) <;> simp
@[simp] theorem governorRefuses_pending (s : State) (op limit : Nat) : (governorRefuses s op limit).pending = s.pending := by
  simp only [governorRefuses]; split <;> (try split) <;> simp

@[simp] theorem deniedBy_hs (s : State) (h : CmdHdr) (op limit : Nat) : (deniedBy s h op limit).hs = s.hs := by
  simp [deniedBy]
@[simp] theorem deniedBy_ens (s : State) (h : CmdHdr) (op limit : Nat) : (deniedBy s h op limit).ens = s.ens := by
  simp [deniedBy]
@[simp] theorem deniedBy_clap (s : State) (h : CmdHdr) (op limit : Nat) : (deniedBy s h op limit).clap = s.clap := by
  simp [deniedBy]
@[simp] theorem deniedBy_loops (s : State) (h : CmdHdr) (op limit : Nat) : (deniedBy s h op limit).loops = s.loops := by
  simp [deniedBy]
@[simp] theorem deniedBy_outs (s : State) (h : CmdHdr) (op limit : Nat) : (deniedBy s h op limit).outs = s.outs := by
  simp [deniedBy]
@[simp] theorem deniedBy_cues (s : State) (h : CmdHdr) (op limit : Nat) : (deniedBy s h op limit).cues = s.cues := by
  simp [deniedBy]
@[simp] theorem deniedBy_gnss (s : State) (h : CmdHdr) (op limit : Nat) : (deniedBy s h op limit).gnss = s.gnss := by
  simp [deniedBy]
@[simp] theorem deniedBy_ports (s : State) (h : CmdHdr) (op limit : Nat) : (deniedBy s h op limit).ports = s.ports := by
  simp [deniedBy]
@[simp] theorem deniedBy_stv (s : State) (h : CmdHdr) (op limit : Nat) : (deniedBy s h op limit).stv = s.stv := by
  simp [deniedBy]
@[simp] theorem deniedBy_ntp (s : State) (h : CmdHdr) (op limit : Nat) : (deniedBy s h op limit).ntp = s.ntp := by
  simp [deniedBy]
@[simp] theorem deniedBy_ran (s : State) (h : CmdHdr) (op limit : Nat) : (deniedBy s h op limit).ran = s.ran := by
  simp [deniedBy]
@[simp] theorem deniedBy_areas (s : State) (h : CmdHdr) (op limit : Nat) : (deniedBy s h op limit).areas = s.areas := by
  simp [deniedBy]
@[simp] theorem deniedBy_sheets (s : State) (h : CmdHdr) (op limit : Nat) : (deniedBy s h op limit).sheets = s.sheets := by
  simp [deniedBy]
@[simp] theorem deniedBy_fw (s : State) (h : CmdHdr) (op limit : Nat) : (deniedBy s h op limit).fw = s.fw := by
  simp [deniedBy]
@[simp] theorem deniedBy_perf (s : State) (h : CmdHdr) (op limit : Nat) : (deniedBy s h op limit).perf = s.perf := by
  simp [deniedBy]
@[simp] theorem deniedBy_wrap (s : State) (h : CmdHdr) (op limit : Nat) : (deniedBy s h op limit).wrap = s.wrap := by
  simp [deniedBy]
@[simp] theorem deniedBy_pwr (s : State) (h : CmdHdr) (op limit : Nat) : (deniedBy s h op limit).pwr = s.pwr := by
  simp [deniedBy]
@[simp] theorem deniedBy_ticks (s : State) (h : CmdHdr) (op limit : Nat) : (deniedBy s h op limit).ticks = s.ticks := by
  simp [deniedBy]
@[simp] theorem deniedBy_fresh (s : State) (h : CmdHdr) (op limit : Nat) : (deniedBy s h op limit).fresh = s.fresh := by
  simp [deniedBy]
@[simp] theorem deniedBy_pending (s : State) (h : CmdHdr) (op limit : Nat) : (deniedBy s h op limit).pending = s.pending := by
  simp [deniedBy]

/-! ### Which registers an operation writes -/

/-- The registers that counting a performance event writes. -/
def isPerfReg (n : RegName) : Bool := n == .PERF_CNT_LO || n == .PERF_CNT_HI || n == .PERF_OVF_LO || n == .PERF_OVF_HI

/-- The registers that an event writes. -/
def isEventReg (n : RegName) : Bool := n == .HOST_EVT_LOST || n == .HOST_RING_HEAD

/-- The registers that a log record writes, with those of the event that it can post. -/
def isLogReg (n : RegName) : Bool :=
  isEventReg n || n == .LOG_SEQ || n == .LOG_DROP || n == .LOG_STATUS || n == .LOG_LW_DROP || n == .LOG_LW_VALID_LO || n == .LOG_LW_VALID_HI

theorem setPerfCount_rg (s : State) (c v : Nat) (n : RegName) (i j : Nat) (h : isPerfReg n = false) : (setPerfCount s c v).rg n i j = s.rg n i j := by
  simp [isPerfReg] at h
  rw [setPerfCount, rg_setF_name _ _ _ _ _ _ _ _ h.1.1.2, rg_setF_name _ _ _ _ _ _ _ _ h.1.1.1]

theorem perfOverflow_rg (s : State) (c : Nat) (n : RegName) (i j : Nat) (h : isPerfReg n = false) : (perfOverflow s c).rg n i j = s.rg n i j := by
  simp [isPerfReg] at h
  unfold perfOverflow
  split
  · exact rg_setF_name _ _ _ _ _ _ _ _ h.1.2
  · exact rg_setF_name _ _ _ _ _ _ _ _ h.2

theorem perfPut_rg (s : State) (c v : Nat) (n : RegName) (i j : Nat) (h : isPerfReg n = false) : (perfPut s c v).rg n i j = s.rg n i j := by
  unfold perfPut
  split
  · exact setPerfCount_rg _ _ _ _ _ _ h
  · exact (rg_congr rfl _ _ _).trans ((perfOverflow_rg _ c _ _ _ h).trans (setPerfCount_rg s c (v % 2 ^ 48) _ _ _ h))

/-- What is counted leaves the sampler's buffer and its state, whatever the counters do. -/
theorem perfPut_sampler (s : State) (c v : Nat) : (perfPut s c v).perf = { s.perf with wrapped := (perfPut s c v).perf.wrapped } := by
  unfold perfPut; split <;> simp

theorem perfBump1_rg (s : State) (c k : Nat) (n : RegName) (i j : Nat) (h : isPerfReg n = false) : (perfBump1 s c k).rg n i j = s.rg n i j :=
  perfPut_rg _ _ _ _ _ _ h

theorem perfBump_rg (s : State) (c k : Nat) (n : RegName) (i j : Nat) (h : isPerfReg n = false) : (perfBump s c k).rg n i j = s.rg n i j := by
  unfold perfBump
  split
  · unfold perfPutLower
    split
    · exact setPerfCount_rg _ _ _ _ _ _ h
    · rw [perfBump1_rg _ _ _ _ _ _ h, setPerfCount_rg _ _ _ _ _ _ h]
  · exact perfBump1_rg _ _ _ _ _ _ h

theorem perf_rg (s : State) (ev x k : Nat) (n : RegName) (i j : Nat) (h : isPerfReg n = false) : (perf s ev x k).rg n i j = s.rg n i j := by
  unfold perf
  split
  · refine foldl_keeps (fun t => t.rg n i j) _ (fun t c => ?_) _ _
    split
    · exact perfBump_rg _ _ _ _ _ _ h
    · rfl
  · rfl

theorem violation_rg (s : State) (n : RegName) (i j : Nat) (h : isPerfReg n = false) (h2 : n ≠ .GOV_VIOLATION) : (violation s).rg n i j = s.rg n i j := by
  rw [violation, perf_rg _ _ _ _ _ _ _ h]
  exact rg_wr_name _ _ _ _ _ _ _ _ h2

theorem cplStep_rg (s : State) (r : Nat) (n : RegName) (i j : Nat) (h : n ≠ .HOST_RING_HEAD) : (cplStep s r).rg n i j = s.rg n i j := by
  simp only [cplStep]
  split
  · rw [rg_setF_name _ _ _ _ _ _ _ _ h]; exact rg_congr rfl _ _ _
  · rw [rg_setF_name _ _ _ _ _ _ _ _ h, rg_setF_name _ _ _ _ _ _ _ _ h]; exact rg_congr rfl _ _ _

theorem cplWrite1_rg (s : State) (r : Nat) (e : CplEntry) (n : RegName) (i j : Nat) (h : n ≠ .HOST_RING_HEAD) :
    (cplWrite1 s r e).rg n i j = s.rg n i j := by
  rw [cplWrite1, cplStep_rg _ _ _ _ _ h]; exact rg_congr rfl _ _ _

theorem cplWrite_rg (s : State) (r : Nat) (e : CplEntry) (n : RegName) (i j : Nat) (h : n ≠ .HOST_RING_HEAD) :
    (cplWrite s r e).rg n i j = s.rg n i j := by
  simp only [cplWrite]
  split
  · split
    · rw [cplStep_rg _ _ _ _ _ h]
      exact (rg_congr (t := (((cplStep s r).emit _).emit _)) (s := cplStep s r) rfl n i j).trans (cplStep_rg _ _ _ _ _ h)
    · exact cplWrite1_rg _ _ _ _ _ _ h
  · exact cplWrite1_rg _ _ _ _ _ _ h

theorem postTo_rg (s : State) (r c : Nat) (d : Layout) (x : Slate) (m : Nat) (n : RegName) (i j : Nat) (h : isEventReg n = false) :
    (postTo s r c d x m).rg n i j = s.rg n i j := by
  simp [isEventReg] at h
  unfold postTo
  split
  · simp [cplWrite_rg _ _ _ _ _ _ h.2]
  · simp [State.inc, rg_wr_name _ _ _ _ _ _ _ _ h.1]

theorem notice_rg (s : State) (r c : Nat) (d : Layout) (n : RegName) (i j : Nat) (h : isEventReg n = false) : (notice s r c d).rg n i j = s.rg n i j :=
  postTo_rg _ _ _ _ _ _ _ _ _ h

theorem event_rg (s : State) (c : Nat) (d : Layout) (n : RegName) (i j : Nat) (h : isEventReg n = false) : (event s c d).rg n i j = s.rg n i j := by
  simp only [event]
  split
  · rw [notice_rg _ _ _ _ _ _ _ h]
    split
    · exact rg_congr (by simp) n i j
    · rfl
  · simp [isEventReg] at h
    exact (rg_congr (t := { s.inc .HOST_EVT_LOST with host := _ }) (s := s.inc .HOST_EVT_LOST) rfl n i j).trans (rg_wr_name _ _ _ _ _ _ _ _ h.1)

theorem event_f (s : State) (c : Nat) (d : Layout) (e : Fld) (i j : Nat) (h : isEventReg e.reg = false) : (event s c d).f e i j = s.f e i j := by
  simp [State.f, event_rg _ _ _ _ _ _ h]

theorem isEventReg_of_isLogReg {n : RegName} (h : isLogReg n = false) : isEventReg n = false := by
  simp [isLogReg] at h; exact h.1.1.1.1.1.1

theorem mediaDead_rg (s : State) (n : RegName) (i j : Nat) (h : isLogReg n = false) : (mediaDead s).rg n i j = s.rg n i j := by
  have he := isEventReg_of_isLogReg h
  simp [isLogReg] at h
  unfold mediaDead
  split
  · rfl
  · rw [event_rg _ _ _ _ _ _ he]
    exact rg_setF_name _ _ _ _ _ _ _ _ h.1.1.1.2

theorem setLwValid_rg (s : State) (k : Nat) (b : Bool) (n : RegName) (i j : Nat) (h : isLogReg n = false) : (setLwValid s k b).rg n i j = s.rg n i j := by
  simp [isLogReg] at h
  unfold setLwValid
  split
  · exact rg_setF_name _ _ _ _ _ _ _ _ h.1.2
  · exact rg_setF_name _ _ _ _ _ _ _ _ h.2

theorem lwWrite_rg (s : State) (r : LogRec) (n : RegName) (i j : Nat) (h : isLogReg n = false) : (lwWrite s r).rg n i j = s.rg n i j := by
  have h' := h
  simp [isLogReg] at h'
  unfold lwWrite
  split
  · rfl
  · split
    · exact mediaDead_rg _ _ _ _ h
    · split
      · exact rg_wr_name _ _ _ _ _ _ _ _ h'.1.1.2
      · rw [setLwValid_rg _ _ _ _ _ _ h]; exact rg_congr rfl _ _ _

theorem logPut_rg (s : State) (sev src c : Nat) (d : Layout) (x : Slate) (n : RegName) (i j : Nat) (h : isLogReg n = false) :
    (logPut s sev src c d x).rg n i j = s.rg n i j := by
  have h' := h
  simp [isLogReg] at h'
  have h1 := h'.1.1.1.1.1.2
  have h2 := h'.1.1.1.1.2
  simp only [logPut]
  have hq : ∀ t : State, t.rg n i j = s.rg n i j → (if t.log.queue.length < 256 then { t with log := { t.log with queue := t.log.queue ++ [⟨sev, src, (s.rg .LOG_SEQ).toNat, x, c, d, logLen d, false⟩] } } else t.inc .LOG_DROP sev).rg n i j = s.rg n i j := by
    intro t ht
    split
    · exact (rg_congr rfl _ _ _).trans ht
    · exact (rg_wr_name _ _ _ _ _ _ _ _ h2).trans ht
  have hb := hq (s.wr .LOG_SEQ 0 0 (BitVec.ofNat 32 ((s.rg .LOG_SEQ).toNat + 1))) (rg_wr_name _ _ _ _ _ _ _ _ h1)
  split
  · rw [lwWrite_rg _ _ _ _ _ h]; exact hb
  · exact hb

theorem logRec_rg (s : State) (sev c : Nat) (d : Layout) (n : RegName) (i j : Nat) (h : isLogReg n = false) : (logRec s sev c d).rg n i j = s.rg n i j := by
  simp [logRec, logPut_rg _ _ _ _ _ _ _ _ _ h]

theorem logEvent_rg (s : State) (sev c : Nat) (d : Layout) (n : RegName) (i j : Nat) (h : isLogReg n = false) :
    (logEvent s sev c d).rg n i j = s.rg n i j := by
  rw [logEvent, event_rg _ _ _ _ _ _ (isEventReg_of_isLogReg h), logRec_rg _ _ _ _ _ _ _ h]

theorem logEvent_f (s : State) (sev c : Nat) (d : Layout) (e : Fld) (i j : Nat) (h : isLogReg e.reg = false) :
    (logEvent s sev c d).f e i j = s.f e i j := by
  simp [State.f, logEvent_rg _ _ _ _ _ _ _ h]

/-! ### Completions -/

/-- A command of a CMD ring completes: no register changes. -/
theorem complete_regs (s : State) (h : CmdHdr) (op : Nat) (st : Status) (p : Layout) (hr : h.ring < 64) : (complete s h op st p).regs = s.regs := by
  unfold complete
  rw [if_neg (by omega)]
  simp

theorem complete_ptp (s : State) (h : CmdHdr) (op : Nat) (st : Status) (p : Layout) (hr : h.ring < 64) : (complete s h op st p).ptp = s.ptp := by
  unfold complete
  rw [if_neg (by omega)]
  simp

theorem setRing_hostOnly {s t : State} (h : t = { s with host := t.host }) (r : Nat) (x : Ring) :
    setRing t r x = { s with host := (setRing t r x).host } := by
  rw [h]; rfl

/-- Nothing but the rings changes when a command of a CMD ring completes. -/
theorem complete_eq (s : State) (h : CmdHdr) (op : Nat) (st : Status) (p : Layout) (hr : h.ring < 64) :
    complete s h op st p = { s with host := (complete s h op st p).host } := by
  unfold complete
  rw [if_neg (by omega)]
  unfold releaseAborts
  refine foldl_inv (fun t => t = { s with host := t.host }) _ (fun t x ht => setRing_hostOnly ht _ _) _ _ ?_
  exact setRing_hostOnly (setRing_hostOnly rfl _ _) _ _

/-- A completion with no ABORT that waits for its command: it is the newest entry that waits for the CPL ring, and no other ring's entries change. -/
theorem complete_waiting (s : State) (h : CmdHdr) (op : Nat) (st : Status) (p : Layout) (hr : h.ring < 64) (ha : (ring s h.ring).aborters = []) (r : Nat) :
    (ring (complete s h op st p) r).waiting
      = if r = s.f F.HOST_RING_CFG_cpl_ring h.ring then (ring s r).waiting ++ [.command ⟨st, h.tag, h.ring, op, p⟩] else (ring s r).waiting := by
  unfold complete
  rw [if_neg (by omega)]
  unfold releaseAborts
  have hx : (ring (cplQueue s (s.f F.HOST_RING_CFG_cpl_ring h.ring) (.command ⟨st, h.tag, h.ring, op, p⟩)) h.ring).aborters = [] := by
    unfold cplQueue
    by_cases e : h.ring = s.f F.HOST_RING_CFG_cpl_ring h.ring
    · rw [← e]; simp [ha]
    · rw [ring_setRing_other _ _ _ _ e]; exact ha
  simp only [hx, List.filter_nil, List.foldl_nil]
  by_cases e : r = h.ring
  · subst e
    simp only [ring_setRing_same]
    unfold cplQueue
    by_cases e2 : h.ring = s.f F.HOST_RING_CFG_cpl_ring h.ring
    · rw [if_pos e2, ← e2]; simp
    · rw [if_neg e2, ring_setRing_other _ _ _ _ e2]
  · rw [ring_setRing_other _ _ _ _ e]
    unfold cplQueue
    by_cases e2 : r = s.f F.HOST_RING_CFG_cpl_ring h.ring
    · rw [if_pos e2, ← e2]; simp
    · rw [if_neg e2, ring_setRing_other _ _ _ _ e2]


end Sys2Proof.Machine
end

