-- ==== Sys2Proof/Tests/Slice0.lean ====
section
/-! SUPPORT. The model's own tests: commands that are not well-formed, the worked examples of spec/, and for every statement with hypotheses a
concrete state and operands that meet them, clause by clause. -/
namespace Sys2Proof.Tests
open Sys2Proof Sys2Proof.Machine

set_option Elab.async false

/-- A timescale that was set and locked. -/
def lockedTs : Tscale :=
  { Tscale.reset with cnt := ⟨10 ^ 9, 0, 0⟩, valid := true, bnd := 0x20, state := .locked, everLocked := true, setSinceResume := true }

/-- A clocked device: reset with SHCLK. -/
def S0 : State := { State.reset with hs := { State.reset.hs with shclk := true } }

/-- A device in RUN: four timescales run, four APLLs are locked, the host may be written, permission held. -/
def S1 : State :=
  ((((List.range 4).foldl (fun s n => (setTsc (s.setB F.TS_CTRL_enable true n) n lockedTs).setF F.AP_STATUS_state 3 n) S0).setF F.PWR_RUN_run_state 3).setB
    F.HOST_STATUS_bus_master true).setB F.RAN_STATUS_permission true

/-- The header of the witnesses. -/
def H0 : CmdHdr := ⟨1, 7, false, true⟩

/-- The state that an outcome answers. -/
def nextOf : Host.Outcome State Fault Refusal → State
  | .next t => t
  | _ => S0

/-- It answers one. -/
def isNext : Host.Outcome State Fault Refusal → Bool
  | .next _ => true
  | _ => false

theorem nextOf_eq {o : Host.Outcome State Fault Refusal} (h : isNext o = true) : o = .next (nextOf o) := by
  cases o <;> first | rfl | cases h

/-- A device whose key tree holds a node with a key of usage `u`, and the model's free generation of it is 1. -/
def keyed (s : State) (i u : Nat) : State :=
  setNode { s with stv := { s.stv with opening := 0, freed := [(i, 2 ^ 22 - 1 - Config.draw i % (2 ^ 22 - 1))] } } i
    (some ⟨1, u, 32, some 0, 1, false, [], [], false⟩)

theorem keyed_handle (s : State) (i u : Nat) (hi : i < 1024) : handleNode (keyed s i u) (1024 + i) = some i := by
  have h1 : (1024 + i) % 1024 = i := by omega
  have h2 : (1024 + i) / 1024 = 1 := by omega
  have h3 : nodeGen (keyed s i u) i = 1 := by
    simp only [nodeGen, keyed, setNode, tget, if_true, Nat.zero_add]
    omega
  have h4 : node (keyed s i u) i = some ⟨1, u, 32, some 0, 1, false, [], [], false⟩ := tget_tset_same ..
  simp [handleNode, h1, h2, h3, h4]

theorem keyed_usage (s : State) (i u : Nat) (hi : i < 1024) : handleIs (keyed s i u) (1024 + i) u = true := by
  have h4 : node (keyed s i u) i = some ⟨1, u, 32, some 0, 1, false, [], [], false⟩ := tget_tset_same ..
  simp [handleIs, keyed_handle s i u hi, h4]

/-- PTP instance 3 runs on port 3. -/
def ptpS : State := ((((((((S1.setF F.TSE_IP4_value 5 3).setF F.PTP_INST_ID_LO_value 5 3).setB F.PTP_INST_CFG_enable true 3).setF F.PTP_INST_CFG_ports 8 3).setF F.PTP_INST_CFG_transport 1 3).setB F.PORT_CFG_enable true 3).setF F.PORT_STATUS_state 3 3).setF F.PORT_MAC_LO_value 2 3)

/-- NTP instance 3 serves port 3. -/
def ntpS : State := (((((((S1.setB F.NTP_INST_CFG_enable true 3).setF F.NTP_INST_CFG_ports 8 3).setB F.NTP_INST_CFG_ip4 true 3).setB F.PORT_CFG_enable true 3).setF F.PORT_STATUS_state 3 3).setF F.PORT_MAC_LO_value 2 3).setF F.TSE_IP4_value 5 3)

/-- NTP peer 7 is asked on port 3. -/
def peerS : State := ((((S1.setB F.NTP_PEER_CFG_enable true 7).setF F.NTP_PEER_CFG_port 3 7).setB F.PORT_CFG_enable true 3).setF F.PORT_STATUS_state 3 3)

/-- Sample port 2 runs. -/
def gnssS : State := ((((S1.setF F.GNSS_STATUS_pstate 2).setF F.GNSS_PORT_FS_f_s 100000000 2).setF F.GNSS_PORT_LO_lo_hz 1575420000 2).setB F.GNSS_PORT_STATUS_running true 2)

/-- Port 3 is up. -/
def portS : State := ((S1.setF F.PORT_STATUS_state 3 3).setF F.PORT_MAXF_max_frame 1518 3)

/-- Ring 63 holds a frame for port 3. -/
def txS : State :=
  (((setRing (((portS.setF F.HOST_RING_CFG_type 2 63).setF F.HOST_RING_STATUS_state 1 63).setF F.HOST_RING_CFG_port 3 63) 63 { Ring.reset with txq := [⟨4096, 64, true, false, 0, 0, 0, true, 9, List.replicate 64 1⟩] }).setF F.HOST_RING_CFG_type 1 0).setF F.HOST_RING_STATUS_state 1 0).setF F.HOST_RING_CFG_size_exp 6 0

/-- Ring 63 holds a chain of no bytes. -/
def badTxS : State :=
  setRing (((portS.setF F.HOST_RING_CFG_type 2 63).setF F.HOST_RING_STATUS_state 1 63).setF F.HOST_RING_CFG_port 3 63) 63 { Ring.reset with txq := [⟨4096, 0, true, false, 0, 0, 0, true, 9, []⟩] }

/-- The device leads its twin. -/
def leadS : State := (((((S1.setF F.RAN_STATUS_role 1).setB F.RAN_STATUS_peer_fresh true 0).setF F.RAN_STATUS_link 2).setB F.RAN_CFG_enable true 0).setF F.RAN_STATUS_lanes_up 3)

/-- The device leads, and the twin's claim is fresh. -/
def freshS : State := { leadS with ran := { leadS.ran with peer := some ⟨⟨8, 2, 7, 1⟩, 0⟩ } }

/-- The device rests and may rejoin. -/
def restS : State := (leadS.setF F.RAN_STATUS_role 3).setB F.RAN_CFG_auto_rejoin true 0

/-- The device follows its twin. -/
def followS : State := leadS.setF F.RAN_STATUS_role 2

/-- Bytes of a call sheet without sections. -/
def sheetImg0 : List Nat := [0x4B, 0x43, 0x53, 0x48, 1, 0, 0, 0, 7, 0, 0, 0, 0, 0, 0, 0, 64, 0, 0, 0] ++ List.replicate 44 0

/-- The sheet with its CRC. -/
def sheetImg : List Nat :=
  let c := crc32c sheetImg0
  sheetImg0.take 60 ++ [c % 256, c / 256 % 256, c / 65536 % 256, c / 16777216]

theorem pair_key (s : State) (h : (keyed s 5 3).rg .STV_PAIR_KEY = 1029) : (pairKey (keyed s 5 3)).isNone = false := by
  have h4 : node (keyed s 5 3) 5 = some ⟨1, 3, 32, some 0, 1, false, [], [], false⟩ := tget_tset_same ..
  have h5 : handleNode (keyed s 5 3) 1029 = some 5 := keyed_handle s 5 3 (by decide)
  have h6 : handleIs (keyed s 5 3) 1029 3 = true := keyed_usage s 5 3 (by decide)
  simp [pairKey, h, h6, handleKey, h5, h4]

/-! ### Tests -/

/-- The completions and events that wait in CPL ring 0. -/
def cplOf (s : State) : List CplEntry := (ring s 0).waiting

/-- `S1` with CPL ring 0 enabled. -/
def S2 : State := ((S1.setF F.HOST_RING_CFG_type 1 0).setF F.HOST_RING_STATUS_state 1 0).setF F.HOST_RING_CFG_size_exp 6 0

/-- TS0 and the schedule of R68's example: an insertion at the end of UTC 2031-06-30 with TAI − UTC at 37 s; TS0 at `sec`. -/
def leapDay (sec ns : Nat) : State :=
  let s := ((S2.setB F.TS_UTC_OFS_known true).setF F.TS_UTC_OFS_tai_utc 37).setF F.TS_LEAP_SCHED_dir 1
  setTsc (s.setF F.TS_LEAP_SCHED_day 22460) 0 { lockedTs with cnt := ⟨sec, ns, 0⟩ }

/-- The examples of R56 (03_timescales.md). -/
theorem test_bound_codes : [100, 40, 1000000, 7400, 14303, 126213, 81002681].map boundCode = [0x19, 0x10, 0x80, 0x4D, 0x50, 0x6F, 0xB4]
    ∧ boundPs 0xB7 = some 96468992 ∧ boundPs 0xB8 = some 100663296 := by decide +kernel

/-- The check value of R176's CRC (08_cues_captures_tod.md). -/
theorem test_crc16 : crc16 [0x31, 0x32, 0x33, 0x34, 0x35, 0x36, 0x37, 0x38, 0x39] = 0x29B1 := by decide +kernel

/-- The published check value of CRC-32C (PRESUMED, notes/assumptions/40.md). -/
theorem test_crc32c : crc32c [0x31, 0x32, 0x33, 0x34, 0x35, 0x36, 0x37, 0x38, 0x39] = 0xE3069283 := by decide +kernel

/-- One tick adds the increment alone: 1.6 ns at reset (R44, R46). -/
theorem test_tick : (tsc (nextOf (step S1)) 0).cnt = ⟨10 ^ 9, 1, 0x99999999999A⟩ := by decide +kernel

/-- R68's example: TS0 2031-07-01 00:00:37 is UTC 2031-06-30 23:59:60. -/
theorem test_leap_second_view : (cplOf (nextOf (exec (.tsReadView H0 0 1) (leapDay (22461 * 86400 + 37) 0)))).map (fun e => match e with
      | .command c => (c.payload.take 6).map (fun x => x.2.2)
      | _ => []) = [[2031, 6, 30, 23, 59, 60]] := by decide +kernel

/-- R263's example: T2 on the instance without smear; and R69 at t − t0 = 21,600 s exactly, where the served time lags by 21,600 / 86,401 s
(the example adds 250 µs to that value without moving t − t0: notes/assumptions/58.md). -/
theorem test_ntp_stamps :
    ntpStamp (leapDay 0 0) false ((((22460 * 86400 + 64837) * 10 ^ 9 + 250000 : Nat) : Int) * 2 ^ 48) = 0xF755D5A00010624E
    ∧ ntpStamp (leapDay 0 0) true ((((22460 * 86400 + 64837) * 10 ^ 9 : Nat) : Int) * 2 ^ 48) = 0xF755D59FC000308B := by decide +kernel

/-- R263's example: Root Dispersion. -/
theorem test_root_dispersion : rootDispersion (some 81002681) = 6 := by decide +kernel

/-- The coasting example of 04_ensemble_and_bounds.md: frequency, drift, temperature and device terms after 1 h and 6 h. -/
def coasting (dt : Nat) : State :=
  let s := ((S1.setF F.TS_OSC_Y0_value 100).setF F.TS_OSC_DRIFT_value 2000).setF F.TS_OSC_TEMPCO_value 50
  setEns (s.setF F.TS_OSC_CFG_temp_src 2) 0 { ens s 0 with dtMax := dt, yE := 80 }
theorem test_coasting_bound : holdBound (coasting 100) 0 3600 = some 6903 ∧ holdBound (coasting 400) 0 21600 = some 118813 := by decide +kernel

/-- The schedule of the converter starts in 08_cues_captures_tod.md: instants 0, 1, 2 and 167. -/
theorem test_cue_instants : [0, 1, 2, 167].map (cueInstant { Cue.reset with t0 := 10000000000, period := 360000000000, div := 16032 })
    = [10000000000, 10022455090, 10044910180, 13750000000] := by decide +kernel

/-- R452's example: GLOBAL_CAP_NET. -/
theorem test_cap_net : State.reset.rg .GLOBAL_CAP_NET = 0x40288444 := by decide +kernel

/-- The ratio of the example in 06_loops.md: 1026.048 on a PFD of 10 MHz. -/
theorem test_ratio : nominalRatio (((S1.setF F.SYN_OSC_CFG_osc_freq 1).setF F.DP_FREQ_LO_value (172142289223680000 % 2 ^ 32) 1).setF F.DP_FREQ_HI_value
    (172142289223680000 / 2 ^ 32) 1) 1 = 1026 * 2 ^ 40 + 52776558133 := by decide +kernel

/-- The governor's example (17_firmware_governor_perf.md): a step of 2 µs with its permit, then again with the spent permit; a slew at 200 ns/s. -/
def standing : State := { S2 with gov := { S2.gov with permits := [(2, some ⟨0x5C3E9A17, none, 10 ^ 12⟩)] } }
def stepped : State := nextOf (exec (.tsStep H0 ⟨2, 0x5C3E9A17, 2000, 0⟩) standing)
def statusOf (s : State) : List Status := (cplOf s).filterMap (fun e => match e with
  | .command c => some c.status
  | _ => none)
theorem test_step_with_permit : (tsc stepped 2).cnt = ⟨10 ^ 9, 2000, 0⟩ ∧ stepped.rg .TS_STEP_COUNT 2 = 1 ∧ permitOf stepped 2 = none
    ∧ (tsc stepped 2).stepped.contains .log = true ∧ statusOf stepped = [.ok] := by decide +kernel
theorem test_spent_permit : statusOf (nextOf (exec (.tsStep H0 ⟨2, 0x5C3E9A17, 2000, 0⟩) stepped)) = [.ok, .deniedGovernor] := by decide +kernel
theorem test_slew_limit : statusOf (nextOf (exec (.tsSlew H0 ⟨2, 200000, 2000000⟩) S2)) = [.deniedGovernor] := by decide +kernel

/-- The mark exchange of the example in 13_twin.md: θ is 10 ps, and the cable 48,190 ps. -/
def marked : State :=
  let sl (ns frac : Nat) : Slate := ⟨0x4D, true, false, false, false, 0, 5, ns, frac⟩
  let s := S1.setI F.RAN_ASYM_value (-40 * 256)
  { s with ran := { s.ran with markTx := some (sl 0 0), markRx := some (sl 48 944892805), state := some (⟨sl 0 0, some (sl 48 687194767), 925, 2, 0, 37, 0, 1, 57⟩, 0) } }
theorem test_mark_exchange : (markExchange marked).fi F.RAN_OFS_value = 10 * 256 ∧ (markExchange marked).f F.RAN_DELAY_value = 48190 * 256 := by
  decide +kernel

/-- A write to a read-only register has no effect and is not counted; a write of an RWS field outside SETUP is counted and keeps the old
value (R5). -/
theorem test_read_only : (nextOf (exec (.registerWrite (RegName.base .GLOBAL_CAP_NET) 0) S1)).regs = S1.regs := by decide +kernel
theorem test_rws : (nextOf (exec (.registerWrite (RegName.base .TS_OSC_CFG) 0xFFFFFFFF) S1)).rg .TS_OSC_CFG = S1.rg .TS_OSC_CFG
    ∧ (nextOf (exec (.registerWrite (RegName.base .TS_OSC_CFG) 0xFFFFFFFF) S1)).rg .GOV_VIOLATION = 1 := by decide +kernel

/-- An event of the same access keeps its W1C bit (R6), and a count stays in an RC register that it reaches as it is read (R7). -/
theorem test_w1c : (nextOf (exec (.w1cWrite 0x1018 3 2) (S1.wr .PWR_EVENT 0 0 3))).rg .PWR_EVENT = 2 := by decide +kernel
theorem test_rc : (nextOf (exec (.rcRead (RegName.base .CLAP_CH_MISSED) [1]) (S1.wr .CLAP_CH_MISSED 0 0 9))).rg .CLAP_CH_MISSED = 1 := by decide +kernel

/-- Each step takes the command at the front of the queue, and the next step the one behind it. -/
theorem test_queue : (nextOf (step { S1 with pending := [.leapDayStart, .leapSecondEnd] })).pending = [.leapSecondEnd] := by decide +kernel

/-- The table gives no row bits. -/
theorem test_no_word : decodeTableWord 64 5 = none ∧ S0.withFetchWord 64 5 = S0 := ⟨rfl, rfl⟩

/-- Ill-formed commands: a tag of 17 bits, a ring 64, an argument that does not fit its field, label bytes missing, an instance that does not
exist, an offset beyond BAR0. -/
theorem test_wf_refuses : (Instr.tsLeap ⟨0, 65536, false, true⟩ ⟨0, 0, 0, 0⟩).wf = false ∧ (Instr.nop ⟨64, 0, false, true⟩).wf = false
    ∧ (Instr.clapArm H0 256 0).wf = false ∧ (Instr.tsSlew H0 ⟨0, 0, 2 ^ 63⟩).wf = false ∧ (Instr.stvDerive H0 ⟨0, 0, 0, 0, 0, [], []⟩).wf = false
    ∧ (Instr.slewDone 4 0).wf = false ∧ (Instr.streamEdge 16 0 0 false false).wf = false ∧ (Instr.atTsInstantReached 64 0 0 true).wf = false := by decide +kernel
theorem test_wf_accepts : (Instr.tsLeap H0 ⟨1, 2, 65535, -1⟩).wf = true ∧ (Instr.slewDone 3 0).wf = true ∧ (Instr.tsSlew H0 ⟨0, 0, -2 ^ 63⟩).wf = true := by
  decide +kernel

/-! ### Witnesses -/

/-- The hypotheses of `StepRunsTheFrontCommand` can be met. -/
theorem wit_stepRunsTheFrontCommand :
    (∃ (c : Instr) (rest : List Instr) (s : State), s.pending = c :: rest) :=
  ⟨.leapSecondEnd, [], { S0 with pending := [.leapSecondEnd] }, by decide +kernel⟩

/-- The hypotheses of `IdleStepIsOneTick` can be met. -/
theorem wit_idleStepIsOneTick :
    (∃ (s : State), s.pending = []) :=
  ⟨S0, by decide +kernel⟩

/-- The hypotheses of `ResetState` can be met. -/
theorem wit_resetState :
    (∃ (r : _), r < 64)
    ∧ (∃ (n : _), n < 4) :=
  ⟨⟨63, by decide +kernel⟩,
   ⟨3, by decide +kernel⟩⟩

/-- The hypotheses of `StepKeepsTheCanonicalForm` can be met. -/
theorem wit_stepKeepsTheCanonicalForm :
    (∃ (s : State) (t : State), RegsCanonical s ∧ step s = .next t) :=
  ⟨S1, nextOf (step S1), (by decide +kernel : regsWf S1.regs = true), nextOf_eq (by decide +kernel)⟩

/-- The hypotheses of `ExecKeepsTheQueue` can be met. -/
theorem wit_execKeepsTheQueue :
    (∃ (c : Instr) (s : State) (t : State), exec c s = .next t) :=
  ⟨.leapDayStart, S1, nextOf (exec .leapDayStart S1), nextOf_eq (by decide +kernel)⟩

/-- The hypotheses of `TimeCommandsTakeEffect` can be met. -/
theorem wit_timeCommandsTakeEffect :
    (∃ (s : State) (h : CmdHdr) (a : TsSetArgs), h.mbz = true ∧ s.log.isolated.contains 5 = false ∧ s.hs.shclk = true ∧ a.ts < 4 ∧ a.trigger = 0 ∧
        a.triggerTs < 4 ∧ a.ns < 10 ^ 9 ∧ a.sec < 2 ^ 48 ∧ a.tNs < 10 ^ 9 ∧ a.tSec < 2 ^ 48 ∧ s.fb F.TS_CTRL_enable a.ts = true ∧ (tsLoaded s a.ts = true → permitFits s a.ts a.permit = true))
    ∧ (∃ (s : State) (h : CmdHdr) (a : TsSetArgs), h.mbz = true ∧ s.log.isolated.contains 5 = false ∧ s.hs.shclk = true ∧ a.ts < 4 ∧ a.trigger = 1 ∧
        a.triggerTs < 4 ∧ a.triggerTs ≠ a.ts ∧ a.ns < 10 ^ 9 ∧ a.sec < 2 ^ 48 ∧ a.tNs < 10 ^ 9 ∧ a.tSec < 2 ^ 48 ∧ s.fb F.TS_CTRL_enable a.ts = true ∧
        instantPast s a.triggerTs a.tSec a.tNs a.tFrac = false ∧ tsLoaded s a.ts = false)
    ∧ (∃ (s : State) (h : CmdHdr) (a : TsStepArgs), h.mbz = true ∧ s.log.isolated.contains 5 = false ∧ s.hs.shclk = true ∧ a.ts < 4 ∧ s.fb F.TS_CTRL_enable
        a.ts = true ∧ tsDerived s a.ts = false ∧ permitFits s a.ts a.permit = true ∧ 0 ≤ (counterUnits (tsc s a.ts).cnt : Int) + stepUnits a ∧
        (counterUnits (tsc s a.ts).cnt : Int) + stepUnits a < (2 ^ 48 * unitsPerSec : Nat))
    ∧ (∃ (s : State) (h : CmdHdr) (a : TsSlewArgs), h.mbz = true ∧ s.log.isolated.contains 5 = false ∧ s.hs.shclk = true ∧ a.ts < 4 ∧ s.fb F.TS_CTRL_enable
        a.ts = true ∧ tsDerived s a.ts = false ∧ s.fb F.TS_CTRL_ens_enable a.ts = false ∧ 1000 ≤ a.rate ∧ a.rate ≤ 50000000 ∧ a.rate ≤ s.f
        F.GOV_TS_SLEW_value a.ts)
    ∧ (∃ (s : State) (h : CmdHdr) (a : TsSpliceArgs), h.mbz = true ∧ s.log.isolated.contains 5 = false ∧ s.hs.shclk = true ∧ a.from_ < 4 ∧ a.to_ < 4 ∧
        a.from_ ≠ a.to_ ∧ a.mode = 0 ∧ a.rate = 0 ∧ 0 < a.mask ∧ a.mask < 2 ^ 20 ∧ a.ns < 10 ^ 9 ∧ a.sec < 2 ^ 48 ∧ tsRuns s a.to_ = true ∧ tsLoaded s
        a.to_ = true ∧ (maskConsumers a.mask).any (fun c => consumerTs s c != some a.from_) = false ∧ instantPast s a.from_ a.sec a.ns 0 = false ∧
        (maskConsumers a.mask).any (consumerBusy s) = false) :=
  ⟨⟨S0.setB F.TS_CTRL_enable true 1, H0, ⟨1, 0, 0, 0, 2 ^ 48 - 1, 999999999, 3, 2 ^ 48 - 1, 999999999, 0⟩, by decide +kernel⟩,
   ⟨(S0.setB F.TS_CTRL_enable true 1).setB F.TS_CTRL_enable true 0, H0, ⟨1, 1, 0, 0, 5, 999999999, 0, 2 ^ 48 - 1, 999999999, 0⟩, by decide +kernel⟩,
   ⟨{ S0.setB F.TS_CTRL_enable true 1 with gov := { S0.gov with permits := [(1, some ⟨7, none, 1⟩)] } }, H0, ⟨1, 7, 0, 0⟩, by decide +kernel⟩,
   ⟨S0.setB F.TS_CTRL_enable true 1, H0, ⟨1, 1000, 5⟩, by decide +kernel⟩,
   ⟨S1, H0, ⟨0, 1, 0, 0, 0xFFFC0, 2 ^ 48 - 1, 0, 0⟩, by decide +kernel⟩⟩

/-- The hypotheses of `LeapAndViewCommandsTakeEffect` can be met. -/
theorem wit_leapAndViewCommandsTakeEffect :
    (∃ (s : State) (h : CmdHdr) (a : TsLeapArgs), h.mbz = true ∧ h.ring < 64 ∧ standIn s = false ∧ a.op = 2 ∧ s.fb F.TS_UTC_OFS_known = false)
    ∧ (∃ (s : State) (h : CmdHdr) (a : TsLeapArgs), h.mbz = true ∧ h.ring < 64 ∧ standIn s = false ∧ a.op = 0 ∧ (a.dir = 1 ∨ a.dir = 2) ∧ a.day < 2 ^ 16 ∧
        leapScheduled s = false ∧ utcSec s < (a.day : Int) * 86400 + 86340 ∧ monthEnd a.day = true ∧ s.fb F.TS_UTC_OFS_known = true)
    ∧ (∃ (s : State) (h : CmdHdr) (a : TsLeapArgs), h.mbz = true ∧ h.ring < 64 ∧ standIn s = false ∧ a.op = 1 ∧ leapScheduled s = true ∧ utcSec s < (s.f
        F.TS_LEAP_SCHED_day : Int) * 86400 + 86340)
    ∧ (∃ (h : CmdHdr) (view : Nat) (form : Nat), h.mbz = true ∧ h.ring < 64 ∧ view < 5 ∧ form ≤ 1)
    ∧ (∃ (s : State) (h : CmdHdr), h.mbz = true ∧ h.ring < 64 ∧ leapScheduled s = true) :=
  ⟨⟨S0, H0, ⟨2, 0, 0, -1⟩, by decide +kernel⟩,
   ⟨(S1.setB F.TS_UTC_OFS_known true), H0, ⟨0, 2, 20269, 0⟩, by decide +kernel⟩,
   ⟨(S1.setF F.TS_LEAP_SCHED_dir 1).setF F.TS_LEAP_SCHED_day 20000, H0, ⟨1, 0, 0, 0⟩, by decide +kernel⟩,
   ⟨H0, 4, 1, by decide +kernel⟩,
   ⟨S1.setF F.TS_LEAP_SCHED_dir 1, H0, by decide +kernel⟩⟩

/-- The hypotheses of `TimeRegistersAndInstants` can be met. -/
theorem wit_timeRegistersAndInstants :
    (∃ (s : State) (n : Nat) (v : Word) (lo : Word), n < 4 ∧ hostIncrOk s n = true ∧ s.hs.shclk = true ∧ (tsc s n).heldLo = some lo ∧ incrInRange (fget v
        19 16 * 2 ^ 48 + fget v 15 0 * 2 ^ 32 + lo.toNat) = true ∧ tsIncr s n ≠ fget v 19 16 * 2 ^ 48 + fget v 15 0 * 2 ^ 32 + lo.toNat)
    ∧ (∃ (n : _), n < 4)
    ∧ (∃ (s : State) (n : Nat) (v : Word), n < 4 ∧ s.fb F.TS_CTRL_enable n = true ∧ (dropDerived s (regWrite s ⟨.TS_CTRL, n, 0⟩ v)).fb F.TS_CTRL_enable n =
        false)
    ∧ (∃ (s : State) (n : _) (k : _), (tsc (advance s k) n).slewRem = 0 ∧ (tsc (advance s k) n).slewPosts = true)
    ∧ (∃ (s : State) (r : _) (tag : _) (k : _) (w : _), atTsFind (advance s k) r tag = some w ∧ (advance s k).hs.shclk = true ∧ atTsReached (advance s k) w
        = true)
    ∧ (∃ (s : State) (r : _) (tag : _) (w : _), atTsFind s r tag = some w ∧ (tsRuns s w.trigger = false ∨ s.hs.shclk = false)) :=
  ⟨⟨setTsc S0 3 { tsc S0 3 with heldLo := some 0 }, 3, 0x1999A, 0, by decide +kernel⟩,
   ⟨3, by decide +kernel⟩,
   ⟨S1, 3, 0, by decide +kernel⟩,
   ⟨setTsc S1 2 { tsc S1 2 with slewPosts := true }, 2, 1, by decide +kernel⟩,
   ⟨{ S1 with host := { S1.host with atTs := [⟨⟨1, 7, false, true⟩, .tsLeap ⟨2, 0, 0, 0⟩, 0, 10 ^ 9, 0, 0⟩] } }, 1, 7, 0, ⟨⟨1, 7, false, true⟩,
      .tsLeap ⟨2, 0, 0, 0⟩, 0, 10 ^ 9, 0, 0⟩, by decide +kernel⟩,
   ⟨{ ({ S1 with host := { S1.host with atTs := [⟨⟨1, 7, false, true⟩, .tsLeap ⟨2, 0, 0, 0⟩, 0, 10 ^ 9, 0, 0⟩] } }) with hs := State.reset.hs }, 1, 7,
      ⟨⟨1, 7, false, true⟩, .tsLeap ⟨2, 0, 0, 0⟩, 0, 10 ^ 9, 0, 0⟩, by decide +kernel⟩⟩

/-- The hypotheses of `EnsembleCommandsTakeEffect` can be met. -/
theorem wit_ensembleCommandsTakeEffect :
    (∃ (s : State) (h : CmdHdr) (k : _), h.mbz = true ∧ k < 32 ∧ slotOn s k = true ∧ slotState s k = 3 ∧ slotSpoofed s k = false)
    ∧ (∃ (s : State) (h : CmdHdr) (k : _), h.mbz = true ∧ k < 32 ∧ slotOn s k = true ∧ slotState s k = 2)
    ∧ (∃ (s : State) (h : CmdHdr) (k : _), h.mbz = true ∧ k < 32 ∧ slotOn s k = true ∧ slotState s k = 4)
    ∧ (∃ (s : State) (h : CmdHdr) (n : _) (addr : _), h.mbz = true ∧ n < 4 ∧ 0 < addr ∧ addr % 64 = 0 ∧ s.fb F.TS_CTRL_enable n = true ∧ tsDerived s n =
        false ∧ s.fb F.TS_CTRL_ens_enable n = true ∧ s.hs.shclk = true)
    ∧ (∃ (s : State) (h : CmdHdr) (a : RefFeedArgs), h.mbz = true ∧ s.log.isolated.contains 5 = false ∧ a.slot < 32 ∧ a.slate.ns < 10 ^ 9 ∧ a.slate.ts ≤ 3 ∧
        a.slate.sec < 2 ^ 48 ∧ slotOn s a.slot = true ∧ s.f F.TS_REF_CFG_type a.slot = 6 ∧ a.slate.ts = slotTs s a.slot ∧ a.slate.valid = true ∧ (ens
        s (slotTs s a.slot)).lastEpoch = none ∧ a.unc ≠ 0xFFFFFFFF)
    ∧ (∃ (s : State) (h : CmdHdr) (n : _), h.mbz = true ∧ s.log.isolated.contains 5 = false ∧ n < 4 ∧ tsDerived s n = false ∧ s.fb F.TS_CTRL_ens_enable n =
        true) :=
  ⟨⟨((S0.setB F.TS_REF_CFG_enable true 31).setF F.TS_REF_STATUS_state 3 31), H0, 31, by decide +kernel⟩,
   ⟨((S0.setB F.TS_REF_CFG_enable true 31).setF F.TS_REF_STATUS_state 2 31), H0, 31, by decide +kernel⟩,
   ⟨((S0.setB F.TS_REF_CFG_enable true 31).setF F.TS_REF_STATUS_state 4 31), H0, 31, by decide +kernel⟩,
   ⟨S1.setB F.TS_CTRL_ens_enable true 3, H0, 3, 64, by decide +kernel⟩,
   ⟨S1.setB F.TS_REF_CFG_enable true 31 |>.setF F.TS_REF_CFG_type 6 31 |>.setF F.TS_REF_CFG_ts 3 31, H0, ⟨31, 0, ⟨0x20, true, false, false, false, 3, 5,
      999999999, 0⟩, -1⟩, by decide +kernel⟩,
   ⟨S1.setB F.TS_CTRL_ens_enable true 3, H0, 3, by decide +kernel⟩⟩

/-- The hypotheses of `EnsembleEventsTakeEffect` can be met. -/
theorem wit_ensembleEventsTakeEffect :
    (∃ (s : State) (k : _), k < 32 ∧ slotOn s k = true)
    ∧ (∃ (s : State) (k : _), slotOn s k = true ∧ slotWaits s k = true)
    ∧ (∃ (s : State) (k : _), slotOn s k = true ∧ slotState s k = 3 ∧ s.f F.TS_REF_QUAL_suspect_timeout k ≠ 0 ∧ slotWaits s k = true)
    ∧ (∃ (s : State) (k : _) (m : _), slotOn s k = true ∧ (slot s k).last = some m ∧ slotState s k = 1 ∧ slotWaits s k = true)
    ∧ (∃ (s : State) (n : _), n ≠ 0 ∧ epochRuns s n = true)
    ∧ (∃ (s : State), s.fb F.TS_OSC_CFG_efc = false)
    ∧ (∃ (k : Nat), 32 ≤ k)
    ∧ (∃ (s : State) (k : Nat) (v : Word), k < 32 ∧ slotOn s k = false ∧ (writeResult s ⟨.TS_REF_CFG, k, 0⟩ v).2 = false ∧ fget (writeResult s ⟨.TS_REF_CFG,
        k, 0⟩ v).1 31 31 = 0)
    ∧ (∃ (s : State), s.hs.shclk = true)
    ∧ (∃ (s : State) (mv : _) (r : _), s.hs.avsPending = some (mv, r))
    ∧ (∃ (s : State) (v : Word), s.fb F.PWR_PACE_CFG_avs_track = false ∧ (regWrite s ⟨.PWR_PACE_CFG, 0, 0⟩ v).fb F.PWR_PACE_CFG_avs_track = true)
    ∧ (∃ (s : State) (k : _), (slot s k).lost = true ∧ slotState s k = 3)
    ∧ (∃ (s : State) (k : _), (slot s k).lost = false ∧ (slot s k).timedOut = true ∧ slotState s k = 3)
    ∧ (∃ (s : State) (k : _), (slot s k).lost = false ∧ (slot s k).windowDone = true ∧ beyondLimits s k = false ∧ slotFreq s k = true ∧ slotState s k = 1)
    ∧ (∃ (s : State) (k : _), (slot s k).lost = false ∧ (slot s k).out = true ∧ slotState s k = 2) :=
  ⟨⟨((S0.setB F.TS_REF_CFG_enable true 31).setF F.TS_REF_STATUS_state 1 31), 31, by decide +kernel⟩,
   ⟨(S1.setB F.TS_CTRL_ens_enable true 3).setB F.TS_REF_CFG_enable true 31 |>.setF F.TS_REF_CFG_ts 3 31, 31, by decide +kernel⟩,
   ⟨((S1.setB F.TS_CTRL_ens_enable true 3).setB F.TS_REF_CFG_enable true 31 |>.setF F.TS_REF_CFG_ts 3 31 |>.setF F.TS_REF_STATUS_state 3 31).setF F.TS_REF_QUAL_suspect_timeout 1 31, 31, by decide +kernel⟩,
   ⟨setSlot ((S1.setB F.TS_CTRL_ens_enable true 3).setB F.TS_REF_CFG_enable true 31 |>.setF F.TS_REF_CFG_ts 3 31 |>.setF F.TS_REF_STATUS_state 1 31) 31 { Slot.reset with last := some ⟨0, some 0, 0, 0xFF, 0⟩ },
      31, ⟨0, some 0, 0, 0xFF, 0⟩, by decide +kernel⟩,
   ⟨S1.setB F.TS_CTRL_ens_enable true 3, 3, by decide +kernel⟩,
   ⟨S0, by decide +kernel⟩,
   ⟨32, by decide +kernel⟩,
   ⟨S0, 31, 0, by decide +kernel⟩,
   ⟨S0, by decide +kernel⟩,
   ⟨{ S0 with hs := { S0.hs with avsPending := some (800, false) } }, 800, false, by decide +kernel⟩,
   ⟨S0, fput 0 F.PWR_PACE_CFG_avs_track.hi F.PWR_PACE_CFG_avs_track.lo 1, by decide +kernel⟩,
   ⟨setSlot (S0.setF F.TS_REF_STATUS_state 3 31) 31 { Slot.reset with lost := true }, 31, by decide +kernel⟩,
   ⟨setSlot (S0.setF F.TS_REF_STATUS_state 3 31) 31 { Slot.reset with timedOut := true }, 31, by decide +kernel⟩,
   ⟨setSlot ((S0.setF F.TS_REF_STATUS_state 1 31).setB F.TS_REF_CFG_freq_only true 31) 31 { Slot.reset with windowDone := true }, 31, by decide +kernel⟩,
   ⟨setSlot (S0.setF F.TS_REF_STATUS_state 2 31) 31 { Slot.reset with out := true }, 31, by decide +kernel⟩⟩

/-- The hypotheses of `ClapperCommandsTakeEffect` can be met. -/
theorem wit_clapperCommandsTakeEffect :
    (∃ (s : State) (h : CmdHdr) (ch : _), h.mbz = true ∧ s.log.isolated.contains 6 = false ∧ ch < 16 ∧ clapArmed s ch = false ∧ clapArmBad s ch = false ∧
        s.hs.shclk = true ∧ s.f F.CLAP_LANE_STATUS_cal (s.f F.CLAP_CH_STATUS_lane ch) ≠ 3)
    ∧ (∃ (s : State) (h : CmdHdr) (ch : _), h.mbz = true ∧ s.log.isolated.contains 6 = false ∧ ch < 16 ∧ clapArmed s ch = true ∧ clapFn s ch = 2 ∧ (clapCh s
        ch).start = none ∧ (clapCh s ch).stops = [] ∧ (clapCh s ch).lost = false)
    ∧ (∃ (s : State) (h : CmdHdr) (lane : _), h.mbz = true ∧ s.log.isolated.contains 6 = false ∧ lane < 32 ∧ s.f F.CLAP_LANE_STATUS_cal lane ≠ 3)
    ∧ (∃ (s : State) (h : CmdHdr) (ch : _), h.mbz = true ∧ s.log.isolated.contains 6 = false ∧ ch < 16 ∧ s.fb F.CLAP_CH_CFG_stat_en ch = true ∧ clapArmed s
        ch = true ∧ (clapCh s ch).acc.n ≠ 0) :=
  ⟨⟨((((((S0).setF F.CLAP_CH_CFG_function 2 15).setF F.HOST_RING_CFG_type 1 1).setF F.CLAP_CH_CFG_ring 1 15)).wr .CLAP_CH_BUF_LO 15 0 4096).wr .CLAP_CH_TMO_LO 15 0 1000,
      H0, 15, by decide +kernel⟩,
   ⟨((((S0).setB F.CLAP_CH_STATUS_armed true 15).setF F.CLAP_CH_CFG_function 2 15).setF F.CLAP_CH_MEAS_n_stops 1 15), H0, 15, by decide +kernel⟩,
   ⟨S0, H0, 31, by decide +kernel⟩,
   ⟨(setClapCh (((S0).setB F.CLAP_CH_STATUS_armed true 15).setB F.CLAP_CH_CFG_stat_en true 15) 15 { clapCh (((S0).setB F.CLAP_CH_STATUS_armed true 15).setB F.CLAP_CH_CFG_stat_en true 15) 15 with acc := { ClapAcc.empty with n := 1 } }),
      H0, 15, by decide +kernel⟩⟩

/-- The hypotheses of `ClapperMeasurementsEnd` can be met. -/
theorem wit_clapperMeasurementsEnd :
    (∃ (s : State) (ch : Nat), clapArmed s ch = true ∧ clapFn s ch = 1 ∧ (clapCh s ch).start.isSome = true ∧ (clapCh s ch).lost = false ∧ s.f
        F.CLAP_CH_MEAS_n_stops ch ≤ (clapCh s ch).stops.length)
    ∧ (∃ (s : State) (ch : Nat), clapArmed s ch = true ∧ clapFn s ch = 1 ∧ (clapCh s ch).start.isSome = true ∧ (clapCh s ch).lost = false ∧ (clapCh s
        ch).stops.length < s.f F.CLAP_CH_MEAS_n_stops ch)
    ∧ (∃ (s : State) (ch : Nat), clapArmed s ch = true ∧ clapFn s ch = 1 ∧ (clapCh s ch).lost = true)
    ∧ (∃ (s : State) (ch : Nat), clapArmed s ch = true ∧ clapFn s ch = 2 ∧ (clapCh s ch).lost = false ∧ (clapCh s ch).stops ≠ [])
    ∧ (∃ (s : State) (ch n k : Nat) (m : Meas), n < 4 ∧ k < 32 ∧ refMeas (tget (clapCh s ch).refs RefAcc.empty n) = some m ∧ (∀ j < 32, (slotOn s j = true ∧ s.f F.TS_REF_CFG_type j = 2 ∧
        s.f F.TS_REF_CFG_source j = ch) ↔ j = k) ∧ s.f F.TS_REF_CFG_ts k = n)
    ∧ (∃ (s : State) (ch : Nat), clapArmed s ch = true ∧ clapFn s ch = 2 ∧ (clapCh s ch).lost = false ∧ (clapCh s ch).stops = [] ∧ (clapCh s ch).periods = 0)
    ∧ (∃ (s : State) (ch : Nat), clapArmed s ch = true ∧ clapFn s ch = 2 ∧ (clapCh s ch).lost = false ∧ (clapCh s ch).stops = [] ∧ (clapCh s ch).periods ≠ 0) :=
  ⟨⟨(setClapCh ((((S0).setB F.CLAP_CH_STATUS_armed true 15).setF F.CLAP_CH_CFG_function 1 15).setF F.CLAP_CH_MEAS_n_stops 1 15) 15 { clapCh ((((S0).setB F.CLAP_CH_STATUS_armed true 15).setF F.CLAP_CH_CFG_function 1 15).setF F.CLAP_CH_MEAS_n_stops 1 15) 15 with start := some ⟨0, Slate.none, false, false⟩, stops := [⟨0, Slate.none, false, false⟩] }),
      15, by decide +kernel⟩,
   ⟨(setClapCh ((((S0).setB F.CLAP_CH_STATUS_armed true 15).setF F.CLAP_CH_CFG_function 1 15).setF F.CLAP_CH_MEAS_n_stops 1 15) 15 { clapCh ((((S0).setB F.CLAP_CH_STATUS_armed true 15).setF F.CLAP_CH_CFG_function 1 15).setF F.CLAP_CH_MEAS_n_stops 1 15) 15 with start := some ⟨0, Slate.none, false, false⟩ }),
      15, by decide +kernel⟩,
   ⟨(setClapCh ((((S0).setB F.CLAP_CH_STATUS_armed true 15).setF F.CLAP_CH_CFG_function 1 15).setF F.CLAP_CH_MEAS_n_stops 1 15) 15 { clapCh ((((S0).setB F.CLAP_CH_STATUS_armed true 15).setF F.CLAP_CH_CFG_function 1 15).setF F.CLAP_CH_MEAS_n_stops 1 15) 15 with lost := true }),
      15, by decide +kernel⟩,
   ⟨(setClapCh ((((S0).setB F.CLAP_CH_STATUS_armed true 15).setF F.CLAP_CH_CFG_function 2 15).setF F.CLAP_CH_MEAS_n_stops 1 15) 15 { clapCh ((((S0).setB F.CLAP_CH_STATUS_armed true 15).setF F.CLAP_CH_CFG_function 2 15).setF F.CLAP_CH_MEAS_n_stops 1 15) 15 with stops := [⟨0, Slate.none, false, false⟩] }),
      15, by decide +kernel⟩,
   ⟨setClapCh ((((S0.setB F.TS_REF_CFG_enable true 31).setF F.TS_REF_CFG_type 2 31).setF F.TS_REF_CFG_source 15 31).setF F.TS_REF_CFG_ts 3 31) 15 { clapCh S0 15 with refs := [(3, ⟨0, 1, none, some 7⟩)] },
      15, 3, 31, ⟨0, some 7, 0, 0xFF, 0⟩, by decide +kernel⟩,
   ⟨((((S0).setB F.CLAP_CH_STATUS_armed true 15).setF F.CLAP_CH_CFG_function 2 15).setF F.CLAP_CH_MEAS_n_stops 1 15), 15, by decide +kernel⟩,
   ⟨setClapCh ((((S0).setB F.CLAP_CH_STATUS_armed true 15).setF F.CLAP_CH_CFG_function 2 15).setF F.CLAP_CH_MEAS_n_stops 1 15) 15 { clapCh S0 15 with periods := 1 }, 15, by decide +kernel⟩⟩

/-- The hypotheses of `EdgesInTheDeadTimeAreCounted` can be met. -/
theorem wit_edgesInTheDeadTimeAreCounted :
    (∃ (s : State) (c : Nat) (frac : Nat) (q : Nat), (clapCh s c).lastStamp = some q ∧ s.ticks * 2 ^ 32 + frac < q + 2 * 2 ^ 32)
    ∧ (∃ (s : State) (c : Nat) (frac : Nat) (q : Nat), (clapCh s c).lastStamp = some q ∧ q + 2 * 2 ^ 32 ≤ s.ticks * 2 ^ 32 + frac) :=
  ⟨⟨(setClapCh { S0 with ticks := 9 } 3 { clapCh { S0 with ticks := 9 } 3 with lastStamp := some (8 * 2 ^ 32) }), 3, 2 ^ 32 - 1, 8 * 2 ^ 32,
      by decide +kernel⟩,
   ⟨(setClapCh { S0 with ticks := 10 } 3 { clapCh { S0 with ticks := 10 } 3 with lastStamp := some (8 * 2 ^ 32) }), 3, 0, 8 * 2 ^ 32, by decide +kernel⟩⟩

/-- The hypotheses of `ClapperRecordsEdgesAndLimits` can be met. -/
theorem wit_clapperRecordsEdgesAndLimits :
    (∃ (s : State) (ch : _) (k : _) (falling : _), ch < 16 ∧ (advance s k).hs.shclk = true ∧ clapFn (advance s k) ch ≠ 0 ∧ slopeOk (advance s k) ch
        falling = true ∧ (clapCh (advance s k) ch).presc + 1 < 2 ^ (advance s k).f F.CLAP_CH_CFG_prescale_exp ch)
    ∧ (∃ (s : State) (ch : _) (k : _) (falling : _), ch < 16 ∧ (advance s k).hs.shclk = true ∧ clapFn (advance s k) ch ≠ 0 ∧ slopeOk (advance s k) ch
        falling = true ∧ 2 ^ (advance s k).f F.CLAP_CH_CFG_prescale_exp ch ≤ (clapCh (advance s k) ch).presc + 1)
    ∧ (∃ (s : State) (ch : _) (r : _) (rest : _), (clapCh s ch).recs = r :: rest ∧ s.fb F.HOST_STATUS_bus_master = true ∧ limitFlags s ch r.cmp = none ∧
        areaFull (setClapCh s ch { clapCh s ch with recs := rest }) .CLAP_CH_WIDX .CLAP_CH_RIDX ch (s.f F.CLAP_CH_BUF_CFG_size_exp ch) = true)
    ∧ (∃ (s : State) (ch : _) (r : _) (rest : _), (clapCh s ch).recs = r :: rest ∧ s.fb F.HOST_STATUS_bus_master = true ∧ limitFlags s ch r.cmp = none ∧
        areaFull (setClapCh s ch { clapCh s ch with recs := rest }) .CLAP_CH_WIDX .CLAP_CH_RIDX ch (s.f F.CLAP_CH_BUF_CFG_size_exp ch) = false)
    ∧ (∃ (s : State) (ch : _) (v : _), ch < 16 ∧ ridxOk s .CLAP_CH_WIDX .CLAP_CH_RIDX ch v = true)
    ∧ (∃ (s : State) (ch : _) (lo : _), ch < 16 ∧ (clapCh s ch).heldLo = some lo)
    ∧ (∃ (s : State) (lane : _), lane < 32 ∧ s.fb F.CLAP_CTRL_auto_cal = true ∧ laneDue s lane = true)
    ∧ (∃ (s : State) (lane : _), lane < 32 ∧ s.f F.CLAP_LANE_STATUS_cal lane = 2)
    ∧ (∃ (s : State) (lane : _) (k : _), lane < 32 ∧ s.fb F.CLAP_CTRL_auto_cal = true ∧ tget s.clap.lastCal none lane = some k)
    ∧ (∃ (s : State) (ch : _) (lo : _) (v : Word), ch < 16 ∧ (clapCh s ch).heldLo = some lo ∧ sext 64 (v.toNat * 2 ^ 32 + lo.toNat) ≤ clapLimit s ch true)
    ∧ (∃ (s : State) (ch : _) (lo : _) (v : Word), ch < 16 ∧ (clapCh s ch).heldLo = some lo ∧ clapLimit s ch true < sext 64 (v.toNat * 2 ^ 32 + lo.toNat)) :=
  ⟨⟨((((S0).setF F.CLAP_CH_CFG_function 3 15)).setF F.CLAP_CH_CFG_prescale_exp 1 15), 15, 3, false, by decide +kernel⟩,
   ⟨((S0).setF F.CLAP_CH_CFG_function 3 15), 15, 3, false, by decide +kernel⟩,
   ⟨(((setClapCh ((S1).setF F.CLAP_CH_BUF_CFG_size_exp 8 15) 15 { clapCh ((S1).setF F.CLAP_CH_BUF_CFG_size_exp 8 15) 15 with recs := [⟨1, 0, 1, 1, 0, 0, Slate.none, [], none⟩] })).wr .CLAP_CH_WIDX 15 0 256),
      15, ⟨1, 0, 1, 1, 0, 0, Slate.none, [], none⟩, [], by decide +kernel⟩,
   ⟨(setClapCh ((S1).setF F.CLAP_CH_BUF_CFG_size_exp 8 15) 15 { clapCh ((S1).setF F.CLAP_CH_BUF_CFG_size_exp 8 15) 15 with recs := [⟨1, 0, 1, 1, 0, 0, Slate.none, [], none⟩] }),
      15, ⟨1, 0, 1, 1, 0, 0, Slate.none, [], none⟩, [], by decide +kernel⟩,
   ⟨((S0).wr .CLAP_CH_WIDX 15 0 256), 15, 256, by decide +kernel⟩,
   ⟨(setClapCh S0 15 { clapCh S0 15 with heldLo := some 5 }), 15, 5, by decide +kernel⟩,
   ⟨{ ((S0).setB F.CLAP_CTRL_auto_cal true 0).setF F.CLAP_CTRL_cal_interval 1 with ticks := 3600 * 625000000 }, 31, by decide +kernel⟩,
   ⟨((S0).setF F.CLAP_LANE_STATUS_cal 2 31), 31, by decide +kernel⟩,
   ⟨{ (S0).setB F.CLAP_CTRL_auto_cal true 0 with clap := { S0.clap with lastCal := [(31, some (0, 5))] } }, 31, (0, 5), by decide +kernel⟩,
   ⟨(setClapCh S0 15 { clapCh S0 15 with heldLo := some 0xFFFFFFFF }), 15, 0xFFFFFFFF, 0x7FFFFFFF, by decide +kernel⟩,
   ⟨((setClapCh S0 15 { clapCh S0 15 with heldLo := some 0xFFFFFFFF }).wr .CLAP_CH_LIMHI_HI 15 0 0), 15, 0xFFFFFFFF, 0x7FFFFFFF, by decide +kernel⟩⟩

/-- The hypotheses of `LoopCommandsTakeEffect` can be met. -/
theorem wit_loopCommandsTakeEffect :
    (∃ (s : State) (h : CmdHdr) (a : _) (mode : _), h.mbz = true ∧ s.log.isolated.contains 7 = false ∧ s.log.isolated.contains 8 = false ∧ 0 < a ∧ a < 4 ∧
        mode ≤ 1 ∧ (apTarget s a).isNone = false ∧ pfdOk s a = true ∧ (apState s a = 3 ∨ apState s a = 4) ∧ s.fb F.AP_CFG_enable a = true ∧ (ap s
        a).stuck = false ∧ (ap s a).cmd = none ∧ outRunningOn s a = false)
    ∧ (∃ (s : State) (h : CmdHdr) (a : DpRetuneArgs), h.mbz = true ∧ s.log.isolated.contains 7 = false ∧ s.log.isolated.contains 8 = false ∧ 0 < a.dpll ∧
        a.dpll < 6 ∧ vcoOk a.freq = true ∧ 0 < a.alignDiv ∧ a.alignDiv ≤ 1000000 ∧ s.hs.shclk = true ∧ steered s a.dpll = none)
    ∧ (∃ (s : State) (h : CmdHdr) (d : _), h.mbz = true ∧ s.log.isolated.contains 7 = false ∧ s.log.isolated.contains 8 = false ∧ 0 < d ∧ d < 6 ∧ s.hs.shclk
        = true ∧ s.fb F.DP_CFG_det d = true ∧ detAvail s d = true ∧ dpState s d = 3 ∧ (dp s d).active = false)
    ∧ (∃ (s : State) (h : CmdHdr) (a : _), h.mbz = true ∧ s.log.isolated.contains 7 = false ∧ s.log.isolated.contains 8 = false ∧ a < 4) :=
  ⟨⟨(setAp ((S1).setB F.AP_CFG_enable true 3) 3 { ap ((S1).setB F.AP_CFG_enable true 3) 3 with ratio := some (2 ^ 47) }), H0, 3, 1, by decide +kernel⟩,
   ⟨S0, H0, ⟨5, 9600000000 * 2 ^ 24, 1000000⟩, by decide +kernel⟩,
   ⟨(((((((((S1).setB F.DP_CFG_det true 5).setF F.DP_STATUS_state 3 5).setF F.DP_CFG_src_type 1 5).setF F.AP_CFG_dpll 5 3).setF F.DP_ALIGN_align_div 1 5)).setF F.DP_FREQ_LO_value ((10 ^ 10 * 2 ^ 24) % 2 ^ 32) 5).setF F.DP_FREQ_HI_value ((10 ^ 10 * 2 ^ 24) / 2 ^ 32) 5),
      H0, 5, by decide +kernel⟩,
   ⟨S0, H0, 3, by decide +kernel⟩⟩

/-- The hypotheses of `AnalogLoopsChangeState` can be met. -/
theorem wit_analogLoopsChangeState :
    (∃ (s : State) (a : Nat) (j : Nat × Nat), a < 4 ∧ apState s a = 2 ∧ (ap s a).hop = some j)
    ∧ (∃ (s : State) (a : Nat), a < 4 ∧ apState s a = 1 ∧ (ap s a).hop = none ∧ (ap s a).cmd = none)
    ∧ (∃ (s : State) (a : Nat), a < 4 ∧ apState s a = 1 ∧ (ap s a).cmd = none)
    ∧ (∃ (s : State) (a : Nat), a < 4 ∧ 0 < a ∧ apState s a = 3)
    ∧ (∃ (s : State) (a : Nat), a < 4 ∧ 0 < a ∧ apState s a = 4 ∧ s.fb F.AP_CFG_auto_relock a = true ∧ (ap s a).stuck = false ∧ pfdOk s a = true)
    ∧ (∃ (s : State) (a : Nat) (v : _), a < 4 ∧ (regWrite s ⟨.AP_CFG, a, 0⟩ v).fb F.AP_CFG_enable a = true ∧ (regWrite s ⟨.AP_CFG, a, 0⟩ v).f F.AP_CFG_dpll a = s.f F.AP_CFG_dpll a ∧
        apState (regWrite s ⟨.AP_CFG, a, 0⟩ v) a = 0)
    ∧ (∃ (a : Nat) (d : _), a < 4 ∧ d < 6)
    ∧ (∃ (s : State) (a : Nat) (j : Nat × Nat), a < 4 ∧ apState s a = 2 ∧ (ap s a).hop = some j ∧ (ap s a).cmd = none)
    ∧ (∃ (s : State) (a : Nat), a < 4 ∧ 0 < a ∧ apState (oscBack s) a = 3) :=
  ⟨⟨(setAp ((S1).setF F.AP_STATUS_state 2 3) 3 { ap S1 3 with hop := some (2, 511) }), 3, (2, 511), by decide +kernel⟩,
   ⟨((S1).setF F.AP_STATUS_state 1 3), 3, by decide +kernel⟩,
   ⟨((S1).setF F.AP_STATUS_state 1 3), 3, by decide +kernel⟩,
   ⟨S1, 3, by decide +kernel⟩,
   ⟨(((S1).setF F.AP_STATUS_state 4 3).setB F.AP_CFG_auto_relock true 3), 3, by decide +kernel⟩,
   ⟨S0, 3, 0x809, by decide +kernel⟩,
   ⟨3, 5, by decide +kernel⟩,
   ⟨(setAp ((S1).setF F.AP_STATUS_state 2 3) 3 { ap S1 3 with hop := some (31, 511) }), 3, (31, 511), by decide +kernel⟩,
   ⟨S1, 3, by decide +kernel⟩⟩

/-- The hypotheses of `DpllsAndRefinsAct` can be met. -/
theorem wit_dpllsAndRefinsAct :
    (∃ (s : State) (d : _), 0 < d ∧ d < 6 ∧ (dpState (dpEval s d) d = 2 ∨ dpState (dpEval s d) d = 3))
    ∧ (∃ (s : State) (i : Nat) (e : RefinEdge), i < 8 ∧ (advance s e.ticks).f F.SYN_REFIN_CFG_f_nom i ≠ 0 ∧ (advance s e.ticks).hs.shclk = true)
    ∧ (∃ (s : State) (d : _) (g : GridAt), d < 6 ∧ (dp s d).active = true ∧ dpState s d = 3 ∧ clocked s = true ∧ steered s d = none ∧ (dp s d).anchor.bind (gridCome s d) = some g)
    ∧ (∃ (s : State) (d : _) (r : Int), d < 6 ∧ (dp s d).active = true ∧ s.f F.DP_STATUS_det_state d = 1 ∧ clocked s = true ∧ detCorrecting s d = false ∧ 512 < r.natAbs ∧ s.f
        F.DP_STATUS_passes d + 1 < 4)
    ∧ (∃ (s : State) (d : _) (r : Int), d < 6 ∧ (dp s d).active = true ∧ s.f F.DP_STATUS_det_state d = 1 ∧ clocked s = true ∧ detCorrecting s d = false ∧ r.natAbs ≤ 512 ∧ (dp s d).det
        = none)
    ∧ (∃ (s : State) (d : _) (r : Int), d < 6 ∧ (dp s d).active = true ∧ s.f F.DP_STATUS_det_state d = 1 ∧ clocked s = true ∧ detCorrecting s d = false ∧ 512 < r.natAbs ∧ s.f
        F.DP_STATUS_passes d = 3 ∧ (dp s d).det = none) :=
  ⟨⟨((((S1).setF F.DP_STATUS_state 3 5).setB F.DP_CFG_enable true 5).setF F.DP_CFG_src_type 1 5), 5, by decide +kernel⟩,
   ⟨((S0).setF F.SYN_REFIN_CFG_f_nom 10000000 7), 7, ⟨1, 5, -7⟩, by decide +kernel⟩,
   ⟨(setDp (((S1).setB F.DP_CFG_det true 5).setF F.DP_STATUS_state 3 5) 5 { dp S1 5 with active := true, anchor := some (.ts 9) }), 5, .ts 9, by decide +kernel⟩,
   ⟨(((setDp (((S1).setB F.DP_CFG_det true 5).setF F.DP_STATUS_state 3 5) 5 { dp (((S1).setB F.DP_CFG_det true 5).setF F.DP_STATUS_state 3 5) 5 with active := true })).setF F.DP_STATUS_det_state 1 5),
      5, 513, by decide +kernel⟩,
   ⟨(((setDp (((S1).setB F.DP_CFG_det true 5).setF F.DP_STATUS_state 3 5) 5 { dp (((S1).setB F.DP_CFG_det true 5).setF F.DP_STATUS_state 3 5) 5 with active := true })).setF F.DP_STATUS_det_state 1 5),
      5, -512, by decide +kernel⟩,
   ⟨(((((setDp (((S1).setB F.DP_CFG_det true 5).setF F.DP_STATUS_state 3 5) 5 { dp (((S1).setB F.DP_CFG_det true 5).setF F.DP_STATUS_state 3 5) 5 with active := true })).setF F.DP_STATUS_det_state 1 5)).setF F.DP_STATUS_passes 3 5),
      5, -513, by decide +kernel⟩⟩

/-- The hypotheses of `Ap0LossAndRebuildAct` can be met. -/
theorem wit_ap0LossAndRebuildAct :
    (∃ (s : State), apState s 0 = 3 ∧ s.hs.shclk = true)
    ∧ (∃ (s : State), apState (oscBack s) 0 = 4)
    ∧ (∃ (s : State), s.hs.shclk = false ∧ apState s 0 = 3 ∧ s.fb F.SYN_GAP_STATUS_gap_active = true)
    ∧ (∃ (s : State), s.hs.shclk = true ∧ s.fb F.SYN_GAP_STATUS_rebuilding = true ∧ s.loops.nGap < 2 ^ 48) :=
  ⟨⟨S1, by decide +kernel⟩,
   ⟨((S0).setF F.AP_STATUS_state 4 0), by decide +kernel⟩,
   ⟨{ ((S1).setB F.SYN_GAP_STATUS_gap_active true 0) with hs := State.reset.hs }, by decide +kernel⟩,
   ⟨((S0).setB F.SYN_GAP_STATUS_rebuilding true 0), by decide +kernel⟩⟩

/-- The hypotheses of `AnalogLossLeavesTheHandshake` can be met. -/
theorem wit_analogLossLeavesTheHandshake :
    (∃ (s : State) (t : State) (a : Nat) (osc : Bool) (n : _), 0 < a ∧ a < 4 ∧ exec (.apLost a osc) s = .next t ∧ n ∈ [RegName.PWR_PACE_STATUS,
        .PWR_PACE_CFG, .PWR_PACE_TARGET, .PWR_PACE_EVENT, .PWR_PACE_RAW, .PWR_PACE_SAG_COUNT, .PWR_AVS_STATUS]) :=
  ⟨S1, nextOf (exec (.apLost 3 false) S1), 3, false, RegName.PWR_PACE_STATUS, by decide, by decide, nextOf_eq (by decide +kernel), by decide⟩

/-- The hypotheses of `OutputCommandsTakeEffect` can be met. -/
theorem wit_outputCommandsTakeEffect :
    (∃ (s : State) (h : CmdHdr) (a : OutArgs), h.mbz = true ∧ s.log.isolated.contains 9 = false ∧ a.mask ≠ 0 ∧ a.ts < 4 ∧ a.ns < 10 ^ 9 ∧ a.sec < 2 ^ 48 ∧
        (maskOuts a.mask).any (outCfgBad s) = false ∧ clocked s = true ∧ (maskOuts a.mask).any (outBusy s) = false ∧ tjLimit s = false ∧ (maskOuts
        a.mask).any (outSpreads s) = false ∧ a.trigger = 0)
    ∧ (∃ (s : State) (h : CmdHdr) (a : OutArgs), h.mbz = true ∧ s.log.isolated.contains 9 = false ∧ a.mask ≠ 0 ∧ a.ts < 4 ∧ a.ns < 10 ^ 9 ∧ a.sec < 2 ^ 48 ∧
        (maskOuts a.mask).any (outCfgBad s) = false ∧ clocked s = true ∧ (maskOuts a.mask).any (outBusy s) = false ∧ tjLimit s = false ∧ (maskOuts
        a.mask).any (outSpreads s) = false ∧ a.trigger = 1 ∧ instantPast s a.ts a.sec a.ns 0 = false)
    ∧ (∃ (s : State) (h : CmdHdr) (a : OutArgs), h.mbz = true ∧ s.log.isolated.contains 9 = false ∧ a.mask ≠ 0 ∧ a.ts < 4 ∧ a.ns < 10 ^ 9 ∧ a.sec < 2 ^ 48 ∧
        ((maskOuts a.mask).filter (fun o => outState s o != 0)).isEmpty = false ∧ a.trigger = 0)
    ∧ (∃ (s : State) (h : CmdHdr) (a : OutArgs), h.mbz = true ∧ s.log.isolated.contains 9 = false ∧ a.mask ≠ 0 ∧ a.ts < 4 ∧ a.ns < 10 ^ 9 ∧ a.sec < 2 ^ 48 ∧
        ((maskOuts a.mask).filter (fun o => outState s o != 0)).isEmpty = false ∧ a.trigger = 1 ∧ clocked s = true ∧ instantPast s a.ts a.sec a.ns 0 =
        false)
    ∧ (∃ (s : State) (h : CmdHdr) (out : _), h.mbz = true ∧ s.log.isolated.contains 9 = false ∧ out < 32 ∧ outState s out = 2 ∧ s.fb F.OUT_CFG_fb_en out =
        true ∧ outSrc s out ≠ 4 ∧ s.fb F.OUT_STATUS_on_fallback out = false ∧ s.fb F.OUT_STATUS_switching out = false ∧ apState s (s.f
        F.OUT_CFG_fb_apll out) = 3) :=
  ⟨⟨((S1).setF F.OUT_CFG_src 4 31), H0, ⟨2 ^ 31, 0, 3, 0, 999999999⟩, by decide +kernel⟩,
   ⟨((S1).setF F.OUT_CFG_src 4 31), H0, ⟨2 ^ 31, 1, 3, 2 ^ 48 - 1, 999999999⟩, by decide +kernel⟩,
   ⟨((S1).setF F.OUT_STATUS_state 2 31), H0, ⟨2 ^ 31, 0, 3, 0, 999999999⟩, by decide +kernel⟩,
   ⟨((S1).setF F.OUT_STATUS_state 2 31), H0, ⟨2 ^ 31, 1, 3, 2 ^ 48 - 1, 999999999⟩, by decide +kernel⟩,
   ⟨((((((S1).setF F.OUT_STATUS_state 2 31)).setB F.OUT_CFG_fb_en true 31).setF F.OUT_CFG_src 1 31).setF F.OUT_CFG_fb_apll 3 31), H0, 31,
      by decide +kernel⟩⟩

/-- The hypotheses of `OutputSequencerActs` can be met. -/
theorem wit_outputSequencerActs :
    (∃ (s : State) (out : Nat), out < 32 ∧ outState s out = 1 ∧ (outOf s out).waits = false ∧ (outOf s out).fault = none ∧ outPermitted s out = true ∧
        outClocked s out = true)
    ∧ (∃ (s : State) (out : Nat), out < 32 ∧ outState s out = 2 ∧ (outOf s out).cmdStop = true ∧ (outSrc s out = 4 → cueActive s (s.f F.OUT_CFG_cue out) = false))
    ∧ (∃ (s : State) (out : Nat) (c : _), out < 32 ∧ outState s out = 2 ∧ (outOf s out).fault = some c)
    ∧ (∃ (s : State) (out : Nat), out < 32 ∧ s.fb F.OUT_CFG_twin_gate out = true ∧ outState s out = 2 ∧ (outOf s out).cmdStop = false ∧ s.fb
        F.RAN_STATUS_permission = false)
    ∧ (∃ (s : State) (out : Nat), out < 32 ∧ s.fb F.OUT_CFG_twin_gate out = true ∧ outState s out = 3 ∧ (outOf s out).fault = none ∧ s.fb
        F.RAN_STATUS_permission = true ∧ outClocked s out = true)
    ∧ (∃ (s : State) (out : Nat), out < 32 ∧ outState s out = 2 ∧ s.fb F.OUT_STATUS_on_fallback out = false ∧ (outOf s out).fault = none ∧ (outOf s
        out).move = some true)
    ∧ (∃ (s : State) (out : Nat), out < 32 ∧ outState s out = 2 ∧ s.fb F.OUT_STATUS_on_fallback out = true ∧ (outOf s out).fault = none ∧ (outOf s out).move
        = some false)
    ∧ (∃ (s : State) (out : Nat), out < 32 ∧ outState s out ≠ 0 ∧ (outOf s out).fine ≠ s.fi F.OUT_FINE_value out)
    ∧ (∃ (s : State) (out : Nat) (u : Nat), out < 32 ∧ s.fb F.OUT_STATUS_reload_pending out = true ∧ s.hs.shclk = true ∧ (outOf s out).reloadAt = some (.ts u) ∧ (outOf s out).reloadFb = none) :=
  ⟨⟨((((S1).setF F.OUT_CFG_src 4 31)).setF F.OUT_STATUS_state 1 31), 31, by decide +kernel⟩,
   ⟨(setOut ((S1).setF F.OUT_STATUS_state 2 31) 31 { outOf ((S1).setF F.OUT_STATUS_state 2 31) 31 with cmdStop := true }), 31, by decide +kernel⟩,
   ⟨(setOut ((S1).setF F.OUT_STATUS_state 2 31) 31 { outOf ((S1).setF F.OUT_STATUS_state 2 31) 31 with fault := some 2 }), 31, 2, by decide +kernel⟩,
   ⟨(((((S1).setF F.OUT_STATUS_state 2 31)).setB F.OUT_CFG_twin_gate true 31).setB F.RAN_STATUS_permission false 0), 31, by decide +kernel⟩,
   ⟨(((((S1).setF F.OUT_CFG_src 4 31)).setB F.OUT_CFG_twin_gate true 31).setF F.OUT_STATUS_state 3 31), 31, by decide +kernel⟩,
   ⟨(setOut ((S1).setF F.OUT_STATUS_state 2 31) 31 { outOf ((S1).setF F.OUT_STATUS_state 2 31) 31 with move := some true }), 31, by decide +kernel⟩,
   ⟨(setOut ((((S1).setF F.OUT_STATUS_state 2 31)).setB F.OUT_STATUS_on_fallback true 31) 31 { outOf ((((S1).setF F.OUT_STATUS_state 2 31)).setB F.OUT_STATUS_on_fallback true 31) 31 with move := some false }),
      31, by decide +kernel⟩,
   ⟨(setOut ((S1).setF F.OUT_STATUS_state 2 31) 31 { outOf ((S1).setF F.OUT_STATUS_state 2 31) 31 with fine := 1 }), 31, by decide +kernel⟩,
   ⟨setOut ((((S1).setF F.OUT_STATUS_state 2 31)).setB F.OUT_STATUS_reload_pending true 31) 31 { outOf S1 31 with reloadAt := some (.ts 77) }, 31, 77, by decide +kernel⟩⟩

/-- The hypotheses of `CueCommandsTakeEffect` can be met. -/
theorem wit_cueCommandsTakeEffect :
    (∃ (s : State) (h : CmdHdr) (a : CueArmArgs), h.mbz = true ∧ s.log.isolated.contains 10 = false ∧ a.cue < 64 ∧ cueArmBad s a = false ∧ cueIdle s a.cue
        = true ∧ tsRuns s (cueTs s a.cue) = true ∧ clocked s = true ∧ (cueNow s a.cue : Int) < psToUnits (cueT0 a) ∧ ((∀ p < 8, s.fb
        F.CUE_PIN_CFG_enable p = true → s.f F.CUE_PIN_CFG_cue p = a.cue → cueWindow s p (cuePinNs s p (psToUnits (cueT0 a))) = true)))
    ∧ (∃ (s : State) (h : CmdHdr) (a : CueCancelArgs), h.mbz = true ∧ a.cue < 64 ∧ a.ns < 10 ^ 9 ∧ a.sec < 2 ^ 48 ∧ cueIdle s a.cue = false ∧ a.trigger = 0 ∧ cueCommitted s a.cue = false)
    ∧ (∃ (s : State) (h : CmdHdr) (a : CueCancelArgs), h.mbz = true ∧ a.cue < 64 ∧ a.ns < 10 ^ 9 ∧ a.sec < 2 ^ 48 ∧ cueIdle s a.cue = false ∧ a.trigger = 1
        ∧ s.hs.shclk = true ∧ instantPast s (cueTs s a.cue) a.sec a.ns 0 = false)
    ∧ (∃ (h : CmdHdr) (g : _), h.mbz = true ∧ g < 64)
    ∧ (∃ (h : CmdHdr) (pin : _), h.mbz = true ∧ pin < 8)
    ∧ (∃ (s : State) (h : CmdHdr) (a : CueCancelArgs), h.mbz = true ∧ a.cue < 64 ∧ a.ns < 10 ^ 9 ∧ a.sec < 2 ^ 48 ∧ cueIdle s a.cue = false ∧ a.trigger = 0 ∧ cueCommitted s a.cue = true) :=
  ⟨⟨((S1).setF F.CUE_CFG_mode 1 63), H0, ⟨63, 999, 999999999, 2 ^ 40, 0, 0, 0, 3200, 3200⟩, by decide +kernel⟩,
   ⟨((S1).setF F.CUE_STATUS_state 1 63), H0, ⟨63, 0, 0, 999999999⟩, by decide +kernel⟩,
   ⟨((S1).setF F.CUE_STATUS_state 1 63), H0, ⟨63, 1, 2 ^ 48 - 1, 999999999⟩, by decide +kernel⟩,
   ⟨H0, 63, by decide +kernel⟩,
   ⟨H0, 7, by decide +kernel⟩,
   ⟨{ setCue ((S1).setF F.CUE_STATUS_state 1 63) 63 { cue S1 63 with t0 := 10 ^ 21 + 3000 } with ticks := 4 }, H0, ⟨63, 0, 0, 999999999⟩, by decide +kernel⟩⟩

/-- The hypotheses of `CuesFireAndEnd` can be met. -/
theorem wit_cuesFireAndEnd :
    (∃ (s : State) (g : _) (k : _) (u : _), u = cueSettle (advance s k) ∧ g < 64 ∧ cueIdle u g = false ∧ (cue u g).ending = 0 ∧ cueHas (cue u g) (cue u
        g).k = true ∧ cueCancelled (cue u g) (cueInstant (cue u g) (cue u g).k) = false ∧ clocked u = true ∧ tsRuns u (cueTs u g) = true ∧ cueLoaded u g = true ∧ (cueNow u g
        : Int) ≤ psToUnits (cueInstant (cue u g) (cue u g).k) ∧ psToUnits (cueInstant (cue u g) (cue u g).k) < (cueNow u g : Int) + tickDelta u 4
        (cueTs u g) 1)
    ∧ (∃ (s : State) (g : _) (k : _) (u : _), u = cueSettle (advance s k) ∧ g < 64 ∧ cueIdle u g = false ∧ (cue u g).ending = 0 ∧ cueHas (cue u g) (cue u
        g).k = true ∧ cueCancelled (cue u g) (cueInstant (cue u g) (cue u g).k) = false ∧ clocked u = true ∧ tsRuns u (cueTs u g) = true ∧ psToUnits
        (cueInstant (cue u g) (cue u g).k) < (cueNow u g : Int) ∧ u.f F.CUE_CFG_late g = 0)
    ∧ (∃ (s : State) (g : _) (k : _), g < 64 ∧ cueIdle (advance s k) g = false ∧ (cue (advance s k) g).ending ≠ 0)
    ∧ (∃ (s : State) (d : _), s.hs.shclk = false ∧ cueDestHigh s d = true ∧ s.cues.low.contains d = false) :=
  ⟨⟨{ setCue ((S1).setF F.CUE_STATUS_state 1 63) 63 { cue S1 63 with t0 := 10 ^ 21 } with ticks := 4 }, 63, 0, (cueSettle (advance { setCue ((S1).setF F.CUE_STATUS_state 1 63) 63 { cue S1 63 with t0 := 10 ^ 21 } with ticks := 4 } 0)), by decide +kernel⟩,
   ⟨(setCue ((S1).setF F.CUE_STATUS_state 1 63) 63 { cue ((S1).setF F.CUE_STATUS_state 1 63) 63 with t0 := 10 ^ 21 - 1 }), 63, 0,
      (cueSettle (advance (setCue ((S1).setF F.CUE_STATUS_state 1 63) 63 { cue ((S1).setF F.CUE_STATUS_state 1 63) 63 with t0 := 10 ^ 21 - 1 }) 0)),
      by decide +kernel⟩,
   ⟨(setCue ((S1).setF F.CUE_STATUS_state 1 63) 63 { cue ((S1).setF F.CUE_STATUS_state 1 63) 63 with ending := 1 }), 63, 0, by decide +kernel⟩,
   ⟨{ (setCue (setCuePin (((S1).setF F.CUE_PIN_CFG_cue 63 7).setF F.CUE_CFG_mode 1 63) 7 { CuePin.reset with on := true }) 63 { cue S1 63 with pulse := some 0, width := 3200 }) with hs := State.reset.hs },
      .pin 7, by decide +kernel⟩⟩

/-- A message on TOD_RX of type `t` with its CRC (R175, R176). -/
def todMsg (t : Nat) : List Nat :=
  let b := [t, 32] ++ List.replicate 32 0
  [0xC5, 0x3A] ++ b ++ [crc16 b % 256, crc16 b / 256]

/-- The hypotheses of `CapturesAndTodMessagesAct` can be met. -/
theorem wit_capturesAndTodMessagesAct :
    (∃ (s : State) (ch : _) (c : _), s.cues.caps.find? (fun c => c.ch == ch) = some c ∧ s.fb F.HOST_STATUS_bus_master = true ∧ areaFull s .CUE_CAP_WIDX
        .CUE_CAP_RIDX 0 (s.f F.CUE_CAP_BUF_CFG_size_exp) = true)
    ∧ (∃ (s : State) (ch : _) (c : _), s.cues.caps.find? (fun c => c.ch == ch) = some c ∧ s.fb F.HOST_STATUS_bus_master = true ∧ areaFull s .CUE_CAP_WIDX
        .CUE_CAP_RIDX 0 (s.f F.CUE_CAP_BUF_CFG_size_exp) = false)
    ∧ (∃ (s : State) (k : _) (t : _), (cue (advance s k) ((advance s k).f F.CUE_TOD_CFG_pps_cue)).lastAt = some t ∧ (advance s k).fb F.CUE_TOD_CFG_tx_en =
        true ∧ (advance s k).f F.CUE_STATUS_state ((advance s k).f F.CUE_TOD_CFG_pps_cue) = 2 ∧ (advance s k).fb F.RAN_STATUS_permission = true ∧
        (advance s k).hs.shclk = true ∧ (advance s k).cues.tod.txEnd = none ∧ (advance s k).f F.CUE_TOD_CFG_tx_offset * 625000 + 380 * (advance s k).f
        F.CUE_TOD_BAUD_baud_div ≤ 593750000 ∧ (advance s k).f F.CUE_TOD_CFG_format = 0)
    ∧ (∃ (s : State) (bytes : List Nat), s.fb F.CUE_TOD_CFG_rx_en = true ∧ bytes.length ≠ 38)
    ∧ (∃ (s : State) (bytes : List Nat), s.fb F.CUE_TOD_CFG_rx_en = true ∧ bytes.length = 38 ∧ bytes.take 2 = [0xC5, 0x3A] ∧ bytes[3]? = some 32 ∧ leVal
        (bytes.drop 36) = crc16 ((bytes.drop 2).take 34) ∧ bytes[2]? = some 3)
    ∧ (∃ (s : State) (bytes : List Nat), s.fb F.CUE_TOD_CFG_rx_en = true ∧ bytes.length = 38 ∧ bytes.take 2 = [0xC5, 0x3A] ∧ bytes[3]? = some 32 ∧ leVal
        (bytes.drop 36) = crc16 ((bytes.drop 2).take 34) ∧ todLow s (leVal ((bytes.drop 20).take 4)) = false ∧ bytes[2]? = some 2 ∧
        s.cues.tod.waits = none)
    ∧ (∃ (s : State) (bytes : List Nat) (e : Nat × List Int), s.fb F.CUE_TOD_CFG_rx_en = true ∧ bytes.length = 38 ∧ bytes.take 2 = [0xC5, 0x3A] ∧ bytes[3]? = some 32 ∧ leVal
        (bytes.drop 36) = crc16 ((bytes.drop 2).take 34) ∧ todLow s (leVal ((bytes.drop 20).take 4)) = false ∧ bytes[2]? = some 1 ∧
        s.cues.tod.edge = some e ∧ s.ticks ≤ e.1 + 625000000) :=
  ⟨⟨({ ((S1).setF F.CUE_CAP_BUF_CFG_size_exp 8 ) with cues := { S1.cues with caps := [⟨15, 0, 0, Slate.none⟩] } }).wr .CUE_CAP_WIDX 0 0 256, 15, ⟨15, 0,
      0, Slate.none⟩, by decide +kernel⟩,
   ⟨{ ((S1).setF F.CUE_CAP_BUF_CFG_size_exp 8 ) with cues := { S1.cues with caps := [⟨15, 0, 0, Slate.none⟩] } }, 15, ⟨15, 0, 0, Slate.none⟩,
      by decide +kernel⟩,
   ⟨(setCue (((((S1).setB F.CUE_TOD_CFG_tx_en true 0).setF F.CUE_STATUS_state 2 63).setF F.CUE_TOD_CFG_pps_cue 63 ).setF F.CUE_TOD_CFG_tx_offset 800 ) 63 { cue (((((S1).setB F.CUE_TOD_CFG_tx_en true 0).setF F.CUE_STATUS_state 2 63).setF F.CUE_TOD_CFG_pps_cue 63 ).setF F.CUE_TOD_CFG_tx_offset 800 ) 63 with lastAt := some 5 }),
      0, 5, by decide +kernel⟩,
   ⟨((S0).setB F.CUE_TOD_CFG_rx_en true 0), [], by decide +kernel⟩,
   ⟨((S0).setB F.CUE_TOD_CFG_rx_en true 0), todMsg 3, by decide +kernel⟩,
   ⟨((S0).setB F.CUE_TOD_CFG_rx_en true 0), todMsg 2, by decide +kernel⟩,
   ⟨{ (S0).setB F.CUE_TOD_CFG_rx_en true 0 with ticks := 625000003, cues := { S0.cues with tod := { S0.cues.tod with edge := some (3, [0, 0, 0, 0]) } } },
      todMsg 1, (3, [0, 0, 0, 0]), by decide +kernel⟩⟩

/-- The hypotheses of `CueInstantsAreExact` can be met. -/
theorem wit_cueInstantsAreExact :
    (∃ (c : Cue), 0 < c.div)
    ∧ (∃ (c : Cue), 0 < c.div)
    ∧ (∃ (c : Cue), c.period = 0)
    ∧ (∃ (s : State) (h : CmdHdr) (a : CueArmArgs), h.mbz = true ∧ s.log.isolated.contains 10 = false ∧ a.cue < 64 ∧ a.period ≠ 0 ∧ (a.div = 0 ∨ 16777216 <
        a.div ∨ a.period < 6400 * a.div ∨ 10 ^ 15 * a.div < a.period)) :=
  ⟨⟨{ Cue.reset with period := 10 ^ 12, div := 3 }, by decide +kernel⟩,
   ⟨{ Cue.reset with period := 10 ^ 12, div := 3 }, by decide +kernel⟩,
   ⟨Cue.reset, by decide +kernel⟩,
   ⟨S0, H0, ⟨63, 0, 0, 0, 6399, 1, 0, 0, 0⟩, by decide +kernel⟩⟩

/-- The hypotheses of `GnssCommandsTakeEffect` can be met. -/
theorem wit_gnssCommandsTakeEffect :
    (∃ (s : State) (h : CmdHdr) (a : GnssAcqArgs), h.mbz = true ∧ s.log.isolated.contains 11 = false ∧ a.port < 3 ∧ gnssUsable s a.port a.signal a.gloK =
        true ∧ 0 < a.svid ∧ a.svid ≤ 63 ∧ -7 ≤ a.gloK ∧ a.gloK ≤ 6 ∧ 0 < a.coherent ∧ a.coherent ≤ 20 ∧ a.coherent % 4 = 0 ∧ 0 < a.count ∧ a.count ≤
        64 ∧ a.mode = 0 ∧ a.dopHalf ≤ 20000 ∧ gnssP s = 2 ∧ s.fb F.GNSS_PORT_STATUS_running a.port = true ∧ s.gnss.acqQ.length < 16)
    ∧ (∃ (s : State) (h : CmdHdr) (a : GnssStartArgs), h.mbz = true ∧ s.log.isolated.contains 11 = false ∧ a.ch < 192 ∧ a.source = 1 ∧ a.slate.ns < 10 ^ 9 ∧
        a.slate.ts < 4 ∧ a.missed = false ∧ s.hs.shclk = true ∧ pathOff s (s.f F.GNSS_CH_CFG_port a.ch) = false ∧ s.wrap.retired.contains (3, a.ch) = false ∧
        gnssUsable s (s.f F.GNSS_CH_CFG_port a.ch) (s.f F.GNSS_CH_CFG_signal a.ch) (s.fi F.GNSS_CH_CFG_glo_k a.ch) = true ∧ gnssChState s a.ch = 0 ∧ gnssP s = 2)
    ∧ (∃ (s : State) (h : CmdHdr) (ch : _), h.mbz = true ∧ s.log.isolated.contains 11 = false ∧ ch < 192 ∧ (gnssChState s ch = 1 ∨ gnssChState s ch = 2))
    ∧ (∃ (s : State) (h : CmdHdr), h.mbz = true ∧ s.log.isolated.contains 11 = false ∧ gnssP s = 0)
    ∧ (∃ (s : State) (h : CmdHdr) (checks : _), h.mbz = true ∧ s.log.isolated.contains 11 = false ∧ 0 < checks ∧ checks < 32)
    ∧ (∃ (s : State) (h : CmdHdr) (sols : _), h.mbz = true ∧ s.log.isolated.contains 11 = false ∧ 0 < sols ∧ sols < 4) :=
  ⟨⟨gnssS,
      H0, ⟨2, 0, 63, -7, 20, 64, 0, 0, 0, 0, 20000⟩, by decide +kernel⟩,
   ⟨(gnssS.setB F.GNSS_PORT_CFG_enable true 2).setF F.GNSS_CH_CFG_port 2 191, H0, ⟨191, 1, 0, 0, { Slate.none with ts := 3, ns := 999999999 }, 0, false⟩, by decide +kernel⟩,
   ⟨((S1).setF F.GNSS_CH_STATUS_state 1 191), H0, 191, by decide +kernel⟩,
   ⟨S0, H0, by decide +kernel⟩,
   ⟨S0, H0, 31, by decide +kernel⟩,
   ⟨S0, H0, 3, by decide +kernel⟩⟩

/-- The hypotheses of `GnssSamplePathActs` can be met. -/
theorem wit_gnssSamplePathActs :
    (∃ (s : State) (port : Nat) (k : Nat) (u : State), port < 3 ∧ u = advance s k ∧ u.fb F.GNSS_PORT_CFG_enable port = true ∧ gnssP u = 2 ∧
        (gnssPort u port).broken = false ∧ clocked u = true ∧ u.fb F.GNSS_PORT_STATUS_running port = false)
    ∧ (∃ (s : State) (port : Nat), port < 3 ∧ gnssP s = 2 ∧ s.fb F.GNSS_PORT_CFG_enable port = true)
    ∧ (∃ (s : State) (port : Nat), port < 3 ∧ (gnssPort s port).broken = true ∧ s.fb F.GNSS_PORT_CFG_enable port = true ∧ clocked s = true)
    ∧ (∃ (s : State) (port : Nat) (v : _), port < 3 ∧ s.fb F.GNSS_PORT_CFG_enable port = true ∧ (regWrite s ⟨.GNSS_PORT_CFG, port, 0⟩ v).fb
        F.GNSS_PORT_CFG_enable port = false)
    ∧ (∃ (s : State) (port : Nat) (notch : _), port < 3 ∧ notch < 4 ∧ s.fb F.GNSS_NOTCH_enable port notch = false)
    ∧ (∃ (s : State) (port k : Nat) (u : State), port < 3 ∧ u = advance s k ∧ u.f F.GNSS_PORT_CFG_jam_thr port < u.f F.GNSS_PORT_STATUS_jam port ∧
        u.fb F.GNSS_PORT_STATUS_jam_flag port = false)
    ∧ (∃ (s : State) (port : Nat) (k : Nat) (u : State) (b : BlockEnd) (m : GnssMark) (l : List GnssMark), port < 3 ∧ u = advance s k ∧ u.fb F.GNSS_PORT_CFG_enable port = true ∧ gnssP u = 2 ∧
        (gnssPort u port).broken = false ∧ clocked u = true ∧ u.fb F.GNSS_PORT_STATUS_running port = true ∧ (gnssPort u port).marks = m :: l ∧
        rateOff ((u.ticks * 2 ^ 32 : Nat) + ((b.frac % 2 ^ 32 : Nat) : Int) - m.place) = false)
    ∧ (∃ (s : State) (port : Nat) (k : Nat) (u : State) (b : BlockEnd) (m : GnssMark) (l : List GnssMark), port < 3 ∧ u = advance s k ∧ u.fb F.GNSS_PORT_CFG_enable port = true ∧ gnssP u = 2 ∧
        (gnssPort u port).broken = false ∧ clocked u = true ∧ u.fb F.GNSS_PORT_STATUS_running port = true ∧ (gnssPort u port).marks = m :: l ∧
        rateOff ((u.ticks * 2 ^ 32 : Nat) + ((b.frac % 2 ^ 32 : Nat) : Int) - m.place) = true)
    ∧ (∃ (s : State) (port : Nat), port < 3 ∧ gnssP s = 2 ∧ s.fb F.GNSS_PORT_CFG_enable port = true ∧ correlatorsBehind s = true) :=
  ⟨⟨(gnssS.setB F.GNSS_PORT_CFG_enable true 2).setB F.GNSS_PORT_STATUS_running false 2, 2, 3,
      advance ((gnssS.setB F.GNSS_PORT_CFG_enable true 2).setB F.GNSS_PORT_STATUS_running false 2) 3, by decide +kernel⟩,
   ⟨(gnssS.setB F.GNSS_PORT_CFG_enable true 2),
      2, by decide +kernel⟩,
   ⟨(setGnssPort (gnssS.setB F.GNSS_PORT_CFG_enable true 2) 2 { GnssPort.reset with broken := true }),
      2, by decide +kernel⟩,
   ⟨(gnssS.setB F.GNSS_PORT_CFG_enable true 2),
      2, 0, by decide +kernel⟩,
   ⟨S0, 2, 3, by decide +kernel⟩,
   ⟨S0.setF F.GNSS_PORT_STATUS_jam 255 2, 2, 5, advance (S0.setF F.GNSS_PORT_STATUS_jam 255 2) 5, by decide +kernel⟩,
   ⟨setGnssPort { (gnssS.setB F.GNSS_PORT_CFG_enable true 2) with ticks := 625000 } 2 { GnssPort.reset with marks := [⟨0, 0, 2 ^ 37, Slate.none⟩] }, 2, 0,
      advance (setGnssPort { (gnssS.setB F.GNSS_PORT_CFG_enable true 2) with ticks := 625000 } 2 { GnssPort.reset with marks := [⟨0, 0, 2 ^ 37, Slate.none⟩] }) 0, ⟨5, []⟩, ⟨0, 0, 2 ^ 37, Slate.none⟩, [], by decide +kernel⟩,
   ⟨setGnssPort { (gnssS.setB F.GNSS_PORT_CFG_enable true 2) with ticks := 625000 } 2 { GnssPort.reset with marks := [⟨0, 0, 2 ^ 42, Slate.none⟩] }, 2, 0,
      advance (setGnssPort { (gnssS.setB F.GNSS_PORT_CFG_enable true 2) with ticks := 625000 } 2 { GnssPort.reset with marks := [⟨0, 0, 2 ^ 42, Slate.none⟩] }) 0, ⟨5, []⟩, ⟨0, 0, 2 ^ 42, Slate.none⟩, [], by decide +kernel⟩,
   ⟨((gnssS.setB F.GNSS_PORT_CFG_enable true 2).setF F.GNSS_CH_STATUS_state 1 191).setF F.GNSS_CH_CFG_port 2 191, 2, by decide +kernel⟩⟩

/-- The hypotheses of `GnssChannelsAct` can be met. -/
theorem wit_gnssChannelsAct :
    (∃ (s : State) (pos : Nat) (h : CmdHdr) (a : GnssAcqArgs) (r : AcqResult), s.f F.PWR_RUN_run_state ≠ 4 ∧ s.gnss.acqQ[pos]? = some (some h, a) ∧ r.broke =
        true)
    ∧ (∃ (s : State) (pos : Nat) (h : CmdHdr) (a : GnssAcqArgs) (r : AcqResult), s.f F.PWR_RUN_run_state ≠ 4 ∧ s.gnss.acqQ[pos]? = some (some h, a) ∧ r.broke =
        false)
    ∧ (∃ (s : State) (ch : _) (n : _), ch < 192 ∧ (gnssChState s ch = 1 ∨ gnssChState s ch = 2) ∧ epochSamples s ch = some n)
    ∧ (∃ (s : State) (ch : _) (host : _), ch < 192 ∧ ncoOwner s ch host = true)
    ∧ (∃ (s : State) (ch : _) (lo : _) (host : _), ch < 192 ∧ ncoOwner s ch host = true ∧ gnssChState s ch = 1 ∧ (gnssCh s ch).pend = none ∧ (gnssCh s
        ch).heldCode = some lo)
    ∧ (∃ (s : State) (k d0 d1 d2 : Nat) (v u : State), v = advance s k ∧ u = advance v (max d0 (max d1 d2)) ∧ gnssP u = 2 ∧ u.gnss.measAt ≠ some (measInstant v)) :=
  ⟨⟨{ gnssS with gnss := { S1.gnss with acqQ := [(some H0, ⟨2, 0, 63, -7, 20, 64, 0, 0, 0, 0, 20000⟩)] } },
      0, H0, ⟨2, 0, 63, -7, 20, 64, 0, 0, 0, 0, 20000⟩, ⟨true, 160, 0, 0, 300, 0⟩, by decide +kernel⟩,
   ⟨{ gnssS with gnss := { S1.gnss with acqQ := [(some H0, ⟨2, 0, 63, -7, 20, 64, 0, 0, 0, 0, 20000⟩)] } },
      0, H0, ⟨2, 0, 63, -7, 20, 64, 0, 0, 0, 0, 20000⟩, ⟨false, 160, 0, 0, 300, 0⟩, by decide +kernel⟩,
   ⟨(setGnssCh ((S1).setF F.GNSS_CH_STATUS_state 1 191) 191 { GnssCh.reset with nco := { NcoPoint.reset with code := 2 ^ 40 } }), 191, 1023, by decide +kernel⟩,
   ⟨S0, 191, false, by decide +kernel⟩,
   ⟨(setGnssCh ((S1).setF F.GNSS_CH_STATUS_state 1 191) 191 { GnssCh.reset with heldCode := some 0 }), 191, 0, false, by decide +kernel⟩,
   ⟨gnssS, 1, 7, 9, 8, advance gnssS 1, advance (advance gnssS 1) 9, by decide +kernel⟩⟩

/-- The hypotheses of `GnssNavigationAndPowerAct` can be met. -/
theorem wit_gnssNavigationAndPowerAct :
    (∃ (s : State) (ch : _), ch < 192 ∧ gnssChState s ch = 1 ∧ s.fb F.GNSS_CH_CFG_nav_en ch = true)
    ∧ (∃ (s : State), s.fb F.GNSS_OSNMA_CFG_enable = true ∧ osnmaTimeOk s = false)
    ∧ (∃ (s : State) (k : Nat), gnssP (advance s k) = 1 ∧ (advance s k).gnss.wakers = [])
    ∧ (∃ (s : State), gnssP s = 3 ∧ s.f F.GNSS_WAKE_interval ≠ 0 ∧ wakePassed s (60 * s.f F.GNSS_WAKE_interval) = true)
    ∧ (∃ (s : State) (sol : _) (x : SolutionIn), sol < 2 ∧ s.fb F.GNSS_SOL_CFG_enable sol = true ∧ gnssP s = 2 ∧ x.views = [] ∧ x.used.length < 4 ∧ s.f F.GNSS_SOL_CFG_min_sats sol = 0)
    ∧ (∃ (s : State) (sol : _) (x : SolutionIn), sol < 2 ∧ s.fb F.GNSS_SOL_CFG_enable sol = true ∧ gnssP s = 2 ∧ x.views = [] ∧ 4 ≤ x.used.length ∧ s.f F.GNSS_SOL_CFG_min_sats sol = 0 ∧ solFlagged s sol = false) :=
  ⟨⟨((((S1).setF F.GNSS_CH_STATUS_state 1 191)).setB F.GNSS_CH_CFG_nav_en true 191), 191, by decide +kernel⟩,
   ⟨((S0).setB F.GNSS_OSNMA_CFG_enable true 0), by decide +kernel⟩,
   ⟨((S0).setF F.GNSS_STATUS_pstate 1 ), 5, by decide +kernel⟩,
   ⟨setTsc (((S0).setF F.GNSS_STATUS_pstate 3 ).setF F.GNSS_WAKE_interval 60 ) 0 { lockedTs with cnt := ⟨3600, 0, 0⟩ }, by decide +kernel⟩,
   ⟨((((S1).setF F.GNSS_STATUS_pstate 2).setB F.GNSS_SOL_CFG_enable true 1).setF F.GNSS_SOL_CFG_min_sats 0 1), 1, ⟨0, 0, 0, 0, [(0, 1), (0, 2), (1, 3)], [], [], none, 0, 0⟩, by decide +kernel⟩,
   ⟨((((S1).setF F.GNSS_STATUS_pstate 2).setB F.GNSS_SOL_CFG_enable true 1).setF F.GNSS_SOL_CFG_min_sats 0 1), 1, ⟨0, 0, 0, 0, [(0, 1), (0, 2), (1, 3), (3, 9)], [], [], none, 0, 0⟩, by decide +kernel⟩⟩

/-- The hypotheses of `PortStatesAndProbesAct` can be met. -/
theorem wit_portStatesAndProbesAct :
    (∃ (s : State) (p : Nat) (v : _) (u : _), p < 4 ∧ u = regWrite s ⟨.PORT_CFG, p, 0⟩ v ∧ s.fb F.PORT_CFG_enable p = false ∧ u.fb F.PORT_CFG_enable p =
        true ∧ u.fb F.PORT_CFG_stats_reader p = s.fb F.PORT_CFG_stats_reader p)
    ∧ (∃ (s : State) (p : Nat), p < 4 ∧ portState s p = 1 ∧ s.f F.PWR_RUN_therm_step < 3 ∧ portRefReady s p = false)
    ∧ (∃ (s : State) (p : Nat), p < 4 ∧ portState s p = 1 ∧ s.f F.PWR_RUN_therm_step < 3 ∧ portRefReady s p = true)
    ∧ (∃ (s : State) (p : Nat) (c : _), p < 4 ∧ 2 ≤ c ∧ c ≤ 6 ∧ (c = 4 → modeTrains s p = true))
    ∧ (∃ (s : State) (p : Nat), p < 4 ∧ s.f F.PORT_CFG_ref_apll p ≠ 0 ∧ 2 ≤ portState s p ∧ s.fb F.PORT_STATUS_ref_on_ap0 p = false ∧ apState s (s.f
        F.PORT_CFG_ref_apll p) = 4)
    ∧ (∃ (s : State) (p : Nat) (k : Nat) (rms : _), p < 4 ∧ s.ports.gearQ.head? = some (k, p) ∧ portState s p = 2 ∧ rms ≤ 1280)
    ∧ (∃ (s : State) (p : Nat) (k : Nat) (rms : _), p < 4 ∧ s.ports.gearQ.head? = some (k, p) ∧ portState s p = 2 ∧ 1280 < rms ∧ (port s p).fails < 2)
    ∧ (∃ (s : State) (p : Nat) (k : Nat) (rms : _), p < 4 ∧ s.ports.gearQ.head? = some (k, p) ∧ portState s p = 2 ∧ 1280 < rms ∧ 2 ≤ (port s p).fails)
    ∧ (∃ (s : State) (p : Nat), p < 4 ∧ 2 ≤ portState s p ∧ lpiAllowed s p = true)
    ∧ (∃ (p : Nat) (n : _), p < 4 ∧ 3 ≤ n ∧ n ≤ 5) :=
  ⟨⟨S0, 3, fput (S0.rg .PORT_CFG 3) F.PORT_CFG_enable.hi F.PORT_CFG_enable.lo 1, (regWrite S0 ⟨.PORT_CFG, 3,
      0⟩ (fput (S0.rg .PORT_CFG 3) F.PORT_CFG_enable.hi F.PORT_CFG_enable.lo 1)), by decide +kernel⟩,
   ⟨((S0).setF F.PORT_STATUS_state 1 3), 3, by decide +kernel⟩,
   ⟨((S1).setF F.PORT_STATUS_state 1 3), 3, by decide +kernel⟩,
   ⟨S0.setF F.PORT_CFG_mode 5 3, 3, 4, by decide +kernel⟩,
   ⟨((((S1).setF F.PORT_CFG_ref_apll 3 3).setF F.PORT_STATUS_state 2 3).setF F.AP_STATUS_state 4 3), 3, by decide +kernel⟩,
   ⟨{ ((S1).setF F.PORT_STATUS_state 2 3) with ports := { ((S1).setF F.PORT_STATUS_state 2 3).ports with gearQ := [(7, 3)] } }, 3, 7, 1280, by decide +kernel⟩,
   ⟨{ ((S1).setF F.PORT_STATUS_state 2 3) with ports := { ((S1).setF F.PORT_STATUS_state 2 3).ports with gearQ := [(7, 3)] } }, 3, 7, 1281, by decide +kernel⟩,
   ⟨(setPort { ((S1).setF F.PORT_STATUS_state 2 3) with ports := { ((S1).setF F.PORT_STATUS_state 2 3).ports with gearQ := [(7, 3)] } } 3 { port { ((S1).setF F.PORT_STATUS_state 2 3) with ports := { ((S1).setF F.PORT_STATUS_state 2 3).ports with gearQ := [(7, 3)] } } 3 with fails := 2 }),
      3, 7, 1281, by decide +kernel⟩,
   ⟨((portS.setB F.PORT_CFG_lpi_en true 3).setF F.PORT_CFG_mode 5 3), 3,
      by decide +kernel⟩,
   ⟨3, 5, by decide +kernel⟩⟩

/-- The hypotheses of `PortFramesAct` can be met. -/
theorem wit_portFramesAct :
    (∃ (s : State) (p : Nat) (f : RxFrame) (u : _), p < 4 ∧ u = portCount (portCount (advance s f.ticks) p 6 f.fecCorr) p 7 f.fecUncorr ∧ portState
        (advance s f.ticks) p = 3 ∧ f.length < 64)
    ∧ (∃ (s : State) (p : Nat) (f : RxFrame) (u : _), p < 4 ∧ u = portCount (portCount (advance s f.ticks) p 6 f.fecCorr) p 7 f.fecUncorr ∧ portState
        (advance s f.ticks) p = 3 ∧ 64 ≤ f.length ∧ f.length ≤ u.f F.PORT_MAXF_max_frame p ∧ f.fcsOk = false)
    ∧ (∃ (s : State) (p : Nat) (f : RxFrame) (u : _), p < 4 ∧ u = portCount (portCount (advance s f.ticks) p 6 f.fecCorr) p 7 f.fecUncorr ∧ portState
        (advance s f.ticks) p = 3 ∧ 64 ≤ f.length ∧ f.length ≤ u.f F.PORT_MAXF_max_frame p ∧ f.fcsOk = true ∧ f.fecUncorr = 0 ∧ f.claim = false ∧
        f.kind = .other)
    ∧ (∃ (s : State) (p : Nat) (r : _) (c : _) (n i k : Nat) (v : State), v = advance s k ∧ p < 4 ∧ r < 64 ∧ ringType v r = 2 ∧ ringState v r = 1 ∧ v.f F.PWR_RUN_run_state ≠ 4 ∧ firstChain (ring v r).txq = some c ∧
        v.f F.HOST_RING_CFG_port r = p ∧ chainCount v p (v.f F.HOST_RING_CFG_tx_offload r) c = some n ∧ portState v p = 3 ∧ v.fb F.PORT_STATUS_lpi_tx p = false ∧
        v.fb F.HOST_STATUS_bus_master = true ∧ txdTurn v p = some r ∧
        i = tget (port v p).segs 0 r ∧ txAllowed v p ((chainFrame (v.f F.HOST_RING_CFG_tx_offload r) n c i).length + 4) = true ∧ n ≤ i + 1)
    ∧ (∃ (s : State) (p : Nat) (k : _) (i : _) (l : _), p < 4 ∧ (port (advance s k) p).stamps = i :: l)
    ∧ (∃ (s : State) (p : Nat) (e : _) (l : _), p < 4 ∧ (port s p).txts = e :: l ∧ cplEnabled s (s.f F.PORT_TXTS_CFG_ring p) = true ∧ 0 < cplRoom s (s.f
        F.PORT_TXTS_CFG_ring p) ∧ s.fb F.HOST_STATUS_bus_master = true)
    ∧ (∃ (s : State) (p : Nat) (r : _), p < 4 ∧ stagedFront (stageRing s r) r = none)
    ∧ (∃ (s : State) (p : Nat) (r : _) (k : _) (x : _), p < 4 ∧ stagedFront (stageRing s r) r = some k ∧ (stageRing s r).host.staged[k]? = some x ∧ x.length
        ≤ stagedWritten x)
    ∧ (∃ (s : State) (p : Nat) (r : _) (x : _) (l : _) (w : Nat), p < 4 ∧ s.host.staged = x :: l ∧ x.ring = r ∧ x.waiting = some w ∧ w + s.f F.HOST_RX_STARVE_wait * 625 ≤ s.ticks)
    ∧ (∃ (s : State) (p : Nat), p < 4 ∧ s.fb F.PORT_CFG_esmc_en p = true ∧ portState s p = 3 ∧ portMac s p ≠ 0 ∧ s.fb F.PORT_STATUS_lpi_tx p = false ∧ txAllowed s p esmcBytes = true)
    ∧ (∃ (s : State) (p : Nat), p < 4 ∧ s.fb F.PORT_ESMC_STATUS_rx_valid p = true)
    ∧ (∃ (s : State) (p : Nat) (r : _) (c : _) (k : Nat) (v : State), v = advance s k ∧ p < 4 ∧ r < 64 ∧ ringType v r = 2 ∧ ringState v r = 1 ∧ v.f F.PWR_RUN_run_state ≠ 4 ∧ firstChain (ring v r).txq = some c ∧
        v.f F.HOST_RING_CFG_port r = p ∧ chainCount v p (v.f F.HOST_RING_CFG_tx_offload r) c = none) :=
  ⟨⟨portS, 3, ⟨5, 0, 63, true, .other, false, 0, 0, []⟩,
      (portCount (portCount (advance portS 5) 3 6 0) 3 7 0), by decide +kernel⟩,
   ⟨portS, 3, ⟨5, 0, 64, false, .other, false, 0, 0, []⟩,
      (portCount (portCount (advance portS 5) 3 6 0) 3 7 0), by decide +kernel⟩,
   ⟨portS, 3, ⟨5, 0, 1518, true, .other, false, 0, 0, []⟩,
      (portCount (portCount (advance portS 5) 3 6 0) 3 7 0), by decide +kernel⟩,
   ⟨txS,
      3, 63, [⟨4096, 64, true, false, 0, 0, 0, true, 9, List.replicate 64 1⟩], 1, 0, 0, advance txS 0, by decide +kernel⟩,
   ⟨(setPort portS 3 { port portS 3 with stamps := [7] }),
      3, 2, 7, [], by decide +kernel⟩,
   ⟨(setPort (((((portS.setF F.HOST_RING_CFG_type 1 63).setF F.HOST_RING_STATUS_state 1 63).setF F.HOST_RING_CFG_size_exp 6 63)).setF F.PORT_TXTS_CFG_ring 63 3) 3 { port (((((portS.setF F.HOST_RING_CFG_type 1 63).setF F.HOST_RING_STATUS_state 1 63).setF F.HOST_RING_CFG_size_exp 6 63)).setF F.PORT_TXTS_CFG_ring 63 3) 3 with txts := [⟨7, true, Slate.none⟩] }),
      3, ⟨7, true, Slate.none⟩, [], by decide +kernel⟩,
   ⟨S0, 3, 62, by decide +kernel⟩,
   ⟨{ S1 with host := { S1.host with staged := [⟨62, 3, 64, 0, false, false, Slate.none, [(⟨4096, 64, true, 0⟩, 64)], none, []⟩] } }, 3, 62, 0, ⟨62, 3, 64,
      0, false, false, Slate.none, [(⟨4096, 64, true, 0⟩, 64)], none, []⟩, by decide +kernel⟩,
   ⟨{ S1 with host := { S1.host with staged := [⟨62, 3, 64, 0, false, false, Slate.none, [], some 0, []⟩] }, ticks := S1.f F.HOST_RX_STARVE_wait * 625 }, 3, 62, ⟨62, 3, 64, 0, false, false, Slate.none, [], some 0, []⟩, [], 0, by decide +kernel⟩,
   ⟨((portS.setB F.PORT_CFG_esmc_en true 3).setF F.PORT_MAC_LO_value 1 3), 3,
      by decide +kernel⟩,
   ⟨((S0).setB F.PORT_ESMC_STATUS_rx_valid true 3), 3, by decide +kernel⟩,
   ⟨badTxS,
      3, 63, [⟨4096, 0, true, false, 0, 0, 0, true, 9, []⟩], 0, advance badTxS 0, by decide +kernel⟩⟩

/-- The hypotheses of `PortCountersAct` can be met. -/
theorem wit_portCountersAct :
    (∃ (p : Nat) (c : _), p < 4 ∧ c < 12)
    ∧ (∃ (s : State) (p : Nat) (k : _) (u : _), p < 4 ∧ u = advance s k ∧ u.fb F.PORT_CFG_stats_reader p = true ∧ clocked u = true ∧ (tsc u 0).cnt.sec % u.f
        F.PORT_DLY_CFG_interval p = 0) :=
  ⟨⟨3, 11, by decide +kernel⟩,
   ⟨setTsc (((S1).setB F.PORT_CFG_stats_reader true 3).setF F.PORT_DLY_CFG_interval 900 3) 0 { lockedTs with cnt := ⟨900 * 10 ^ 6, 0, 0⟩ }, 3, 0,
      (advance (setTsc (((S1).setB F.PORT_CFG_stats_reader true 3).setF F.PORT_DLY_CFG_interval 900 3) 0 { lockedTs with cnt := ⟨900 * 10 ^ 6, 0, 0⟩ }) 0),
      by decide +kernel⟩⟩

/-- The hypotheses of `PtpCommandsTakeEffect` can be met. -/
theorem wit_ptpCommandsTakeEffect :
    (∃ (s : State) (h : CmdHdr) (a : PtpFindArgs) (e : _) (g : _), h.mbz = true ∧ s.log.isolated.contains 2 = false ∧ a.transport ≤ 2 ∧ ptpOn s a.inst =
        true ∧ findGrant s a.inst a.port a.addr a.pid = some (e, g) ∧ g.transport = a.transport)
    ∧ (∃ (s : State) (h : CmdHdr) (i : _) (g : _), h.mbz = true ∧ s.log.isolated.contains 2 = false ∧ i < 65536 ∧ clientAt s i = some (.grant g))
    ∧ (∃ (s : State) (h : CmdHdr) (i : _), h.mbz = true ∧ s.log.isolated.contains 2 = false ∧ ptpOn s i = true ∧ s.fb F.PTP_INST_CFG_auth_en i = true ∧
        handleIs s (ptpKey s i (1 - s.f F.PTP_INST_AUTH_active i)) 4 = true)
    ∧ (∃ (s : State) (h : CmdHdr) (a : UmasterArgs), h.mbz = true ∧ s.log.isolated.contains 2 = false ∧ ptpOn s a.inst = true ∧ s.fb F.PTP_INST_CFG_unicast
        a.inst = true ∧ ptpRole s a.inst ≠ 0 ∧ a.slot ≤ 7 ∧ a.op = 0 ∧ (tget (ptp s a.inst).umasters none a.slot).isSome = true)
    ∧ (∃ (s : State) (h : CmdHdr) (i : _) (f : _), h.mbz = true ∧ s.log.isolated.contains 2 = false ∧ ptpOn s i = true ∧ (ptp s i).parent = some f) :=
  ⟨⟨{ ptpS with ptp := { ptpS.ptp with clients := [(65535, some (.grant ⟨3, 3, 1, 7, 0, 0, 0, 10, 10, 10, 77, 0, 9, 5, 0, 0, none, none⟩))] } },
      H0, ⟨3, 1, 3, 9, 77⟩, 65535, ⟨3, 3, 1, 7, 0, 0, 0, 10, 10, 10, 77, 0, 9, 5, 0, 0, none, none⟩, by decide +kernel⟩,
   ⟨{ ptpS with ptp := { ptpS.ptp with clients := [(65535, some (.grant ⟨3, 3, 1, 7, 0, 0, 0, 10, 10, 10, 77, 0, 9, 5, 0, 0, none, none⟩))] } },
      H0, 65535, ⟨3, 3, 1, 7, 0, 0, 0, 10, 10, 10, 77, 0, 9, 5, 0, 0, none, none⟩, by decide +kernel⟩,
   ⟨keyed (((ptpS.setB F.PTP_INST_CFG_auth_en true 3)).wr .PTP_INST_KEY1 3 0 1029) 5 4,
      H0, 3, by decide, by decide, by decide +kernel, by decide +kernel,
      by rw [show ptpKey (keyed (((ptpS.setB F.PTP_INST_CFG_auth_en true 3)).wr .PTP_INST_KEY1 3 0 1029) 5 4) 3 (1 - (keyed (((ptpS.setB F.PTP_INST_CFG_auth_en true 3)).wr .PTP_INST_KEY1 3 0 1029) 5 4).f F.PTP_INST_AUTH_active 3) = 1029 from by decide +kernel]; exact keyed_usage _ 5 4 (by decide)⟩,
   ⟨(setPtp ((ptpS.setB F.PTP_INST_CFG_unicast true 3).setF F.PTP_INST_CFG_role 1 3) 3 { ptp ((ptpS.setB F.PTP_INST_CFG_unicast true 3).setF F.PTP_INST_CFG_role 1 3) 3 with umasters := [(7, some ⟨3, 9, none, none, none⟩)] }),
      H0, ⟨3, 7, 0, 3, 9⟩, by decide +kernel⟩,
   ⟨(setPtp ptpS 3 { ptp ptpS 3 with parent := some ⟨3, 77, 9, ⟨1, 6, 0, 0, 128, 128, 0, 37, 0, none, none⟩, 2, 0⟩ }),
      H0, 3, ⟨3, 77, 9, ⟨1, 6, 0, 0, 128, 128, 0, 37, 0, none, none⟩, 2, 0⟩, by decide +kernel⟩⟩

/-- The hypotheses of `PtpInstancesAct` can be met. -/
theorem wit_ptpInstancesAct :
    (∃ (s : State) (i : Nat) (v : _) (t : _), i < 4 ∧ t = regWrite s ⟨.PTP_INST_CFG, i, 0⟩ v ∧ ptpOn s i = false ∧ ptpOn t i = true ∧ ptpCfgErr t i ≠ 0)
    ∧ (∃ (s : State) (i : Nat) (v : _) (t : _), i < 4 ∧ t = regWrite s ⟨.PTP_INST_CFG, i, 0⟩ v ∧ ptpOn s i = false ∧ ptpOn t i = true ∧ ptpCfgErr t i = 0)
    ∧ (∃ (s : State) (i : Nat) (v : _), i < 4 ∧ ptpOn s i = true ∧ ptpOn (regWrite s ⟨.PTP_INST_CFG, i, 0⟩ v) i = false)
    ∧ (∃ (s : State) (i : Nat) (p : _) (m : PtpMsg) (u : _), i < 4 ∧ u = perf (advance s m.ticks) 0x0010 p ∧ ptpClaims (advance s m.ticks) i p m = true ∧
        muted (advance s m.ticks) = false ∧ ptpAccepts u i m = false)
    ∧ (∃ (s : State) (i : Nat) (p : _) (m : PtpMsg) (u : _), i < 4 ∧ u = perf (advance s m.ticks) 0x0010 p ∧ ptpClaims (advance s m.ticks) i p m = true ∧
        muted (advance s m.ticks) = false ∧ ptpAccepts u i m = true)
    ∧ (∃ (s : State) (i : Nat), i < 4 ∧ ptpOn s i = true)
    ∧ (∃ (s : State) (i : Nat) (p : _), i < 4 ∧ ptpProfile s i = 2 ∧ ptpMaySend s i p = true ∧ ptpPortState s i p ≠ 4)
    ∧ (∃ (s : State) (i : Nat) (e : _) (g : _) (k : _), i < 4 ∧ clientAt s e = some (.grant g) ∧ k < 3 ∧ g.types.testBit k = true ∧ liveType s g k = false)
    ∧ (∃ (s : State) (i : Nat) (slot : Nat) (k : _), i < 4 ∧ k < 3 ∧ ptpOn s i = true ∧ s.fb F.PTP_INST_CFG_unicast i = true ∧ ptpRole s i ≠ 0 ∧ renewDue s i slot k = true)
    ∧ (∃ (s : State) (i : Nat) (e : _) (g : _) (k : _), i < 4 ∧ clientAt s e = some (.grant g) ∧ k < 3 ∧ g.types.testBit k = true ∧ liveType s g k = true) :=
  ⟨⟨S0, 3, fput 0 F.PTP_INST_CFG_enable.hi F.PTP_INST_CFG_enable.lo 1, (regWrite S0 ⟨.PTP_INST_CFG, 3,
      0⟩ (fput 0 F.PTP_INST_CFG_enable.hi F.PTP_INST_CFG_enable.lo 1)), by decide +kernel⟩,
   ⟨(ptpS.wr .PTP_INST_CFG 3 0 (resetVal .PTP_INST_CFG 3)),
      3,
      ptpS.rg .PTP_INST_CFG 3 0,
      (regWrite (ptpS.wr .PTP_INST_CFG 3 0 (resetVal .PTP_INST_CFG 3)) ⟨.PTP_INST_CFG,
      3,
      0⟩ (ptpS.rg .PTP_INST_CFG 3 0)),
      by decide +kernel⟩,
   ⟨ptpS,
      3,
      (fput (ptpS.rg .PTP_INST_CFG 3) 31 31 0),
      by decide +kernel⟩,
   ⟨((ptpS.setB F.PTP_INST_CFG_auth_en true 3).setB F.PTP_INST_AUTH_required true 3),
      3, 3, ⟨5, 0, 2, 0, 0, 1, 0, 0, 5, 320, 77, 9, 5, 1, 0, none, .announce ⟨1, 6, 0, 0, 128, 128, 0, 37, 0, none, none⟩⟩,
      (perf (advance ((ptpS.setB F.PTP_INST_CFG_auth_en true 3).setB F.PTP_INST_AUTH_required true 3) 5) 0x0010 3),
      by decide +kernel⟩,
   ⟨ptpS,
      3, 3, ⟨5, 0, 2, 0, 0, 1, 0, 0, 5, 320, 77, 9, 5, 1, 0, none, .announce ⟨1, 6, 0, 0, 128, 128, 0, 37, 0, none, none⟩⟩,
      (perf (advance ptpS 5) 0x0010 3),
      by decide +kernel⟩,
   ⟨ptpS,
      3, by decide +kernel⟩,
   ⟨(ptpS.setF F.PTP_INST_CFG_profile 2 3),
      3, 3, by decide +kernel⟩,
   ⟨{ ptpS with ptp := { ptpS.ptp with clients := [(65535, some (.grant ⟨3, 3, 1, 7, 0, 0, 0, 10, 10, 10, 77, 0, 9, 5, 0, 0, none, none⟩))] } },
      3, 65535, ⟨3, 3, 1, 7, 0, 0, 0, 10, 10, 10, 77, 0, 9, 5, 0, 0, none, none⟩, 2, by decide +kernel⟩,
   ⟨setPtp ((ptpS.setB F.PTP_INST_CFG_unicast true 3).setF F.PTP_INST_CFG_role 1 3) 3 { ptp ptpS 3 with umasters := [(7, some ⟨3, 9, none, some ⟨300, 10 ^ 9 + 75⟩, none⟩)] },
      3, 7, 1, by decide +kernel⟩,
   ⟨{ ptpS with ptp := { ptpS.ptp with clients := [(65535, some (.grant ⟨3, 3, 1, 7, 0, 0, 0, 10 ^ 9 + 10, 10 ^ 9 + 10, 10 ^ 9 + 10, 77, 0, 9, 5, 0, 0, none, none⟩))] } },
      3, 65535, ⟨3, 3, 1, 7, 0, 0, 0, 10 ^ 9 + 10, 10 ^ 9 + 10, 10 ^ 9 + 10, 77, 0, 9, 5, 0, 0, none, none⟩, 2, by decide +kernel⟩⟩

/-- The hypotheses of `PtpMessagesAreSent` can be met. -/
theorem wit_ptpMessagesAreSent :
    (∃ (s : State) (i : Nat) (p : Nat) (k : _) (u : _), u = advance s k ∧ ptpMasterMay u i p = true ∧ u.fb F.PTP_INST_CFG_unicast i = false)
    ∧ (∃ (s : State) (i : Nat) (p : Nat) (q : _) (t : _) (r : _), (ptpPort s i p).fu = (q, t, none) :: r ∧ ptpMasterMay (setPtpPort s i p { ptpPort s i p with fu := r }) i p = true)
    ∧ (∃ (s : State) (i : Nat) (k : _) (r : _) (rest : _) (u : _), (ptp (advance s k) i).reqs = r :: rest ∧ u = setPtp (advance s k) i { ptp (advance s k) i
        with reqs := rest } ∧ ptpMaySend u i r.port = true ∧ ptpPortState u i r.port = 4 ∧ u.fb F.RAN_STATUS_permission = true ∧ r.peer = false)
    ∧ (∃ (s : State) (i : Nat) (p : Nat) (t4 : _) (q : _) (t3 : _), ptpOn s i = true ∧ ptpProfile s i = 1 ∧ (ptpPort s i p).sync = none ∧ (ptpPort s i
        p).req = some (q, t3, true) ∧ (ptpPort s i p).resp = some t4)
    ∧ (∃ (s : State) (k : Nat) (u : State) (e : Nat) (g : Grant) (t : Int), u = advance s k ∧ clientAt u e = some (.grant g) ∧ ptpMasterMay u g.inst g.port = true ∧ liveType u g 0 = true ∧
        clientDue u g.inst e g.logA g.sentA = some t)
    ∧ (∃ (s : State) (k : Nat) (u : State) (e : Nat) (g : Grant) (t : Int), u = advance s k ∧ clientAt u e = some (.grant g) ∧ ptpMasterMay u g.inst g.port = true ∧ liveType u g 1 = true ∧
        clientDue u g.inst e g.logS g.sentS = some t)
    ∧ (∃ (s : State) (k : Nat) (u : State) (e : Nat) (g : Grant), u = advance s k ∧ clientAt u e = some (.grant g) ∧ ptpMasterMay u g.inst g.port = true ∧ clientDue u g.inst e g.logS g.sentS = none) :=
  ⟨⟨(ptpS.setF F.PTP_INST_STATUS_port_state 0x4000 3),
      3, 3, 5,
      (advance (ptpS.setF F.PTP_INST_STATUS_port_state 0x4000 3) 5),
      by decide +kernel⟩,
   ⟨setPtpPort (ptpS.setF F.PTP_INST_STATUS_port_state 0x4000 3) 3 3 { ptpPort ptpS 3 3 with fu := [(1, 5, none)] }, 3, 3, 1, 5, [], by decide +kernel⟩,
   ⟨(setPtp (ptpS.setF F.PTP_INST_STATUS_port_state 0x4000 3) 3 { ptp (ptpS.setF F.PTP_INST_STATUS_port_state 0x4000 3) 3 with reqs := [⟨3, 77, 9, 1, false, 5, 0, 0⟩] }),
      3, 5, ⟨3, 77, 9, 1, false, 5, 0, 0⟩, [],
      (setPtp (advance (setPtp (ptpS.setF F.PTP_INST_STATUS_port_state 0x4000 3) 3 { ptp (ptpS.setF F.PTP_INST_STATUS_port_state 0x4000 3) 3 with reqs := [⟨3, 77, 9, 1, false, 5, 0, 0⟩] }) 5) 3 { ptp (advance (setPtp (ptpS.setF F.PTP_INST_STATUS_port_state 0x4000 3) 3 { ptp (ptpS.setF F.PTP_INST_STATUS_port_state 0x4000 3) 3 with reqs := [⟨3, 77, 9, 1, false, 5, 0, 0⟩] }) 5) 3 with reqs := [] }),
      by decide +kernel⟩,
   ⟨(setPtpPort (ptpS.setF F.PTP_INST_CFG_profile 1 3) 3 3 { ptpPort (ptpS.setF F.PTP_INST_CFG_profile 1 3) 3 3 with req := some (1, 5, true), resp := some 9 }),
      3, 3, 9, 1, 5, by decide +kernel⟩,
   ⟨{ ptpS.setF F.PTP_INST_STATUS_port_state 0x4000 3 with ptp := { ptpS.ptp with clients := [(1024, some (.grant ⟨3, 3, 1, 7, 0, 0, 0, 10 ^ 9 + 10, 10 ^ 9 + 10, 10 ^ 9 + 10, 77, 0, 9, 5, 0, 0, none, none⟩))] } }, 0,
      advance { ptpS.setF F.PTP_INST_STATUS_port_state 0x4000 3 with ptp := { ptpS.ptp with clients := [(1024, some (.grant ⟨3, 3, 1, 7, 0, 0, 0, 10 ^ 9 + 10, 10 ^ 9 + 10, 10 ^ 9 + 10, 77, 0, 9, 5, 0, 0, none, none⟩))] } } 0, 1024, ⟨3, 3, 1, 7, 0, 0, 0, 10 ^ 9 + 10, 10 ^ 9 + 10, 10 ^ 9 + 10, 77, 0, 9, 5, 0, 0, none, none⟩, 10 ^ 9, by decide +kernel⟩,
   ⟨{ ptpS.setF F.PTP_INST_STATUS_port_state 0x4000 3 with ptp := { ptpS.ptp with clients := [(1024, some (.grant ⟨3, 3, 1, 7, 0, 0, 0, 10 ^ 9 + 10, 10 ^ 9 + 10, 10 ^ 9 + 10, 77, 0, 9, 5, 0, 0, none, none⟩))] } }, 0,
      advance { ptpS.setF F.PTP_INST_STATUS_port_state 0x4000 3 with ptp := { ptpS.ptp with clients := [(1024, some (.grant ⟨3, 3, 1, 7, 0, 0, 0, 10 ^ 9 + 10, 10 ^ 9 + 10, 10 ^ 9 + 10, 77, 0, 9, 5, 0, 0, none, none⟩))] } } 0, 1024, ⟨3, 3, 1, 7, 0, 0, 0, 10 ^ 9 + 10, 10 ^ 9 + 10, 10 ^ 9 + 10, 77, 0, 9, 5, 0, 0, none, none⟩, 10 ^ 9, by decide +kernel⟩,
   ⟨{ ptpS.setF F.PTP_INST_STATUS_port_state 0x4000 3 with ptp := { ptpS.ptp with clients := [(1024, some (.grant ⟨3, 3, 1, 7, 0, 0, 0, 10 ^ 9 + 10, 10 ^ 9 + 10, 10 ^ 9 + 10, 77, 0, 9, 5, 0, 0, none, some (10 ^ 9)⟩))] } }, 0,
      advance { ptpS.setF F.PTP_INST_STATUS_port_state 0x4000 3 with ptp := { ptpS.ptp with clients := [(1024, some (.grant ⟨3, 3, 1, 7, 0, 0, 0, 10 ^ 9 + 10, 10 ^ 9 + 10, 10 ^ 9 + 10, 77, 0, 9, 5, 0, 0, none, some (10 ^ 9)⟩))] } } 0, 1024, ⟨3, 3, 1, 7, 0, 0, 0, 10 ^ 9 + 10, 10 ^ 9 + 10, 10 ^ 9 + 10, 77, 0, 9, 5, 0, 0, none, some (10 ^ 9)⟩, by decide +kernel⟩⟩

/-- The hypotheses of `NtpCommandsTakeEffect` can be met. -/
theorem wit_ntpCommandsTakeEffect :
    (∃ (s : State) (h : CmdHdr) (a : MintArgs), h.mbz = true ∧ 1 ≤ a.count ∧ a.count ≤ 8 ∧ a.aead = 15 ∧ a.keyAddr ≠ 0 ∧ a.keyAddr % 8 = 0 ∧ a.outAddr ≠ 0
        ∧ a.outAddr % 8 = 0 ∧ s.log.isolated.contains 3 = false ∧ tampered s = false ∧ s.fb F.NTS_STATUS_root_revoked = false ∧ s.fb
        F.NTS_STATUS_root_valid = true ∧ tsValid s 0 = true ∧ s.stv.stale = false)
    ∧ (∃ (h : CmdHdr) (a : RlQueryArgs), h.mbz = true ∧ a.family ≤ 1)
    ∧ (∃ (s : State) (h : CmdHdr) (p : _), h.mbz = true ∧ peerOn s p = true ∧ (peer s p).accepted = true) :=
  ⟨⟨(((S1).setB F.NTS_STATUS_root_valid true 0).setB F.STV_STATUS_trng_ok true 0), H0, ⟨8, 15, 8, 2 ^ 32, 1, 2⟩, by decide +kernel⟩,
   ⟨H0, ⟨1, 9⟩, by decide +kernel⟩,
   ⟨setPeer ((S0).setB F.NTP_PEER_CFG_enable true 7) 7 { Peer.reset with accepted := true }, H0, 7, by decide +kernel⟩⟩

/-- The hypotheses of `NtpInstancesAct` can be met. -/
theorem wit_ntpInstancesAct :
    (∃ (s : State) (i : Nat) (v : _) (t : _), i < 4 ∧ t = regWrite s ⟨.NTP_INST_CFG, i, 0⟩ v ∧ ntpOn s i = false ∧ ntpOn t i = true ∧ ntpCfgErr t i ≠ 0)
    ∧ (∃ (s : State) (i : Nat) (v : _) (t : _), i < 4 ∧ t = regWrite s ⟨.NTP_INST_CFG, i, 0⟩ v ∧ ntpOn s i = false ∧ ntpOn t i = true ∧ ntpCfgErr t i = 0)
    ∧ (∃ (s : State) (i : Nat) (r : NtpReq) (u : _), i < 4 ∧ u = advance s r.ticks ∧ ntpClaims u i r = true ∧ ntpAnswers u = true ∧ ntpServed u i r = none)
    ∧ (∃ (s : State) (i : Nat) (r : NtpReq) (u : _), i < 4 ∧ u = advance s r.ticks ∧ ntpClaims u i r = true ∧ ntpAnswers u = true ∧ ntpServed u i r = some
        none ∧ (charge u r.family r.addr false).2 = true)
    ∧ (∃ (s : State) (i : Nat) (id : _) (r : _), i < 4 ∧ s.ntp.replies.find? (fun r => r.id == id) = some r ∧ r.started = false ∧ r.tick + 625000 ≤ s.ticks)
    ∧ (∃ (s : State) (i : Nat) (id : _) (r : _), i < 4 ∧ s.ntp.replies.find? (fun r => r.id == id) = some r ∧ replyJob s id = none)
    ∧ (∃ (i : Nat), i < 4)
    ∧ (∃ (s : State) (i : Nat) (v : Word), i < 4 ∧ handleIs s v.toNat 0 = true)
    ∧ (∃ (s : State) (i : Nat) (v : Word), i < 4 ∧ handleIs s v.toNat 0 = false ∧ v ≠ s.rg .NTS_COOKIE_ROOT) :=
  ⟨⟨S0, 3, fput 0 F.NTP_INST_CFG_enable.hi F.NTP_INST_CFG_enable.lo 1, (regWrite S0 ⟨.NTP_INST_CFG, 3,
      0⟩ (fput 0 F.NTP_INST_CFG_enable.hi F.NTP_INST_CFG_enable.lo 1)), by decide +kernel⟩,
   ⟨(((((S1).setB F.PORT_CFG_enable true 3).setF F.PORT_STATUS_state 3 3).setF F.PORT_MAC_LO_value 2 3).setF F.TSE_IP4_value 5 3), 3,
      (((((ntpS.setB F.NTP_INST_CFG_plain_en true 3)).setB F.NTP_INST_CFG_ip6 false 3).setB F.NTP_INST_CFG_nts_en false 3)).rg .NTP_INST_CFG 3 0,
      (regWrite (((((S1).setB F.PORT_CFG_enable true 3).setF F.PORT_STATUS_state 3 3).setF F.PORT_MAC_LO_value 2 3).setF F.TSE_IP4_value 5 3) ⟨.NTP_INST_CFG,
      3,
      0⟩ ((((((ntpS.setB F.NTP_INST_CFG_plain_en true 3)).setB F.NTP_INST_CFG_ip6 false 3).setB F.NTP_INST_CFG_nts_en false 3)).rg .NTP_INST_CFG 3 0)),
      by decide +kernel⟩,
   ⟨(ntpS.setB F.NTP_INST_CFG_plain_en false 3),
      3, ⟨3, 5, 0, 0, 0, 5, 123, 9, 123, 48, 3, 4, 6, 5, .plain⟩,
      (advance (ntpS.setB F.NTP_INST_CFG_plain_en false 3) 5),
      by decide +kernel⟩,
   ⟨(ntpS.setB F.NTP_INST_CFG_plain_en true 3),
      3, ⟨3, 5, 0, 0, 0, 5, 123, 9, 123, 48, 3, 4, 6, 5, .plain⟩,
      (advance (ntpS.setB F.NTP_INST_CFG_plain_en true 3) 5),
      by decide +kernel⟩,
   ⟨{ S1 with ntp := { S1.ntp with replies := [⟨1, 3, 3, 0, 9, 123, 4, 6, 5, 5, 0, .plain, false⟩] }, ticks := 625000 }, 3, 1, ⟨1, 3, 3, 0, 9, 123, 4, 6, 5, 5, 0, .plain, false⟩, by decide +kernel⟩,
   ⟨{ S1 with ntp := { S1.ntp with replies := [⟨1, 0, 3, 0, 9, 123, 4, 6, 5, 5, 0, .plain, false⟩] } }, 3, 1, ⟨1, 0, 3, 0, 9, 123, 4, 6, 5, 5, 0, .plain,
      false⟩, by decide +kernel⟩,
   ⟨3, by decide +kernel⟩,
   ⟨keyed S0 5 0, 3, 1029, by decide, keyed_usage S0 5 0 (by decide)⟩,
   ⟨S0, 3, 1, by decide +kernel⟩⟩

/-- The arrival of a peer's reply as the obligation forms it, and the stamp of a request that left just before. -/
def peerT4 (u : State) (p : Nat) (r : PeerReply) : Nat :=
  ntpStamp u false (portTime u (u.f F.NTP_PEER_CFG_port p) r.frac (-(u.f F.PORT_LAT_RX_value (u.f F.NTP_PEER_CFG_port p) : Int)))
def peerT1 : Nat := peerT4 (advance peerS 5) 7 ⟨3, 5, 0, 0, 0, 0, 3, 3, 15, 0, 0, 0, 0⟩ - 1

/-- The hypotheses of `NtpPeersAct` can be met. -/
theorem wit_ntpPeersAct :
    (∃ (s : State) (p : Nat) (v : _) (u : _), p < 8 ∧ u = regWrite s ⟨.NTP_PEER_CFG, p, 0⟩ v ∧ peerOn s p = false ∧ peerOn u p = true)
    ∧ (∃ (s : State) (p : Nat) (k : _) (u : _), p < 8 ∧ u = advance s k ∧ peerOn u p = true ∧ (peer u p).stopped = false ∧ tsePortOk u (u.f
        F.NTP_PEER_CFG_port p) = true ∧ muted u = false ∧ peerDue u p = true)
    ∧ (∃ (s : State) (p : Nat) (r : PeerReply) (u : _), p < 8 ∧ u = advance s r.ticks ∧ peerOn u p = true ∧ (peer u p).stopped = false ∧ tsePortOk u (u.f
        F.NTP_PEER_CFG_port p) = true ∧ r.port = u.f F.NTP_PEER_CFG_port p ∧ r.family = bit (u.fb F.NTP_PEER_CFG_family p) ∧ r.addr = peerAddr u p ∧ r.stratum = 0)
    ∧ (∃ (s : State) (p : Nat) (r : PeerReply) (u : _), p < 8 ∧ u = advance s r.ticks ∧ peerOn u p = true ∧ (peer u p).stopped = false ∧ tsePortOk u (u.f
        F.NTP_PEER_CFG_port p) = true ∧ r.port = u.f F.NTP_PEER_CFG_port p ∧ r.family = bit (u.fb F.NTP_PEER_CFG_family p) ∧ r.addr = peerAddr u p ∧ r.stratum ≠ 0 ∧ (∀ t1, (peer u p).t1 = some t1 → r.origin ≠ t1.1))
    ∧ (∃ (s : State) (p : Nat) (r : PeerReply) (u : _) (t1 : _) (w : _), p < 8 ∧ u = advance s r.ticks ∧ peerOn u p = true ∧ (peer u p).stopped = false ∧ tsePortOk u (u.f
        F.NTP_PEER_CFG_port p) = true ∧ r.port = u.f F.NTP_PEER_CFG_port p ∧ r.family = bit (u.fb F.NTP_PEER_CFG_family p) ∧ r.addr = peerAddr u p ∧ 1 ≤ r.stratum ∧ r.stratum ≤ 15 ∧ r.li ≠ 3 ∧ (peer u p).t1 = some (t1, w) ∧ r.origin = t1 ∧ 0 ≤ ntpDiff r.t3 r.t2 ∧
        0 ≤ ntpDiff (peerT4 u p r) t1 - ntpDiff r.t3 r.t2 ∧ ntpDiff (peerT4 u p r) t1 - ntpDiff r.t3 r.t2 ≤ 2 ^ 32) :=
  ⟨⟨S0, 7, fput 0 F.NTP_PEER_CFG_enable.hi F.NTP_PEER_CFG_enable.lo 1, (regWrite S0 ⟨.NTP_PEER_CFG, 7,
      0⟩ (fput 0 F.NTP_PEER_CFG_enable.hi F.NTP_PEER_CFG_enable.lo 1)), by decide +kernel⟩,
   ⟨peerS, 7, 0,
      (advance peerS 0),
      by decide +kernel⟩,
   ⟨peerS, 7, ⟨3, 5, 0, 0, 0, 9, 3, 3, 0, 0, 0, 0, 0⟩, advance peerS 5, by decide +kernel⟩,
   ⟨peerS, 7, ⟨3, 5, 0, 0, 0, 9, 3, 3, 1, 0, 0, 0, 0⟩, advance peerS 5, by decide +kernel⟩,
   ⟨(setPeer peerS 7 { Peer.reset with t1 := some (peerT1, 5) }),
      7, ⟨3, 5, 0, 0, 0, peerT1, 3, 3, 15, 0, 0, 0, 0⟩, advance (setPeer peerS 7 { Peer.reset with t1 := some (peerT1, 5) }) 5, peerT1, 5, by decide +kernel⟩⟩

/-- The hypotheses of `TwinCommandsTakeEffect` can be met. -/
theorem wit_twinCommandsTakeEffect :
    (∃ (s : State) (h : CmdHdr), h.mbz = true ∧ ranRole s = 1 ∧ handbackReason s = 0)
    ∧ (∃ (s : State) (h : CmdHdr), h.mbz = true ∧ ranRole s = 3 ∧ s.f F.RAN_STATUS_link = 2 ∧ peerLeads s = true ∧ s.hs.shclk = true)
    ∧ (∃ (s : State) (h : CmdHdr) (addr : _) (b : _) (t : _), h.mbz = true ∧ addr ≠ 0 ∧ addr % 64 = 0 ∧ s.ran.state = some (b, t))
    ∧ (∃ (s : State) (h : CmdHdr) (e : _) (r : _), h.mbz = true ∧ mirrors s = true ∧ s.ptp.dirty = e :: r)
    ∧ (∃ (s : State) (h : CmdHdr), h.mbz = true ∧ mirrors s = true ∧ s.ptp.dirty = [] ∧ 65536 ≤ s.ran.sweepPos)
    ∧ (∃ (s : State) (h : CmdHdr), h.mbz = true ∧ ranRole s = 1 ∧ (pairKey s).isNone = false ∧ s.f F.RAN_STATUS_link = 2 ∧ s.fb F.NTS_STATUS_root_valid =
        true ∧ s.ran.revokeOwed = false ∧ s.ran.sentRoot = none)
    ∧ (∃ (s : State) (h : CmdHdr) (lane : _) (j : _) (t : _), h.mbz = true ∧ vacateLane s lane = s ∧ laneFree s lane = true ∧ s.wrap.retired.contains (4,
        lane) = false ∧ s.f F.PWR_RUN_profile ≠ 1 ∧ drrPick s = some (j, t) ∧ j.cls ≠ .ranin)
    ∧ (∃ (s : State) (h : CmdHdr) (v : _) (p : _), h.mbz = true ∧ (regWrite s ⟨.RAN_TMO, 0, 0⟩ v).ran.peer = some p ∧ p.tick + (regWrite s ⟨.RAN_TMO, 0, 0⟩
        v).f F.RAN_TMO_silence * 625 ≤ (regWrite s ⟨.RAN_TMO, 0, 0⟩ v).ticks)
    ∧ (∃ (s : State) (h : CmdHdr) (v : _) (p : _), h.mbz = true ∧ (regWrite s ⟨.RAN_TMO, 0, 0⟩ v).ran.peer = some p ∧ (regWrite s ⟨.RAN_TMO, 0, 0⟩ v).ticks
        < p.tick + (regWrite s ⟨.RAN_TMO, 0, 0⟩ v).f F.RAN_TMO_silence * 625) :=
  ⟨⟨{ leadS with ran := { leadS.ran with peer := some ⟨⟨8, 2, 7, 1⟩, 0⟩ } },
      H0, by decide +kernel⟩,
   ⟨{ ((((((S1).setF F.RAN_STATUS_role 3 ).setB F.RAN_STATUS_peer_fresh true 0).setF F.RAN_STATUS_link 2 ).setB F.RAN_CFG_enable true 0).setF F.RAN_STATUS_lanes_up 3 ) with ran := { (((((((S1).setF F.RAN_STATUS_role 3 ).setB F.RAN_STATUS_peer_fresh true 0).setF F.RAN_STATUS_link 2 ).setB F.RAN_CFG_enable true 0).setF F.RAN_STATUS_lanes_up 3 )).ran with peer := some ⟨⟨8, 1, 7, 1⟩, 0⟩ } },
      H0, by decide +kernel⟩,
   ⟨{ S1 with ran := { (S1).ran with state := some (⟨Slate.none, none, 0xFF, 0, 7, 37, 0, 1, 4⟩, 0) } }, H0, 64, ⟨Slate.none, none, 0xFF, 0, 7, 37, 0, 1,
      4⟩, 0, by decide +kernel⟩,
   ⟨{ { leadS with ran := { leadS.ran with peer := some ⟨⟨8, 2, 7, 1⟩, 0⟩ } } with ptp := { leadS.ptp with dirty := [65535] } },
      H0, 65535, [], by decide +kernel⟩,
   ⟨{ leadS with ran := { leadS.ran with peer := some ⟨⟨8, 2, 7, 1⟩, 0⟩, sweepPos := 65536 } },
      H0, by decide +kernel⟩,
   ⟨keyed (((leadS.setB F.NTS_STATUS_root_valid true 0)).wr .STV_PAIR_KEY 0 0 1029) 5 3,
      H0, by decide +kernel, by decide +kernel, pair_key _ (by decide +kernel), by decide +kernel, by decide +kernel, by decide +kernel,
      by decide +kernel⟩,
   ⟨{ S1 with stv := { (S1).stv with jobs := [⟨1, .host, [], 3, none, false, false, 0, .crypt H0 ⟨0, 0, 0, 8, 16, 8, 0, 0⟩⟩] } }, H0, 7, ⟨1, .host, [],
      3, none, false, false, 0, .crypt H0 ⟨0, 0, 0, 8, 16, 8, 0, 0⟩⟩,
      { { S1 with stv := { (S1).stv with jobs := [⟨1, .host, [], 3, none, false, false, 0, .crypt H0 ⟨0, 0, 0, 8, 16, 8, 0, 0⟩⟩] } } with stv := { ({ S1 with stv := { (S1).stv with jobs := [⟨1, .host, [], 3, none, false, false, 0, .crypt H0 ⟨0, 0, 0, 8, 16, 8, 0, 0⟩⟩] } }).stv with defHost := 0, defNts := 0 } },
      by decide +kernel⟩,
   ⟨{ { S1 with ran := { (S1).ran with peer := some ⟨⟨8, 2, 7, 1⟩, 0⟩ } } with ticks := 10 ^ 9 }, H0, S0.rg .RAN_TMO, ⟨⟨8, 2, 7, 1⟩, 0⟩,
      by decide +kernel⟩,
   ⟨{ S1 with ran := { (S1).ran with peer := some ⟨⟨8, 2, 7, 1⟩, 0⟩ } }, H0, S0.rg .RAN_TMO, ⟨⟨8, 2, 7, 1⟩, 0⟩, by decide +kernel⟩⟩

/-- The hypotheses of `TwinEventsTakeEffect` can be met. -/
theorem wit_twinEventsTakeEffect :
    (∃ (s : State) (lane : _), lane < 4 ∧ s.fb F.RAN_CFG_enable = true)
    ∧ (∃ (s : State), ranTx s = true)
    ∧ (∃ (s : State) (f : RanFrame) (u : State), u = silenceEval (advance s f.ticks) ∧ u.pwr.shutdown = none ∧ u.fb F.RAN_CFG_enable = true ∧ f.crcOk = false)
    ∧ (∃ (s : State) (f : RanFrame) (u : State), u = silenceEval (advance s f.ticks) ∧ u.pwr.shutdown = none ∧ u.fb F.RAN_CFG_enable = true ∧ f.crcOk = true ∧ f.body = .bad)
    ∧ (∃ (s : State) (f : RanFrame) (u : State) (b : ClaimBody), u = silenceEval (advance s f.ticks) ∧ u.fb F.RAN_CFG_enable = true ∧ f.crcOk = true ∧ f.body = .claim b)
    ∧ (∃ (s : State) (f : RanFrame) (u : State) (b : StateBody), u = silenceEval (advance s f.ticks) ∧ u.fb F.RAN_CFG_enable = true ∧ f.crcOk = true ∧ f.body = .state b)
    ∧ (∃ (s : State) (f : RanFrame) (u : State) (i : Nat) (e : Option Client), u = silenceEval (advance s f.ticks) ∧ u.fb F.RAN_CFG_enable = true ∧ f.crcOk = true ∧ f.body = .mirror i e)
    ∧ (∃ (s : State) (f : RanFrame) (u : State) (k o g : Nat) (w : Wrapped), u = silenceEval (advance s f.ticks) ∧ u.fb F.RAN_CFG_enable = true ∧ f.crcOk = true ∧
        f.body = .keywrap k o g w)
    ∧ (∃ (s : State) (f : RanFrame) (u : State) (c : Nat), u = silenceEval (advance s f.ticks) ∧ u.fb F.RAN_CFG_enable = true ∧ f.crcOk = true ∧ f.body = .handback c ∧
        (peerFresh u).any (fun b => b.claim == c) = true)
    ∧ (∃ (s : State) (f : RanFrame) (u : State) (n : Nat), u = silenceEval (advance s f.ticks) ∧ u.fb F.RAN_CFG_enable = true ∧ f.crcOk = true ∧ f.body = .sweepEnd n)
    ∧ (∃ (s : State) (k : Nat), peerStale (advance s k) = true)
    ∧ (∃ (s : State) (k : Nat), peerStale (advance s k) = false)
    ∧ (∃ (s : State) (b : _), peerFresh s = some b ∧ b.role = 3)
    ∧ (∃ (s : State) (b : _), peerFresh s = some b ∧ joinEnds s = true ∧ s.ran.sawLead = false ∧ b.role = 2 ∧ b.claim < ownClaim s)
    ∧ (∃ (s : State), joinEnds s = true ∧ s.ran.sawLead = false ∧ peerFresh s = none)
    ∧ (∃ (s : State), joinEnds s = true ∧ s.ran.sawLead = true)
    ∧ (∃ (s : State), joinEnds s = false)
    ∧ (∃ (s : State), ranRole s = 3 ∧ s.fb F.RAN_CFG_auto_rejoin = true ∧ peerLeads s = true ∧ leadHeld s = true ∧ s.hs.shclk = true ∧ (tsc s 0).valid = true)
    ∧ (∃ (s : State) (k frac : Nat), ranTx (advance s k) = true ∧ markDue (advance s k) (markSlate (advance s k) frac) = true)
    ∧ (∃ (s : State) (k : _), (advance s k).fb F.RAN_CFG_enable = true)
    ∧ (∃ (s : State) (th : _) (l : _), s.ran.thetas = th :: l ∧ ranRole s = 2 ∧ s.ran.thetaNew = true ∧ tsRuns s 0 = true ∧ s.hs.shclk = true)
    ∧ (∃ (s : State) (h : _), s.ran.handback = some h ∧ s.ran.handbackAt + 6250000 ≤ s.ticks ∧ s.pwr.shutdown = none) :=
  ⟨⟨leadS, 3, by decide +kernel⟩,
   ⟨leadS, by decide +kernel⟩,
   ⟨leadS, ⟨5, false, .handback 4⟩, silenceEval (advance leadS (⟨5, false, .handback 4⟩ : RanFrame).ticks), by decide +kernel⟩,
   ⟨leadS, ⟨5, true, .bad⟩, silenceEval (advance leadS (⟨5, true, .bad⟩ : RanFrame).ticks), by decide +kernel⟩,
   ⟨leadS, ⟨5, true, .claim ⟨8, 2, 7, 1⟩⟩, silenceEval (advance leadS (⟨5, true, .claim ⟨8, 2, 7, 1⟩⟩ : RanFrame).ticks), ⟨8, 2, 7, 1⟩, by decide +kernel⟩,
   ⟨leadS, ⟨5, true, .state ⟨Slate.none, none, 0xFF, 0, 7, 37, 0, 1, 4⟩⟩, silenceEval (advance leadS (⟨5, true, .state ⟨Slate.none, none, 0xFF, 0, 7, 37, 0, 1, 4⟩⟩ : RanFrame).ticks), ⟨Slate.none, none, 0xFF, 0, 7, 37, 0, 1, 4⟩, by decide +kernel⟩,
   ⟨leadS, ⟨5, true, .mirror 65535 none⟩, silenceEval (advance leadS (⟨5, true, .mirror 65535 none⟩ : RanFrame).ticks), 65535, none, by decide +kernel⟩,
   ⟨leadS, ⟨5, true, .keywrap 3 0 1 ⟨5, 6⟩⟩, silenceEval (advance leadS (⟨5, true, .keywrap 3 0 1 ⟨5, 6⟩⟩ : RanFrame).ticks), 3, 0, 1, ⟨5, 6⟩, by decide +kernel⟩,
   ⟨freshS, ⟨5, true, .handback 8⟩, silenceEval (advance freshS (⟨5, true, .handback 8⟩ : RanFrame).ticks), 8, by decide +kernel⟩,
   ⟨leadS, ⟨5, true, .sweepEnd 7⟩, silenceEval (advance leadS (⟨5, true, .sweepEnd 7⟩ : RanFrame).ticks), 7, by decide +kernel⟩,
   ⟨{ freshS with ticks := 2 ^ 40 }, 5, by decide +kernel⟩,
   ⟨freshS, 5, by decide +kernel⟩,
   ⟨{ leadS with ran := { leadS.ran with peer := some ⟨⟨8, 3, 7, 1⟩, 0⟩ } }, ⟨8, 3, 7, 1⟩, by decide +kernel⟩,
   ⟨{ leadS.wr .RAN_CLAIM 0 0 12 with ticks := 2 ^ 40, ran := { (leadS.wr .RAN_CLAIM 0 0 12).ran with joinAt := some 0, peer := some ⟨⟨8, 2, 7, 1⟩, 0⟩ } }, ⟨8, 2, 7, 1⟩, by decide +kernel⟩,
   ⟨{ leadS with ticks := 2 ^ 40, ran := { leadS.ran with joinAt := some 0 } }, by decide +kernel⟩,
   ⟨{ leadS with ticks := 2 ^ 40, ran := { leadS.ran with joinAt := some 0, sawLead := true } }, by decide +kernel⟩,
   ⟨leadS, by decide +kernel⟩,
   ⟨{ restS with ticks := 2 ^ 40, ran := { restS.ran with leadSince := some (2 ^ 40 - 6250000000), peer := some ⟨⟨8, 1, 7, 1⟩, 0⟩ } }, by decide +kernel⟩,
   ⟨leadS, 0, 0, by decide +kernel⟩,
   ⟨leadS, 5, by decide +kernel⟩,
   ⟨{ followS with ran := { followS.ran with thetas := [256], thetaNew := true } }, 256, [], by decide +kernel⟩,
   ⟨{ S1 with ticks := 6250000, ran := { S1.ran with handback := some H0 } }, H0, by decide +kernel⟩⟩

/-- The hypotheses of `RaiseTakesTheNextEpoch` can be met. -/
theorem wit_raiseTakesTheNextEpoch :
    (∃ (s : State), mayRaise s = true ∧ epochMax s < 2 ^ 31 - 1)
    ∧ (∃ (s : State), epochMax s = 2 ^ 31 - 1) :=
  ⟨⟨{ ((((((((S1).setF F.RAN_STATUS_role 2 ).setB F.RAN_STATUS_peer_fresh true 0).setF F.RAN_STATUS_link 2 ).setB F.RAN_CFG_enable true 0).setF F.RAN_STATUS_lanes_up 3 )).setF F.RAN_EPOCH_MAX_value (2 ^ 31 - 2)) with ran := { (((((((((S1).setF F.RAN_STATUS_role 2 ).setB F.RAN_STATUS_peer_fresh true 0).setF F.RAN_STATUS_link 2 ).setB F.RAN_CFG_enable true 0).setF F.RAN_STATUS_lanes_up 3 )).setF F.RAN_EPOCH_MAX_value (2 ^ 31 - 2))).ran with joined := true } },
      by decide +kernel⟩,
   ⟨((S0).setF F.RAN_EPOCH_MAX_value (2 ^ 31 - 1)), by decide +kernel⟩⟩

/-- The hypotheses of `StavrisKeyCommandsTakeEffect` can be met. -/
theorem wit_stavrisKeyCommandsTakeEffect :
    (∃ (s : State) (h : CmdHdr) (a : StvDeriveArgs) (i : _) (p : _) (j : _), h.mbz = true ∧ 0 < lcState s ∧ lcState s ≤ 3 ∧ s.log.isolated.contains 15 =
        false ∧ tampered s = false ∧ a.parent ≠ 0 ∧ handleNode s a.parent = some i ∧ node s i = some p ∧ i ≠ 2 ∧ p.usage = 0 ∧ p.depth < 16 ∧ usageOk
        a.usage a.size = true ∧ 1 ≤ a.labelLen ∧ a.labelLen ≤ 24 ∧ a.ctxLen ≤ 24 ∧ (a.label.drop a.labelLen).any (fun b => b != 0) = false ∧
        (a.context.drop a.ctxLen).any (fun b => b != 0) = false ∧ (∀ q ∈ s.stv.nodes, q.2.any (fun n => n.parent == some i) = false) ∧ freeIndex s =
        some j)
    ∧ (∃ (s : State) (h : CmdHdr) (hd : _) (i : _) (n : _), h.mbz = true ∧ 0 < lcState s ∧ lcState s ≤ 3 ∧ s.log.isolated.contains 15 = false ∧ tampered s =
        false ∧ hd ≠ 0 ∧ handleNode s hd = some i ∧ node s i = some n ∧ 3 ≤ i)
    ∧ (∃ (s : State) (h : CmdHdr) (hd : _) (i : _) (n : _) (a : StvCryptArgs), h.mbz = true ∧ 0 < lcState s ∧ lcState s ≤ 3 ∧ s.log.isolated.contains 15 =
        false ∧ tampered s = false ∧ hd ≠ 0 ∧ handleNode s hd = some i ∧ node s i = some n ∧ a.handle = hd ∧ s.log.isolated.contains 3 = false ∧ i ≠ 2
        ∧ cryptUsage a.op = some n.usage ∧ 1 ≤ a.inLen ∧ a.inLen ≤ 65536 ∧ a.aadLen ≤ a.inLen ∧ a.inAddr ≠ 0 ∧ a.outAddr ≠ 0)
    ∧ (∃ (s : State) (h : CmdHdr) (hd : _) (i : _) (n : _) (a : StvImportArgs) (j : _), h.mbz = true ∧ 0 < lcState s ∧ lcState s ≤ 3 ∧
        s.log.isolated.contains 15 = false ∧ tampered s = false ∧ hd ≠ 0 ∧ handleNode s hd = some i ∧ node s i = some n ∧ a.parent = hd ∧ i ≠ 2 ∧
        n.usage = 0 ∧ n.depth < 16 ∧ a.mode = 1 ∧ a.addr ≠ 0 ∧ a.curve ≤ 1 ∧ a.onCurve = true ∧ freeIndex s = some j)
    ∧ (∃ (s : State) (h : CmdHdr) (addr : _) (n : _), h.mbz = true ∧ 0 < lcState s ∧ lcState s ≤ 3 ∧ s.log.isolated.contains 15 = false ∧ tampered s = false
        ∧ addr ≠ 0 ∧ addr % 8 = 0 ∧ node s 1 = some n) :=
  ⟨⟨keyed S1 5 0, H0, ⟨1029, 2, 1, 24, 0, List.replicate 24 1, []⟩, 5, ⟨1, 0, 32, some 0, 1, false, [], [], false⟩, 3, by decide, by decide +kernel,
      by decide +kernel, by decide +kernel, by decide +kernel, by decide, keyed_handle S1 5 0 (by decide), by decide +kernel, by decide, by decide,
      by decide, by decide, by decide, by decide, by decide, by decide, by decide, by decide +kernel, by decide +kernel⟩,
   ⟨keyed S1 5 0, H0, 1029, 5, ⟨1, 0, 32, some 0, 1, false, [], [], false⟩, by decide, by decide +kernel, by decide +kernel, by decide +kernel,
      by decide +kernel, by decide, keyed_handle S1 5 0 (by decide), by decide +kernel, by decide⟩,
   ⟨keyed S1 5 1, H0, 1029, 5, ⟨1, 1, 32, some 0, 1, false, [], [], false⟩, ⟨1029, 0, 0, 4096, 65536, 8192, 0, 0⟩, by decide, by decide +kernel,
      by decide +kernel, by decide +kernel, by decide +kernel, by decide, keyed_handle S1 5 1 (by decide), by decide +kernel, by decide,
      by decide +kernel, by decide, by decide, by decide, by decide, by decide, by decide, by decide⟩,
   ⟨keyed S1 5 0, H0, 1029, 5, ⟨1, 0, 32, some 0, 1, false, [], [], false⟩, ⟨1, 1, 1029, 8, ⟨0, 0, 0, 0, 0, ⟨0, 0⟩⟩, 5, true⟩, 3, by decide,
      by decide +kernel, by decide +kernel, by decide +kernel, by decide +kernel, by decide, keyed_handle S1 5 0 (by decide), by decide +kernel,
      by decide, by decide, by decide, by decide, by decide, by decide, by decide, by decide, by decide +kernel⟩,
   ⟨setNode S1 1 (some ⟨1, 0, 32, some 0, 1, false, [], [], false⟩), H0, 8, ⟨1, 0, 32, some 0, 1, false, [], [], false⟩, by decide +kernel⟩⟩

/-- The hypotheses of `StavrisLifecycleAndEventsAct` can be met. -/
theorem wit_stavrisLifecycleAndEventsAct :
    (∃ (s : State) (h : CmdHdr) (a : StvChallengeArgs), h.mbz = true ∧ a.purpose = 3 ∧ purposeOk s 3 a.arg = true ∧ a.addr ≠ 0 ∧ s.fb
        F.STV_STATUS_challenge_locked = false ∧ s.stv.stale = false)
    ∧ (∃ (s : State) (h : CmdHdr) (a : StvRespondArgs) (c : _), h.mbz = true ∧ a.addr ≠ 0 ∧ lcState s ≠ 4 ∧ s.stv.challenge = some c ∧ c.id = a.id ∧ challengeOld s c = false ∧ a.len =
        respondLen c ∧ c.purpose = 3 ∧ purposeOk s 3 c.arg = true ∧ a.sigOk = true)
    ∧ (∃ (s : State) (h : CmdHdr) (a : StvRespondArgs) (c : _), h.mbz = true ∧ a.addr ≠ 0 ∧ lcState s ≠ 4 ∧ s.stv.challenge = some c ∧ c.id = a.id ∧ challengeOld s c = false ∧ a.len =
        respondLen c ∧ c.purpose = 3 ∧ purposeOk s 3 c.arg = true ∧ a.sigOk = false)
    ∧ (∃ (s : State) (h : CmdHdr) (v : _), h.mbz = true ∧ 0 < lcState s ∧ lcState s ≤ 3 ∧ 1 ≤ v ∧ v ≤ 64 ∧ v ≤ s.stv.secVersion ∧ s.f F.STV_ROLLBACK_counter
        < v)
    ∧ (∃ (h : CmdHdr), h.mbz = true)
    ∧ (∃ (h : CmdHdr) (v : Word), h.mbz = true ∧ v = 0)
    ∧ (∃ (s : State) (h : CmdHdr) (v : Word), h.mbz = true ∧ v ≠ 0 ∧ v ≠ s.rg .STV_PAIR_KEY ∧ handleIs s v.toNat 3 = false)
    ∧ (∃ (s : State) (h : CmdHdr), h.mbz = true ∧ s.fb F.STV_STATUS_trng_ok = false ∧ s.stv.passes = 2 ∧ s.stv.retestAt + secondTicks ≤ s.ticks)
    ∧ (∃ (s : State) (h : CmdHdr), h.mbz = true ∧ s.fb F.STV_STATUS_trng_ok = true ∧ s.stv.reseedAt + secondTicks ≤ s.ticks)
    ∧ (∃ (s : State) (h : CmdHdr) (id : _) (j : Job), h.mbz = true ∧ s.stv.jobs.find? (fun j => j.id == id) = some j ∧ j.started = true ∧ j.revoked = true)
    ∧ (∃ (s : State) (h : CmdHdr) (j : Job) (r : _) (a : _), h.mbz = true ∧ s.stv.jobs = [j] ∧ j.started = true ∧ j.revoked = false ∧ j.what = .crypt r a)
    ∧ (∃ (s : State) (h : CmdHdr), h.mbz = true ∧ s.fb F.STV_STATUS_trng_ok = false ∧ s.stv.reseedAt + 60 * secondTicks ≤ s.ticks)
    ∧ (∃ (s : State) (h : CmdHdr) (c : Challenge), h.mbz = true ∧ s.stv.challenge = some c ∧ c.issued + 60 * secondTicks ≤ s.ticks)
    ∧ (∃ (s : State) (h : CmdHdr), h.mbz = true ∧ s.fb F.STV_STATUS_challenge_locked = true ∧ s.stv.lockedAt + 60 * secondTicks ≤ s.ticks) :=
  ⟨⟨S0, H0, ⟨3, 2, 8⟩, by decide +kernel⟩,
   ⟨{ S1 with stv := { S1.stv with challenge := some ⟨3, 3, 4, 0⟩ } }, H0, ⟨3, 8, 96, 8, true, 0, 0⟩, ⟨3, 3, 4, 0⟩, by decide +kernel⟩,
   ⟨{ S1 with stv := { S1.stv with challenge := some ⟨3, 3, 4, 0⟩ } }, H0, ⟨3, 8, 96, 8, false, 0, 0⟩, ⟨3, 3, 4, 0⟩, by decide +kernel⟩,
   ⟨{ S1 with stv := { S1.stv with secVersion := 64 } }, H0, 64, by decide +kernel⟩,
   ⟨H0, by decide +kernel⟩,
   ⟨H0, 0, by decide +kernel⟩,
   ⟨S0, H0, 1, by decide +kernel⟩,
   ⟨{ ((S1).setB F.STV_STATUS_trng_ok false 0) with ticks := secondTicks, stv := { S1.stv with passes := 2 } }, H0, by decide +kernel⟩,
   ⟨{ (S1).setB F.STV_STATUS_trng_ok true 0 with ticks := secondTicks }, H0, by decide +kernel⟩,
   ⟨{ S1 with stv := { (S1).stv with jobs := [⟨1, .host, [], 3, none, true, true, 0, .crypt H0 ⟨0, 0, 0, 8, 16, 8, 0, 0⟩⟩] } }, H0, 1, ⟨1, .host, [], 3,
      none, true, true, 0, .crypt H0 ⟨0, 0, 0, 8, 16, 8, 0, 0⟩⟩, by decide +kernel⟩,
   ⟨{ S1 with stv := { (S1).stv with jobs := [⟨1, .host, [], 3, none, true, false, 0, .crypt H0 ⟨0, 0, 0, 8, 16, 8, 0, 0⟩⟩] } }, H0, ⟨1, .host, [], 3,
      none, true, false, 0, .crypt H0 ⟨0, 0, 0, 8, 16, 8, 0, 0⟩⟩, H0, ⟨0, 0, 0, 8, 16, 8, 0, 0⟩, by decide +kernel⟩,
   ⟨{ (S1).setB F.STV_STATUS_trng_ok false 0 with ticks := 60 * secondTicks }, H0, by decide +kernel⟩,
   ⟨{ S1 with ticks := 60 * secondTicks, stv := { S1.stv with challenge := some ⟨3, 3, 4, 0⟩ } }, H0, ⟨3, 3, 4, 0⟩, by decide +kernel⟩,
   ⟨{ (S1).setB F.STV_STATUS_challenge_locked true 0 with ticks := 60 * secondTicks }, H0, by decide +kernel⟩⟩

/-- The hypotheses of `AdminCommandsTakeEffect` can be met. -/
theorem wit_adminCommandsTakeEffect :
    (∃ (s : State) (h : CmdHdr) (a : AbortArgs) (q : _) (op : _), h.mbz = true ∧ a.ring < 64 ∧ ringType s a.ring = 0 ∧ ringState s a.ring = 1 ∧
        abortTarget s a.ring a.tag = .fetched q op)
    ∧ (∃ (s : State) (h : CmdHdr) (r : _), h.mbz = true ∧ h.ring = 0 ∧ 2 ≤ r ∧ r < 64 ∧ ringState s r = 1 ∧ ringType s r = 0)
    ∧ (∃ (s : State) (h : CmdHdr) (target : _), h.mbz = true ∧ h.ring = 0 ∧ s.sheets.applying = none ∧ s.ran.handback = none ∧ target = 1 ∧ s.f
        F.PWR_RUN_run_state = 2)
    ∧ (∃ (s : State) (h : CmdHdr) (target : _), h.mbz = true ∧ h.ring = 0 ∧ s.sheets.applying = none ∧ s.ran.handback = none ∧ target = 2 ∧ s.f
        F.PWR_RUN_run_state = 3)
    ∧ (∃ (s : State) (h : CmdHdr) (target : _), h.mbz = true ∧ h.ring = 0 ∧ s.sheets.applying = none ∧ s.ran.handback = none ∧ target = 3 ∧ s.f
        F.PWR_RUN_run_state = 3)
    ∧ (∃ (s : State) (h : CmdHdr) (p : _), h.mbz = true ∧ h.ring = 0 ∧ p ≤ 4 ∧ s.f F.PWR_RUN_therm_step < 2)
    ∧ (∃ (s : State) (h : CmdHdr) (ts : _), h.mbz = true ∧ h.ring = 0 ∧ ts < 4 ∧ s.log.isolated.contains 14 = false ∧ s.fb F.TS_CTRL_enable ts = true ∧ s.f
        F.GOV_TS_CFG_step_allow ts ≠ 0 ∧ (permitOf s ts).any (fun p => p.reserved.isSome) = false)
    ∧ (∃ (s : State) (h : CmdHdr) (r : _), h.mbz = true ∧ r < 64 ∧ ringState s r = 2 ∧ drained s r = true ∧ (ring s r).stop = none)
    ∧ (∃ (s : State) (h : CmdHdr) (ts : _) (p : _), h.mbz = true ∧ permitOf s ts = some p ∧ p.reserved = none ∧ p.expires ≤ s.ticks)
    ∧ (∃ (h : CmdHdr), h.mbz = true) :=
  ⟨⟨(setRing (((S1).setF F.HOST_RING_CFG_type 0 63).setF F.HOST_RING_STATUS_state 1 63) 63 { Ring.reset with fetched := [⟨⟨63, 9, false, true⟩, .nop⟩] }),
      H0, ⟨63, 9⟩, ⟨63, 9, false, true⟩, 0, by decide +kernel⟩,
   ⟨(((S1).setF F.HOST_RING_CFG_type 0 63).setF F.HOST_RING_STATUS_state 1 63), ⟨0, 7, false, true⟩, 63, by decide +kernel⟩,
   ⟨((S1).setF F.PWR_RUN_run_state 2 ), ⟨0, 7, false, true⟩, 1, by decide +kernel⟩,
   ⟨S1, ⟨0, 7, false, true⟩, 2, by decide +kernel⟩,
   ⟨S1, ⟨0, 7, false, true⟩, 3, by decide +kernel⟩,
   ⟨S0, ⟨0, 7, false, true⟩, 4, by decide +kernel⟩,
   ⟨((S1).setF F.GOV_TS_CFG_step_allow 1 3), ⟨0, 7, false, true⟩, 3, by decide +kernel⟩,
   ⟨(((((S1).setF F.HOST_RING_CFG_type 0 63).setF F.HOST_RING_STATUS_state 1 63)).setF F.HOST_RING_STATUS_state 2 63), H0, 63, by decide +kernel⟩,
   ⟨{ S1 with ticks := 9, gov := { S1.gov with permits := [(3, some ⟨5, none, 9⟩)] } }, H0, 3, ⟨5, none, 9⟩, by decide +kernel⟩,
   ⟨H0, by decide +kernel⟩⟩

/-- The hypotheses of `HostRingsAct` can be met. -/
theorem wit_hostRingsAct :
    (∃ (s : State) (r : _) (v : _) (t : _), r < 64 ∧ t = regWrite s ⟨.HOST_RING_CFG, r, 0⟩ (fput v 31 31 0) ∧ s.fb F.HOST_RING_CFG_enable r = false ∧ fget
        v 31 31 = 1 ∧ ringState s r = 0 ∧ ringErr t r ≠ 0)
    ∧ (∃ (s : State) (r : _) (v : _) (t : _), r < 64 ∧ t = regWrite s ⟨.HOST_RING_CFG, r, 0⟩ (fput v 31 31 0) ∧ s.fb F.HOST_RING_CFG_enable r = false ∧ fget
        v 31 31 = 1 ∧ ringState s r = 0 ∧ ringErr t r = 0)
    ∧ (∃ (s : State), s.fb F.HOST_STATUS_bus_master = true)
    ∧ (∃ (s : State) (r : _) (f : _) (rest : _) (u : _), (ring s r).fetched = f :: rest ∧ commitHeld s r f = false ∧ u = perf (setRing s r { ring s r with
        fetched := rest }) 0x0001 r ∧ adminOnly f.cmd.opcode = true ∧ r ≠ 0)
    ∧ (∃ (s : State) (r : _) (f : _) (rest : _) (u : _), (ring s r).fetched = f :: rest ∧ commitHeld s r f = false ∧ u = perf (setRing s r { ring s r with
        fetched := rest }) 0x0001 r ∧ (adminOnly f.cmd.opcode = false ∨ r = 0))
    ∧ (∃ (s : State) (r : _) (e : _) (l : _), r < 64 ∧ (ring s r).waiting = e :: l ∧ ringType s r = 1 ∧ ringState s r = 1 ∧ s.fb F.HOST_STATUS_bus_master =
        true ∧ cplSlots e ≤ cplRoom s r)
    ∧ (∃ (s : State) (r : _), cplEnabled s r = true ∧ s.fb F.HOST_RING_STATUS_armed r = true ∧ s.fb F.HOST_RING_IRQ_irq_en r = true ∧ s.fb
        F.HOST_STATUS_bus_master = true ∧ s.f F.HOST_RING_IRQ_count r ≤ cplPending s r)
    ∧ (∃ (s : State) (v : _), v < 64 ∧ (s.setB F.MSIX_CTRL_mask false v).fb (pbaFld v) (v / 32) = true)
    ∧ (∃ (s : State) (r : _), r < 64 ∧ ringState s r = 1)
    ∧ (∃ (s : State) (r : _), cplEnabled s r = true ∧ s.fb F.HOST_RING_STATUS_armed r = true ∧ s.fb F.HOST_RING_IRQ_irq_en r = true ∧ s.fb
        F.HOST_STATUS_bus_master = true ∧ timeDue s r = true) :=
  ⟨⟨S0, 63, 0x80000000, (regWrite S0 ⟨.HOST_RING_CFG, 63, 0⟩ (fput 0x80000000 31 31 0)), by decide +kernel⟩,
   ⟨((S1.wr .HOST_RING_BASE_LO 63 0 4096).wr .HOST_DB_LO 0 0 4096), 63, (fput (fput 0 F.HOST_RING_CFG_type.hi F.HOST_RING_CFG_type.lo 1) 31 31 1),
      (regWrite ((S1.wr .HOST_RING_BASE_LO 63 0 4096).wr .HOST_DB_LO 0 0 4096) ⟨.HOST_RING_CFG, 63,
      0⟩ (fput (fput (fput 0 F.HOST_RING_CFG_type.hi F.HOST_RING_CFG_type.lo 1) 31 31 1) 31 31 0)), by decide +kernel⟩,
   ⟨S1, by decide +kernel⟩,
   ⟨(setRing (((((S1).setF F.HOST_RING_CFG_cpl_ring 62 63).setF F.HOST_RING_CFG_type 1 62).setF F.HOST_RING_STATUS_state 1 62).setF F.HOST_RING_CFG_size_exp 6 62) 63 { Ring.reset with fetched := [⟨⟨63, 9, false, true⟩, .govPermit 3⟩] }),
      63, ⟨⟨63, 9, false, true⟩, .govPermit 3⟩, [],
      (perf (setRing (setRing (((((S1).setF F.HOST_RING_CFG_cpl_ring 62 63).setF F.HOST_RING_CFG_type 1 62).setF F.HOST_RING_STATUS_state 1 62).setF F.HOST_RING_CFG_size_exp 6 62) 63 { Ring.reset with fetched := [⟨⟨63, 9, false, true⟩, .govPermit 3⟩] }) 63 { ring (setRing (((((S1).setF F.HOST_RING_CFG_cpl_ring 62 63).setF F.HOST_RING_CFG_type 1 62).setF F.HOST_RING_STATUS_state 1 62).setF F.HOST_RING_CFG_size_exp 6 62) 63 { Ring.reset with fetched := [⟨⟨63, 9, false, true⟩, .govPermit 3⟩] }) 63 with fetched := [] }) 0x0001 63),
      by decide +kernel⟩,
   ⟨(setRing (((((S1).setF F.HOST_RING_CFG_cpl_ring 62 63).setF F.HOST_RING_CFG_type 1 62).setF F.HOST_RING_STATUS_state 1 62).setF F.HOST_RING_CFG_size_exp 6 62) 63 { Ring.reset with fetched := [⟨H0, .nop⟩] }),
      63, ⟨H0, .nop⟩, [],
      (perf (setRing (setRing (((((S1).setF F.HOST_RING_CFG_cpl_ring 62 63).setF F.HOST_RING_CFG_type 1 62).setF F.HOST_RING_STATUS_state 1 62).setF F.HOST_RING_CFG_size_exp 6 62) 63 { Ring.reset with fetched := [⟨H0, .nop⟩] }) 63 { ring (setRing (((((S1).setF F.HOST_RING_CFG_cpl_ring 62 63).setF F.HOST_RING_CFG_type 1 62).setF F.HOST_RING_STATUS_state 1 62).setF F.HOST_RING_CFG_size_exp 6 62) 63 { Ring.reset with fetched := [⟨H0, .nop⟩] }) 63 with fetched := [] }) 0x0001 63),
      by decide +kernel⟩,
   ⟨(setRing ((((S1).setF F.HOST_RING_CFG_type 1 63).setF F.HOST_RING_STATUS_state 1 63).setF F.HOST_RING_CFG_size_exp 6 63) 63 { Ring.reset with waiting := [.event 0x0202 false [] Slate.none] }),
      63, .event 0x0202 false [] Slate.none, [], by decide +kernel⟩,
   ⟨((((((((S1).setF F.HOST_RING_CFG_type 1 63).setF F.HOST_RING_STATUS_state 1 63).setF F.HOST_RING_CFG_size_exp 6 63)).setB F.HOST_RING_STATUS_armed true 63).setB F.HOST_RING_IRQ_irq_en true 63).setF F.HOST_RING_IRQ_count 0 63),
      63, by decide +kernel⟩,
   ⟨(S1.setF ⟨.MSIX_PBA, 31, 31⟩ 1 1), 63, by decide +kernel⟩,
   ⟨((((S1).setF F.HOST_RING_CFG_type 1 63).setF F.HOST_RING_STATUS_state 1 63).setF F.HOST_RING_CFG_size_exp 6 63), 63, by decide +kernel⟩,
   ⟨{ setRing ((((((((S1).setF F.HOST_RING_CFG_type 1 63).setF F.HOST_RING_STATUS_state 1 63).setF F.HOST_RING_CFG_size_exp 6 63)).setB F.HOST_RING_STATUS_armed true 63).setB F.HOST_RING_IRQ_irq_en true 63).setF F.HOST_RING_IRQ_time 1 63) 63 { Ring.reset with wrote := [0] } with ticks := 625 },
      63, by decide +kernel⟩⟩

/-- The hypotheses of `RegisterAccessesAct` can be met. -/
theorem wit_registerAccessesAct :
    (∃ (s : State) (a : _) (r : _), barTakes s a = true ∧ regAt a = some r)
    ∧ (∃ (s : State) (a : _), barTakes s a = true ∧ regAt a = none)
    ∧ (∃ (s : State) (a : _) (r : _), regAt a = some r ∧ barTakes s a = true)
    ∧ (∃ (s : State) (a : _) (r : _), regAt a = some r ∧ r.name ≠ .PORT_CNT_LO ∧ isRc r.name = true ∧ barTakes s a = true)
    ∧ (∃ (s : State) (x : BarAccess), accessRefused x = true ∧ s.pwr.inReset = false ∧ barDead s = false ∧ x.write = true)
    ∧ (∃ (s : State) (x : BarAccess), accessRefused x = true ∧ s.pwr.inReset = false ∧ barDead s = false ∧ x.write = false) :=
  ⟨⟨S1, 0x8300, ⟨.TS_CTRL, 3, 0⟩, by decide +kernel⟩,
   ⟨S1, 0xFFFFFC, by decide +kernel⟩,
   ⟨S1, 0x1018, ⟨.PWR_EVENT, 0, 0⟩, by decide +kernel⟩,
   ⟨S1, 43212, ⟨.CLAP_CH_MISSED, 15, 0⟩, by decide +kernel⟩,
   ⟨S0, ⟨2, 0, 4, true⟩, by decide +kernel⟩,
   ⟨S0, ⟨0, 2, 4, false⟩, by decide +kernel⟩⟩

/-- The hypotheses of `CallSheetCommandsTakeEffect` can be met. -/
theorem wit_callSheetCommandsTakeEffect :
    (∃ (s : State) (h : CmdHdr) (a : CshtStageArgs) (sh : _), h.mbz = true ∧ parseSheet s a = .inr sh ∧ s.sheets.applying = none ∧ s.sheets.writing = none
        ∧ lifeAccepts s sh = true ∧ slotVersion s.sheets.active < sh.version ∧ (sh.base = 0 ∨ sh.base = slotVersion s.sheets.active))
    ∧ (∃ (s : State) (h : CmdHdr) (a : CshtCommitArgs), h.mbz = true ∧ a.ns < 10 ^ 9 ∧ a.sec < 2 ^ 48 ∧ a.confirm = 0 ∧ commitStatus s a = none ∧ a.trigger
        = 0 ∧ a.ts < 4)
    ∧ (∃ (s : State) (h : CmdHdr) (a : CshtCommitArgs), h.mbz = true ∧ a.ns < 10 ^ 9 ∧ a.sec < 2 ^ 48 ∧ a.confirm = 0 ∧ commitStatus s a = none ∧ a.trigger
        = 1 ∧ a.ts < 4 ∧ tsRuns s a.ts = true ∧ instantPast s a.ts a.sec a.ns 0 = false ∧ s.hs.shclk = true)
    ∧ (∃ (s : State) (h : CmdHdr), h.mbz = true ∧ s.sheets.confirm = true ∧ lcState s ≠ 2)
    ∧ (∃ (s : State) (h : CmdHdr) (q : _), h.mbz = true ∧ s.sheets.applying = none ∧ s.sheets.previous = some q)
    ∧ (∃ (s : State) (h : CmdHdr) (a : CshtReadArgs) (q : _), h.mbz = true ∧ a.slot = 1 ∧ a.addr ≠ 0 ∧ a.addr % 8 = 0 ∧ s.sheets.active = some q ∧
        q.sheet.image.length ≤ a.length)
    ∧ (∃ (s : State) (h : CmdHdr) (x : _), h.mbz = true ∧ s.sheets.applying = some x ∧ x.cause = 0 ∧ x.hdr = none)
    ∧ (∃ (s : State) (h : CmdHdr), h.mbz = true ∧ s.f F.CSHT_CFG_warn ≠ 0 ∧ s.f F.CSHT_CFG_warn ≤ s.sheets.deadline ∧ confirmWithin s (s.f F.CSHT_CFG_warn) =
        true ∧ confirmWithin s 0 = false ∧ s.sheets.warned = false)
    ∧ (∃ (s : State) (h : CmdHdr), h.mbz = true ∧ s.sheets.confirm = true ∧ s.sheets.deadline ≠ 0 ∧ s.sheets.deadline * 625000000 ≤ s.ticks - s.sheets.since ∧
        s.sheets.applying = none)
    ∧ (∃ (h : CmdHdr), h.mbz = true) :=
  ⟨⟨(S1.setF F.LC_STATE_state 1), H0, ⟨8, 64, sheetImg, false⟩, (sheetOf sheetImg []), by decide +kernel⟩,
   ⟨{ (S1.setF F.LC_STATE_state 1) with sheets := { ((S1.setF F.LC_STATE_state 1)).sheets with staged := some ⟨0, (sheetOf sheetImg [])⟩ } }, H0, ⟨0, 0,
      0, 0, 2 ^ 48 - 1, 999999999⟩, by decide +kernel⟩,
   ⟨{ (S1.setF F.LC_STATE_state 1) with sheets := { ((S1.setF F.LC_STATE_state 1)).sheets with staged := some ⟨0, (sheetOf sheetImg [])⟩ } }, H0, ⟨1, 3,
      0, 0, 2 ^ 48 - 1, 999999999⟩, by decide +kernel⟩,
   ⟨{ (S1.setF F.LC_STATE_state 1) with sheets := { ((S1.setF F.LC_STATE_state 1)).sheets with confirm := true } }, H0, by decide +kernel⟩,
   ⟨{ (S1.setF F.LC_STATE_state 1) with sheets := { ((S1.setF F.LC_STATE_state 1)).sheets with previous := some ⟨2, (sheetOf sheetImg [])⟩ } }, H0, ⟨2,
      (sheetOf sheetImg [])⟩, by decide +kernel⟩,
   ⟨{ (S1.setF F.LC_STATE_state 1) with sheets := { ((S1.setF F.LC_STATE_state 1)).sheets with active := some ⟨1, (sheetOf sheetImg [])⟩ } }, H0, ⟨1, 8,
      64⟩, ⟨1, (sheetOf sheetImg [])⟩, by decide +kernel⟩,
   ⟨{ (S1.setF F.LC_STATE_state 1) with sheets := { ((S1.setF F.LC_STATE_state 1)).sheets with applying := some ⟨none, 0, 7, 0, 0, 0, Slate.none⟩ } },
      H0, ⟨none, 0, 7, 0, 0, 0, Slate.none⟩, by decide +kernel⟩,
   ⟨{ (S1.setF F.LC_STATE_state 1).setF F.CSHT_CFG_warn 5 with ticks := 625000000, sheets := { S1.sheets with confirm := true, deadline := 6, since := 0 } },
      H0, by decide +kernel⟩,
   ⟨{ S1.setF F.LC_STATE_state 1 with ticks := 625000000, sheets := { S1.sheets with confirm := true, deadline := 1, since := 0 } }, H0, by decide +kernel⟩,
   ⟨H0, by decide +kernel⟩⟩

/-- The hypotheses of `FirmwareCommandsTakeEffect` can be met. -/
theorem wit_firmwareCommandsTakeEffect :
    (∃ (s : State) (h : CmdHdr) (a : FwStageArgs), h.mbz = true ∧ a.addr ≠ 0 ∧ a.addr % 8 = 0 ∧ a.length ≤ 4194304 ∧ a.image.sigGood = true ∧ s.fw.trial =
        false ∧ s.fw.writing = none ∧ s.f F.STV_ROLLBACK_counter ≤ a.image.security)
    ∧ (∃ (s : State) (h : CmdHdr) (slot : _), h.mbz = true ∧ slot ≤ 1 ∧ slot ≠ s.fw.running ∧ fwPasses s (tget s.fw.slots none slot) = true ∧ s.fw.trial =
        false)
    ∧ (∃ (s : State) (h : CmdHdr), h.mbz = true ∧ s.fw.trial = true ∧ s.fw.preferred = s.fw.running)
    ∧ (∃ (s : State) (h : CmdHdr) (id : _) (p : _), h.mbz = true ∧ plugin s id = some p ∧ p.hashOk = true)
    ∧ (∃ (h : CmdHdr) (c : _), h.mbz = true ∧ (c = 1 ∨ c = 2 ∨ c = 4))
    ∧ (∃ (s : State) (h : CmdHdr) (id : _) (p : _) (call : KernelCall), h.mbz = true ∧ plugin s id = some p ∧ p.running = true ∧ s.f F.PWR_RUN_run_state ≠ 4
        ∧ callPermitted s p call = false)
    ∧ (∃ (s : State) (h : CmdHdr) (id : _) (p : _) (o : _) (v : _), h.mbz = true ∧ plugin s id = some p ∧ p.running = true ∧ s.f F.PWR_RUN_run_state ≠ 4 ∧
        callPermitted s p (.write o v) = true) :=
  ⟨⟨S0, H0, ⟨8, 4194304, ⟨2, 64, true⟩⟩, by decide +kernel⟩,
   ⟨{ S1 with fw := { S1.fw with slots := [(1, some ⟨2, 64, true⟩)] } }, H0, 1, by decide +kernel⟩,
   ⟨{ S1 with fw := { S1.fw with trial := true } }, H0, by decide +kernel⟩,
   ⟨{ S1 with fw := { S1.fw with plugins := [(3, some ⟨15, 7, true, false⟩)] } }, H0, 3, ⟨15, 7, true, false⟩, by decide +kernel⟩,
   ⟨H0, 4, by decide +kernel⟩,
   ⟨{ S1 with fw := { S1.fw with plugins := [(3, some ⟨15, 7, true, true⟩)] } }, H0, 3, ⟨15, 7, true, true⟩, .publish 3 0 0, by decide +kernel⟩,
   ⟨{ S1 with fw := { S1.fw with plugins := [(3, some ⟨15, 7, true, true⟩)] } }, H0, 3, ⟨15, 7, true, true⟩, 37884, 0, by decide +kernel⟩⟩

/-- The hypotheses of `PerformanceCountersAct` can be met. -/
theorem wit_performanceCountersAct :
    (∃ (s : State) (h : CmdHdr), h.mbz = true ∧ s.log.isolated.contains 14 = false ∧ s.f F.PERF_SAMPLE_CFG_cores ≠ 0 ∧ s.perf.sampling = false)
    ∧ (∃ (s : State) (h : CmdHdr) (c : _), h.mbz = true ∧ c < 48 ∧ s.perf.wrapped.contains c = false ∧ perfWrapsInside s c = true)
    ∧ (∃ (s : State) (h : CmdHdr) (c : _), h.mbz = true ∧ c < 48 ∧ s.fb F.PERF_SEL_user_rd c = false)
    ∧ (∃ (s : State) (h : CmdHdr) (c : _), h.mbz = true ∧ c < 48 ∧ perfUpper s c = false)
    ∧ (∃ (s : State) (h : CmdHdr) (r : SampleIn), h.mbz = true ∧ s.perf.sampling = true ∧ s.f F.PWR_RUN_run_state ≠ 4 ∧ (s.f
        F.PERF_SAMPLE_CFG_cores).testBit (r.core % 4) = true ∧ r.cls ≤ 9 ∧ (s.f F.PERF_SAMPLE_CLASS_mask).testBit r.cls = true ∧ 64 ≤
        s.perf.buffer.length)
    ∧ (∃ (s : State) (h : CmdHdr) (r : SampleIn), h.mbz = true ∧ s.perf.sampling = true ∧ s.f F.PWR_RUN_run_state ≠ 4 ∧ (s.f
        F.PERF_SAMPLE_CFG_cores).testBit (r.core % 4) = true ∧ r.cls ≤ 9 ∧ (s.f F.PERF_SAMPLE_CLASS_mask).testBit r.cls = true ∧ s.perf.buffer.length
        < 64)
    ∧ (∃ (s : State) (h : CmdHdr) (c : _), h.mbz = true ∧ c < 48 ∧ s.perf.wrapped.contains c = true ∧ s.fb F.PERF_SEL_ovf_evt c = true)
    ∧ (∃ (s : State) (h : CmdHdr) (c : _), h.mbz = true ∧ c < 48 ∧ s.perf.wrapped.contains c = true ∧ s.fb F.PERF_SEL_ovf_evt c = false) :=
  ⟨⟨((S1).setF F.PERF_SAMPLE_CFG_cores 8 ), H0, by decide +kernel⟩,
   ⟨((((S1).setB F.PERF_CTRL_enable true 0).setB F.PERF_SEL_enable true 47).setF F.PERF_SEL_event 0x20 47), H0, 47, by decide +kernel⟩,
   ⟨S0, H0, 47, by decide +kernel⟩,
   ⟨S0, H0, 47, by decide +kernel⟩,
   ⟨{ (((S1).setF F.PERF_SAMPLE_CFG_cores 8 ).setF F.PERF_SAMPLE_CLASS_mask 0x200 ) with perf := { S1.perf with sampling := true, buffer := List.replicate 64 [] } },
      H0, ⟨3, 0, 0, 9, 0, 5, 8⟩, by decide +kernel⟩,
   ⟨{ (((S1).setF F.PERF_SAMPLE_CFG_cores 8 ).setF F.PERF_SAMPLE_CLASS_mask 0x200 ) with perf := { S1.perf with sampling := true } }, H0, ⟨3, 0, 0, 9, 0,
      5, 8⟩, by decide +kernel⟩,
   ⟨{ (S1).setB F.PERF_SEL_ovf_evt true 47 with perf := { S1.perf with wrapped := [47] } }, H0, 47, by decide +kernel⟩,
   ⟨{ (S1).setB F.PERF_SEL_ovf_evt false 47 with perf := { S1.perf with wrapped := [47] } }, H0, 47, by decide +kernel⟩⟩

/-- The hypotheses of `LogAndSelfTestCommandsTakeEffect` can be met. -/
theorem wit_logAndSelfTestCommandsTakeEffect :
    (∃ (h : CmdHdr) (a : LogReadArgs), h.mbz = true ∧ a.sev ≤ 7 ∧ addr64Ok a.addr = true ∧ 0 < a.max ∧ a.max ≤ 8192 ∧ a.badCells = [])
    ∧ (∃ (s : State) (h : CmdHdr) (a : LogWriteArgs), h.mbz = true ∧ 3 ≤ a.sev ∧ a.sev ≤ 7 ∧ a.code / 256 = 0x10 ∧ a.len ≤ 36 ∧ (a.data.drop a.len).any (fun
        b => b != 0) = false ∧ s.log.queue.length < 256)
    ∧ (∃ (s : State) (h : CmdHdr) (addr : _), h.mbz = true ∧ addr64Ok addr = true ∧ s.fb F.LOG_STATUS_media_dead = false)
    ∧ (∃ (s : State) (h : CmdHdr) (mask : _), h.mbz = true ∧ mask ≠ 0 ∧ s.fb F.LOG_STATUS_media_dead = false)
    ∧ (∃ (s : State) (h : CmdHdr) (r : _) (l : _), h.mbz = true ∧ s.log.queue = r :: l)
    ∧ (∃ (s : State) (h : CmdHdr) (c : _), h.mbz = true ∧ c < 8192 ∧ s.log.retired.contains (segmentOf c) = false)
    ∧ (∃ (s : State) (h : CmdHdr) (w : _), h.mbz = true ∧ s.wrap.run = some w ∧ w.block < 16 ∧ w.slices + 1 < blockSlices s w.full w.block ∧ w.since + s.f
        F.BIST_CFG_slice * 625000 ≤ s.ticks)
    ∧ (∃ (s : State) (h : CmdHdr) (w : _), h.mbz = true ∧ s.wrap.run = some w ∧ 16 ≤ w.block)
    ∧ (∃ (s : State) (h : CmdHdr) (i : _) (k : _), h.mbz = true ∧ s.fb F.BIST_CFG_idle_en = true ∧ s.wrap.under = none ∧ s.f F.PWR_RUN_run_state = 3 ∧
        idleKind s = some k ∧ idleFree s k i = true ∧ s.wrap.idleAt + s.f F.BIST_CFG_idle_int * 60 * 625000000 ≤ s.ticks)
    ∧ (∃ (s : State) (h : CmdHdr) (k : _) (i : _), h.mbz = true ∧ k ≤ 4 ∧ k ≠ 2 ∧ i < idleCount k ∧ idleRetired s k i = false ∧ s.wrap.under = none ∧
        idleFree s k i = true)
    ∧ (∃ (s : State) (h : CmdHdr) (k : _), h.mbz = true ∧ tsValid (advance s k) 0 = true ∧ wholeSecond (advance s k) 0 = true) :=
  ⟨⟨H0, ⟨7, 0, 64, 8192, []⟩, by decide +kernel⟩,
   ⟨S0, H0, ⟨3, 0x10FF, 36, List.replicate 36 255⟩, by decide +kernel⟩,
   ⟨S0, H0, 64, by decide +kernel⟩,
   ⟨S0, H0, 2 ^ 63, by decide +kernel⟩,
   ⟨{ S1 with log := { S1.log with queue := [⟨3, 1, 5, Slate.none, 0x1000, [], 0, false⟩] } }, H0, ⟨3, 1, 5, Slate.none, 0x1000, [], 0, false⟩, [],
      by decide +kernel⟩,
   ⟨S0, H0, 8191, by decide +kernel⟩,
   ⟨{ S1 with ticks := 2 ^ 40, wrap := { S1.wrap with run := some ⟨true, 0, 0, 9, 0⟩ } }, H0, ⟨true, 0, 0, 9, 0⟩, by decide +kernel⟩,
   ⟨{ S1 with wrap := { S1.wrap with run := some ⟨true, 16, 0, 9, 0⟩ } }, H0, ⟨true, 16, 0, 9, 0⟩, by decide +kernel⟩,
   ⟨{ ((S1).setB F.BIST_CFG_idle_en true 0).setF F.CLAP_LANE_STATUS_map 0x1F 31 with ticks := 2 ^ 60 }, H0, 31, 0, by decide +kernel⟩,
   ⟨((S1).setF F.CLAP_LANE_STATUS_map 0x1F 31), H0, 0, 31, by decide +kernel⟩,
   ⟨S1, H0, 0, by decide +kernel⟩⟩

/-- The hypotheses of `PowerEventsTakeEffect` can be met. -/
theorem wit_powerEventsTakeEffect :
    (∃ (s : State) (rails : _), rails % 64 &&& s.f F.PWR_RAIL_in_range ≠ 0 ∧ s.pwr.inReset = false)
    ∧ (∃ (k : _), k < 6)
    ∧ (∃ (s : State), s.f F.PWR_RUN_run_state = 1 ∧ s.pwr.stopped = false ∧ s.f F.PWR_RAIL_in_range = 63)
    ∧ (∃ (s : State), s.f F.PWR_RUN_run_state = 2 ∧ s.pwr.ran = false ∧ s.fb F.PWR_CFG_auto_run = true ∧ s.sheets.applying = none)
    ∧ (∃ (s : State) (tj : Int), s.pwr.inReset = false ∧ s.f F.PWR_RUN_run_state < 2 ∧ -2048 ≤ tj ∧ tj < 2048)
    ∧ (∃ (s : State), s.pwr.inReset = false ∧ 2 ≤ s.f F.PWR_RUN_run_state ∧ s.f F.PWR_RUN_run_state ≤ 5)
    ∧ (∃ (s : State), s.pwr.inReset = false) :=
  ⟨⟨((S1).setF F.PWR_RAIL_in_range 63 ), 32, by decide +kernel⟩,
   ⟨5, by decide +kernel⟩,
   ⟨(((S1).setF F.PWR_RUN_run_state 1 ).setF F.PWR_RAIL_in_range 63 ), by decide +kernel⟩,
   ⟨(((S1).setF F.PWR_RUN_run_state 2 ).setB F.PWR_CFG_auto_run true 0), by decide +kernel⟩,
   ⟨S0, -2048, by decide +kernel⟩,
   ⟨((S1).setF F.PWR_RUN_run_state 5 ), by decide +kernel⟩,
   ⟨S1, by decide +kernel⟩⟩

/-- The hypotheses of `AdminAndUnassignedOpcodes` can be met. -/
theorem wit_adminAndUnassignedOpcodes :
    (∃ (s : State) (r : Nat) (f : Fetched) (rest : List Fetched), r ≠ 0 ∧ (ring s r).fetched = f :: rest ∧ commitHeld s r f = false ∧ 2 ≤ f.cmd.opcode ∧
        f.cmd.opcode ≤ 0x0F)
    ∧ (∃ (h : CmdHdr), h.ring ≠ 0)
    ∧ (∃ (h : CmdHdr), h.mbz = true ∧ (∃ (u : State) (a : AbortArgs), a.ring < 64 ∧ ringType u a.ring = 0 ∧ ringState u a.ring = 1 ∧ abortTarget u a.ring
        a.tag = .none))
    ∧ (∃ (h : CmdHdr), h.ring < 64) :=
  ⟨⟨(setRing (((((S1).setF F.HOST_RING_CFG_cpl_ring 62 63).setF F.HOST_RING_CFG_type 1 62).setF F.HOST_RING_STATUS_state 1 62).setF F.HOST_RING_CFG_size_exp 6 62) 63 { Ring.reset with fetched := [⟨⟨63, 9, false, true⟩, .unassignedOpcode 15⟩] }),
      63, ⟨⟨63, 9, false, true⟩, .unassignedOpcode 15⟩, [], by decide +kernel⟩,
   ⟨H0, by decide +kernel⟩,
   ⟨H0, by decide, (((S1).setF F.HOST_RING_CFG_type 0 63).setF F.HOST_RING_STATUS_state 1 63), ⟨63, 5⟩, by decide +kernel⟩,
   ⟨⟨63, 7, false, true⟩, by decide +kernel⟩⟩

/-- The hypotheses of `EventsOfTheSameAccessAreKept` can be met. -/
theorem wit_eventsOfTheSameAccessAreKept :
    (∃ (s : State) (t : State) (a : Nat) (v : Word) (e : Word) (r : Reg) (k : Nat), regAt a = some r ∧ barTakes s a = true ∧ exec (.w1cWrite a v e) s =
        .next t ∧ (e &&& w1cMask r.name).getLsbD k = true)
    ∧ (∃ (s : State) (t : State) (a n m : Nat) (r : Reg), regAt a = some r ∧ barTakes s a = true ∧ isRc r.name = true ∧ r.name ≠ .PORT_CNT_LO ∧ rcPair r.name = true ∧ exec
        (.rcRead a [n, m]) s = .next t)
    ∧ (∃ (s : State) (t : State) (a : Nat) (n : Nat) (r : Reg), regAt a = some r ∧ barTakes s a = true ∧ r.name = .PORT_CNT_LO ∧ r.i < 4 ∧ r.j < 12 ∧ s.fb
        F.PORT_CFG_stats_reader r.i = false ∧ n < 2 ^ 64 ∧ exec (.rcRead a [n]) s = .next t) :=
  ⟨⟨S1, nextOf (exec (.w1cWrite 0x1018 1 8) S1), 0x1018, 1, 8, ⟨.PWR_EVENT, 0, 0⟩, 3, by decide +kernel, by decide +kernel,
      nextOf_eq (by decide +kernel), by decide +kernel⟩,
   ⟨S1, nextOf (exec (.rcRead 43216 [3, 70000]) S1), 43216, 3, 70000, ⟨.CLAP_CH_LOST, 15, 0⟩, by decide +kernel, by decide +kernel, by decide, by decide,
      by decide, nextOf_eq (by decide +kernel)⟩,
   ⟨S1, nextOf (exec (.rcRead 110936 [2 ^ 64 - 1]) S1), 110936, 2 ^ 64 - 1, ⟨.PORT_CNT_LO, 3, 11⟩, by decide +kernel, by decide +kernel, by decide,
      by decide, by decide, by decide +kernel, by decide, nextOf_eq (by decide +kernel)⟩⟩

/-- The hypotheses of `BytesThatMustBeZero` can be met. -/
theorem wit_bytesThatMustBeZero :
    (∃ (h : CmdHdr), h.mbz = false ∧ h.ring < 64) :=
  ⟨⟨63, 7, false, false⟩, by decide +kernel⟩

/-- The hypotheses of `QueriesChangeOnlyTheRings` can be met. -/
theorem wit_queriesChangeOnlyTheRings :
    (∃ (s : State) (t : State) (h : CmdHdr), h.ring < 64 ∧ ((∃ a b, exec (.tsReadView h a b) s = .next t) ∨ (∃ a, exec (.ptpClientFind h a) s = .next t) ∨
        (∃ i, exec (.ptpParentRead h i) s = .next t) ∨ (∃ a, exec (.ntpRlQuery h a) s = .next t) ∨ (∃ p, exec (.ntpPeerRead h p) s = .next t) ∨ exec
        (.nop h) s = .next t ∨ (∃ a b, exec (.stvKeyInfo h a b) s = .next t))) :=
  ⟨S1, nextOf (exec (.nop H0) S1), H0, by decide, Or.inr (Or.inr (Or.inr (Or.inr (Or.inr (Or.inl (nextOf_eq (by decide +kernel)))))))⟩

/-- The hypotheses of `BoundCodeIsLeast` can be met. -/
theorem wit_boundCodeIsLeast :
    (∃ (b : Nat), b ≤ 32212254720 ∧ (∃ c w, c < boundCode b ∧ boundPs c = some w))
    ∧ (∃ (b : Nat), 32212254720 < b)
    ∧ (∃ (c : _) (d : _) (v : _) (w : _), c < d ∧ d < 0xFF ∧ boundPs c = some v ∧ boundPs d = some w) :=
  ⟨⟨32212254720, by decide, 0xFD, 31138512896, by decide +kernel⟩,
   ⟨32212254721, by decide +kernel⟩,
   ⟨0xFD, 0xFE, 31138512896, 32212254720, by decide +kernel⟩⟩

/-- The hypotheses of `TickIsTheExactUpdate` can be met. -/
theorem wit_tickIsTheExactUpdate :
    (∃ (s : State) (n : Nat), n < 4 ∧ clocked s = true ∧ tsRuns s n = true ∧ tsDerived s n = false ∧ (tsc s n).cnt.frac < 2 ^ 48 ∧ (tsc s n).cnt.ns < 10 ^
        9 ∧ (tsc s n).cnt.sec < 2 ^ 48 ∧ 2 ^ 48 ≤ tsIncr s n ∧ tsIncr s n < 2 * 2 ^ 48 ∧ s.f F.GOV_TS_SLEW_value n ≤ 50000000) :=
  ⟨S1, 3, by decide +kernel⟩

/-- The hypotheses of `StepNeedsItsPermit` can be met. -/
theorem wit_stepNeedsItsPermit :
    (∃ (s : State) (h : CmdHdr) (a : TsStepArgs), h.mbz = true ∧ h.ring < 64 ∧ s.log.isolated.contains 5 = false ∧ s.hs.shclk = true ∧ a.ts < 4 ∧ s.fb
        F.TS_CTRL_enable a.ts = true ∧ tsDerived s a.ts = false ∧ permitFits s a.ts a.permit = false)
    ∧ (∃ (s : State) (h : CmdHdr) (a : TsStepArgs), h.mbz = true ∧ h.ring < 64 ∧ s.log.isolated.contains 5 = false ∧ s.hs.shclk = true ∧ a.ts < 4 ∧ s.fb
        F.TS_CTRL_enable a.ts = true ∧ tsDerived s a.ts = false ∧ permitFits s a.ts a.permit = true ∧ ((counterUnits (tsc s a.ts).cnt : Int) +
        stepUnits a < 0 ∨ (2 ^ 48 * unitsPerSec : Nat) ≤ (counterUnits (tsc s a.ts).cnt : Int) + stepUnits a))
    ∧ (∃ (s : State) (h : CmdHdr) (a : TsStepArgs), h.mbz = true ∧ h.ring < 64 ∧ s.log.isolated.contains 5 = false ∧ s.hs.shclk = true ∧ a.ts < 4 ∧ s.fb
        F.TS_CTRL_enable a.ts = true ∧ tsDerived s a.ts = false ∧ permitFits s a.ts a.permit = true ∧ 0 ≤ (counterUnits (tsc s a.ts).cnt : Int) +
        stepUnits a ∧ (counterUnits (tsc s a.ts).cnt : Int) + stepUnits a < (2 ^ 48 * unitsPerSec : Nat)) :=
  ⟨⟨S1, H0, ⟨3, 7, 0, 0⟩, by decide +kernel⟩,
   ⟨{ S1 with gov := { S1.gov with permits := [(3, some ⟨7, none, 1⟩)] } }, H0, ⟨3, 7, -10 ^ 18 - 1, 0⟩, by decide +kernel⟩,
   ⟨{ S1 with gov := { S1.gov with permits := [(3, some ⟨7, none, 1⟩)] } }, H0, ⟨3, 7, -10 ^ 18, 0⟩, by decide +kernel⟩⟩

end Sys2Proof.Tests
end

namespace Sys2Proof
open Machine

/-- The register file of a state is kept by every update beside it. -/
theorem RegsCanonical.update {s : State} (h : RegsCanonical s)
    {hand time ens clap loops outs cues gnss ports stv ptp ntp ran areas host gov log sheets fw perf wrap pwr ticks fresh out pending} :
    RegsCanonical ⟨s.regs, hand, time, ens, clap, loops, outs, cues, gnss, ports, stv, ptp, ntp, ran, areas, host, gov, log, sheets, fw, perf, wrap, pwr,
      ticks, fresh, out, pending⟩ := h

section
variable {P : State → Prop} {o o' : Host.Outcome State Fault Refusal} {t : State}

theorem NextMeets.ite {p : Prop} {_ : Decidable p} (ho : NextMeets o P) (ho' : NextMeets o' P) : NextMeets (if p then o else o') P := by
  split
  · exact ho
  · exact ho'

theorem NextMeets.of_eq (ho : NextMeets o P) (h : o = .next t) : P t := by
  obtain ⟨u, rfl, hu⟩ := ho
  cases h
  exact hu

theorem NextMeets.nextOr (ho : NextMeets o P) : P (nextOr t o) := by
  obtain ⟨u, rfl, hu⟩ := ho
  exact hu

end

end Sys2Proof

namespace Sys2Proof.Machine
open Sys2Proof

/-! ### What a command may do to the register file and to the queue

One relation between the state before and the state after, a rule for each way in which the model builds a state from another, and then one lemma for each
function of the model, in the model's order. A lemma is used by its name alone: from `hs : Evolves s₀ s`, `hs.inc.logRec` says that `s₀` evolves to
`logRec (s.inc …) …`. -/

/-- The register file of `t` comes from that of `s` by writes and by leaving registers out, so that it is canonical where that of `s` is; the queue of
waiting commands is that of `s`. -/
structure Evolves (s t : State) : Prop where
  canonical : RegsCanonical s → RegsCanonical t
  pending : t.pending = s.pending

section
variable {s₀ s t : State}

/-! ### The rules -/

theorem Evolves.refl (s : State) : Evolves s s := ⟨id, rfl⟩

/-- An update of the state beside its registers and its queue. -/
theorem Evolves.frame (hs : Evolves s₀ s)
    {hand time ens clap loops outs cues gnss ports stv ptp ntp ran areas host gov log sheets fw perf wrap pwr ticks fresh out} :
    Evolves s₀ ⟨s.regs, hand, time, ens, clap, loops, outs, cues, gnss, ports, stv, ptp, ntp, ran, areas, host, gov, log, sheets, fw, perf, wrap, pwr,
      ticks, fresh, out, s.pending⟩ := ⟨hs.canonical, hs.pending⟩

/-- The same with registers left out. -/
theorem Evolves.filter (hs : Evolves s₀ s) {p : Reg × Word → Bool}
    {hand time ens clap loops outs cues gnss ports stv ptp ntp ran areas host gov log sheets fw perf wrap pwr ticks fresh out} :
    Evolves s₀ ⟨s.regs.filter p, hand, time, ens, clap, loops, outs, cues, gnss, ports, stv, ptp, ntp, ran, areas, host, gov, log, sheets, fw, perf, wrap,
      pwr, ticks, fresh, out, s.pending⟩ := ⟨fun h => regsWf_filter p (hs.canonical h), hs.pending⟩

theorem Evolves.ite {p : Prop} {_ : Decidable p} (hs : Evolves s₀ s) (ht : Evolves s₀ t) : Evolves s₀ (if p then s else t) := by
  split
  · exact hs
  · exact ht

theorem Evolves.foldl {α : Type} {f : State → α → State} {l : List α} (hs : Evolves s₀ s) (hf : ∀ u x, Evolves s₀ u → Evolves s₀ (f u x)) :
    Evolves s₀ (l.foldl f s) := foldl_inv (Evolves s₀) f hf l s hs

/-- A function that answers a state and something beside it. -/
theorem Evolves.pair {α : Type} {b : α} (hs : Evolves s₀ s) : Evolves s₀ (s, b).1 := hs

theorem Evolves.of_fst {α : Type} {q : State × α} {b : α} (hq : Evolves s₀ q.1) (h : q = (s, b)) : Evolves s₀ s := by
  rw [h] at hq
  exact hq

theorem Evolves.foldlFst {α β : Type} {f : State × α → β → State × α} {l : List β} {q : State × α} (hq : Evolves s₀ q.1)
    (hf : ∀ u y, Evolves s₀ u.1 → Evolves s₀ (f u y).1) : Evolves s₀ (l.foldl f q).1 := by
  induction l generalizing q with
  | nil => exact hq
  | cons y l ih => exact ih (hf q y hq)

/-- A function that answers a state or none. -/
theorem Evolves.some (hs : Evolves s₀ s) : ∀ u ∈ Option.some s, Evolves s₀ u := fun _ h => Option.some.inj h ▸ hs

theorem Evolves.none : ∀ u ∈ (Option.none : Option State), Evolves s₀ u := fun _ h => nomatch h

theorem Evolves.orElse {o : Option State} {k : Unit → Option State} (ho : ∀ u ∈ o, Evolves s₀ u) (hk : ∀ u ∈ k (), Evolves s₀ u) :
    ∀ u ∈ o.orElse k, Evolves s₀ u := by
  cases o with
  | none => exact hk
  | some u => exact ho

theorem Evolves.getD {o : Option State} (ho : ∀ u ∈ o, Evolves s₀ u) (hs : Evolves s₀ s) : Evolves s₀ (o.getD s) := by
  cases o with
  | none => exact hs
  | some u => exact ho u rfl

/-- The end of a command. -/
theorem Evolves.next (hs : Evolves s₀ s) : NextMeets (.next s) (Evolves s₀) := ⟨s, rfl, hs⟩

/-! ### Ops -/

theorem Evolves.wr (hs : Evolves s₀ s) {n i j v} : Evolves s₀ (s.wr n i j v) := ⟨fun h => regsWf_wr n i j v (hs.canonical h), hs.pending⟩
theorem Evolves.setF (hs : Evolves s₀ s) {d v i j} : Evolves s₀ (s.setF d v i j) := hs.wr
theorem Evolves.setB (hs : Evolves s₀ s) {d b i j} : Evolves s₀ (s.setB d b i j) := hs.setF
theorem Evolves.setI (hs : Evolves s₀ s) {d x i j} : Evolves s₀ (s.setI d x i j) := hs.setF
theorem Evolves.incF (hs : Evolves s₀ s) {d i j k} : Evolves s₀ (s.incF d i j k) := hs.setF
theorem Evolves.inc (hs : Evolves s₀ s) {n i k} : Evolves s₀ (s.inc n i k) := hs.wr
theorem Evolves.emit (hs : Evolves s₀ s) {e} : Evolves s₀ (s.emit e) := hs.frame
theorem Evolves.nextFresh (hs : Evolves s₀ s) : Evolves s₀ s.nextFresh := hs.frame
theorem Evolves.setPerfCount (hs : Evolves s₀ s) {c v} : Evolves s₀ (setPerfCount s c v) := hs.setF.setF
theorem Evolves.perfOverflow (hs : Evolves s₀ s) {c} : Evolves s₀ (perfOverflow s c) := hs.setF.ite hs.setF
theorem Evolves.perfPut (hs : Evolves s₀ s) {c v} : Evolves s₀ (perfPut s c v) := hs.setPerfCount.ite hs.setPerfCount.perfOverflow.frame
theorem Evolves.perfBump1 (hs : Evolves s₀ s) {c k} : Evolves s₀ (perfBump1 s c k) := hs.perfPut
theorem Evolves.perfPutLower (hs : Evolves s₀ s) {c v} : Evolves s₀ (perfPutLower s c v) := hs.setPerfCount.ite hs.setPerfCount.perfBump1
theorem Evolves.perfBump (hs : Evolves s₀ s) {c k} : Evolves s₀ (perfBump s c k) := hs.perfPutLower.ite hs.perfBump1
theorem Evolves.perf (hs : Evolves s₀ s) {ev inst k} : Evolves s₀ (perf s ev inst k) := (hs.foldl fun _ _ hu => hu.perfBump.ite hu).ite hs
theorem Evolves.violation (hs : Evolves s₀ s) : Evolves s₀ (violation s) := hs.inc.perf
theorem Evolves.setTsc (hs : Evolves s₀ s) {n t} : Evolves s₀ (setTsc s n t) := hs.frame
theorem Evolves.setEns (hs : Evolves s₀ s) {n x} : Evolves s₀ (setEns s n x) := hs.frame
theorem Evolves.sentTo (hs : Evolves s₀ s) {n d} : Evolves s₀ (sentTo s n d) := hs.setTsc
theorem Evolves.setStepped (hs : Evolves s₀ s) {n} : Evolves s₀ (setStepped s n) := hs.setTsc
theorem Evolves.setRing (hs : Evolves s₀ s) {r x} : Evolves s₀ (setRing s r x) := hs.frame
theorem Evolves.cplStep (hs : Evolves s₀ s) {r} : Evolves s₀ (cplStep s r) := hs.setRing.setF.ite hs.setRing.setF.setF
theorem Evolves.cplWrite1 (hs : Evolves s₀ s) {r e} : Evolves s₀ (cplWrite1 s r e) := hs.emit.cplStep

theorem Evolves.cplWrite (hs : Evolves s₀ s) {r e} : Evolves s₀ (cplWrite s r e) := by
  unfold Machine.cplWrite
  split
  · exact hs.cplStep.emit.emit.cplStep.ite hs.cplWrite1
  · exact hs.cplWrite1

theorem Evolves.postTo (hs : Evolves s₀ s) {r code data slate n} : Evolves s₀ (postTo s r code data slate n) :=
  hs.cplWrite.setRing.sentTo.ite hs.inc.setRing

theorem Evolves.notice (hs : Evolves s₀ s) {r code data} : Evolves s₀ (notice s r code data) := hs.postTo
theorem Evolves.event (hs : Evolves s₀ s) {code data} : Evolves s₀ (event s code data) := (hs.frame.setRing.ite hs).notice.ite hs.inc.frame
theorem Evolves.setLwValid (hs : Evolves s₀ s) {k b} : Evolves s₀ (setLwValid s k b) := hs.setF.ite hs.setF
theorem Evolves.mediaDead (hs : Evolves s₀ s) : Evolves s₀ (mediaDead s) := hs.ite hs.setB.event

theorem Evolves.lwWrite (hs : Evolves s₀ s) {r} : Evolves s₀ (lwWrite s r) := by
  unfold Machine.lwWrite
  refine hs.ite (hs.mediaDead.ite ?_)
  split
  · exact hs.inc
  · exact hs.frame.setLwValid

theorem Evolves.logPut (hs : Evolves s₀ s) {sev source code data slate} : Evolves s₀ (logPut s sev source code data slate) :=
  (hs.wr.frame.ite hs.wr.inc).lwWrite.ite (hs.wr.frame.ite hs.wr.inc)

theorem Evolves.logRec (hs : Evolves s₀ s) {sev code data} : Evolves s₀ (logRec s sev code data) := hs.logPut.sentTo
theorem Evolves.logEvent (hs : Evolves s₀ s) {sev code data} : Evolves s₀ (logEvent s sev code data) := hs.logRec.event
theorem Evolves.cplQueue (hs : Evolves s₀ s) {r e} : Evolves s₀ (cplQueue s r e) := hs.setRing
theorem Evolves.releaseAborts (hs : Evolves s₀ s) {h op st} : Evolves s₀ (releaseAborts s h op st) := hs.setRing.foldl fun _ _ hu => hu.cplQueue
theorem Evolves.altDone (hs : Evolves s₀ s) {i st} : Evolves s₀ (altDone s i st) := hs.frame.setB.ite hs.frame
theorem Evolves.complete (hs : Evolves s₀ s) {h op st p} : Evolves s₀ (complete s h op st p) := hs.altDone.ite hs.cplQueue.releaseAborts
theorem Evolves.begins (hs : Evolves s₀ s) {h op} : Evolves s₀ (begins s h op) := hs.setRing
theorem Evolves.finish (hs : Evolves s₀ s) {h op st p} : Evolves s₀ (finish s h op st p) := hs.setRing.complete.ite hs
theorem Evolves.badArg (hs : Evolves s₀ s) {h op} : Evolves s₀ (badArg s h op) := hs.complete
theorem Evolves.guarded (hs : Evolves s₀ s) {h op} (ht : Evolves s₀ t) : Evolves s₀ (guarded s h op t) := ht.ite hs.badArg
theorem Evolves.governorRefuses (hs : Evolves s₀ s) {op limit} : Evolves s₀ (governorRefuses s op limit) := hs.logRec.ite hs.logRec.frame.event
theorem Evolves.deniedBy (hs : Evolves s₀ s) {h op limit} : Evolves s₀ (deniedBy s h op limit) := hs.inc.governorRefuses.complete

/-! ### Areas -/

theorem Evolves.areaPut (hs : Evolves s₀ s) {wi i base size bytes r} : Evolves s₀ (areaPut s wi i base size bytes r) := hs.emit.wr
theorem Evolves.setArea (hs : Evolves s₀ s) {a x} : Evolves s₀ (setArea s a x) := hs.frame

theorem Evolves.areaWrite (hs : Evolves s₀ s) {a r} : Evolves s₀ (areaWrite s a r) := by
  unfold Machine.areaWrite
  extract_lets _ _ u
  have hu : Evolves s₀ u := hs.areaPut.setArea
  refine hs.inc.setArea.ite ?_
  split
  · exact hu.ite hu.setArea.notice
  · exact hu

theorem Evolves.areaProduce (hs : Evolves s₀ s) {a r} : Evolves s₀ (areaProduce s a r) := hs.setArea.areaWrite.ite hs.setArea.setArea
theorem Evolves.areaFlush (hs : Evolves s₀ s) {a} : Evolves s₀ (areaFlush s a) := hs.setArea.foldl fun _ _ hu => hu.areaWrite
theorem Evolves.areaRidx (hs : Evolves s₀ s) {a v} : Evolves s₀ (areaRidx s a v) := hs.wr.setArea.ite hs.violation

/-! ### RegRules -/

theorem Evolves.regWrite (hs : Evolves s₀ s) {r w} : Evolves s₀ (regWrite s r w) := hs.wr.violation.ite hs.wr

/-! ### Governor -/

theorem Evolves.setGov (hs : Evolves s₀ s) {b v} : Evolves s₀ (setGov s b v) := hs.setF
theorem Evolves.setFloor (hs : Evolves s₀ s) {b v} : Evolves s₀ (setFloor s b v) := hs.setF

theorem Evolves.govApply (hs : Evolves s₀ s) {b v} : Evolves s₀ (govApply s b v).1 := by
  unfold Machine.govApply
  split
  · exact hs.setGov.logRec.pair
  · exact hs.setGov.pair

theorem Evolves.clampWindow (hs : Evolves s₀ s) {p} : Evolves s₀ (clampWindow s p).1 := by
  unfold Machine.clampWindow
  extract_lets
  split
  · exact hs.pair
  · refine hs.pair.foldlFst fun v _ hv => ?_
    split
    · exact hv
    · exact hv.setGov.logRec.pair

theorem Evolves.setFloors (hs : Evolves s₀ s) {l} : Evolves s₀ (setFloors s l) := hs.foldl fun _ _ hu => hu.setFloor
theorem Evolves.govLifeCycle (hs : Evolves s₀ s) {new} : Evolves s₀ (govLifeCycle s new) := hs.setFloors.setB.setB.frame.ite hs.setFloors.setB.setB

theorem Evolves.floorRaise (hs : Evolves s₀ s) {g} : Evolves s₀ (floorRaise s g) :=
  hs.ite (hs.foldl fun _ _ hu => hu.setFloor).frame.setF.setB.setB.logEvent

theorem Evolves.floorBoot (hs : Evolves s₀ s) {verifies} : Evolves s₀ (floorBoot s verifies) := by
  unfold Machine.floorBoot
  refine hs.ite ?_
  split
  · exact hs.setFloors.setB.ite hs.setB.logRec
  · exact hs.setB.logRec

/-! ### LoopCore -/

theorem Evolves.setOut (hs : Evolves s₀ s) {o x} : Evolves s₀ (setOut s o x) := hs.frame
theorem Evolves.outFault (hs : Evolves s₀ s) {o cause} : Evolves s₀ (outFault s o cause) := hs.setOut
theorem Evolves.outOnFb (hs : Evolves s₀ s) {o fb} : Evolves s₀ (outOnFb s o fb) := hs.setB.setF.incF.ite hs.setB.setF.incF
theorem Evolves.outMoveEnd (hs : Evolves s₀ s) {o} : Evolves s₀ (outMoveEnd s o) := hs.setB.setOut

theorem Evolves.outLoss1 (hs : Evolves s₀ s) {a o} : Evolves s₀ (outLoss1 a s o) := by
  unfold Machine.outLoss1
  extract_lets
  refine hs.ite ((hs.outFault.ite (hs.outMoveEnd.ite hs)).ite ((hs.outFault.ite (hs.setB.setOut.ite hs.outOnFb)).ite ?_))
  exact (hs.outMoveEnd.ite hs.outFault).ite hs

theorem Evolves.outLoss (hs : Evolves s₀ s) {a} : Evolves s₀ (outLoss s a) := hs.foldl fun _ _ hu => hu.outLoss1
theorem Evolves.outStopAll (hs : Evolves s₀ s) {cause} : Evolves s₀ (outStopAll s cause) := hs.foldl fun _ _ hu => hu.ite hu.outFault
theorem Evolves.setDp (hs : Evolves s₀ s) {d x} : Evolves s₀ (setDp s d x) := hs.frame
theorem Evolves.setAp (hs : Evolves s₀ s) {a x} : Evolves s₀ (setAp s a x) := hs.frame

theorem Evolves.detAbandon (hs : Evolves s₀ s) {d} : Evolves s₀ (detAbandon s d) := by
  unfold Machine.detAbandon
  extract_lets _ u
  have hu : Evolves s₀ u := hs.setDp.setF
  split
  · exact hu.finish
  · exact hu

theorem Evolves.detBegin (hs : Evolves s₀ s) {d h} : Evolves s₀ (detBegin s d h) := hs.setDp.setF

theorem Evolves.dpSet (hs : Evolves s₀ s) {d new} : Evolves s₀ (dpSet s d new) := by
  unfold Machine.dpSet
  extract_lets _ u _ _ _ u1 _ u2 u3 u4 u5 u6
  have hu : Evolves s₀ u := hs.detAbandon.ite hs
  have hu1 : Evolves s₀ u1 := hu.setDp
  have hu2 : Evolves s₀ u2 := hu1.setDp.ite hu1
  have hu3 : Evolves s₀ u3 := by
    unfold u3
    split
    · exact hu2.setAp.ite hu2
    · exact hu2
  have hu4 : Evolves s₀ u4 := hu3.setF
  have hu5 : Evolves s₀ u5 := hu4.ite hu4.setB
  have hu6 : Evolves s₀ u6 := hu5.logEvent
  exact hs.ite (hu6.detBegin.ite hu6)

theorem Evolves.dpEval (hs : Evolves s₀ s) {d} : Evolves s₀ (dpEval s d) := hs.setB.setB.dpSet.dpSet
theorem Evolves.dpEvalAll (hs : Evolves s₀ s) : Evolves s₀ (dpEvalAll s) := hs.foldl fun _ _ hu => hu.dpEval
theorem Evolves.setPort (hs : Evolves s₀ s) {p x} : Evolves s₀ (setPort s p x) := hs.frame
theorem Evolves.lpiCheck (hs : Evolves s₀ s) {p} : Evolves s₀ (lpiCheck s p) := hs.setB.ite hs
theorem Evolves.lpiCheckAll (hs : Evolves s₀ s) : Evolves s₀ (lpiCheckAll s) := hs.foldl fun _ _ hu => hu.lpiCheck
theorem Evolves.setPtpState (hs : Evolves s₀ s) {i p st} : Evolves s₀ (setPtpState s i p st) := hs.setF.lpiCheck

theorem Evolves.ptpLink (hs : Evolves s₀ s) {p} : Evolves s₀ (ptpLink s p) :=
  hs.foldl fun _ _ hu => ((hu.setPtpState.ite (hu.setPtpState.ite hu)).ite hu)

theorem Evolves.portPresence (hs : Evolves s₀ s) {p} : Evolves s₀ (portPresence s p) := hs.setB.dpEvalAll
theorem Evolves.portSet (hs : Evolves s₀ s) {p new} : Evolves s₀ (portSet s p new) := hs.setF.logEvent.ptpLink.portPresence
theorem Evolves.portCalibrate (hs : Evolves s₀ s) {p} : Evolves s₀ (portCalibrate s p) := hs.frame.ite hs.frame.portSet
theorem Evolves.portsApLost (hs : Evolves s₀ s) {a} : Evolves s₀ (portsApLost s a) := hs.foldl fun _ _ hu => hu.setB.portCalibrate.ite hu

theorem Evolves.apSet (hs : Evolves s₀ s) {a new} : Evolves s₀ (apSet s a new) := by
  unfold Machine.apSet
  extract_lets _ _ u _ u1 _ u2 u3 u4 u5
  have hu : Evolves s₀ u := hs.setF.event
  have hu1 : Evolves s₀ u1 := hu.logRec.inc.ite (hu.setAp.ite hu)
  have hu2 : Evolves s₀ u2 := hu1.frame.ite hu1
  have hu3 : Evolves s₀ u3 := hu2.setB
  have hu4 : Evolves s₀ u4 := hu3.outLoss.ite hu3
  have hu5 : Evolves s₀ u5 := hu4.portsApLost.ite hu4
  exact hs.ite hu5.dpEvalAll

theorem Evolves.apFinish (hs : Evolves s₀ s) {a st p} : Evolves s₀ (apFinish s a st p) := by
  unfold Machine.apFinish
  split
  · exact hs.setAp.finish
  · exact hs

/-! ### Handshake -/

theorem Evolves.sagChange (hs : Evolves s₀ s) {entered} : Evolves s₀ (sagChange s entered) := (hs.frame.setB.setB.ite hs.frame.setB).logEvent
theorem Evolves.sagFilter (hs : Evolves s₀ s) {below} : Evolves s₀ (sagFilter s below) := hs.frame.sagChange.ite (hs.frame.sagChange.ite hs.frame)
theorem Evolves.avsWrite (hs : Evolves s₀ s) {mv} : Evolves s₀ (avsWrite s mv) := hs.emit.frame
theorem Evolves.avsWindow (hs : Evolves s₀ s) : Evolves s₀ (avsWindow s) := hs.frame
theorem Evolves.avsStep (hs : Evolves s₀ s) {mv} : Evolves s₀ (avsStep s mv) := hs.avsWrite.frame

theorem Evolves.avsTrack (hs : Evolves s₀ s) {pace} : Evolves s₀ (avsTrack s pace) :=
  ((hs.avsStep.ite hs).ite ((hs.avsStep.ite hs).ite (hs.setB.ite hs))).ite hs

theorem Evolves.shclkStop (hs : Evolves s₀ s) : Evolves s₀ (shclkStop s) := hs.setB.setB.setB.frame
theorem Evolves.shclkStart (hs : Evolves s₀ s) : Evolves s₀ (shclkStart s) := hs.setB.frame

theorem Evolves.execPaceWindowEnd (hs : Evolves s₀ s) {ringCount} : NextMeets (execPaceWindowEnd ringCount s) (Evolves s₀) := by
  unfold Machine.execPaceWindowEnd
  refine hs.next.ite ?_
  extract_lets _ u u1 _ u2 u3 u4
  have hu : Evolves s₀ u := hs.setF.setB.setF
  have hu1 : Evolves s₀ u1 := hu.wr
  have hu2 : Evolves s₀ u2 := hu1.inc.perf.ite hu1
  have hu3 : Evolves s₀ u3 := hu2.sagFilter
  have hu4 : Evolves s₀ u4 := hu3.avsWindow.avsTrack
  exact (hu4.ite hu4.frame).next

theorem Evolves.execAvsTransactionDone (hs : Evolves s₀ s) {result} : NextMeets (execAvsTransactionDone result s) (Evolves s₀) := by
  unfold Machine.execAvsTransactionDone
  split
  · exact hs.next
  · exact hs.setF.frame.setB.next.ite (hs.emit.frame.next.ite hs.setB.setB.frame.logRec.next)

theorem Evolves.execAvsTrackEnableWrite (hs : Evolves s₀ s) {value} : NextMeets (execAvsTrackEnableWrite value s) (Evolves s₀) :=
  (hs.regWrite.frame.setB.ite (hs.regWrite.setB.ite hs.regWrite)).next

/-! ### Timescale -/

theorem Evolves.applyIncr (hs : Evolves s₀ s) {n i writer} : Evolves s₀ (applyIncr s n i writer) :=
  (hs.ite hs.violation.logRec).setF.setF.setF.setTsc

theorem Evolves.execTsIncrLoWrite (hs : Evolves s₀ s) {ts value} : NextMeets (execTsIncrLoWrite ts value s) (Evolves s₀) :=
  hs.violation.next.ite (hs.setTsc.next.ite (hs.ite hs.violation).next)

theorem Evolves.execTsIncrHiWrite (hs : Evolves s₀ s) {ts value} : NextMeets (execTsIncrHiWrite ts value s) (Evolves s₀) :=
  hs.violation.next.ite (hs.setTsc.next.ite (hs.setTsc.applyIncr.next.ite hs.setTsc.violation.next))

theorem Evolves.advance (hs : Evolves s₀ s) {k} : Evolves s₀ (advance s k) := hs.frame.ite (hs.frame.ite hs.frame)
theorem Evolves.loadSlew (hs : Evolves s₀ s) {n amount rate posts} : Evolves s₀ (loadSlew s n amount rate posts) := hs.setTsc
theorem Evolves.cancelSlew (hs : Evolves s₀ s) {n} : Evolves s₀ (cancelSlew s n) := hs.loadSlew
theorem Evolves.stepBy (hs : Evolves s₀ s) {n d} : Evolves s₀ (stepBy s n d) := hs.foldl fun _ _ hu => hu.setTsc.setStepped.frame.ite hu

theorem Evolves.applyHeldCoeffs (hs : Evolves s₀ s) : Evolves s₀ (applyHeldCoeffs s) := by
  unfold Machine.applyHeldCoeffs
  split
  · exact hs
  · extract_lets put
    have hput : ∀ {t i}, Evolves s₀ t → Evolves s₀ (put t i) := by
      intro t i ht
      unfold put
      split
      · exact ht.setF
      · exact ht
    exact (hput (hput (hput hs))).frame

theorem Evolves.advanceProv (hs : Evolves s₀ s) {n cause} : Evolves s₀ (advanceProv s n cause) := hs.setEns.logEvent

theorem Evolves.ensFree (hs : Evolves s₀ s) {n} : Evolves s₀ (ensFree s n) :=
  hs.setEns.setF.setF.setF.setB.setF.ite hs.setEns.setF.setF.setF.setB.setF.setF.advanceProv

theorem Evolves.tsTransition (hs : Evolves s₀ s) {n st} : Evolves s₀ (tsTransition s n st) := by
  unfold Machine.tsTransition
  extract_lets _ _ u u1 u2
  have hu : Evolves s₀ u := hs.setTsc
  have hu1 : Evolves s₀ u1 := hu.applyHeldCoeffs.wr.ite hu
  have hu2 : Evolves s₀ u2 := hu1.logEvent.advanceProv
  exact hs.ite (hu2.ensFree.ite hu2)

theorem Evolves.dropDerived (hs : Evolves s₀ s) {before} : Evolves s₀ (dropDerived before s) := hs.foldl fun _ _ hu => hu.setTsc.ite hu
theorem Evolves.endCues (hs : Evolves s₀ s) {before} : Evolves s₀ (endCues before s) := hs.frame

theorem Evolves.execTsEnableWrite (hs : Evolves s₀ s) {ts value} : NextMeets (execTsEnableWrite ts value s) (Evolves s₀) := by
  unfold Machine.execTsEnableWrite
  refine hs.violation.next.ite ?_
  extract_lets _ _ u _ _ _ u1
  have hu : Evolves s₀ u := hs.regWrite.dropDerived.endCues
  have hu1 : Evolves s₀ u1 := hu.tsTransition.setTsc.ite (hu.tsTransition.ite hu)
  exact (hu1.cancelSlew.tsTransition.ite hu1).dpEvalAll.next

theorem Evolves.setPermit (hs : Evolves s₀ s) {n p} : Evolves s₀ (setPermit s n p) := hs.frame.setB
theorem Evolves.permitEvent (hs : Evolves s₀ s) {n action} : Evolves s₀ (permitEvent s n action) := hs.logEvent

theorem Evolves.reservePermit (hs : Evolves s₀ s) {n h} : Evolves s₀ (reservePermit s n h) := by
  unfold Machine.reservePermit
  split
  · exact hs.setPermit
  · exact hs

theorem Evolves.releasePermit (hs : Evolves s₀ s) {n h} : Evolves s₀ (releasePermit s n h) := by
  unfold Machine.releasePermit
  split
  · exact (hs.setPermit.permitEvent.ite hs.setPermit).ite hs
  · exact hs

theorem Evolves.permitLapse (hs : Evolves s₀ s) {n} : Evolves s₀ (permitLapse s n) := by
  unfold Machine.permitLapse
  split
  · exact hs.setPermit.permitEvent.ite hs
  · exact hs

theorem Evolves.consumePermit (hs : Evolves s₀ s) {n} : Evolves s₀ (consumePermit s n) := by
  unfold Machine.consumePermit
  split
  · exact hs.setPermit.permitEvent
  · exact hs

theorem Evolves.loadTime (hs : Evolves s₀ s) {n v} : Evolves s₀ (loadTime s n v) :=
  hs.consumePermit.stepBy.inc.ite (hs.setTsc.setTsc.ite hs.setTsc.setTsc)

theorem Evolves.deniedRunning (hs : Evolves s₀ s) {h op limit} : Evolves s₀ (deniedRunning s h op limit) := hs.inc.governorRefuses.finish
theorem Evolves.loadTsSet (hs : Evolves s₀ s) {h a} : Evolves s₀ (loadTsSet s h a) := hs.loadTime.sentTo.finish

theorem Evolves.applyTsSet (hs : Evolves s₀ s) {h a} : Evolves s₀ (applyTsSet s h a) :=
  hs.releasePermit.finish.ite ((hs.loadTsSet.ite hs.deniedRunning).ite hs.releasePermit.loadTsSet)

theorem Evolves.atTsWait (hs : Evolves s₀ s) {w} : Evolves s₀ (atTsWait s w) := hs.frame

theorem Evolves.execTsSet (hs : Evolves s₀ s) {h a} : NextMeets (execTsSet h a s) (Evolves s₀) := by
  unfold Machine.execTsSet
  refine hs.badArg.next.ite (hs.complete.next.ite (hs.complete.next.ite (hs.badArg.next.ite (hs.complete.next.ite ?_))))
  exact hs.badArg.next.ite (hs.deniedBy.next.ite (hs.begins.applyTsSet.next.ite (hs.begins.reservePermit.ite hs.begins).atTsWait.next))

theorem Evolves.execTsStep (hs : Evolves s₀ s) {h a} : NextMeets (execTsStep h a s) (Evolves s₀) := by
  unfold Machine.execTsStep
  refine hs.badArg.next.ite (hs.complete.next.ite (hs.complete.next.ite (hs.badArg.next.ite (hs.complete.next.ite ?_))))
  exact hs.deniedBy.next.ite (hs.badArg.next.ite hs.consumePermit.cancelSlew.stepBy.inc.complete.next)

theorem Evolves.execTsSlew (hs : Evolves s₀ s) {h a} : NextMeets (execTsSlew h a s) (Evolves s₀) := by
  unfold Machine.execTsSlew
  refine hs.badArg.next.ite (hs.complete.next.ite (hs.complete.next.ite (hs.badArg.next.ite (hs.complete.next.ite ?_))))
  exact hs.deniedBy.next.ite hs.loadSlew.complete.next

theorem Evolves.setConsumerTs (hs : Evolves s₀ s) {c n} : Evolves s₀ (setConsumerTs s c n) :=
  hs.setF.ite (hs.setF.ite ((hs.setF.ite hs.setF.setB).ite (hs.setF.ite (hs.setF.ite hs.setF))))

theorem Evolves.setResidual (hs : Evolves s₀ s) {c r} : Evolves s₀ (setResidual s c r) := hs.frame

theorem Evolves.applySplice (hs : Evolves s₀ s) {h a} : Evolves s₀ (applySplice s h a) := by
  unfold Machine.applySplice
  extract_lets _ _ _ _ u u1 _ u2 u3 _ _ u4
  have hu : Evolves s₀ u := hs.foldl fun _ _ hu => hu.setConsumerTs.setResidual
  have hu1 : Evolves s₀ u1 := hu.foldl fun _ _ hu => hu.setDp.ite hu
  have hu2 : Evolves s₀ u2 := hu1.frame
  have hu3 : Evolves s₀ u3 := hu2.consumePermit.inc.setStepped.ite hu2
  have hu4 : Evolves s₀ u4 := hu3.event.ite hu3.frame
  exact hu4.finish

theorem Evolves.execTsSplice (hs : Evolves s₀ s) {h a} : NextMeets (execTsSplice h a s) (Evolves s₀) := by
  unfold Machine.execTsSplice
  refine hs.badArg.next.ite (hs.complete.next.ite (hs.complete.next.ite (hs.badArg.next.ite (hs.complete.next.ite ?_))))
  refine hs.badArg.next.ite (hs.complete.next.ite (hs.deniedBy.next.ite (hs.deniedBy.next.ite ?_)))
  exact (hs.begins.reservePermit.ite hs.begins).atTsWait.next

theorem Evolves.execSlewDone (hs : Evolves s₀ s) {ts ticks} : NextMeets (execSlewDone ts ticks s) (Evolves s₀) := by
  unfold Machine.execSlewDone
  extract_lets u _ u1
  have hu : Evolves s₀ u := hs.advance
  have hu1 : Evolves s₀ u1 := hu.setB.ite hu
  refine hu1.setTsc.event.next.ite ?_
  split
  · exact hu1.frame.event.next
  · exact hu1.next

theorem Evolves.execTsNowSnapshot (hs : Evolves s₀ s) {ts} : NextMeets (execTsNowSnapshot ts s) (Evolves s₀) := hs.next.ite hs.sentTo.setTsc.next
theorem Evolves.clearLeap (hs : Evolves s₀ s) : Evolves s₀ (clearLeap s) := hs.wr

theorem Evolves.execTsLeap (hs : Evolves s₀ s) {h a} : NextMeets (execTsLeap h a s) (Evolves s₀) := by
  unfold Machine.execTsLeap
  refine hs.badArg.next.ite (hs.deniedBy.next.ite ((hs.deniedBy.next.ite hs.setI.setB.complete.next).ite ?_))
  refine (hs.complete.next.ite (hs.badArg.next.ite (hs.deniedBy.next.ite hs.setF.setF.setB.complete.next))).ite ?_
  exact hs.complete.next.ite (hs.complete.next.ite hs.clearLeap.complete.next)

theorem Evolves.execLeapDayStart (hs : Evolves s₀ s) : NextMeets (execLeapDayStart s) (Evolves s₀) := (hs.setB.ite hs).next
theorem Evolves.execLeapSecondEnd (hs : Evolves s₀ s) : NextMeets (execLeapSecondEnd s) (Evolves s₀) := hs.frame.setI.clearLeap.next.ite hs.next

theorem Evolves.execTsReadView (hs : Evolves s₀ s) {h view form} : NextMeets (execTsReadView h view form s) (Evolves s₀) :=
  hs.badArg.next.ite (hs.complete.next.ite (hs.badArg.next.ite (hs.complete.next.ite hs.complete.next)))

/-! ### Ensemble -/

theorem Evolves.setSlot (hs : Evolves s₀ s) {k x} : Evolves s₀ (setSlot s k x) := hs.frame

theorem Evolves.slotTransition (hs : Evolves s₀ s) {k st} : Evolves s₀ (slotTransition s k st) :=
  hs.ite (hs.setF.ite hs.setF.setF.setB).setSlot.logEvent.advanceProv

theorem Evolves.slotRestart (hs : Evolves s₀ s) {k} : Evolves s₀ (slotRestart s k) := hs.logEvent.advanceProv
theorem Evolves.keepMeas (hs : Evolves s₀ s) {k m t} : Evolves s₀ (keepMeas s k m t) := hs.setSlot.setI.setF.setF.setB
theorem Evolves.acceptSlot (hs : Evolves s₀ s) {k} : Evolves s₀ (acceptSlot s k) := hs.slotTransition.setSlot
theorem Evolves.restartWindow (hs : Evolves s₀ s) {k} : Evolves s₀ (restartWindow s k) := hs.setSlot.setF

theorem Evolves.qualifiedStep (hs : Evolves s₀ s) {k m} : Evolves s₀ (qualifiedStep s k m) :=
  (hs.setSlot.ite hs.slotTransition).ite (hs.ite (hs.setSlot.ite (hs.slotTransition.ite hs.setSlot)))

theorem Evolves.qualifyingStep (hs : Evolves s₀ s) {k} : Evolves s₀ (qualifyingStep s k) := by
  unfold Machine.qualifyingStep
  refine hs.restartWindow.slotRestart.ite (hs.ite (hs.slotTransition.ite ?_))
  split
  · exact hs.acceptSlot.ite hs.slotTransition
  · exact hs

theorem Evolves.suspectStep (hs : Evolves s₀ s) {k epoch} : Evolves s₀ (suspectStep s k epoch) :=
  hs.slotTransition.ite ((hs.restartWindow.ite (hs.slotTransition.ite hs)).ite (hs.acceptSlot.ite hs))

theorem Evolves.slotStep (hs : Evolves s₀ s) {k epoch spoofed} : Evolves s₀ (slotStep s k epoch spoofed) := by
  unfold Machine.slotStep
  extract_lets
  refine hs.slotTransition.ite (hs.slotTransition.ite ((hs.restartWindow.slotTransition.ite hs).ite ?_))
  refine hs.qualifyingStep.ite ?_
  refine .ite ?_ (hs.suspectStep.ite hs)
  refine hs.slotTransition.ite (hs.ite ?_)
  split
  · exact hs.qualifiedStep
  · exact hs

theorem Evolves.slotEval (hs : Evolves s₀ s) {k epoch spoofed} : Evolves s₀ (slotEval s k epoch spoofed) := hs.slotStep.setSlot
theorem Evolves.slotNote (hs : Evolves s₀ s) {k} : Evolves s₀ (slotNote s k) := hs.ite hs.slotEval
theorem Evolves.takeMeasAt (hs : Evolves s₀ s) {k m t} : Evolves s₀ (takeMeasAt s k m t) := hs.keepMeas.slotNote
theorem Evolves.takeMeas (hs : Evolves s₀ s) {k m} : Evolves s₀ (takeMeas s k m) := hs.takeMeasAt

theorem Evolves.execRefMeasurement (hs : Evolves s₀ s) {k m late} : NextMeets (execRefMeasurement k m late s) (Evolves s₀) :=
  (hs.takeMeas.ite hs).next

theorem Evolves.refArm1 (hs : Evolves s₀ s) {before c} : Evolves s₀ (refArm1 before s c) := (hs.frame.ite hs).setB.setB.ite (hs.frame.ite hs)
theorem Evolves.refArm (hs : Evolves s₀ s) {before} : Evolves s₀ (refArm before s) := hs.foldl fun _ _ hu => hu.refArm1

theorem Evolves.execTsRefCfgWrite (hs : Evolves s₀ s) {k value} : NextMeets (execTsRefCfgWrite k value s) (Evolves s₀) := by
  unfold Machine.execTsRefCfgWrite
  refine hs.violation.next.ite ?_
  extract_lets u _ _ _ _ u1 u2 _ _ u3 u4 u5 u6 u7
  have hu1 : Evolves s₀ u1 := hs.violation.ite hs
  have hu2 : Evolves s₀ u2 := hu1.wr
  have hu3 : Evolves s₀ u3 := hu2.slotTransition
  have hu4 : Evolves s₀ u4 := hu3.setB
  have hu5 : Evolves s₀ u5 := hu4.setSlot
  have hu6 : Evolves s₀ u6 := hs.violation.ite hs
  have hu7 : Evolves s₀ u7 := hu6.wr
  refine (hu2.next.ite (hu5.advanceProv.ite hu5).refArm.next).ite (hu7.next.ite (hu7.violation.next.ite ?_))
  exact hu7.setB.advanceProv.refArm.next

theorem Evolves.execRefLossTimeout (hs : Evolves s₀ s) {k} : NextMeets (execRefLossTimeout k s) (Evolves s₀) :=
  (hs.setB.setSlot.slotNote.ite hs.setB).next

theorem Evolves.execSuspectTimeout (hs : Evolves s₀ s) {k} : NextMeets (execSuspectTimeout k s) (Evolves s₀) := (hs.setSlot.slotNote.ite hs).next

theorem Evolves.execQualificationWindowEnd (hs : Evolves s₀ s) {k} : NextMeets (execQualificationWindowEnd k s) (Evolves s₀) :=
  (hs.setSlot.slotNote.ite hs).next

theorem Evolves.spoofLatch (hs : Evolves s₀ s) {i} : Evolves s₀ (spoofLatch s i) := hs.ite hs.setF.logEvent
theorem Evolves.spoofEval (hs : Evolves s₀ s) {i cond} : Evolves s₀ (spoofEval s i cond) := hs.frame.setF.spoofLatch.ite hs.frame.setF

theorem Evolves.execRefConfirm (hs : Evolves s₀ s) {h k action} : NextMeets (execRefConfirm h k action s) (Evolves s₀) := by
  unfold Machine.execRefConfirm
  refine hs.badArg.next.ite (hs.complete.next.ite (hs.badArg.next.ite (hs.complete.next.ite ?_)))
  extract_lets _ dst
  clear_value dst
  split
  · exact hs.complete.next
  · exact (hs.acceptSlot.ite hs.slotTransition).complete.next

theorem Evolves.execRefFeed (hs : Evolves s₀ s) {h a} : NextMeets (execRefFeed h a s) (Evolves s₀) := by
  unfold Machine.execRefFeed
  refine hs.badArg.next.ite (hs.complete.next.ite (hs.complete.next.ite (hs.badArg.next.ite (hs.complete.next.ite ?_))))
  refine hs.badArg.next.ite ?_
  extract_lets
  split
  · exact hs.complete.next.ite hs.takeMeasAt.complete.next
  · exact hs.takeMeasAt.complete.next

theorem Evolves.putCoeff (hs : Evolves s₀ s) {i v} : Evolves s₀ (putCoeff s i v) := hs.frame.ite hs.setF.frame
theorem Evolves.writeCoeff (hs : Evolves s₀ s) {i v} : Evolves s₀ (writeCoeff s i v) := (hs.violation.ite hs).putCoeff
theorem Evolves.clearModels (hs : Evolves s₀ s) : Evolves s₀ (clearModels s) := hs.foldl fun _ _ hu => hu.setTsc

theorem Evolves.execOscCoeffWrite (hs : Evolves s₀ s) {reg value} : NextMeets (execOscCoeffWrite reg value s) (Evolves s₀) := by
  unfold Machine.execOscCoeffWrite
  split
  · exact hs.writeCoeff.next
  · exact hs.writeCoeff.next
  · exact hs.writeCoeff.next
  · exact hs.regWrite.next.ite hs.regWrite.clearModels.putCoeff.putCoeff.putCoeff.next

theorem Evolves.execTsEfcCodeWrite (hs : Evolves s₀ s) {value} : NextMeets (execTsEfcCodeWrite value s) (Evolves s₀) :=
  hs.violation.next.ite hs.regWrite.next

theorem Evolves.reportBound (hs : Evolves s₀ s) {n e} : Evolves s₀ (reportBound s n e) := hs.setEns.setF.setF.setF.setF.setF.setF.setTsc
theorem Evolves.updateGrade (hs : Evolves s₀ s) {n} : Evolves s₀ (updateGrade s n) := hs.setEns.ite hs.setEns.setF.advanceProv

theorem Evolves.reportWeights (hs : Evolves s₀ s) {n ks w} : Evolves s₀ (reportWeights s n ks w) := by
  unfold Machine.reportWeights
  extract_lets u _ u1
  have hu : Evolves s₀ u := hs.foldl fun _ _ hu => hu.setF.setB.ite hu
  have hu1 : Evolves s₀ u1 := hu.setEns.ite hu
  exact hu1.foldl fun _ _ hu => hu.setF.setB

theorem Evolves.reportMembers (hs : Evolves s₀ s) {n tier ks} : Evolves s₀ (reportMembers s n tier ks) := hs.setF.setF.setF

theorem Evolves.applyEpochLoad (hs : Evolves s₀ s) {n incr slew step dac} : Evolves s₀ (applyEpochLoad s n incr slew step dac) := by
  unfold Machine.applyEpochLoad
  extract_lets u u1 u2
  have hu : Evolves s₀ u := hs.applyIncr
  have hu1 : Evolves s₀ u1 := hu.ite hu.setF
  have hu2 : Evolves s₀ u2 := by
    unfold u2
    split
    · exact hu1.loadSlew
    · exact hu1
  split
  · exact hu2.cancelSlew.consumePermit.stepBy.inc.logRec
  · exact hu2

theorem Evolves.queueLoad (hs : Evolves s₀ s) {l} : Evolves s₀ (queueLoad s l) := hs.frame
theorem Evolves.coastEntry (hs : Evolves s₀ s) {n atEpoch} : Evolves s₀ (coastEntry s n atEpoch) := hs.setEns.wr.setF.tsTransition.reportBound

theorem Evolves.membersLost (hs : Evolves s₀ s) {n atEpoch} : Evolves s₀ (membersLost s n atEpoch) := by
  unfold Machine.membersLost
  split
  · exact hs
  · exact hs
  · exact hs.coastEntry
  · exact hs.coastEntry.ite hs.tsTransition

theorem Evolves.coastReport (hs : Evolves s₀ s) {n} : Evolves s₀ (coastReport s n) := hs.wr.reportBound

theorem Evolves.execEnsForce (hs : Evolves s₀ s) {h ts op} : NextMeets (execEnsForce h ts op s) (Evolves s₀) := by
  unfold Machine.execEnsForce
  refine hs.badArg.next.ite (hs.complete.next.ite (hs.complete.next.ite (hs.badArg.next.ite ?_)))
  exact (hs.setB.membersLost.ite hs.setB.setEns).complete.next

theorem Evolves.coastEpoch (hs : Evolves s₀ s) {n} : Evolves s₀ (coastEpoch s n) := hs.setEns.coastReport.ite hs.setEns.coastReport.queueLoad
theorem Evolves.lockRuns (hs : Evolves s₀ s) {n c} : Evolves s₀ (lockRuns s n c) := hs.setEns.setF.setI

theorem Evolves.lockStep (hs : Evolves s₀ s) {n c} : Evolves s₀ (lockStep s n c) :=
  hs.lockRuns.tsTransition.ite (hs.lockRuns.setEns.tsTransition.ite hs.lockRuns)

theorem Evolves.learnDrift (hs : Evolves s₀ s) {n y} : Evolves s₀ (learnDrift s n y) := hs.setEns.ite hs

theorem Evolves.steer (hs : Evolves s₀ s) {n t ks} : Evolves s₀ (steer s n t ks) := by
  unfold Machine.steer
  split
  · extract_lets u u1 _ _ u2 _ _ u3 _ _ _ _ u4 u5 _ _ _ _ u6
    have hu : Evolves s₀ u := hs.reportWeights
    have hu1 : Evolves s₀ u1 := hu.reportMembers
    have hu2 : Evolves s₀ u2 := hu1.cancelSlew.tsTransition.ite (hu1.setB.tsTransition.ite hu1)
    have hu3 : Evolves s₀ u3 := hu2.setB.ite hu2
    have hu4 : Evolves s₀ u4 := hu3.queueLoad
    have hu5 : Evolves s₀ u5 := hu4.lockStep.learnDrift
    have hu6 : Evolves s₀ u6 := hu5.reportBound
    exact hu6.setI.ite hu6

theorem Evolves.shadowEpoch (hs : Evolves s₀ s) : Evolves s₀ (shadowEpoch s) := by
  unfold Machine.shadowEpoch
  split
  · exact hs.reportWeights.reportMembers.wr.setF.setF.setEns
  · extract_lets
    refine hs.ite ?_
    split
    · exact hs.reportWeights.reportMembers.lockRuns.setI.setF.setEns

theorem Evolves.provWrite (hs : Evolves s₀ s) {n cause h addr} : Evolves s₀ (provWrite s n cause h addr) := hs.sentTo.emit.finish

theorem Evolves.execEnsProvRead (hs : Evolves s₀ s) {h ts addr} : NextMeets (execEnsProvRead h ts addr s) (Evolves s₀) :=
  hs.badArg.next.ite (hs.complete.next.ite (hs.badArg.next.ite (hs.begins.setEns.next.ite hs.begins.provWrite.next)))

theorem Evolves.clearMeas (hs : Evolves s₀ s) {n} : Evolves s₀ (clearMeas s n) := hs.foldl fun _ _ hu => hu.setSlot.ite hu

theorem Evolves.epochCombine (hs : Evolves s₀ s) {n} : Evolves s₀ (epochCombine s n) := by
  unfold Machine.epochCombine
  refine (hs.shadowEpoch.coastEpoch.ite hs.shadowEpoch).updateGrade.ite ?_
  split
  · exact hs.ite hs.steer.setEns.updateGrade
  · exact (hs.reportWeights.reportMembers.coastEpoch.ite hs.reportWeights.reportMembers.membersLost).updateGrade

theorem Evolves.epochStep (hs : Evolves s₀ s) {n} : Evolves s₀ (epochStep s n) := by
  unfold Machine.epochStep
  extract_lets u _ u1 u2 _ u3 u4 _ _ u5 u6
  have hu : Evolves s₀ u := hs.setB.ite hs
  have hu1 : Evolves s₀ u1 := hu.spoofEval.ite hu
  have hu2 : Evolves s₀ u2 := hu1.foldl fun _ _ hu => hu.slotEval.ite hu
  have hu3 : Evolves s₀ u3 := hu2.setEns
  have hu4 : Evolves s₀ u4 := hu3.epochCombine
  have hu5 : Evolves s₀ u5 := hu4.setEns
  have hu6 : Evolves s₀ u6 := hu5.foldl fun _ _ hu => hu.provWrite
  exact hu6.clearMeas

/-! ### Clapper -/

theorem Evolves.setClapCh (hs : Evolves s₀ s) {c x} : Evolves s₀ (setClapCh s c x) := hs.frame

theorem Evolves.moveWork (hs : Evolves s₀ s) {w a b} : Evolves s₀ (moveWork s w a b) :=
  ((hs.setF.ite hs).setF.ite (hs.setF.ite hs)).setF.setF.setB.ite ((hs.setF.ite hs).setF.ite (hs.setF.ite hs)).setF

theorem Evolves.laneBegin (hs : Evolves s₀ s) {l} : Evolves s₀ (laneBegin s l) := by
  unfold Machine.laneBegin
  extract_lets w u
  have hu : Evolves s₀ u := by
    unfold u
    clear_value w
    split
    · exact hs.moveWork
    · exact hs
  exact hu.frame.setF

theorem Evolves.laneGrantAux (hs : Evolves s₀ s) {k} : Evolves s₀ (laneGrantAux k s) := by
  induction k generalizing s with
  | zero => exact hs
  | succ k ih =>
    rw [Machine.laneGrantAux]
    split
    · exact hs
    · exact ih hs.laneBegin

theorem Evolves.laneResume1 (hs : Evolves s₀ s) {l} : Evolves s₀ (laneResume1 s l) := by
  unfold Machine.laneResume1
  split
  · exact hs.moveWork.ite hs
  · exact hs

theorem Evolves.laneResume (hs : Evolves s₀ s) : Evolves s₀ (laneResume s) := hs.foldl fun _ _ hu => hu.ite hu.frame.laneResume1
theorem Evolves.laneGrant (hs : Evolves s₀ s) : Evolves s₀ (laneGrant s) := hs.laneResume.laneGrantAux
theorem Evolves.laneRequest (hs : Evolves s₀ s) {l} : Evolves s₀ (laneRequest s l) := hs.ite hs.frame
theorem Evolves.calNote (hs : Evolves s₀ s) {l pass} : Evolves s₀ (calNote s l pass) := hs.frame.foldl fun _ _ hu => hu.finish

theorem Evolves.execClapCal (hs : Evolves s₀ s) {h lane} : NextMeets (execClapCal h lane s) (Evolves s₀) := by
  unfold Machine.execClapCal
  refine hs.badArg.next.ite (hs.complete.next.ite (hs.complete.next.ite ?_))
  exact ((hs.begins.frame.foldl fun _ _ hu => hu.calNote).foldl fun _ _ hu => hu.laneRequest).laneGrant.next

theorem Evolves.execLaneCalTrigger (hs : Evolves s₀ s) {lane} : NextMeets (execLaneCalTrigger lane s) (Evolves s₀) :=
  (hs.laneRequest.laneGrant.ite hs).next

theorem Evolves.lanePassed (hs : Evolves s₀ s) {lane bins} : Evolves s₀ (lanePassed s lane bins) := hs.setF.frame.calNote.laneGrant
theorem Evolves.laneFailed (hs : Evolves s₀ s) {lane} : Evolves s₀ (laneFailed s lane) := hs.setF.logRec.calNote.laneGrant

theorem Evolves.execLaneCalDone (hs : Evolves s₀ s) {lane bins} : NextMeets (execLaneCalDone lane bins s) (Evolves s₀) :=
  hs.next.ite (hs.lanePassed.ite hs.laneFailed).next

theorem Evolves.clapProduce (hs : Evolves s₀ s) {c kind status stops spare slate body cmp} :
    Evolves s₀ (clapProduce s c kind status stops spare slate body cmp) :=
  hs.setClapCh

theorem Evolves.statRecord (hs : Evolves s₀ s) {c status a} : Evolves s₀ (statRecord s c status a) := hs.clapProduce
theorem Evolves.clapDisarm (hs : Evolves s₀ s) {c} : Evolves s₀ (clapDisarm s c) := hs.setB.setClapCh

theorem Evolves.clapCount (hs : Evolves s₀ s) {c} : Evolves s₀ (clapCount s c) := by
  unfold Machine.clapCount
  split
  · exact hs
  · exact hs.clapDisarm.ite hs.setClapCh

theorem Evolves.intervalRecord (hs : Evolves s₀ s) {c status x} : Evolves s₀ (intervalRecord s c status x) := hs.clapProduce
theorem Evolves.replayEdges (hs : Evolves s₀ s) {c} : Evolves s₀ (replayEdges s c) := hs.setClapCh.ite hs

theorem Evolves.closeInterval (hs : Evolves s₀ s) {c status} : Evolves s₀ (closeInterval s c status) :=
  (hs.setClapCh.setClapCh.statRecord.clapCount.ite hs.setClapCh.setClapCh).ite hs.setClapCh.intervalRecord.clapCount

theorem Evolves.closeGate (hs : Evolves s₀ s) {c status} : Evolves s₀ (closeGate s c status) := by
  unfold Machine.closeGate
  extract_lets _ _ _ u
  have hu : Evolves s₀ u := hs.setClapCh
  refine .clapCount ?_
  split
  · exact hu.clapProduce
  · exact hu.clapProduce

theorem Evolves.closeRunning (hs : Evolves s₀ s) {c status} : Evolves s₀ (closeRunning s c status) :=
  (hs.closeInterval.replayEdges.ite hs.closeGate).laneGrant

theorem Evolves.execIntervalEnd (hs : Evolves s₀ s) {ch} : NextMeets (execIntervalEnd ch s) (Evolves s₀) := (hs.closeRunning.ite hs).next
theorem Evolves.execFrequencyGateEnd (hs : Evolves s₀ s) {ch} : NextMeets (execFrequencyGateEnd ch s) (Evolves s₀) := (hs.closeRunning.ite hs).next
theorem Evolves.execStopTimeout (hs : Evolves s₀ s) {ch} : NextMeets (execStopTimeout ch s) (Evolves s₀) := (hs.closeRunning.ite hs).next
theorem Evolves.execMeasurementLost (hs : Evolves s₀ s) {ch} : NextMeets (execMeasurementLost ch s) (Evolves s₀) := (hs.closeRunning.ite hs).next

theorem Evolves.clapClockLost (hs : Evolves s₀ s) : Evolves s₀ (clapClockLost s) :=
  hs.foldl fun _ _ hu => hu.closeRunning.ite (hu.setClapCh.ite hu)

theorem Evolves.cueStart (hs : Evolves s₀ s) {cue sub} : Evolves s₀ (cueStart s cue sub) := hs.foldl fun _ _ hu => hu.setClapCh.ite hu
theorem Evolves.refEdge (hs : Evolves s₀ s) {c frac gap} : Evolves s₀ (refEdge s c frac gap) := hs.setClapCh
theorem Evolves.captureEdge (hs : Evolves s₀ s) {c frac falling gap} : Evolves s₀ (captureEdge s c frac falling gap) := hs.frame

theorem Evolves.consumeEdge (hs : Evolves s₀ s) {c frac falling gap k} : Evolves s₀ (consumeEdge s c frac falling gap k) :=
  hs.captureEdge.ite (hs.ite ((hs.setClapCh.ite hs).ite (hs.ite (hs.setClapCh.ite (hs.refEdge.ite hs)))))

theorem Evolves.stampLost (hs : Evolves s₀ s) {c path} : Evolves s₀ (stampLost s c path) := by
  unfold Machine.stampLost
  extract_lets u _ u1 u2
  have hu : Evolves s₀ u := hs.foldl fun _ _ hu => hu.setClapCh.ite hu
  have hu1 : Evolves s₀ u1 := hu.setClapCh
  have hu2 : Evolves s₀ u2 := hu1.incF
  exact hu2.inc.ite hu2.perf

theorem Evolves.todAccept (hs : Evolves s₀ s) {claim} : Evolves s₀ (todAccept s claim) := hs.frame

theorem Evolves.todLabel (hs : Evolves s₀ s) {label bnd} : Evolves s₀ (todLabel s label bnd) := by
  unfold Machine.todLabel
  extract_lets
  split
  · exact hs
  · exact hs.setClapCh.ite hs

theorem Evolves.todReject (hs : Evolves s₀ s) : Evolves s₀ (todReject s) := hs.incF

theorem Evolves.todEdge (hs : Evolves s₀ s) {c frac} : Evolves s₀ (todEdge s c frac) := by
  unfold Machine.todEdge
  refine .ite ?_ hs
  extract_lets _ w _ _ u
  have hu : Evolves s₀ u := hs.frame
  clear_value w
  split
  · exact hu.todReject.ite hu.todAccept.todLabel
  · exact hu

theorem Evolves.lanePush (hs : Evolves s₀ s) {l} : Evolves s₀ (lanePush s l) := hs.frame

theorem Evolves.stampEdge (hs : Evolves s₀ s) {c frac falling pathFull} : Evolves s₀ (stampEdge s c frac falling pathFull) := by
  unfold Machine.stampEdge
  extract_lets _ _ _ _ u _ _ _ u1
  have hu : Evolves s₀ u := hs.setClapCh.perf
  have hu1 : Evolves s₀ u1 := hu.setClapCh.lanePush
  exact hs.inc.ite (hu.stampLost.ite (hu.stampLost.ite (hu1.foldl fun _ _ hu => hu.consumeEdge).todEdge))

theorem Evolves.execStreamEdge (hs : Evolves s₀ s) {ch ticks frac falling pathFull} :
    NextMeets (execStreamEdge ch ticks frac falling pathFull s) (Evolves s₀) :=
  hs.advance.next.ite (hs.advance.setClapCh.next.ite hs.advance.setClapCh.stampEdge.next)

theorem Evolves.execReferenceOffset (hs : Evolves s₀ s) {ch} : NextMeets (execReferenceOffset ch s) (Evolves s₀) := by
  unfold Machine.execReferenceOffset
  extract_lets
  refine Evolves.next ?_
  refine hs.setClapCh.foldl fun v _ hv => ?_
  refine .ite ?_ hv
  split
  · exact hv.takeMeas
  · exact hv

theorem Evolves.limitNote (hs : Evolves s₀ s) {c f} : Evolves s₀ (limitNote s c f) := by
  unfold Machine.limitNote
  split
  · exact hs
  · exact (hs.ite hs.inc).ite (hs.ite hs.inc).setB.event

theorem Evolves.execClapRecordWrite (hs : Evolves s₀ s) {ch} : NextMeets (execClapRecordWrite ch s) (Evolves s₀) := by
  unfold Machine.execClapRecordWrite
  extract_lets
  split
  · exact hs.next
  · refine hs.next.ite ?_
    extract_lets _ u _ _ u1 u2
    have hu : Evolves s₀ u := hs.setClapCh.limitNote
    have hu1 : Evolves s₀ u1 := hu.setClapCh
    have hu2 : Evolves s₀ u2 := hu1.areaPut
    exact hu.incF.setClapCh.next.ite (hu2.ite hu2.setB.notice).next

theorem Evolves.execClapChRidxWrite (hs : Evolves s₀ s) {ch value} : NextMeets (execClapChRidxWrite ch value s) (Evolves s₀) :=
  (hs.wr.setB.ite hs.violation).next

theorem Evolves.execClapLimitLoWrite (hs : Evolves s₀ s) {ch upper value} : NextMeets (execClapLimitLoWrite ch upper value s) (Evolves s₀) :=
  hs.violation.next.ite hs.setClapCh.next

theorem Evolves.execClapLimitHiWrite (hs : Evolves s₀ s) {ch upper value} : NextMeets (execClapLimitHiWrite ch upper value s) (Evolves s₀) :=
  hs.violation.next.ite (hs.setClapCh.violation.next.ite (hs.setClapCh.wr.wr.next.ite hs.setClapCh.wr.wr.next))

theorem Evolves.restartPrescalers (hs : Evolves s₀ s) {before} : Evolves s₀ (restartPrescalers before s) :=
  hs.foldl fun _ _ hu => hu.setClapCh.ite hu

theorem Evolves.execClapArm (hs : Evolves s₀ s) {h ch count} : NextMeets (execClapArm h ch count s) (Evolves s₀) := by
  unfold Machine.execClapArm
  refine hs.badArg.next.ite (hs.complete.next.ite (hs.complete.next.ite (hs.badArg.next.ite (hs.complete.next.ite ?_))))
  exact hs.complete.next.ite hs.setB.setClapCh.restartPrescalers.complete.next

theorem Evolves.execClapDisarm (hs : Evolves s₀ s) {h ch} : NextMeets (execClapDisarm h ch s) (Evolves s₀) := by
  unfold Machine.execClapDisarm
  refine hs.badArg.next.ite (hs.complete.next.ite ?_)
  extract_lets _ _ _ u _ _ u1
  have hu : Evolves s₀ u := hs.closeRunning.ite (hs.closeRunning.ite (hs.closeRunning.ite hs))
  have hu1 : Evolves s₀ u1 := hu.setClapCh.statRecord.ite hu
  exact hu1.clapDisarm.complete.laneGrant.next

theorem Evolves.execClapSnapshot (hs : Evolves s₀ s) {h ch} : NextMeets (execClapSnapshot h ch s) (Evolves s₀) := by
  unfold Machine.execClapSnapshot
  refine hs.badArg.next.ite (hs.complete.next.ite (hs.complete.next.ite (hs.badArg.next.ite (hs.complete.next.ite ?_))))
  exact hs.statRecord.complete.next

/-! ### GnssPath -/

theorem Evolves.setGnssPort (hs : Evolves s₀ s) {p x} : Evolves s₀ (setGnssPort s p x) := hs.frame
theorem Evolves.setGnssCh (hs : Evolves s₀ s) {c x} : Evolves s₀ (setGnssCh s c x) := hs.frame
theorem Evolves.gnssChSet (hs : Evolves s₀ s) {c st} : Evolves s₀ (gnssChSet s c st) := hs.ite (hs.setF.event.ite hs.setF)
theorem Evolves.gnssHold (hs : Evolves s₀ s) {c} : Evolves s₀ (gnssHold s c) := hs.setB.setB.setGnssCh.gnssChSet
theorem Evolves.gnssBreak (hs : Evolves s₀ s) {p} : Evolves s₀ (gnssBreak s p) := hs.setB.setGnssPort.foldl fun _ _ hu => hu.gnssHold
theorem Evolves.gnssShclkLost (hs : Evolves s₀ s) : Evolves s₀ (gnssShclkLost s) := (hs.foldl fun _ _ hu => hu.gnssBreak.ite hu).ite hs
theorem Evolves.gnssRebuilt (hs : Evolves s₀ s) {gap} : Evolves s₀ (gnssRebuilt s gap) := hs.foldl fun _ _ hu => hu.inc.setGnssPort.ite hu

theorem Evolves.gnssMark (hs : Evolves s₀ s) {p n frac} : Evolves s₀ (gnssMark s p n frac) :=
  hs.sentTo.setB.setB.setGnssPort.foldl fun _ _ hu => hu.setGnssCh.gnssChSet

/-! ### Loops -/

theorem Evolves.bandTouch (hs : Evolves s₀ s) {a j} : Evolves s₀ (bandTouch s a j) := hs.setAp

theorem Evolves.apGo (hs : Evolves s₀ s) {a searchOnly} : Evolves s₀ (apGo s a searchOnly) := by
  unfold Machine.apGo
  split
  · exact hs.setAp.apSet
  · exact hs.setAp.apSet

theorem Evolves.apStart (hs : Evolves s₀ s) {a searchOnly} : Evolves s₀ (apStart s a searchOnly) := hs.ite (hs.setAp.apSet.ite (hs.ite hs.apGo))
theorem Evolves.oscBack (hs : Evolves s₀ s) : Evolves s₀ (oscBack s) := hs.frame.foldl fun _ _ hu => hu.apStart.ite hu

theorem Evolves.execApHopTimeout (hs : Evolves s₀ s) {a} : NextMeets (execApHopTimeout a s) (Evolves s₀) := by
  unfold Machine.execApHopTimeout
  refine hs.next.ite ?_
  extract_lets u
  have hu : Evolves s₀ u := by
    unfold u
    split
    · exact hs.setB
    · exact hs
  exact hu.setAp.apSet.next

theorem Evolves.execApLocked (hs : Evolves s₀ s) {a band l} : NextMeets (execApLocked a band l s) (Evolves s₀) := by
  unfold Machine.execApLocked
  split
  · exact hs.next
  · extract_lets f
    split
    rename_i u _ _ hq
    have hu : Evolves s₀ u := by
      split at hq
      · exact hs.bandTouch.pair.of_fst hq
      · exact hs.setB.setF.setF.setI.bandTouch.pair.of_fst hq
    exact hu.setF.setF.setF.setB.setAp.apSet.apFinish.next

theorem Evolves.execApSearchTimeout (hs : Evolves s₀ s) {a} : NextMeets (execApSearchTimeout a s) (Evolves s₀) := by
  unfold Machine.execApSearchTimeout
  refine hs.next.ite ?_
  extract_lets u
  have hu : Evolves s₀ u := hs.apSet
  refine Evolves.next ?_
  split
  · exact hu.ite hu.apFinish
  · exact hu

theorem Evolves.execApLost (hs : Evolves s₀ s) {a osc} : NextMeets (execApLost a osc s) (Evolves s₀) :=
  (hs.oscBack.ite hs.frame).next.ite (hs.oscBack.ite hs.frame).apSet.next

theorem Evolves.execApAutoRelock (hs : Evolves s₀ s) {a} : NextMeets (execApAutoRelock a s) (Evolves s₀) := hs.next.ite hs.oscBack.apStart.next

theorem Evolves.dpLoadFixed (hs : Evolves s₀ s) {d} : Evolves s₀ (dpLoadFixed s d) := by
  unfold Machine.dpLoadFixed
  split
  · exact hs
  · exact hs.setDp.setAp.ite (hs.setAp.ite hs)

theorem Evolves.execApCfgWrite (hs : Evolves s₀ s) {a value} : NextMeets (execApCfgWrite a value s) (Evolves s₀) := by
  unfold Machine.execApCfgWrite
  refine hs.violation.next.ite ?_
  extract_lets _ _ u _ u1 _ u2
  have hu : Evolves s₀ u := hs.regWrite
  have hu1 : Evolves s₀ u1 := hu.dpLoadFixed.ite hu
  have hu2 : Evolves s₀ u2 := hu1.setAp.apSet.apFinish.ite (hu1.apStart.ite hu1)
  exact hu2.dpEvalAll.next

theorem Evolves.execApSsWrite (hs : Evolves s₀ s) {a value} : NextMeets (execApSsWrite a value s) (Evolves s₀) :=
  hs.violation.next.ite hs.regWrite.setB.dpEvalAll.next

theorem Evolves.execDpCfgWrite (hs : Evolves s₀ s) {d value} : NextMeets (execDpCfgWrite d value s) (Evolves s₀) :=
  hs.violation.next.ite hs.regWrite.dpEval.lpiCheckAll.next

theorem Evolves.ratioNote (hs : Evolves s₀ s) {d r} : Evolves s₀ (ratioNote s d r) := hs.setDp.ite hs

theorem Evolves.applyRatio (hs : Evolves s₀ s) {d r} : Evolves s₀ (applyRatio s d r) := by
  unfold Machine.applyRatio
  extract_lets u _ u1 u2
  have hu : Evolves s₀ u := hs.ratioNote
  have hu1 : Evolves s₀ u1 := hu.setDp
  have hu2 : Evolves s₀ u2 := by
    unfold u2
    split
    · exact hu1.setAp
    · exact hu1
  exact hu2.setI

theorem Evolves.resolveLoad (hs : Evolves s₀ s) {t lead} : Evolves s₀ (resolveLoad s t lead) := by
  unfold Machine.resolveLoad
  split
  · exact hs
  · extract_lets _ u
    have hu : Evolves s₀ u := hs.frame
    split
    · exact hu.applyEpochLoad.ite hu.inc.setEns.perf
    · exact hu.applyRatio.ite hu.inc.ratioNote.perf

theorem Evolves.execTimedLoadDeadline (hs : Evolves s₀ s) {target lead} : NextMeets (execTimedLoadDeadline target lead s) (Evolves s₀) :=
  hs.resolveLoad.next

theorem Evolves.ensembleEpoch (hs : Evolves s₀ s) {ts lead} : Evolves s₀ (ensembleEpoch ts lead s) := by
  unfold Machine.ensembleEpoch
  split
  · exact hs.epochStep.resolveLoad
  · exact hs.epochStep

theorem Evolves.dpLockStep (hs : Evolves s₀ s) {d phase freq} : Evolves s₀ (dpLockStep s d phase freq) :=
  hs.setDp.dpSet.ite (hs.setDp.dpSet.ite hs.setDp)

theorem Evolves.execDpllUpdate (hs : Evolves s₀ s) {d m lead} : NextMeets (execDpllUpdate d m lead s) (Evolves s₀) := by
  unfold Machine.execDpllUpdate
  extract_lets u _ _ _ u1 u2 _ u3 u4
  have hu : Evolves s₀ u := hs.dpEval.ite hs
  have hu1 : Evolves s₀ u1 := hu.setI.setB
  have hu2 : Evolves s₀ u2 := by
    unfold u2
    split
    · exact hu1.setB
    · exact hu1
  have hu3 : Evolves s₀ u3 := hu2.setDp
  have hu4 : Evolves s₀ u4 := hu3.queueLoad.dpLockStep
  refine hu.next.ite ?_
  refine Evolves.next ?_
  split
  · exact hu4.resolveLoad
  · exact hu4

theorem Evolves.execRefinStamp (hs : Evolves s₀ s) {i e} : NextMeets (execRefinStamp i e s) (Evolves s₀) :=
  hs.advance.next.ite hs.advance.frame.setB.setI.dpEvalAll.next

theorem Evolves.execRefinAbsent (hs : Evolves s₀ s) {i} : NextMeets (execRefinAbsent i s) (Evolves s₀) := hs.next.ite hs.frame.setB.dpEvalAll.next
theorem Evolves.outAnchor (hs : Evolves s₀ s) {a g o} : Evolves s₀ (outAnchor a g s o) := hs.setOut.setB.ite hs.setOut

theorem Evolves.execDetAnchor (hs : Evolves s₀ s) {d} : NextMeets (execDetAnchor d s) (Evolves s₀) := by
  unfold Machine.execDetAnchor
  refine hs.next.ite ?_
  split
  · exact hs.next
  · extract_lets _ u
    have hu : Evolves s₀ u := hs.setF.setDp
    refine Evolves.next ?_
    split
    · exact hu.foldl fun _ _ hu => hu.outAnchor
    · exact hu

theorem Evolves.execDetPassEnd (hs : Evolves s₀ s) {d residual} : NextMeets (execDetPassEnd d residual s) (Evolves s₀) := by
  unfold Machine.execDetPassEnd
  refine hs.next.ite ?_
  extract_lets _ _ u u1 _ u2 u3 _ u4
  have hu : Evolves s₀ u := hs.setDp
  have hu1 : Evolves s₀ u1 := hu.setF.setI
  have hu2 : Evolves s₀ u2 := hu1.setF
  have hu3 : Evolves s₀ u3 := hu2.logRec.ite hu2
  have hu4 : Evolves s₀ u4 := hu3.setDp
  refine hu1.next.ite ?_
  refine Evolves.next ?_
  split
  · exact hu4.finish
  · exact hu4

theorem Evolves.execApRelock (hs : Evolves s₀ s) {h a mode} : NextMeets (execApRelock h a mode s) (Evolves s₀) := by
  unfold Machine.execApRelock
  refine hs.badArg.next.ite (hs.complete.next.ite (hs.badArg.next.ite (hs.complete.next.ite (hs.complete.next.ite ?_))))
  exact hs.deniedBy.next.ite hs.begins.setAp.apGo.next

theorem Evolves.dpRetuned (hs : Evolves s₀ s) {d} : Evolves s₀ (dpRetuned s d) := by
  unfold Machine.dpRetuned
  split
  · exact hs.setDp.setAp
  · exact hs

theorem Evolves.execDpRetune (hs : Evolves s₀ s) {h a} : NextMeets (execDpRetune h a s) (Evolves s₀) := by
  unfold Machine.execDpRetune
  refine hs.badArg.next.ite (hs.complete.next.ite (hs.badArg.next.ite (hs.complete.next.ite ?_)))
  extract_lets p _ _ _ u u1
  have hu : Evolves s₀ u := hs.setF.setF.setF
  have hu1 : Evolves s₀ u1 := hu.dpRetuned
  refine hs.complete.next.ite (hs.complete.next.ite (hs.deniedBy.next.ite (hs.deniedBy.next.ite ?_)))
  clear_value p
  split
  · exact hu1.dpEval.complete.next.ite (hu1.begins.setAp.apGo.next.ite hu1.dpEval.complete.next)
  · exact hu1.dpEval.complete.next

theorem Evolves.execDpAlignRun (hs : Evolves s₀ s) {h d} : NextMeets (execDpAlignRun h d s) (Evolves s₀) := by
  unfold Machine.execDpAlignRun
  refine hs.badArg.next.ite (hs.complete.next.ite (hs.badArg.next.ite (hs.complete.next.ite (hs.badArg.next.ite ?_))))
  exact hs.complete.next.ite (hs.complete.next.ite hs.begins.detBegin.next)

theorem Evolves.execApBandClear (hs : Evolves s₀ s) {h a} : NextMeets (execApBandClear h a s) (Evolves s₀) :=
  hs.badArg.next.ite (hs.complete.next.ite (hs.foldl fun _ _ hu => hu.wr).setAp.complete.next)

theorem Evolves.coastAll (hs : Evolves s₀ s) : Evolves s₀ (coastAll s) := hs.foldl fun _ _ hu => hu.coastEntry.ite hu

theorem Evolves.timeoutAtTs (hs : Evolves s₀ s) {p} : Evolves s₀ (timeoutAtTs s p) := by
  unfold Machine.timeoutAtTs
  extract_lets
  refine hs.frame.foldl fun v _ hv => ?_
  extract_lets u1
  have hu1 : Evolves s₀ u1 := by
    unfold u1
    split
    · exact hv.releasePermit
    · exact hv.releasePermit
    · exact hv.foldl fun _ _ hu => hu.setF.setOut.ite hu
    · exact hv.foldl fun _ _ hu => hu.setF.ite hu
    · exact hv
  exact hu1.finish

theorem Evolves.ap0Lost (hs : Evolves s₀ s) {oscMissing phiLoss} : Evolves s₀ (ap0Lost oscMissing phiLoss s) := by
  unfold Machine.ap0Lost
  refine hs.frame.apSet.ite ?_
  extract_lets _ _ u u1 u2 u3 u4 u5 u6 u7
  have hu : Evolves s₀ u := hs.frame
  have hu1 : Evolves s₀ u1 := hu.clapClockLost.gnssShclkLost
  have hu2 : Evolves s₀ u2 := hu1.shclkStop.coastAll
  have hu3 : Evolves s₀ u3 := hu2.setB.setB.setB
  have hu4 : Evolves s₀ u4 := hu3.setB
  have hu5 : Evolves s₀ u5 := hu4.outStopAll.ite hu4
  have hu6 : Evolves s₀ u6 := hu5.apSet
  have hu7 : Evolves s₀ u7 := hu6.dpEvalAll
  exact hu7.timeoutAtTs

theorem Evolves.execAp0RelockAttempt (hs : Evolves s₀ s) : NextMeets (execAp0RelockAttempt s) (Evolves s₀) :=
  hs.oscBack.apStart.next.ite hs.oscBack.next

theorem Evolves.execShclkRestart (hs : Evolves s₀ s) {nGap phiRes oscMissing} :
    NextMeets (execShclkRestart nGap phiRes oscMissing s) (Evolves s₀) := by
  unfold Machine.execShclkRestart
  refine hs.next.ite ?_
  extract_lets _ u u1 u2 u3
  have hu : Evolves s₀ u := hs.frame
  have hu1 : Evolves s₀ u1 := hu.foldl fun _ _ hu => hu.outAnchor
  have hu2 : Evolves s₀ u2 := hu1.setB.setB
  have hu3 : Evolves s₀ u3 := hu2.setB.ite hu2
  exact hu3.setB.shclkStart.next

theorem Evolves.rebuildTs (hs : Evolves s₀ s) {n} : Evolves s₀ (rebuildTs s n) := hs.frame.setTsc.setStepped.ite hs

theorem Evolves.rebuildBound (hs : Evolves s₀ s) {n} : Evolves s₀ (rebuildBound s n) :=
  (hs.setEns.coastReport.ite hs.setEns.coastReport.tsTransition.reportBound).ite hs

theorem Evolves.execAp0Rebuilt (hs : Evolves s₀ s) : NextMeets (execAp0Rebuilt s) (Evolves s₀) := by
  unfold Machine.execAp0Rebuilt
  refine hs.next.ite ?_
  extract_lets _ u u1 u2 u3 u4
  have hu : Evolves s₀ u := hs.foldl fun _ _ hu => hu.rebuildTs
  have hu1 : Evolves s₀ u1 := hu.setF.setF.setB
  have hu2 : Evolves s₀ u2 := hu1.incF
  have hu3 : Evolves s₀ u3 := hu2.logEvent
  have hu4 : Evolves s₀ u4 := hu3.foldl fun _ _ hu => hu.rebuildBound
  exact hu4.gnssRebuilt.dpEvalAll.next

/-! ### Cues -/

theorem Evolves.setCue (hs : Evolves s₀ s) {g c} : Evolves s₀ (setCue s g c) := hs.frame
theorem Evolves.setCuePin (hs : Evolves s₀ s) {p x} : Evolves s₀ (setCuePin s p x) := hs.frame
theorem Evolves.cuePinSettle (hs : Evolves s₀ s) {p} : Evolves s₀ (cuePinSettle s p) := hs.ite hs.setCuePin
theorem Evolves.cueSettle (hs : Evolves s₀ s) : Evolves s₀ (cueSettle s) := hs.foldl fun _ _ hu => hu.cuePinSettle
theorem Evolves.cuePinCut (hs : Evolves s₀ s) {p} : Evolves s₀ (cuePinCut s p) := (hs.emit.ite hs).setCuePin.ite hs
theorem Evolves.cueCutAll (hs : Evolves s₀ s) : Evolves s₀ (cueCutAll s) := hs.foldl fun _ _ hu => hu.ite hu.cuePinCut
theorem Evolves.keptRec (hs : Evolves s₀ s) {code data x} : Evolves s₀ (keptRec s code data x) := hs.logPut.sentTo
theorem Evolves.cuePinRunEnd (hs : Evolves s₀ s) {p} : Evolves s₀ (cuePinRunEnd s p) := hs.ite hs.keptRec.setCuePin
theorem Evolves.cuePinFire (hs : Evolves s₀ s) {p ns x} : Evolves s₀ (cuePinFire s p ns x) := hs.cuePinRunEnd.ite hs.violation.setCuePin
theorem Evolves.cueSkipEnd (hs : Evolves s₀ s) {g} : Evolves s₀ (cueSkipEnd s g) := hs.ite hs.keptRec.setCue

theorem Evolves.cueFire (hs : Evolves s₀ s) {g u late} : Evolves s₀ (cueFire s g u late) := by
  unfold Machine.cueFire
  extract_lets _ _ _ _ _ _ u u1 _ u2 u3 u4 u5 u6 u7 u8
  have hu : Evolves s₀ u := hs.foldl fun _ _ hu => hu.cuePinFire
  have hu1 : Evolves s₀ u1 := hu.foldl fun _ _ hu => hu.setCuePin
  have hu2 : Evolves s₀ u2 := hu1.setCue
  have hu3 : Evolves s₀ u3 := hu2.inc.setB
  have hu4 : Evolves s₀ u4 := hu3.ite hu3.setF
  have hu5 : Evolves s₀ u5 := hu4.emit
  have hu6 : Evolves s₀ u6 := hu5.foldl fun _ _ hu => hu.emit.ite hu
  have hu7 : Evolves s₀ u7 := hu6.postTo.ite hu6
  have hu8 : Evolves s₀ u8 := hu7.cueStart
  exact hu8.setCue.ite hu8

theorem Evolves.execCueFiring (hs : Evolves s₀ s) {cue_ ticks} : NextMeets (execCueFiring cue_ ticks s) (Evolves s₀) :=
  hs.advance.cueSettle.next.ite hs.advance.cueSettle.cueSkipEnd.cueFire.setCue.next

theorem Evolves.execCueLate (hs : Evolves s₀ s) {cue_ ticks missed} : NextMeets (execCueLate cue_ ticks missed s) (Evolves s₀) := by
  unfold Machine.execCueLate
  extract_lets u _ _ _ _ _ u1 u2 u3 _ u4
  have hu : Evolves s₀ u := hs.advance.cueSettle
  have hu1 : Evolves s₀ u1 := hu.perf.ite hu
  have hu2 : Evolves s₀ u2 := hu1.ite hu1.setF
  have hu3 : Evolves s₀ u3 := hu2.incF
  have hu4 : Evolves s₀ u4 := hu2.incF.cueFire
  exact hu.next.ite (hu3.setCue.next.ite (hu2.setCue.next.ite hu4.setCue.next))

theorem Evolves.cueFinish (hs : Evolves s₀ s) {g cause} : Evolves s₀ (cueFinish s g cause) := by
  unfold Machine.cueFinish
  extract_lets u u1 _ u2 u3 u4
  have hu : Evolves s₀ u := hs.cueSkipEnd
  have hu1 : Evolves s₀ u1 := hu.foldl fun _ _ hu => hu.cuePinRunEnd.ite hu
  have hu2 : Evolves s₀ u2 := hu1.setF.setF
  have hu3 : Evolves s₀ u3 := hu2.notice
  have hu4 : Evolves s₀ u4 := hu3.setCue
  refine hu4.foldl fun v5 _ hv5 => ?_
  split
  · exact hv5.sentTo.finish
  · exact hv5.finish

theorem Evolves.execCueEnd (hs : Evolves s₀ s) {cue_ ticks} : NextMeets (execCueEnd cue_ ticks s) (Evolves s₀) := by
  unfold Machine.execCueEnd
  extract_lets u
  have hu : Evolves s₀ u := hs.advance
  refine hu.next.ite (hu.cueFinish.cueSettle.next.ite (hu.cueFinish.cueSettle.next.ite ?_))
  split
  · exact (hu.cueFinish.cueSettle.ite hu).next
  · exact hu.next

theorem Evolves.execCueArm (hs : Evolves s₀ s) {h a} : NextMeets (execCueArm h a s) (Evolves s₀) := by
  unfold Machine.execCueArm
  refine hs.badArg.next.ite (hs.complete.next.ite (hs.complete.next.ite (hs.badArg.next.ite (hs.complete.next.ite ?_))))
  refine hs.badArg.next.ite ?_
  split
  · exact hs.deniedBy.next
  · exact hs.setCue.setF.sentTo.complete.next

theorem Evolves.execCueCancel (hs : Evolves s₀ s) {h a} : NextMeets (execCueCancel h a s) (Evolves s₀) := by
  unfold Machine.execCueCancel
  refine hs.badArg.next.ite (hs.complete.next.ite (hs.badArg.next.ite (hs.complete.next.ite ?_)))
  extract_lets _ _ u
  have hu : Evolves s₀ u := hs.begins.setCue
  exact hs.begins.setCue.next.ite (hu.cueFinish.cueSettle.next.ite (hs.complete.next.ite (hs.badArg.next.ite hs.begins.setCue.next)))

theorem Evolves.execCueQuery (hs : Evolves s₀ s) {h cue_} : NextMeets (execCueQuery h cue_ s) (Evolves s₀) := by
  unfold Machine.execCueQuery
  refine hs.badArg.next.ite (hs.complete.next.ite ?_)
  extract_lets
  split
  · exact hs.sentTo.complete.next
  · exact hs.complete.next

theorem Evolves.execCueRingTimerRelease (hs : Evolves s₀ s) {dst} : NextMeets (execCueRingTimerRelease dst s) (Evolves s₀) :=
  (hs.emit.frame.ite hs).next

theorem Evolves.execCuePinCfgWrite (hs : Evolves s₀ s) {pin value} : NextMeets (execCuePinCfgWrite pin value s) (Evolves s₀) :=
  hs.violation.next.ite hs.regWrite.cuePinSettle.next

theorem Evolves.execCaptureEdge (hs : Evolves s₀ s) {ch} : NextMeets (execCaptureEdge ch s) (Evolves s₀) := by
  unfold Machine.execCaptureEdge
  split
  · exact hs.next
  · exact hs.next.ite (hs.frame.inc.frame.next.ite (hs.frame.areaPut.frame.ite hs.frame.areaPut.frame.frame.notice).next)

theorem Evolves.captureRidx (hs : Evolves s₀ s) {value} : Evolves s₀ (captureRidx s value) := hs.wr.frame.ite hs.violation

theorem Evolves.execTodMessageSend (hs : Evolves s₀ s) {ticks} : NextMeets (execTodMessageSend ticks s) (Evolves s₀) := by
  unfold Machine.execTodMessageSend
  extract_lets u _ _ _ u1
  have hu : Evolves s₀ u := hs.advance
  have hu1 : Evolves s₀ u1 := hu.setB
  split
  · exact hu.next
  · exact hu.next.ite (hu1.frame.next.ite hu.emit.sentTo.setB.frame.next)

theorem Evolves.execTodMessageReceive (hs : Evolves s₀ s) {bytes} : NextMeets (execTodMessageReceive bytes s) (Evolves s₀) := by
  unfold Machine.execTodMessageReceive
  refine hs.next.ite (hs.incF.next.ite ?_)
  extract_lets _ _ _ _ u
  have hu : Evolves s₀ u := hs.todReject.ite hs
  refine hs.todReject.next.ite (hu.frame.next.ite ?_)
  split
  · exact hs.todAccept.todLabel.next.ite hs.todReject.next
  · exact hs.todReject.next

/-! ### Outputs -/

theorem Evolves.outSlateSent (hs : Evolves s₀ s) {o d} : Evolves s₀ (outSlateSent s o d) := by
  unfold Machine.outSlateSent
  split
  · exact hs.sentTo
  · exact hs.sentTo.nextFresh

theorem Evolves.outRun (hs : Evolves s₀ s) {o} : Evolves s₀ (outRun s o) := hs.setF.emit.event

theorem Evolves.outStopped (hs : Evolves s₀ s) {o cause forced} : Evolves s₀ (outStopped s o cause forced) := by
  unfold Machine.outStopped
  extract_lets _ u _ u1 u2 u3 u4
  have hu : Evolves s₀ u := hs.emit.ite (hs.emit.ite hs)
  have hu1 : Evolves s₀ u1 := hu.setOut
  have hu2 : Evolves s₀ u2 := hu1.setF.setF.setB
  have hu3 : Evolves s₀ u3 := hu2.setB.setB.setB
  have hu4 : Evolves s₀ u4 := hu3.setF
  exact hu4.event.ite hu4.logEvent

theorem Evolves.outStartDone (hs : Evolves s₀ s) {h a} : Evolves s₀ (outStartDone s h a) := by
  unfold Machine.outStartDone
  extract_lets _ u
  have hu : Evolves s₀ u := hs.foldl fun _ _ hu => hu.setOut.ite hu.setOut.setF
  split
  · exact hu.finish
  · exact hu.finish.ite hu.outSlateSent.finish

theorem Evolves.outArm (hs : Evolves s₀ s) {waits o} : Evolves s₀ (outArm waits s o) := (hs.emit.ite hs).setF.setF.setOut

theorem Evolves.execOutStart (hs : Evolves s₀ s) {h a} : NextMeets (execOutStart h a s) (Evolves s₀) := by
  unfold Machine.execOutStart
  extract_lets _ u u1
  have hu : Evolves s₀ u := hs.begins
  have hu1 : Evolves s₀ u1 := hu.foldl fun _ _ hu => hu.outArm
  refine hs.badArg.next.ite (hs.complete.next.ite (hs.badArg.next.ite (hs.complete.next.ite (hs.badArg.next.ite ?_))))
  refine hs.complete.next.ite (hs.complete.next.ite (hs.deniedBy.next.ite (hs.deniedBy.next.ite ?_)))
  exact hu1.outStartDone.next.ite hu1.atTsWait.next

theorem Evolves.outStopDone (hs : Evolves s₀ s) {h a} : Evolves s₀ (outStopDone s h a) := by
  unfold Machine.outStopDone
  extract_lets _ _ _ _ _ _ u u1 u2
  have hu : Evolves s₀ u := by
    unfold u
    split
    · exact hs.outSlateSent
    · exact hs
  have hu1 : Evolves s₀ u1 := hu.foldl fun _ _ hu => hu.outStopped
  have hu2 : Evolves s₀ u2 := hu1.foldl fun _ _ hu => hu.setOut
  exact hu2.finish

theorem Evolves.execOutStop (hs : Evolves s₀ s) {h a} : NextMeets (execOutStop h a s) (Evolves s₀) := by
  unfold Machine.execOutStop
  extract_lets _ _ u u1
  have hu : Evolves s₀ u := hs.begins
  have hu1 : Evolves s₀ u1 := hu.foldl fun _ _ hu => hu.setF.ite hu
  refine hs.badArg.next.ite (hs.complete.next.ite (hs.badArg.next.ite (hs.complete.next.ite ?_)))
  exact hs.begins.outStopDone.next.ite (hs.complete.next.ite (hs.badArg.next.ite hu1.atTsWait.next))

theorem Evolves.execOutSwitch (hs : Evolves s₀ s) {h out dir} : NextMeets (execOutSwitch h out dir s) (Evolves s₀) := by
  unfold Machine.execOutSwitch
  refine hs.badArg.next.ite (hs.complete.next.ite (hs.badArg.next.ite (hs.complete.next.ite (hs.badArg.next.ite ?_))))
  exact hs.complete.next.ite hs.setB.setOut.complete.next

theorem Evolves.execOutGateOpen (hs : Evolves s₀ s) {out} : NextMeets (execOutGateOpen out s) (Evolves s₀) := (hs.outRun.ite hs).next
theorem Evolves.execOutGateClose (hs : Evolves s₀ s) {out} : NextMeets (execOutGateClose out s) (Evolves s₀) := (hs.outStopped.ite hs).next

theorem Evolves.execOutFaultStop (hs : Evolves s₀ s) {out forced} : NextMeets (execOutFaultStop out forced s) (Evolves s₀) := by
  unfold Machine.execOutFaultStop
  refine hs.next.ite ?_
  split
  · exact hs.outStopped.next
  · exact (hs.outStopped.ite hs).next

theorem Evolves.execOutInterlockGate (hs : Evolves s₀ s) {out} : NextMeets (execOutInterlockGate out s) (Evolves s₀) := by
  unfold Machine.execOutInterlockGate
  refine hs.next.ite ((hs.outRun.ite hs).next.ite (hs.outStopped.next.ite ?_))
  exact (hs.emit.setF.outMoveEnd.outOnFb.ite hs.emit.setF.outMoveEnd).next.ite (hs.setF.next.ite hs.next)

theorem Evolves.outMoved (hs : Evolves s₀ s) {o fb} : Evolves s₀ (outMoved s o fb) := hs.outOnFb.setOut.setB
theorem Evolves.execFallbackSwitch (hs : Evolves s₀ s) {out} : NextMeets (execFallbackSwitch out s) (Evolves s₀) := (hs.outMoved.ite hs).next
theorem Evolves.execFallbackReturn (hs : Evolves s₀ s) {out} : NextMeets (execFallbackReturn out s) (Evolves s₀) := (hs.outMoved.ite hs).next
theorem Evolves.outFineWrite (hs : Evolves s₀ s) {o value} : Evolves s₀ (outFineWrite s o value) := hs.regWrite.setB.setOut.ite hs.regWrite.setB
theorem Evolves.execOutFineStep (hs : Evolves s₀ s) {out} : NextMeets (execOutFineStep out s) (Evolves s₀) := hs.next.ite hs.setB.setOut.next
theorem Evolves.outReload (hs : Evolves s₀ s) {prim fb o} : Evolves s₀ (outReload s prim fb o) := hs.setF.setB.setOut
theorem Evolves.outCfgWrite (hs : Evolves s₀ s) {n o value} : Evolves s₀ (outCfgWrite s n o value) := hs.regWrite.outReload.ite hs.regWrite

theorem Evolves.execOutDividerReload (hs : Evolves s₀ s) {out} : NextMeets (execOutDividerReload out s) (Evolves s₀) :=
  hs.next.ite hs.setB.setOut.next

/-! ### Gnss -/

theorem Evolves.gnssStopAll (hs : Evolves s₀ s) : Evolves s₀ (gnssStopAll s) := hs.foldl fun _ _ hu => hu.gnssChSet.ite hu

theorem Evolves.gnssDown (hs : Evolves s₀ s) {st} : Evolves s₀ (gnssDown s st) := by
  unfold Machine.gnssDown
  extract_lets u u1 _ _ u2 u3
  have hu : Evolves s₀ u := hs.gnssStopAll
  have hu1 : Evolves s₀ u1 := hu.foldl fun _ _ hu => hu.setB.setGnssPort
  have hu2 : Evolves s₀ u2 := hu1.frame
  have hu3 : Evolves s₀ u3 := by
    unfold u3
    refine hu2.foldl fun v4 _ hv4 => ?_
    split
    · exact hv4.finish
    · exact hv4
  exact hu3.setF

theorem Evolves.gnssCoast (hs : Evolves s₀ s) {enter} : Evolves s₀ (gnssCoast s enter) :=
  (hs.frame.gnssDown.ite hs.frame).ite ((hs.frame.setF.ite hs.frame).ite hs)

theorem Evolves.gnssShed (hs : Evolves s₀ s) {shed} : Evolves s₀ (gnssShed s shed) :=
  hs.setB.foldl fun _ _ hu => hu.gnssChSet.ite (hu.gnssChSet.ite hu)

theorem Evolves.acqRefill (hs : Evolves s₀ s) : Evolves s₀ (acqRefill s) := hs.frame
theorem Evolves.gnssPortStop (hs : Evolves s₀ s) {p} : Evolves s₀ (gnssPortStop s p) := hs.gnssBreak.setB.setB.setB.setGnssPort

theorem Evolves.execGnssPortEnableWrite (hs : Evolves s₀ s) {port value} : NextMeets (execGnssPortEnableWrite port value s) (Evolves s₀) :=
  hs.violation.next.ite (hs.regWrite.gnssPortStop.ite (hs.regWrite.setGnssPort.ite hs.regWrite)).next

theorem Evolves.cnrefMinute (hs : Evolves s₀ s) {p} : Evolves s₀ (cnrefMinute s p) := hs.ite hs.setF.setGnssPort
theorem Evolves.blockSeen (hs : Evolves s₀ s) {p raw} : Evolves s₀ (blockSeen s p raw) := hs.setF.setF.setGnssPort.cnrefMinute

theorem Evolves.execSampleEpochMark (hs : Evolves s₀ s) {port ticks b} : NextMeets (execSampleEpochMark port ticks b s) (Evolves s₀) := by
  unfold Machine.execSampleEpochMark
  extract_lets u
  have hu : Evolves s₀ u := hs.advance
  refine hu.next.ite ?_
  split
  · exact hu.gnssMark.acqRefill.next
  · exact hu.setB.gnssBreak.next.ite hu.blockSeen.gnssMark.acqRefill.next

theorem Evolves.execSamplePathBreak (hs : Evolves s₀ s) {port why} : NextMeets (execSamplePathBreak port why s) (Evolves s₀) := by
  unfold Machine.execSamplePathBreak
  refine hs.next.ite ?_
  split
  · exact hs.setB.gnssBreak.next
  · exact hs.setB.gnssBreak.next
  · exact (hs.setB.gnssBreak.ite hs).next
  · exact (hs.ite hs.gnssBreak).next

theorem Evolves.execSamplePathRecover (hs : Evolves s₀ s) {port lost} : NextMeets (execSamplePathRecover port lost s) (Evolves s₀) :=
  hs.next.ite hs.setB.setB.inc.gnssMark.next

theorem Evolves.execNotchChange (hs : Evolves s₀ s) {port notch locked centre} :
    NextMeets (execNotchChange port notch locked centre s) (Evolves s₀) :=
  hs.next.ite hs.setB.setB.setI.next

theorem Evolves.execGnssJam (hs : Evolves s₀ s) {port ticks} : NextMeets (execGnssJam port ticks s) (Evolves s₀) :=
  hs.advance.next.ite (hs.advance.setB.logEvent.next.ite (hs.advance.setB.logRec.next.ite hs.advance.next))

theorem Evolves.execGnssAcq (hs : Evolves s₀ s) {h a} : NextMeets (execGnssAcq h a s) (Evolves s₀) := by
  unfold Machine.execGnssAcq
  refine hs.badArg.next.ite (hs.complete.next.ite (hs.complete.next.ite (hs.badArg.next.ite (hs.complete.next.ite ?_))))
  exact hs.complete.next.ite hs.begins.frame.next

theorem Evolves.execGnssAcqDone (hs : Evolves s₀ s) {pos r} : NextMeets (execGnssAcqDone pos r s) (Evolves s₀) := by
  unfold Machine.execGnssAcqDone
  split
  · exact hs.next
  · extract_lets _ u _ _ _ _ u1
    have hu : Evolves s₀ u := hs.frame.acqRefill
    have hu1 : Evolves s₀ u1 := hu.frame
    split
    · refine Evolves.next ?_
      split
      · exact hu.finish
      · exact hu
    · refine Evolves.next ?_
      split
      · exact hu1.sentTo.finish
      · exact hu1

theorem Evolves.execGnssChStart (hs : Evolves s₀ s) {h a} : NextMeets (execGnssChStart h a s) (Evolves s₀) := by
  unfold Machine.execGnssChStart
  refine hs.badArg.next.ite (hs.complete.next.ite (hs.complete.next.ite (hs.complete.next.ite ?_)))
  extract_lets _ _ _ _ _ _ from_
  refine hs.badArg.next.ite (hs.complete.next.ite ?_)
  clear_value from_
  split
  · exact hs.complete.next
  · refine hs.complete.next.ite ?_
    exact (hs.setGnssCh.setF.setF.setF.setF.gnssChSet.gnssHold.ite hs.setGnssCh.setF.setF.setF.setF.gnssChSet).sentTo.complete.next

theorem Evolves.execGnssChStop (hs : Evolves s₀ s) {h ch} : NextMeets (execGnssChStop h ch s) (Evolves s₀) :=
  hs.badArg.next.ite (hs.complete.next.ite hs.setGnssCh.gnssChSet.complete.next)

theorem Evolves.execGnssChannelEpoch (hs : Evolves s₀ s) {ch e} : NextMeets (execGnssChannelEpoch ch e s) (Evolves s₀) := by
  unfold Machine.execGnssChannelEpoch
  extract_lets
  split
  · exact hs.next
  · exact hs.next.ite (hs.setGnssCh.perf.setF.setB.setB.setB.setB.ite hs.setGnssCh.perf).next

theorem Evolves.execGnssDumpInterrupt (hs : Evolves s₀ s) {ticks} : NextMeets (execGnssDumpInterrupt ticks s) (Evolves s₀) :=
  ((hs.advance.foldl fun _ _ hu => hu.emit.ite hu).frame.foldl fun _ _ hu => hu.setGnssCh).next

theorem Evolves.execGnssNcoLoWrite (hs : Evolves s₀ s) {ch carrier value host} :
    NextMeets (execGnssNcoLoWrite ch carrier value host s) (Evolves s₀) :=
  hs.violation.next.ite hs.setGnssCh.next

theorem Evolves.execGnssCodeAdjWrite (hs : Evolves s₀ s) {ch value host} : NextMeets (execGnssCodeAdjWrite ch value host s) (Evolves s₀) :=
  hs.violation.next.ite hs.setGnssCh.next

theorem Evolves.execGnssNcoCommit (hs : Evolves s₀ s) {ch carrier value late host} :
    NextMeets (execGnssNcoCommit ch carrier value late host s) (Evolves s₀) := by
  unfold Machine.execGnssNcoCommit
  refine hs.violation.next.ite ?_
  extract_lets _ _ _ _ u _ _ _ _ u1
  have hu : Evolves s₀ u := hs.setF.setF.ite hs.setF.setF
  have hu1 : Evolves s₀ u1 := hu.inc.ite hu
  exact hu.setGnssCh.next.ite hu1.setGnssCh.next

theorem Evolves.measRecords (hs : Evolves s₀ s) {u} : Evolves s₀ (measRecords s u) := hs.foldl fun _ _ hu => hu.areaProduce.setGnssCh.sentTo

theorem Evolves.execGnssMeas (hs : Evolves s₀ s) {ticks wait0 wait1 wait2} : NextMeets (execGnssMeas ticks wait0 wait1 wait2 s) (Evolves s₀) := by
  unfold Machine.execGnssMeas
  extract_lets u _ u1 _ u2 _ _ u3 u4 u5 u6
  have hu : Evolves s₀ u := hs.advance
  have hu1 : Evolves s₀ u1 := hu.advance
  have hu2 : Evolves s₀ u2 := hu1.frame.measRecords
  have hu3 : Evolves s₀ u3 := hu2.setF.ite hu2
  have hu4 : Evolves s₀ u4 := hu3.spoofEval
  have hu5 : Evolves s₀ u5 := hu4.spoofEval.spoofEval
  have hu6 : Evolves s₀ u6 := hu5.spoofEval
  exact hu1.next.ite hu6.frame.next

theorem Evolves.spoofRaise (hs : Evolves s₀ s) {sols} : Evolves s₀ (spoofRaise s sols) := hs.frame.logEvent

theorem Evolves.execGnssSpoof (hs : Evolves s₀ s) {h op checks sols} : NextMeets (execGnssSpoof h op checks sols s) (Evolves s₀) :=
  hs.badArg.next.ite (hs.setF.frame.logRec.complete.next.ite hs.spoofRaise.complete.next)

theorem Evolves.navDeliver (hs : Evolves s₀ s) {r} : Evolves s₀ (navDeliver s r) :=
  (hs.frame.ite hs).areaProduce.sentTo.ite (hs.frame.ite hs).setArea

theorem Evolves.execGnssNav (hs : Evolves s₀ s) {ch u} : NextMeets (execGnssNav ch u s) (Evolves s₀) := hs.next.ite hs.navDeliver.next

theorem Evolves.execOsnmaTagResult (hs : Evolves s₀ s) {tag} : NextMeets (execOsnmaTagResult tag s) (Evolves s₀) :=
  hs.next.ite (hs.setB.setB.ite hs.setB).frame.setF.navDeliver.next

theorem Evolves.gnssWaking (hs : Evolves s₀ s) : Evolves s₀ (gnssWaking s) := hs.setF

theorem Evolves.execGnssPower (hs : Evolves s₀ s) {h op retain} : NextMeets (execGnssPower h op retain s) (Evolves s₀) := by
  unfold Machine.execGnssPower
  refine hs.badArg.next.ite (hs.complete.next.ite (hs.complete.next.ite ?_))
  extract_lets _ u _ _ u1 _ u2 _ u3
  have hu : Evolves s₀ u := hs.begins
  have hu1 : Evolves s₀ u1 := hs.setF
  have hu2 : Evolves s₀ u2 := hs.ite (hs.gnssDown.ite hu1.frame)
  have hu3 : Evolves s₀ u3 := hu2.frame.ite hu2
  exact (hs.complete.next.ite hu.frame.gnssWaking.next).ite hu3.complete.next

theorem Evolves.execGnssSettleEnd (hs : Evolves s₀ s) {crcOk ticks} : NextMeets (execGnssSettleEnd crcOk ticks s) (Evolves s₀) :=
  hs.advance.next.ite (hs.advance.setB.setB.setF.frame.foldl fun _ _ hu => hu.finish).next

theorem Evolves.execGnssWake (hs : Evolves s₀ s) : NextMeets (execGnssWake s) (Evolves s₀) :=
  hs.frame.gnssWaking.event.next.ite (hs.gnssDown.event.next.ite hs.next)

theorem Evolves.feedView (hs : Evolves s₀ s) {f} : Evolves s₀ (feedView s f) := by
  unfold Machine.feedView
  refine hs.ite (hs.setI.setF.setF.ite ?_)
  split
  · exact hs.setI.setF.setF
  · exact hs.setF.setF

theorem Evolves.execSolutionFeed (hs : Evolves s₀ s) {sol x} : NextMeets (execSolutionFeed sol x s) (Evolves s₀) := by
  unfold Machine.execSolutionFeed
  refine hs.next.ite ?_
  extract_lets _ _ u
  have hu : Evolves s₀ u := hs.frame.foldl fun _ _ hu => hu.feedView
  exact hu.next.ite (hu.foldl fun _ _ hu => hu.takeMeas.ite hu).next

/-! ### Ports -/

theorem Evolves.portCount (hs : Evolves s₀ s) {p i k} : Evolves s₀ (portCount s p i k) := hs.setPort
theorem Evolves.txtsPut (hs : Evolves s₀ s) {p e} : Evolves s₀ (txtsPut s p e) := hs.inc.setB.ite hs.setPort.setF
theorem Evolves.txtsAbort (hs : Evolves s₀ s) {p} : Evolves s₀ (txtsAbort s p) := hs.setPort.foldl fun _ _ hu => hu.txtsPut

theorem Evolves.execTxTimestamp (hs : Evolves s₀ s) {port_ ticks frac} : NextMeets (execTxTimestamp port_ ticks frac s) (Evolves s₀) := by
  unfold Machine.execTxTimestamp
  extract_lets u
  have hu : Evolves s₀ u := hs.advance
  split
  · exact hu.next
  · exact hu.setPort.txtsPut.sentTo.next

theorem Evolves.execTxTimestampDrain (hs : Evolves s₀ s) {port_} : NextMeets (execTxTimestampDrain port_ s) (Evolves s₀) := by
  unfold Machine.execTxTimestampDrain
  extract_lets
  split
  · exact hs.next
  · exact hs.setPort.setF.cplWrite.next.ite hs.next

theorem Evolves.chainDone (hs : Evolves s₀ s) {r c st bytes segs} : Evolves s₀ (chainDone s r c st bytes segs) := hs.setRing.cplQueue

theorem Evolves.chainAbort (hs : Evolves s₀ s) {r c} : Evolves s₀ (chainAbort s r c) := by
  unfold Machine.chainAbort
  extract_lets _ u
  have hu : Evolves s₀ u := by
    unfold u
    split
    · exact hs.txtsPut.ite hs
    · exact hs
  exact hu.chainDone

theorem Evolves.abortChains (hs : Evolves s₀ s) {r k} : Evolves s₀ (abortChains s r k) := by
  induction k generalizing s with
  | zero => exact hs
  | succ k ih =>
    rw [Machine.abortChains]
    split
    · exact ih hs.chainAbort
    · exact hs

theorem Evolves.txSpend (hs : Evolves s₀ s) {p bytes} : Evolves s₀ (txSpend s p bytes) := hs.setPort

theorem Evolves.txdSend (hs : Evolves s₀ s) {p r c n i} : Evolves s₀ (txdSend s p r c n i) := by
  unfold Machine.txdSend
  extract_lets _ _ _ _ u u1 u2 u3 u4
  have hu : Evolves s₀ u := hs.setPort
  have hu1 : Evolves s₀ u1 := hu.txSpend
  have hu2 : Evolves s₀ u2 := hu1.portCount.portCount
  have hu3 : Evolves s₀ u3 := hu2.portCount.ite hu2
  have hu4 : Evolves s₀ u4 := hu3.emit
  exact hu4.ite hu4.chainDone

theorem Evolves.execTxdChain (hs : Evolves s₀ s) {ring_ ticks} : NextMeets (execTxdChain ring_ ticks s) (Evolves s₀) := by
  unfold Machine.execTxdChain
  extract_lets u
  have hu : Evolves s₀ u := hs.advance
  split
  · exact hu.next
  · refine hu.next.ite ?_
    split
    · exact hu.chainDone.next
    · refine hu.chainAbort.next.ite ?_
      split
      · exact (hu.txdSend.ite hu).next
      · exact hu.next

theorem Evolves.portAwake (hs : Evolves s₀ s) {p} : Evolves s₀ (portAwake s p) := hs.advance.setB.ite hs

theorem Evolves.tseOut (hs : Evolves s₀ s) {p bytes f} : Evolves s₀ (tseOut s p bytes f) := by
  unfold Machine.tseOut
  extract_lets u _ _ u1
  have hu : Evolves s₀ u := by
    unfold u
    split
    · exact hs.txdSend.ite hs
    · exact hs
  have hu1 : Evolves s₀ u1 := hu.setPort
  exact hu1.emit.portCount.portCount

theorem Evolves.portLeave (hs : Evolves s₀ s) {p} : Evolves s₀ (portLeave s p) := hs.frame.setB.setB.txtsAbort
theorem Evolves.portDown (hs : Evolves s₀ s) {p cause} : Evolves s₀ (portDown s p cause) := hs.ite (hs.setF.ite hs.setF.portCount).portLeave.portSet

theorem Evolves.execPortCfgWrite (hs : Evolves s₀ s) {port_ value} : NextMeets (execPortCfgWrite port_ value s) (Evolves s₀) := by
  unfold Machine.execPortCfgWrite
  refine hs.violation.next.ite ?_
  extract_lets _ _ u _ u1 _ u2 u3 u4 u5
  have hu : Evolves s₀ u := hs.regWrite
  have hu1 : Evolves s₀ u1 := hu.ite hu.setPort
  have hu2 : Evolves s₀ u2 := hu1.setF
  have hu3 : Evolves s₀ u3 := hu2.portLeave.portSet
  have hu4 : Evolves s₀ u4 := hu3.setB
  have hu5 : Evolves s₀ u5 := (hu1.ite hu1.setF).portSet.ite ((hu4.foldl fun _ _ hu => hu.abortChains.ite hu).ite hu1)
  exact hu5.dpEvalAll.lpiCheckAll.next

theorem Evolves.portsAp0Lost (hs : Evolves s₀ s) : Evolves s₀ (portsAp0Lost s) := hs.foldl fun _ _ hu => hu.portDown

theorem Evolves.execPortBlockLock (hs : Evolves s₀ s) {port_} : NextMeets (execPortBlockLock port_ s) (Evolves s₀) :=
  hs.next.ite (hs.setF.next.ite hs.setB.setB.setPort.portCalibrate.next)

theorem Evolves.execPortLinkDown (hs : Evolves s₀ s) {port_ cause} : NextMeets (execPortLinkDown port_ cause s) (Evolves s₀) :=
  hs.next.ite hs.portDown.next

theorem Evolves.portThermal (hs : Evolves s₀ s) : Evolves s₀ (portThermal s) := hs.foldl fun _ _ hu => hu.ite hu.portDown

theorem Evolves.execPortRefSwitch (hs : Evolves s₀ s) {port_} : NextMeets (execPortRefSwitch port_ s) (Evolves s₀) :=
  hs.next.ite hs.setB.portCalibrate.next

theorem Evolves.portLat (hs : Evolves s₀ s) {p} : Evolves s₀ (portLat s p) := by
  unfold Machine.portLat
  split
  · exact hs
  · exact hs.setI.setI

theorem Evolves.portAdjWrite (hs : Evolves s₀ s) {n p value} : Evolves s₀ (portAdjWrite s n p value) := hs.regWrite.portLat
theorem Evolves.setProbe (hs : Evolves s₀ s) {k v} : Evolves s₀ (setProbe s k v) := hs.wr.wr

theorem Evolves.execGearboxMeasurementDone (hs : Evolves s₀ s) {port_ rms rxPhase txPhase} :
    NextMeets (execGearboxMeasurementDone port_ rms rxPhase txPhase s) (Evolves s₀) := by
  unfold Machine.execGearboxMeasurementDone
  refine hs.next.ite ?_
  extract_lets u _ _ u1 _ u2 u3 _ u4 u5
  have hu : Evolves s₀ u := hs.setProbe.setProbe
  have hu1 : Evolves s₀ u1 := hu.frame
  have hu2 : Evolves s₀ u2 := hu1.setPort
  have hu3 : Evolves s₀ u3 := hu1.setPort
  have hu4 : Evolves s₀ u4 := hu1.logRec
  have hu5 : Evolves s₀ u5 := hu4.setPort.setB
  exact hu2.portLat.portSet.next.ite (hu3.frame.next.ite hu5.portSet.next)

theorem Evolves.probe2Done (hs : Evolves s₀ s) {value} : Evolves s₀ (probe2Done s value) := hs.frame.setI.dpEval.ite hs

theorem Evolves.execProbeMeasurementDone (hs : Evolves s₀ s) {probe value} : NextMeets (execProbeMeasurementDone probe value s) (Evolves s₀) :=
  hs.next.ite (hs.setProbe.probe2Done.ite hs.setProbe).next

theorem Evolves.stageFill (hs : Evolves s₀ s) {k fuel} : Evolves s₀ (stageFill s k fuel) := by
  induction fuel generalizing s with
  | zero => exact hs
  | succ fuel ih =>
    rw [Machine.stageFill]
    split
    · exact hs
    · extract_lets left
      split
      · exact hs
      · split
        · exact (ih hs.setRing.frame).ite hs.frame
        · exact hs.frame

theorem Evolves.stageRing (hs : Evolves s₀ s) {r} : Evolves s₀ (stageRing s r) := by
  unfold Machine.stageRing
  refine hs.foldl fun v _ hv => ?_
  split
  · exact hv.stageFill.ite hv
  · exact hv

theorem Evolves.stageDrop (hs : Evolves s₀ s) {k} : Evolves s₀ (stageDrop s k) := by
  unfold Machine.stageDrop
  split
  · exact hs
  · extract_lets _ _ u _ u1
    have hu : Evolves s₀ u := hs.frame
    have hu1 : Evolves s₀ u1 := by
      unfold u1
      refine hu.foldl fun v2 _ hv2 => ?_
      split
      · exact hv2.cplQueue
      · exact hv2
    exact hu1.inc

theorem Evolves.stageRoom (hs : Evolves s₀ s) {p n fuel} : Evolves s₀ (stageRoom s p n fuel) := by
  induction fuel generalizing s with
  | zero => exact hs
  | succ fuel ih =>
    rw [Machine.stageRoom]
    split
    · exact hs
    · split
      · exact ih hs.stageDrop
      · exact hs

theorem Evolves.rxDeliver (hs : Evolves s₀ s) {p cls length oversize frac data} : Evolves s₀ (rxDeliver s p cls length oversize frac data) :=
  hs.inc.ite (hs.inc.ite (hs.stageRoom.inc.ite hs.stageRoom.frame.stageRing))

theorem Evolves.execRxFrame (hs : Evolves s₀ s) {port_ f} : NextMeets (execRxFrame port_ f s) (Evolves s₀) := by
  unfold Machine.execRxFrame
  extract_lets u _ u1 _ u2 u3 u4
  have hu : Evolves s₀ u := hs.advance
  have hu1 : Evolves s₀ u1 := hu.portCount.portCount
  have hu2 : Evolves s₀ u2 := hu1.portCount
  have hu3 : Evolves s₀ u3 := hu1.portCount.portCount
  have hu4 : Evolves s₀ u4 := by
    unfold u4
    split
    · exact hu3.setF.setB.setB
    · exact hu3
  refine hu.next.ite (hu1.portCount.next.ite ((hu2.rxDeliver.ite hu2).next.ite (hu1.portCount.next.ite ?_)))
  exact hu4.portCount.next.ite hu4.rxDeliver.next

theorem Evolves.putFrame (hs : Evolves s₀ s) {l f} : Evolves s₀ (putFrame s l f) := by
  induction l generalizing s f with
  | nil => exact hs
  | cons b l ih => exact ih hs.emit

theorem Evolves.rxComplete (hs : Evolves s₀ s) {x} : Evolves s₀ (rxComplete s x) := by
  unfold Machine.rxComplete
  extract_lets _ _ _ _ _ u u1
  have hu : Evolves s₀ u := hs.putFrame
  have hu1 : Evolves s₀ u1 := by
    unfold u1
    refine hu.foldl fun v2 _ hv2 => ?_
    split
    · exact hv2.cplQueue
    · exact hv2
  exact hu1.sentTo

theorem Evolves.execRxdDelivery (hs : Evolves s₀ s) {ring_} : NextMeets (execRxdDelivery ring_ s) (Evolves s₀) := by
  unfold Machine.execRxdDelivery
  extract_lets u
  have hu : Evolves s₀ u := hs.stageRing
  split
  · exact hu.next
  · split
    · exact hu.next
    · exact hu.next.ite hu.frame.rxComplete.next

theorem Evolves.execRxStarveTimeout (hs : Evolves s₀ s) {ring_} : NextMeets (execRxStarveTimeout ring_ s) (Evolves s₀) := by
  unfold Machine.execRxStarveTimeout
  split
  · exact hs.stageDrop.stageRing.next
  · exact hs.next

theorem Evolves.execPortCounterRead (hs : Evolves s₀ s) {port_ counter} : NextMeets (execPortCounterRead port_ counter s) (Evolves s₀) :=
  hs.next.ite (hs.emit.wr.ite hs.emit.wr.setPort).next

theorem Evolves.execPortDaily (hs : Evolves s₀ s) {port_ ticks} : NextMeets (execPortDaily port_ ticks s) (Evolves s₀) :=
  hs.advance.next.ite hs.advance.setPort.sentTo.areaProduce.next

theorem Evolves.execLpiEnter (hs : Evolves s₀ s) {port_ rx} : NextMeets (execLpiEnter port_ rx s) (Evolves s₀) :=
  hs.next.ite (hs.setB.portPresence.next.ite (hs.setB.ite hs).next)

theorem Evolves.execLpiWake (hs : Evolves s₀ s) {port_ rx} : NextMeets (execLpiWake port_ rx s) (Evolves s₀) :=
  hs.next.ite (hs.setB.portPresence.next.ite hs.setB.next)

theorem Evolves.execEsmcSend (hs : Evolves s₀ s) {port_} : NextMeets (execEsmcSend port_ s) (Evolves s₀) :=
  hs.next.ite hs.portAwake.txSpend.setF.emit.next

theorem Evolves.execEsmcRxTimeout (hs : Evolves s₀ s) {port_} : NextMeets (execEsmcRxTimeout port_ s) (Evolves s₀) := hs.next.ite hs.setB.setB.next

/-! ### Stavris -/

theorem Evolves.stvCount (hs : Evolves s₀ s) : Evolves s₀ (stvCount s) := hs.setF
theorem Evolves.setNode (hs : Evolves s₀ s) {i n} : Evolves s₀ (setNode s i n) := hs.frame

theorem Evolves.stvOpen (hs : Evolves s₀ s) : Evolves s₀ (stvOpen s) := by
  unfold Machine.stvOpen
  split
  · exact hs
  · exact hs.ite hs.frame.setNode.setNode.setNode.setB.stvCount

theorem Evolves.freeNode (hs : Evolves s₀ s) {i} : Evolves s₀ (freeNode s i) := by
  unfold Machine.freeNode
  split
  · exact hs.setNode.frame.ite hs
  · exact hs

theorem Evolves.freeNodes (hs : Evolves s₀ s) : Evolves s₀ (freeNodes s) := (hs.foldl fun _ _ hu => hu.freeNode).stvCount

theorem Evolves.revokeNodes (hs : Evolves s₀ s) {l} : Evolves s₀ (revokeNodes s l) := by
  unfold Machine.revokeNodes
  extract_lets _ u _ u1 u2 _ u3
  have hu : Evolves s₀ u := by
    unfold u
    refine hs.foldl fun v4 _ hv4 => ?_
    split
    · exact hv4.setNode
    · exact hv4
  have hu1 : Evolves s₀ u1 := hu.frame
  have hu2 : Evolves s₀ u2 := hu1.setB.setB
  have hu3 : Evolves s₀ u3 := hu2.frame.ite hu1
  exact hu3.freeNodes

theorem Evolves.addJob (hs : Evolves s₀ s) {cls keys blocks what} : Evolves s₀ (addJob s cls keys blocks what) := hs.frame

theorem Evolves.dropJob (hs : Evolves s₀ s) {id} : Evolves s₀ (dropJob s id) := by
  unfold Machine.dropJob
  extract_lets u
  have hu : Evolves s₀ u := by
    unfold u
    refine hs.foldl fun v1 _ hv1 => ?_
    refine .ite ?_ hv1
    split
    · exact hv1.perf
    · exact hv1
  exact hu.frame

theorem Evolves.dropReply (hs : Evolves s₀ s) {id} : Evolves s₀ (dropReply s id) := hs.frame

theorem Evolves.discardJob (hs : Evolves s₀ s) {j st} : Evolves s₀ (discardJob s j st) := by
  unfold Machine.discardJob
  extract_lets u
  have hu : Evolves s₀ u := hs.dropJob
  split
  · exact hu.finish
  · exact hu.finish
  · exact hu.dropReply.inc.inc
  · exact hu.inc
  · exact hu

theorem Evolves.execInFlightDone (hs : Evolves s₀ s) {job} : NextMeets (execInFlightDone job s) (Evolves s₀) := by
  unfold Machine.execInFlightDone
  split
  · exact (hs.discardJob.freeNodes.ite hs).next
  · exact hs.next

theorem Evolves.trngFails (hs : Evolves s₀ s) : Evolves s₀ (trngFails s) := hs.setB.inc.frame.logEvent
theorem Evolves.execTrngHealthFail (hs : Evolves s₀ s) : NextMeets (execTrngHealthFail s) (Evolves s₀) := hs.trngFails.next

theorem Evolves.execTrngRetest (hs : Evolves s₀ s) {pass} : NextMeets (execTrngRetest pass s) (Evolves s₀) :=
  hs.next.ite (hs.trngFails.next.ite (hs.frame.next.ite hs.setB.frame.next))

theorem Evolves.execDrbgReseed (hs : Evolves s₀ s) : NextMeets (execDrbgReseed s) (Evolves s₀) := (hs.frame.ite hs).next
theorem Evolves.execDrbgStaleTimeout (hs : Evolves s₀ s) : NextMeets (execDrbgStaleTimeout s) (Evolves s₀) := (hs.ite hs.frame).next
theorem Evolves.execKeyMaskRefresh (hs : Evolves s₀ s) : NextMeets (execKeyMaskRefresh s) (Evolves s₀) := hs.next

theorem Evolves.keyGate (hs : Evolves s₀ s) {h op k} (hk : Evolves s₀ (k s)) : Evolves s₀ (keyGate s h op k) :=
  hs.complete.ite (hs.complete.ite (hs.complete.ite hk))

theorem Evolves.withHandle (hs : Evolves s₀ s) {h op handle k} (hk : ∀ i n, Evolves s₀ (k i n)) : Evolves s₀ (withHandle s h op handle k) := by
  unfold Machine.withHandle
  split
  · exact hs.complete
  · split
    · exact hs.complete
    · split
      · exact hs.complete
      · exact hk _ _

theorem Evolves.newNode (hs : Evolves s₀ s) {i n} : Evolves s₀ (newNode s i n) := hs.setNode.stvCount

theorem Evolves.execStvDerive (hs : Evolves s₀ s) {h a} : NextMeets (execStvDerive h a s) (Evolves s₀) := by
  unfold Machine.execStvDerive
  refine Evolves.next ?_
  refine hs.keyGate ?_
  refine hs.withHandle fun _ _ => ?_
  refine hs.badArg.ite ?_
  extract_lets
  split
  · exact hs.complete
  · split
    · exact hs.complete
    · exact hs.newNode.complete

theorem Evolves.execStvRevoke (hs : Evolves s₀ s) {h handle} : NextMeets (execStvRevoke h handle s) (Evolves s₀) :=
  (hs.keyGate (hs.withHandle fun _ _ => (hs.badArg.ite hs.revokeNodes.complete))).next

theorem Evolves.execStvKeyInfo (hs : Evolves s₀ s) {h handle node_} : NextMeets (execStvKeyInfo h handle node_ s) (Evolves s₀) := by
  unfold Machine.execStvKeyInfo
  refine Evolves.next ?_
  refine hs.keyGate ?_
  refine .ite ?_ (hs.withHandle fun _ _ => (hs.badArg.ite hs.complete))
  refine hs.badArg.ite ?_
  split
  · exact hs.complete
  · exact hs.complete

theorem Evolves.execStvCrypt (hs : Evolves s₀ s) {h a} : NextMeets (execStvCrypt h a s) (Evolves s₀) :=
  hs.complete.next.ite (hs.keyGate (hs.withHandle fun _ _ => (hs.badArg.ite hs.begins.addJob))).next

theorem Evolves.cryptDone (hs : Evolves s₀ s) {h a} : Evolves s₀ (cryptDone s h a) := (hs.ite hs.emit).finish
theorem Evolves.mintBytes (hs : Evolves s₀ s) {a epoch key} : Evolves s₀ (mintBytes s a epoch key) := (hs.foldl fun _ _ hu => hu.emit.frame).inc

theorem Evolves.execCryptoJobDone (hs : Evolves s₀ s) {ring_ tag} : NextMeets (execCryptoJobDone ring_ tag s) (Evolves s₀) := by
  unfold Machine.execCryptoJobDone
  split
  · exact hs.next
  · refine hs.discardJob.freeNodes.next.ite ?_
    extract_lets u
    have hu : Evolves s₀ u := hs.dropJob
    split
    · exact hu.cryptDone.next
    · exact hu.mintBytes.finish.next
    · exact hu.next

theorem Evolves.execStvImport (hs : Evolves s₀ s) {h a} : NextMeets (execStvImport h a s) (Evolves s₀) := by
  unfold Machine.execStvImport
  refine Evolves.next ?_
  refine hs.keyGate ?_
  refine hs.withHandle fun _ _ => ?_
  extract_lets
  refine hs.badArg.ite ?_
  split
  · exact hs.complete
  · exact hs.newNode.complete

theorem Evolves.execStvIdentity (hs : Evolves s₀ s) {h addr} : NextMeets (execStvIdentity h addr s) (Evolves s₀) := by
  unfold Machine.execStvIdentity
  refine Evolves.next ?_
  refine hs.keyGate ?_
  refine hs.badArg.ite ?_
  split
  · exact hs.complete
  · exact hs.emit.complete

theorem Evolves.execStvRollbackSet (hs : Evolves s₀ s) {h version} : NextMeets (execStvRollbackSet h version s) (Evolves s₀) :=
  hs.complete.next.ite (hs.badArg.next.ite hs.setF.complete.next)

theorem Evolves.execStvPairKeyWrite (hs : Evolves s₀ s) {value} : NextMeets (execStvPairKeyWrite value s) (Evolves s₀) :=
  (hs.wr.ite hs.violation).next

theorem Evolves.execStvChallenge (hs : Evolves s₀ s) {h a} : NextMeets (execStvChallenge h a s) (Evolves s₀) :=
  hs.badArg.next.ite (hs.complete.next.ite (hs.complete.next.ite (hs.complete.next.ite hs.emit.nextFresh.frame.complete.next)))

theorem Evolves.execChallengeExpiry (hs : Evolves s₀ s) : NextMeets (execChallengeExpiry s) (Evolves s₀) := (hs.frame.ite hs).next
theorem Evolves.execChallengeLockEnd (hs : Evolves s₀ s) : NextMeets (execChallengeLockEnd s) (Evolves s₀) := (hs.setB.frame.ite hs).next
theorem Evolves.revokeAll (hs : Evolves s₀ s) : Evolves s₀ (revokeAll s) := hs.setB.revokeNodes

theorem Evolves.lcTransition (hs : Evolves s₀ s) {new ownerHash} : Evolves s₀ (lcTransition s new ownerHash) :=
  ((hs.setF.foldl fun _ _ hu => hu.wr).ite hs.setF).revokeAll.wr.govLifeCycle.stvOpen.logEvent

theorem Evolves.drawNegative (hs : Evolves s₀ s) : Evolves s₀ (drawNegative s) := hs.frame.nextFresh.setB
theorem Evolves.tamperRelease (hs : Evolves s₀ s) : Evolves s₀ (tamperRelease s) := hs.drawNegative.setB.setF.stvOpen.logRec

theorem Evolves.respondDone (hs : Evolves s₀ s) {a c} : Evolves s₀ (respondDone s a c).1 := by
  unfold Machine.respondDone
  split
  · extract_lets u
    have hu : Evolves s₀ u := hs.wr
    exact hu.logEvent.pair
  · exact hs.tamperRelease.pair
  · exact hs.lcTransition.pair
  · extract_lets
    exact hs.emit.pair

theorem Evolves.execStvRespond (hs : Evolves s₀ s) {h a} : NextMeets (execStvRespond h a s) (Evolves s₀) := by
  unfold Machine.execStvRespond
  refine hs.badArg.next.ite (hs.complete.next.ite ?_)
  split
  · exact hs.complete.next
  · refine hs.complete.next.ite (hs.badArg.next.ite (hs.complete.next.ite (hs.complete.next.ite (hs.complete.next.ite ?_))))
    exact hs.frame.frame.respondDone.complete.next.ite (hs.frame.setB.ite hs.frame).frame.complete.next

theorem Evolves.tamperRespond (hs : Evolves s₀ s) {mask} : Evolves s₀ (tamperRespond s mask) :=
  (hs.setB.setB.wr.frame.foldl fun _ _ hu => hu.discardJob.ite hu).revokeAll.setB.logEvent

theorem Evolves.tamperEval (hs : Evolves s₀ s) : Evolves s₀ (tamperEval s) :=
  hs.ite (hs.setF.setB.frame.setB.setB.frame.lwWrite.wr.ite hs.setF.setB.frame.tamperRespond)

theorem Evolves.execStvTamper (hs : Evolves s₀ s) {raw} : NextMeets (execStvTamper raw s) (Evolves s₀) := hs.setF.tamperEval.next
theorem Evolves.tampCfgWrite (hs : Evolves s₀ s) {value} : Evolves s₀ (tampCfgWrite s value) := hs.regWrite.frame.tamperEval

/-! ### Ptp -/

theorem Evolves.setPtp (hs : Evolves s₀ s) {i x} : Evolves s₀ (setPtp s i x) := hs.frame
theorem Evolves.setPtpPort (hs : Evolves s₀ s) {i p x} : Evolves s₀ (setPtpPort s i p x) := hs.setPtp
theorem Evolves.tseSend (hs : Evolves s₀ s) {p ev bytes f} : Evolves s₀ (tseSend s p ev bytes f) := hs.tseOut.perf

theorem Evolves.ptpSend (hs : Evolves s₀ s) {i p len kind fields vlan oneStep to_} : Evolves s₀ (ptpSend s i p len kind fields vlan oneStep to_) :=
  hs.portAwake.tseSend

theorem Evolves.uniCount (hs : Evolves s₀ s) : Evolves s₀ (uniCount s) := hs.setF
theorem Evolves.setClient (hs : Evolves s₀ s) {e c} : Evolves s₀ (setClient s e c) := hs.frame.uniCount
theorem Evolves.putGrant (hs : Evolves s₀ s) {e g} : Evolves s₀ (putGrant s e g) := hs.setClient

theorem Evolves.grantRequest (hs : Evolves s₀ s) {i p m what log dur} : Evolves s₀ (grantRequest s i p m what log dur).1 := by
  unfold Machine.grantRequest
  extract_lets
  split
  · exact hs.inc.pair
  · extract_lets
    split
    · exact hs.inc.pair
    · exact hs.setClient.pair

theorem Evolves.sendCancels (hs : Evolves s₀ s) {g} : Evolves s₀ (sendCancels s g) := hs.foldl fun _ _ hu => hu.ptpSend.ite hu

theorem Evolves.cancelGrants (hs : Evolves s₀ s) {i} : Evolves s₀ (cancelGrants s i) := by
  unfold Machine.cancelGrants
  refine hs.foldl fun v _ hv => ?_
  split
  · exact hv.sendCancels.setClient.ite hv
  · exact hv

theorem Evolves.execPtpInstEnable (hs : Evolves s₀ s) {inst value} : NextMeets (execPtpInstEnable inst value s) (Evolves s₀) := by
  unfold Machine.execPtpInstEnable
  refine hs.violation.next.ite ?_
  extract_lets _ u _ _ u1 u2 u3 u4
  have hu : Evolves s₀ u := hs.regWrite
  have hu1 : Evolves s₀ u1 := hu.setF.setPtp
  have hu2 : Evolves s₀ u2 := hu1.foldl fun _ _ hu => hu.setPtpState
  have hu3 : Evolves s₀ u3 := hs.cancelGrants.setB
  have hu4 : Evolves s₀ u4 := hu3.setPtp
  exact (hu.setB.setF.violation.next.ite hu2.next).ite (hu4.setF.setF.next.ite hu.next)

theorem Evolves.uniRequest (hs : Evolves s₀ s) {i j what} : Evolves s₀ (uniRequest s i j what) := by
  unfold Machine.uniRequest
  split
  · exact hs
  · exact hs.ite hs.ptpSend

theorem Evolves.setParent (hs : Evolves s₀ s) {i f} : Evolves s₀ (setParent s i f) := by
  unfold Machine.setParent
  extract_lets _ _ u _ _ u1
  have hu : Evolves s₀ u := hs.setPtp
  have hu1 : Evolves s₀ u1 := hu.setPtp
  refine hu.ite ?_
  split
  · exact (hu1.foldl fun _ _ hu => hu.uniRequest.uniRequest).ite hu1
  · exact hu1

theorem Evolves.bmcaState (hs : Evolves s₀ s) {i p st} : Evolves s₀ (bmcaState s i p st) := (hs.ite hs.setPtp.setPtpState).ite hs.setPtpState

theorem Evolves.bmca (hs : Evolves s₀ s) {i} : Evolves s₀ (bmca s i) := by
  unfold Machine.bmca
  extract_lets
  split
  · exact hs.inc.setPtp.setParent.foldl fun _ _ hu => hu.setPtpState.ite (hu.setPtpState.ite hu.bmcaState)

theorem Evolves.execBmcaRun (hs : Evolves s₀ s) {inst} : NextMeets (execBmcaRun inst s) (Evolves s₀) := (hs.bmca.ite hs).next

theorem Evolves.execAnnounceReceiptTimeout (hs : Evolves s₀ s) {inst port_ pid} :
    NextMeets (execAnnounceReceiptTimeout inst port_ pid s) (Evolves s₀) :=
  hs.next.ite hs.setPtp.bmca.next

theorem Evolves.l1Report (hs : Evolves s₀ s) {i} : Evolves s₀ (l1Report s i) := hs.setF

theorem Evolves.execL1SyncSend (hs : Evolves s₀ s) {inst port_} : NextMeets (execL1SyncSend inst port_ s) (Evolves s₀) :=
  hs.next.ite hs.setPtpPort.ptpSend.l1Report.next

theorem Evolves.hearAnnounce (hs : Evolves s₀ s) {i p m a} : Evolves s₀ (hearAnnounce s i p m a) := hs.ite hs.setPtp

theorem Evolves.uniTlv (hs : Evolves s₀ s) {i p m x} : Evolves s₀ (uniTlv s i p m x) := by
  unfold Machine.uniTlv
  split
  · refine hs.ite ?_
    split
    · exact (hs.grantRequest.of_fst ‹_›).ptpSend
  · refine hs.foldl fun v _ hv => ?_
    split
    · exact hv.setPtp
    · exact hv
  · extract_lets u
    have hu : Evolves s₀ u := by
      unfold u
      split
      · exact hs.putGrant
      · refine hs.foldl fun v1 _ hv1 => ?_
        split
        · exact hv1.setPtp
        · exact hv1
    exact hu.ptpSend.ite hu
  · exact hs

theorem Evolves.ptpProcess (hs : Evolves s₀ s) {i p m} : Evolves s₀ (ptpProcess s i p m) := by
  unfold Machine.ptpProcess
  extract_lets
  split
  · exact hs.setPtpPort.ite hs
  · split
    · exact hs.setPtpPort.ite hs
    · exact hs
  · exact hs.setPtp.ite hs
  · exact hs.ite hs.setPtp
  · split
    · exact hs.setPtpPort.ite hs
    · exact hs
  · split
    · exact (hs.setPtpPort.ite hs.setPtpPort).ite hs
    · exact hs
  · split
    · exact hs.setPtpPort.ite hs
    · exact hs
  · exact hs.hearAnnounce
  · extract_lets u
    have hu : Evolves s₀ u := hs.foldl fun _ _ hu => hu.uniTlv
    split
    · exact hu.setPtpPort.l1Report
    · exact hu

theorem Evolves.execPtpMessageReceive (hs : Evolves s₀ s) {inst port_ m} : NextMeets (execPtpMessageReceive inst port_ m s) (Evolves s₀) :=
  hs.advance.next.ite (hs.advance.perf.inc.next.ite hs.advance.perf.ptpProcess.next)

theorem Evolves.sendSync (hs : Evolves s₀ s) {i p frac seq client} : Evolves s₀ (sendSync s i p frac seq client) :=
  hs.portAwake.ptpSend.ite hs.portAwake.ptpSend.setPtpPort

theorem Evolves.execPtpPeriodicSend (hs : Evolves s₀ s) {inst port_ what ticks frac room} :
    NextMeets (execPtpPeriodicSend inst port_ what ticks frac room s) (Evolves s₀) := by
  unfold Machine.execPtpPeriodicSend
  extract_lets u _ _ _ u1 _ u2 u3
  have hu : Evolves s₀ u := hs.advance
  have hu1 : Evolves s₀ u1 := hu.portAwake
  have hu2 : Evolves s₀ u2 := hu1.setPtpPort
  have hu3 : Evolves s₀ u3 := hu1.setPtpPort
  split
  · exact hu.next.ite hu.setPtpPort.ptpSend.next
  · exact hu.next.ite (hu.inc.next.ite hu.setPtpPort.sendSync.next)
  · exact hu.next.ite (hu.inc.next.ite hu2.ptpSend.next)
  · exact hu.next.ite (hu.inc.next.ite hu3.ptpSend.next)
  · split
    · refine hu.next.ite ?_
      split
      · exact hu.next
      · exact hu.setClient.ptpSend.next
    · exact hu.next
  · split
    · refine hu.next.ite ?_
      split
      · exact hu.next
      · exact hu.setClient.inc.next.ite hu.setClient.sendSync.next
    · exact hu.next

theorem Evolves.execFollowUpSend (hs : Evolves s₀ s) {inst port_} : NextMeets (execFollowUpSend inst port_ s) (Evolves s₀) := by
  unfold Machine.execFollowUpSend
  split
  · exact hs.next
  · extract_lets _ u
    have hu : Evolves s₀ u := hs.setPtpPort
    refine hu.next.ite ?_
    split
    · exact hu.ptpSend.next
    · split
      · exact hu.ptpSend.next
      · exact hu.next

theorem Evolves.execDelayRespSend (hs : Evolves s₀ s) {inst ticks frac inTime} :
    NextMeets (execDelayRespSend inst ticks frac inTime s) (Evolves s₀) := by
  unfold Machine.execDelayRespSend
  extract_lets u
  have hu : Evolves s₀ u := hs.advance
  split
  · exact hu.next
  · extract_lets u1 u2 _ _ u3
    have hu1 : Evolves s₀ u1 := hu.setPtp
    have hu2 : Evolves s₀ u2 := hu1.portAwake
    have hu3 : Evolves s₀ u3 := hu2.ptpSend
    exact hu1.inc.perf.next.ite (hu1.next.ite ((hu2.ptpSend.next.ite hu3.ptpSend.next).ite (hu1.next.ite hu1.ptpSend.next)))

theorem Evolves.ptpFeed (hs : Evolves s₀ s) {i} : Evolves s₀ (ptpFeed s i) := hs.setPtp.ite (hs.setPtp.foldl fun _ _ hu => hu.takeMeasAt.ite hu)
theorem Evolves.ptpFeeds (hs : Evolves s₀ s) {n} : Evolves s₀ (ptpFeeds s n) := hs.foldl fun _ _ hu => hu.ptpFeed.ite hu

theorem Evolves.execSlaveExchange (hs : Evolves s₀ s) {inst port_} : NextMeets (execSlaveExchange inst port_ s) (Evolves s₀) := by
  unfold Machine.execSlaveExchange
  extract_lets _ _ sync d
  refine hs.next.ite ?_
  clear_value d
  split
  · exact hs.next
  · extract_lets _ _ u u1
    have hu : Evolves s₀ u := hs.setPtpPort
    have hu1 : Evolves s₀ u1 := hu.setF.ite hu
    clear_value sync
    split
    · exact hu1.next
    · refine hu1.next.ite ?_
      exact ((hu1.setI.setPtp.setPtpState.ite hu1.setI.setPtp).setPtp.ite (hu1.setI.setPtp.setPtpState.ite hu1.setI.setPtp)).next

theorem Evolves.execGrantExpiry (hs : Evolves s₀ s) {entry what} : NextMeets (execGrantExpiry entry what s) (Evolves s₀) := by
  unfold Machine.execGrantExpiry
  split
  · exact (hs.putGrant.ite hs).next
  · exact hs.next

theorem Evolves.execUnicastRenew (hs : Evolves s₀ s) {inst slot what} : NextMeets (execUnicastRenew inst slot what s) (Evolves s₀) :=
  (hs.uniRequest.ite hs).next

theorem Evolves.execPtpClientFind (hs : Evolves s₀ s) {h a} : NextMeets (execPtpClientFind h a s) (Evolves s₀) := by
  unfold Machine.execPtpClientFind
  refine hs.badArg.next.ite (hs.complete.next.ite ?_)
  split
  · exact (hs.complete.ite hs.complete).next
  · exact hs.complete.next

theorem Evolves.execPtpClientCancel (hs : Evolves s₀ s) {h index} : NextMeets (execPtpClientCancel h index s) (Evolves s₀) := by
  unfold Machine.execPtpClientCancel
  refine hs.badArg.next.ite ?_
  split
  · exact hs.sendCancels.setClient.complete.next
  · exact hs.complete.next

theorem Evolves.execPtpKeyRoll (hs : Evolves s₀ s) {h inst} : NextMeets (execPtpKeyRoll h inst s) (Evolves s₀) := by
  unfold Machine.execPtpKeyRoll
  refine hs.badArg.next.ite (hs.complete.next.ite (hs.complete.next.ite (hs.badArg.next.ite ?_)))
  exact hs.complete.next.ite hs.setF.complete.next

theorem Evolves.execPtpUmaster (hs : Evolves s₀ s) {h a} : NextMeets (execPtpUmaster h a s) (Evolves s₀) := by
  unfold Machine.execPtpUmaster
  refine hs.badArg.next.ite (hs.complete.next.ite (hs.complete.next.ite (hs.badArg.next.ite ?_)))
  exact hs.complete.next.ite (hs.setPtp.uniRequest.ite hs.setPtp).complete.next

theorem Evolves.execPtpParentRead (hs : Evolves s₀ s) {h inst} : NextMeets (execPtpParentRead h inst s) (Evolves s₀) :=
  hs.badArg.next.ite (hs.complete.next.ite hs.complete.next)

theorem Evolves.altEpoch (hs : Evolves s₀ s) {i} : Evolves s₀ (altEpoch s i) := by
  unfold Machine.altEpoch
  extract_lets _ _ _ _ _ u _ _ _ _ u1 u2
  have hu : Evolves s₀ u := hs.setPtp
  have hu1 : Evolves s₀ u1 := hu.setPtp
  have hu2 : Evolves s₀ u2 := hu1.logEvent
  refine hu.ite ?_
  split
  · exact hu2.execTsSplice.of_eq ‹_›
  · exact hu2

theorem Evolves.altEpochs (hs : Evolves s₀ s) {n} : Evolves s₀ (altEpochs s n) := hs.foldl fun _ _ hu => hu.altEpoch.ite hu

/-! ### Ntp -/

theorem Evolves.setReplies (hs : Evolves s₀ s) {l} : Evolves s₀ (setReplies s l) := hs.frame

theorem Evolves.execNtpInstEnable (hs : Evolves s₀ s) {inst value} : NextMeets (execNtpInstEnable inst value s) (Evolves s₀) := by
  unfold Machine.execNtpInstEnable
  refine hs.violation.next.ite ?_
  exact (hs.regWrite.setB.setF.violation.next.ite hs.regWrite.setF.frame.next).ite (hs.regWrite.setReplies.next.ite hs.regWrite.next)

theorem Evolves.setBucket (hs : Evolves s₀ s) {b x} : Evolves s₀ (setBucket s b x) := hs.frame

/-- The pair is named before the function is unfolded: comparing its first half with the unfolded one would make the
kernel evaluate the bucket's arithmetic. -/
theorem Evolves.charge (hs : Evolves s₀ s) {family addr nts} :
    Evolves s₀ (charge s family addr nts).1 := by
  generalize hq : Machine.charge s family addr nts = q
  unfold Machine.charge at hq
  split at hq
  · extract_lets at hq
    split at hq
    · exact hq ▸ hs.setBucket.pair
    · exact hq ▸ hs.setBucket.pair
  · exact hq ▸ hs.pair

theorem Evolves.kodNote (hs : Evolves s₀ s) {family addr} : Evolves s₀ (kodNote s family addr) := hs.setBucket

theorem Evolves.ntpMonitor (hs : Evolves s₀ s) {i r nts overLim served nak kod} : Evolves s₀ (ntpMonitor s i r nts overLim served nak kod) := by
  unfold Machine.ntpMonitor
  refine .ite ?_ hs
  extract_lets _ _ found
  clear_value found
  split
  · exact hs
  · exact hs.setClient

theorem Evolves.addReply (hs : Evolves s₀ s) {i r t2 k} : Evolves s₀ (addReply s i r t2 k) := hs.frame

theorem Evolves.ntsProcess (hs : Evolves s₀ s) {i t2 r f} : Evolves s₀ (ntsProcess s i t2 r f) := by
  unfold Machine.ntsProcess
  split
  · exact hs.inc.ntpMonitor
  · exact hs.ntpMonitor.addReply.ite (hs.inc.ntpMonitor.ite hs.ntpMonitor.addReply.addJob)

theorem Evolves.overLimit (hs : Evolves s₀ s) {i t2 r nts} : Evolves s₀ (overLimit s i t2 r nts) :=
  hs.inc.ntpMonitor.ite hs.inc.kodNote.ntpMonitor.addReply

theorem Evolves.execNtpRequest (hs : Evolves s₀ s) {inst r} : NextMeets (execNtpRequest inst r s) (Evolves s₀) := by
  unfold Machine.execNtpRequest
  extract_lets u
  have hu : Evolves s₀ u := hs.advance
  refine hu.next.ite ?_
  split
  · exact hu.inc.next
  · extract_lets
    refine hu.charge.overLimit.next.ite ?_
    split
    · exact hu.charge.ntsProcess.next
    · exact hu.charge.ntpMonitor.addReply.next

theorem Evolves.execNtpRequestExpiry (hs : Evolves s₀ s) {id} : NextMeets (execNtpRequestExpiry id s) (Evolves s₀) := by
  unfold Machine.execNtpRequestExpiry
  split
  · exact hs.next
  · exact hs.next.ite hs.dropReply.inc.frame.perf.next

theorem Evolves.reserveLaunch (hs : Evolves s₀ s) {p t bytes} : Evolves s₀ (reserveLaunch s p t bytes) := hs.frame

theorem Evolves.countReply (hs : Evolves s₀ s) {r} : Evolves s₀ (countReply s r) := by
  unfold Machine.countReply
  extract_lets u
  have hu : Evolves s₀ u := hs.inc
  split
  · exact hu
  · exact hu.inc
  · exact hu.inc
  · exact hu.inc.perf

theorem Evolves.launchReply (hs : Evolves s₀ s) {r ready linkLost} : Evolves s₀ (launchReply s r ready linkLost) :=
  hs.dropReply.advance.inc.ite (hs.dropReply.advance.ite hs.dropReply.advance.setB.reserveLaunch.tseSend.countReply)

theorem Evolves.execNtpReplyLaunch (hs : Evolves s₀ s) {id ready linkLost} : NextMeets (execNtpReplyLaunch id ready linkLost s) (Evolves s₀) := by
  unfold Machine.execNtpReplyLaunch
  split
  · exact hs.next
  · split
    · exact hs.next.ite (hs.discardJob.freeNodes.next.ite hs.dropJob.launchReply.next)
    · exact hs.launchReply.next

theorem Evolves.retireNode (hs : Evolves s₀ s) {i} : Evolves s₀ (retireNode s i) := by
  unfold Machine.retireNode
  split
  · exact hs.setNode.freeNode
  · exact hs

theorem Evolves.holdEpoch (hs : Evolves s₀ s) {i e} : Evolves s₀ (holdEpoch s i e) := by
  unfold Machine.holdEpoch
  refine hs.ite ?_
  split
  · exact hs.ite hs.newNode
  · exact hs

theorem Evolves.rotateEpochs (hs : Evolves s₀ s) : Evolves s₀ (rotateEpochs s) :=
  ((hs.foldl fun _ _ hu => hu.ite hu.retireNode).foldl fun _ _ hu => hu.holdEpoch).stvCount.ite hs

theorem Evolves.execNtsEpochRotation (hs : Evolves s₀ s) {ticks} : NextMeets (execNtsEpochRotation ticks s) (Evolves s₀) :=
  hs.advance.rotateEpochs.next

theorem Evolves.setCookieRoot (hs : Evolves s₀ s) {value} : Evolves s₀ (setCookieRoot s value) :=
  ((hs.foldl fun _ _ hu => hu.retireNode).ite hs).wr.setB.setB.stvCount.rotateEpochs

theorem Evolves.execNtsCookieRootWrite (hs : Evolves s₀ s) {value} : NextMeets (execNtsCookieRootWrite value s) (Evolves s₀) :=
  hs.setCookieRoot.next.ite (hs.next.ite hs.violation.next)

theorem Evolves.execNtsCookieMint (hs : Evolves s₀ s) {h a} : NextMeets (execNtsCookieMint h a s) (Evolves s₀) := by
  unfold Machine.execNtsCookieMint
  refine hs.badArg.next.ite (hs.complete.next.ite (hs.complete.next.ite (hs.complete.next.ite (hs.complete.next.ite ?_))))
  exact hs.complete.next.ite (hs.complete.next.ite hs.begins.addJob.next)

theorem Evolves.execNtpRlQuery (hs : Evolves s₀ s) {h a} : NextMeets (execNtpRlQuery h a s) (Evolves s₀) := hs.badArg.next.ite hs.complete.next
theorem Evolves.setPeer (hs : Evolves s₀ s) {j x} : Evolves s₀ (setPeer s j x) := hs.frame.setB

theorem Evolves.execNtpPeerPoll (hs : Evolves s₀ s) {peer_ ticks} : NextMeets (execNtpPeerPoll peer_ ticks s) (Evolves s₀) :=
  hs.advance.next.ite hs.advance.advance.setB.reserveLaunch.tseSend.setPeer.next

theorem Evolves.peerKiss (hs : Evolves s₀ s) {j refid} : Evolves s₀ (peerKiss s j refid) := hs.setF.setF.ite (hs.setF.setPeer.logRec.ite hs.setF)
theorem Evolves.peerFeed (hs : Evolves s₀ s) {j x unc t} : Evolves s₀ (peerFeed s j x unc t) := hs.foldl fun _ _ hu => hu.takeMeasAt.ite hu

theorem Evolves.execNtpPeerReply (hs : Evolves s₀ s) {peer_ r} : NextMeets (execNtpPeerReply peer_ r s) (Evolves s₀) := by
  unfold Machine.execNtpPeerReply
  extract_lets u
  have hu : Evolves s₀ u := hs.advance
  refine hu.next.ite (hu.peerKiss.next.ite ?_)
  split
  · exact hu.next
  · exact hu.next.ite hu.setPeer.setF.setF.peerFeed.next

theorem Evolves.execNtpPeerEnableWrite (hs : Evolves s₀ s) {peer_ value} : NextMeets (execNtpPeerEnableWrite peer_ value s) (Evolves s₀) :=
  hs.violation.next.ite (hs.regWrite.wr.setF.setPeer.next.ite (hs.regWrite.setPeer.next.ite hs.regWrite.next))

theorem Evolves.execNtpPeerRead (hs : Evolves s₀ s) {h peer_} : NextMeets (execNtpPeerRead h peer_ s) (Evolves s₀) :=
  hs.badArg.next.ite (hs.complete.next.ite hs.complete.next)

theorem Evolves.drrPick (hs : Evolves s₀ s) : ∀ q ∈ drrPick s, Evolves s₀ q.2 := by
  intro q hq
  unfold Machine.drrPick at hq
  split at hq
  · cases hq; exact hs
  · cases hq; exact hs.frame
  · cases hq; exact hs.frame
  · cases hq
  · extract_lets kh kn at hq
    split at hq
    · cases hq; exact hs.frame
    · cases hq; exact hs.frame

theorem Evolves.nakReply (hs : Evolves s₀ s) {id} : Evolves s₀ (nakReply s id) := hs.setReplies
theorem Evolves.startReply (hs : Evolves s₀ s) {id} : Evolves s₀ (startReply s id) := hs.setReplies

theorem Evolves.grantJob (hs : Evolves s₀ s) {lane j} : Evolves s₀ (grantJob s lane j) := by
  unfold Machine.grantJob
  split
  · split
    · exact hs.dropJob.nakReply
    · exact hs.dropJob
    · exact hs.discardJob
  · extract_lets _ u u1
    have hu : Evolves s₀ u := hs.frame
    have hu1 : Evolves s₀ u1 := hu.perf
    split
    · exact hu1.startReply
    · exact hu1

theorem Evolves.vacateLane (hs : Evolves s₀ s) {lane} : Evolves s₀ (vacateLane s lane) := by
  unfold Machine.vacateLane
  split
  · split
    · exact hs.ite hs.dropJob
    · exact hs
  · exact hs

/-! ### Twin -/

theorem Evolves.ranEvent (hs : Evolves s₀ s) {b} : Evolves s₀ (ranEvent s b) := hs.setF

theorem Evolves.ranSend (hs : Evolves s₀ s) {kind fields} : Evolves s₀ (ranSend s kind fields) := by
  unfold Machine.ranSend
  refine hs.ite ?_
  split
  · exact hs.emit
  · exact hs.frame.emit

theorem Evolves.sendClaim (hs : Evolves s₀ s) : Evolves s₀ (sendClaim s) := hs.ranSend.ite hs
theorem Evolves.blockedEval (hs : Evolves s₀ s) : Evolves s₀ (blockedEval s) := (hs.ranEvent.ite hs).setB
theorem Evolves.roleSet (hs : Evolves s₀ s) {new} : Evolves s₀ (roleSet s new) := (hs.setF.ranEvent.ite (hs.setF.ranEvent.ite hs.setF)).logEvent
theorem Evolves.followEnd (hs : Evolves s₀ s) : Evolves s₀ (followEnd s) := hs.ite (hs.setEns.tsTransition.ite (hs.ite hs.coastEntry))
theorem Evolves.bumpSequences (hs : Evolves s₀ s) : Evolves s₀ (bumpSequences s) := hs.frame
theorem Evolves.enterLead (hs : Evolves s₀ s) : Evolves s₀ (enterLead s) := hs.roleSet.incF.setB.setB.followEnd.bumpSequences.frame

theorem Evolves.permEval (hs : Evolves s₀ s) : Evolves s₀ (permEval s) := by
  unfold Machine.permEval
  extract_lets _ u u1 u2 _ u3
  have hu : Evolves s₀ u := hs.setB.setB
  have hu1 : Evolves s₀ u1 := hu.enterLead.ite hu
  have hu2 : Evolves s₀ u2 := hs.setB.setB
  have hu3 : Evolves s₀ u3 := hu2.frame
  exact hs.blockedEval.ite (hu1.blockedEval.cueSettle.sendClaim.ite hu3.cueCutAll.blockedEval.sendClaim)

/-- The function is unfolded without its arguments: unfolded at a state, the kernel would evaluate `permEval` to
compare the two sides. -/
theorem Evolves.fence (hs : Evolves s₀ s) {cause} :
    Evolves s₀ (fence s cause) := by
  suffices h : ∀ f, f = @Machine.fence → Evolves s₀ (f s cause) from h _ rfl
  intro f hf
  delta Machine.fence at hf
  subst hf
  beta_reduce
  extract_lets -underBinder _ u u1 u2 u3
  have hu3 : Evolves s₀ u3 := (hs.roleSet.incF.followEnd.ite hs.roleSet.incF).setF.setB.setB.permEval
  clear_value u3
  split
  · exact hu3.frame.sentTo.finish.ite hu3
  · exact hu3

theorem Evolves.fenceLead (hs : Evolves s₀ s) {cause} : Evolves s₀ (fenceLead s cause) := hs.fence.ite hs
theorem Evolves.raise (hs : Evolves s₀ s) : Evolves s₀ (raise s) := hs.ite (hs.logRec.ite hs.setF.setF.setB.frame.sendClaim.permEval)
theorem Evolves.followState (hs : Evolves s₀ s) : Evolves s₀ (followState s) := hs.ite (hs.ite (hs.coastEntry.ite hs.tsTransition))
theorem Evolves.enterStandIn (hs : Evolves s₀ s) : Evolves s₀ (enterStandIn s) := hs.roleSet.setB.setB.frame.setEns.followState.permEval

theorem Evolves.ranEnterRun (hs : Evolves s₀ s) : Evolves s₀ (ranEnterRun s) := by
  unfold Machine.ranEnterRun
  refine hs.permEval.ite ?_
  extract_lets _ u u1 _ u2 u3
  have hu : Evolves s₀ u := hs.setF
  have hu1 : Evolves s₀ u1 := hu.setB.ranEvent.logRec.ite hu
  have hu2 : Evolves s₀ u2 := hu1.frame
  have hu3 : Evolves s₀ u3 := hu2.setF.setF
  exact hu2.enterStandIn.ite (hu3.roleSet.followEnd.ite hu3.roleSet).permEval

theorem Evolves.followBound (hs : Evolves s₀ s) : Evolves s₀ (followBound s) := by
  unfold Machine.followBound
  split
  · exact hs
  · exact hs.reportBound

theorem Evolves.followEval (hs : Evolves s₀ s) : Evolves s₀ (followEval s) := hs.ite (hs.followState.ite hs.followState.followBound)
theorem Evolves.alignEval (hs : Evolves s₀ s) {theta} : Evolves s₀ (alignEval s theta) := hs.frame.setB

theorem Evolves.markExchange (hs : Evolves s₀ s) : Evolves s₀ (markExchange s) := by
  unfold Machine.markExchange
  split
  · split
    · exact hs
    · exact hs.ite (hs.frame.ite hs.frame.frame.setI.setF.setF.alignEval.followEval)
  · exact hs

theorem Evolves.execMarkSend (hs : Evolves s₀ s) {ticks frac} : NextMeets (execMarkSend ticks frac s) (Evolves s₀) :=
  hs.advance.next.ite hs.advance.ranSend.frame.markExchange.next

theorem Evolves.execMarkArrival (hs : Evolves s₀ s) {ticks frac} : NextMeets (execMarkArrival ticks frac s) (Evolves s₀) :=
  hs.advance.next.ite hs.advance.frame.markExchange.next

theorem Evolves.execFollowModeUpdate (hs : Evolves s₀ s) : NextMeets (execFollowModeUpdate s) (Evolves s₀) := by
  unfold Machine.execFollowModeUpdate
  split
  · exact hs.next
  · exact hs.next.ite hs.frame.loadSlew.applyIncr.next

theorem Evolves.execRanLaneState (hs : Evolves s₀ s) {lane up training} : NextMeets (execRanLaneState lane up training s) (Evolves s₀) :=
  hs.next.ite (hs.setF.setF.frame.next.ite (hs.setF.setF.ranEvent.setB.next.ite hs.setF.setF.next))

theorem Evolves.lanesDown (hs : Evolves s₀ s) : Evolves s₀ (lanesDown s) := by
  unfold Machine.lanesDown
  refine hs.foldl fun v _ hv => ?_
  split
  · exact hv.execRanLaneState.of_eq ‹_›
  · exact hv

theorem Evolves.execAp0Loss (hs : Evolves s₀ s) {oscMissing phiLoss} : NextMeets (execAp0Loss oscMissing phiLoss s) (Evolves s₀) :=
  (hs.ap0Lost.portsAp0Lost.lanesDown.fenceLead.ite hs.ap0Lost).next

theorem Evolves.execClaimSend (hs : Evolves s₀ s) : NextMeets (execClaimSend s) (Evolves s₀) := hs.sendClaim.next
theorem Evolves.execStateSend (hs : Evolves s₀ s) : NextMeets (execStateSend s) (Evolves s₀) := hs.ranSend.next.ite hs.next

theorem Evolves.claimArrive (hs : Evolves s₀ s) {b} : Evolves s₀ (claimArrive s b) := by
  unfold Machine.claimArrive
  extract_lets _ _ _ u u1 u2 u3 _ u4 u5 u6 _ u7
  have hu : Evolves s₀ u := hs.frame
  have hu1 : Evolves s₀ u1 := hu.setB.setF
  have hu2 : Evolves s₀ u2 := hu1.setF
  have hu3 : Evolves s₀ u3 := hu2.setF
  have hu4 : Evolves s₀ u4 := hu3.frame.ite hu2
  have hu5 : Evolves s₀ u5 := hu4.ranEvent.ite hu4
  have hu6 : Evolves s₀ u6 := hu5.setB
  have hu7 : Evolves s₀ u7 := hu6.fence.ite (hu6.fence.ite (hu6.raise.ite (hu6.enterStandIn.ite hu6)))
  exact hu7.permEval.followEval

theorem Evolves.adoptLeap (hs : Evolves s₀ s) {b} : Evolves s₀ (adoptLeap s b) := hs.ite hs.setI.setB.wr.logRec
theorem Evolves.sheetCompare (hs : Evolves s₀ s) {b} : Evolves s₀ (sheetCompare s b) := (hs.ranEvent.logRec.ite hs).setB

theorem Evolves.stateArrive (hs : Evolves s₀ s) {b} : Evolves s₀ (stateArrive s b) := by
  unfold Machine.stateArrive
  extract_lets _ u u1 u2
  have hu : Evolves s₀ u := hs.frame
  have hu1 : Evolves s₀ u1 := hu.adoptLeap.sheetCompare
  have hu2 : Evolves s₀ u2 := (hu1.ite hu1.setB).ite (hu.sheetCompare.ite hu)
  exact hu2.markExchange.followEval

theorem Evolves.mirrorArrive (hs : Evolves s₀ s) {i e} : Evolves s₀ (mirrorArrive s i e) := hs.ite hs.setClient.frame
theorem Evolves.sweepArrive (hs : Evolves s₀ s) : Evolves s₀ (sweepArrive s) := hs.ite (hs.setB.ite hs).frame

theorem Evolves.keywrapArrive (hs : Evolves s₀ s) {key op gen w} : Evolves s₀ (keywrapArrive s key op gen w) :=
  hs.ite ((hs.revokeNodes.setB.frame.ite hs).ite ((hs.setB.ite hs).setB.ite (hs.setB.ite hs).addJob))

theorem Evolves.silence (hs : Evolves s₀ s) : Evolves s₀ (silence s) := hs.frame.setB.raise.permEval.followState.ite hs
theorem Evolves.silenceEval (hs : Evolves s₀ s) : Evolves s₀ (silenceEval s) := hs.silence.ite hs

theorem Evolves.frameArrive (hs : Evolves s₀ s) {f} : Evolves s₀ (frameArrive f s) := by
  unfold Machine.frameArrive
  extract_lets u
  have hu : Evolves s₀ u := hs.advance.silenceEval
  refine hu.ite (hu.incF.ite ?_)
  split
  · exact hu.incF
  · exact hu.claimArrive
  · exact hu.stateArrive
  · exact hu.mirrorArrive
  · exact hu.keywrapArrive
  · exact hu.raise.ite hu
  · exact hu.sweepArrive

theorem Evolves.execPeerSilence (hs : Evolves s₀ s) {ticks} : NextMeets (execPeerSilence ticks s) (Evolves s₀) := hs.advance.silenceEval.next

theorem Evolves.execClaimRaise (hs : Evolves s₀ s) : NextMeets (execClaimRaise s) (Evolves s₀) := by
  unfold Machine.execClaimRaise
  refine Evolves.next ?_
  split
  · exact hs.raise.ite hs
  · exact hs.raise.ite hs

theorem Evolves.execPeerLeadNChange (hs : Evolves s₀ s) {asserted ticks} : NextMeets (execPeerLeadNChange asserted ticks s) (Evolves s₀) :=
  hs.advance.setB.frame.permEval.next

theorem Evolves.execDrivePermissionChange (hs : Evolves s₀ s) {ticks} : NextMeets (execDrivePermissionChange ticks s) (Evolves s₀) :=
  hs.advance.permEval.next

theorem Evolves.execJoinWaitEnd (hs : Evolves s₀ s) : NextMeets (execJoinWaitEnd s) (Evolves s₀) := by
  unfold Machine.execJoinWaitEnd
  refine hs.next.ite ?_
  extract_lets _ u
  have hu : Evolves s₀ u := hs.frame
  refine Evolves.next ?_
  refine hu.ite ?_
  split
  · exact hu.raise
  · exact hu.raise.ite hu

theorem Evolves.execAutoRejoin (hs : Evolves s₀ s) : NextMeets (execAutoRejoin s) (Evolves s₀) := (hs.enterStandIn.ite hs).next
theorem Evolves.gradeTrigger (hs : Evolves s₀ s) : Evolves s₀ (gradeTrigger s) := hs.frame.ite (hs.frame.raise.ite hs.frame)
theorem Evolves.execRanTmoWrite (hs : Evolves s₀ s) {value} : NextMeets (execRanTmoWrite value s) (Evolves s₀) := hs.regWrite.silenceEval.next
theorem Evolves.boundRelease (hs : Evolves s₀ s) {n} : Evolves s₀ (boundRelease s n) := hs.ite hs.frame

theorem Evolves.execEnsembleEpoch (hs : Evolves s₀ s) {ts lead} : NextMeets (execEnsembleEpoch ts lead s) (Evolves s₀) := by
  unfold Machine.execEnsembleEpoch
  refine hs.next.ite ?_
  exact (hs.ptpFeeds.ensembleEpoch.altEpochs.boundRelease.gradeTrigger.ite hs.ptpFeeds.ensembleEpoch.altEpochs.boundRelease).next

theorem Evolves.execMirrorSend (hs : Evolves s₀ s) : NextMeets (execMirrorSend s) (Evolves s₀) := by
  unfold Machine.execMirrorSend
  refine hs.next.ite ?_
  split
  · exact hs.frame.ranSend.next
  · exact hs.frame.ranSend.next.ite hs.frame.ranSend.next

theorem Evolves.execKeywrapSend (hs : Evolves s₀ s) {key} : NextMeets (execKeywrapSend key s) (Evolves s₀) :=
  hs.next.ite (hs.frame.ranSend.next.ite (hs.next.ite (hs.next.ite hs.frame.addJob.next)))

theorem Evolves.raninJob (hs : Evolves s₀ s) {j} : Evolves s₀ (raninJob s j) := by
  unfold Machine.raninJob
  extract_lets u _ u1 u2
  have hu : Evolves s₀ u := hs.dropJob
  have hu1 : Evolves s₀ u1 := hu.revokeNodes
  have hu2 : Evolves s₀ u2 := hu1.frame.ite hu
  split
  · split
    · exact hu.ranSend
    · exact hu.inc
  · refine hu.ite (hu.frame.ite ?_)
    split
    · exact hu2
    · exact hu2.newNode.setCookieRoot.setB.frame
  · exact hu

theorem Evolves.execAesJobGrant (hs : Evolves s₀ s) {lane} : NextMeets (execAesJobGrant lane s) (Evolves s₀) := by
  unfold Machine.execAesJobGrant
  extract_lets u
  have hu : Evolves s₀ u := hs.vacateLane
  split
  · exact hu.next
  · split
    · exact hu.next
    · rename_i j t hp
      have ht : Evolves s₀ t := hu.drrPick (j, t) hp
      exact ht.perf.raninJob.next.ite ht.grantJob.next

theorem Evolves.execRanHandback (hs : Evolves s₀ s) {h} : NextMeets (execRanHandback h s) (Evolves s₀) :=
  hs.badArg.next.ite (hs.complete.next.ite (hs.complete.next.ite hs.begins.frame.ranSend.next))

theorem Evolves.handbackEnd (hs : Evolves s₀ s) : Evolves s₀ (handbackEnd s) := by
  unfold Machine.handbackEnd
  split
  · exact hs
  · exact hs.ite hs.frame.finish

theorem Evolves.execRanRejoin (hs : Evolves s₀ s) {h} : NextMeets (execRanRejoin h s) (Evolves s₀) :=
  hs.badArg.next.ite (hs.complete.next.ite (hs.complete.next.ite hs.enterStandIn.complete.next))

theorem Evolves.execRanPeerRead (hs : Evolves s₀ s) {h addr} : NextMeets (execRanPeerRead h addr s) (Evolves s₀) := by
  unfold Machine.execRanPeerRead
  refine hs.badArg.next.ite ?_
  split
  · exact hs.complete.next
  · exact hs.emit.complete.next

/-! ### HostIf -/

theorem Evolves.ringError (hs : Evolves s₀ s) {r err} : Evolves s₀ (ringError s r err) := hs.setF.setF.logEvent

theorem Evolves.execHostRingEnable (hs : Evolves s₀ s) {ring_ value} : NextMeets (execHostRingEnable ring_ value s) (Evolves s₀) := by
  unfold Machine.execHostRingEnable
  refine hs.violation.next.ite ?_
  extract_lets _ u _ u1 u2 u3
  have hu : Evolves s₀ u := hs.regWrite
  have hu1 : Evolves s₀ u1 := hu.setB.setF.setF
  have hu2 : Evolves s₀ u2 := hu1.wr.setB
  have hu3 : Evolves s₀ u3 := hu2.setF.ite hu2
  exact hs.regWrite.next.ite (hu.next.ite (hu.violation.next.ite (hu.setF.violation.next.ite hu3.setRing.next)))

theorem Evolves.ringDisable (hs : Evolves s₀ s) {r} : Evolves s₀ (ringDisable s r) := hs.setB.setF.setB
theorem Evolves.nopRun (hs : Evolves s₀ s) {h} : Evolves s₀ (nopRun s h) := hs.guarded hs.complete
theorem Evolves.execNop (hs : Evolves s₀ s) {h} : NextMeets (execNop h s) (Evolves s₀) := hs.nopRun.next

theorem Evolves.abortRun (hs : Evolves s₀ s) {h a} : Evolves s₀ (abortRun s h a) := by
  unfold Machine.abortRun
  refine hs.badArg.ite ?_
  split
  · exact hs.complete
  · exact hs.setRing.complete.complete
  · split
    · exact hs.frame.finish.complete
    · exact hs.setRing

theorem Evolves.execAbort (hs : Evolves s₀ s) {h a} : NextMeets (execAbort h a s) (Evolves s₀) := hs.abortRun.next
theorem Evolves.execUnassignedOpcode (hs : Evolves s₀ s) {h op} : NextMeets (execUnassignedOpcode h op s) (Evolves s₀) := hs.badArg.next

theorem Evolves.rxdStop (hs : Evolves s₀ s) {r} : Evolves s₀ (rxdStop s r) := by
  unfold Machine.rxdStop
  extract_lets _ u
  have hu : Evolves s₀ u := by
    unfold u
    refine hs.foldl fun v1 _ hv1 => ?_
    split
    · exact hv1
    · split
      · exact hv1
      · exact hv1.stageDrop.ite hv1.frame.rxComplete
  exact hu.setRing.foldl fun _ _ hu => hu.cplQueue

theorem Evolves.txdStop (hs : Evolves s₀ s) {r} : Evolves s₀ (txdStop s r) := hs.abortChains.setRing

theorem Evolves.execRingStop (hs : Evolves s₀ s) {h stopRing} : NextMeets (execRingStop h stopRing s) (Evolves s₀) := by
  unfold Machine.execRingStop
  extract_lets _ _ u u1 _ u2
  have hu : Evolves s₀ u := hs.setRing
  have hu1 : Evolves s₀ u1 := hs.setF.begins
  have hu2 : Evolves s₀ u2 := hu1.setRing
  refine hs.badArg.next.ite (hs.complete.next.ite (hs.badArg.next.ite (hs.complete.next.ite (hs.complete.next.ite ?_))))
  refine hu.complete.ringDisable.next.ite (hs.complete.next.ite ?_)
  refine Evolves.next ?_
  split
  · exact hu2.txdStop
  · exact hu2.rxdStop
  · exact hu2

theorem Evolves.execRingDrainDone (hs : Evolves s₀ s) {ring_} : NextMeets (execRingDrainDone ring_ s) (Evolves s₀) := by
  unfold Machine.execRingDrainDone
  refine hs.next.ite ?_
  split
  · exact hs.ringDisable.next
  · exact hs.ringDisable.setRing.finish.next

theorem Evolves.doorbell (hs : Evolves s₀ s) {e} : Evolves s₀ (doorbell s e) :=
  hs.ite (hs.ringError.ite ((hs.ringError.ite (hs.ite hs.setB.setRing).setRing).ite hs.setRing))

theorem Evolves.fetched (hs : Evolves s₀ s) {r} : Evolves s₀ (fetched s r) := hs.setF.perf

theorem Evolves.fetchCmd (hs : Evolves s₀ s) {e} : Evolves s₀ (fetchCmd s e) := by
  unfold Machine.fetchCmd
  extract_lets _ _ _ u
  have hu : Evolves s₀ u := hs.fetched
  refine .ite ?_ hs
  split
  · exact hu.nopRun.perf
  · exact hu.abortRun.perf
  · exact hu.setRing

theorem Evolves.fetchTxd (hs : Evolves s₀ s) {e} : Evolves s₀ (fetchTxd s e) := hs.fetched.setRing.ite hs
theorem Evolves.fetchRxd (hs : Evolves s₀ s) {e} : Evolves s₀ (fetchRxd s e) := (hs.fetched.ringError.ite hs.fetched.setRing).ite hs

theorem Evolves.execDoorbellPoll (hs : Evolves s₀ s) {entries cmds txds rxds} :
    NextMeets (execDoorbellPoll entries cmds txds rxds s) (Evolves s₀) := by
  unfold Machine.execDoorbellPoll
  refine hs.next.ite ?_
  extract_lets u _ u1 u2 u3 _ u4
  have hu : Evolves s₀ u := hs.perf
  have hu1 : Evolves s₀ u1 := hu.foldl fun _ _ hu => hu.doorbell
  have hu2 : Evolves s₀ u2 := ((hu1.foldl fun _ _ hu => hu.fetchCmd).foldl fun _ _ hu => hu.fetchTxd).foldl fun _ _ hu => hu.fetchRxd
  have hu3 : Evolves s₀ u3 := hu2.foldl fun _ _ hu => hu.stageRing.ite hu
  have hu4 : Evolves s₀ u4 := hu3.setF
  exact hu4.frame.next

theorem Evolves.execHostNudge (hs : Evolves s₀ s) {_value polling} : NextMeets (execHostNudge _value polling s) (Evolves s₀) :=
  hs.setF.perf.frame.next

theorem Evolves.execCompletionWrite (hs : Evolves s₀ s) {ring_} : NextMeets (execCompletionWrite ring_ s) (Evolves s₀) := by
  unfold Machine.execCompletionWrite
  split
  · exact hs.next
  · exact hs.setRing.cplWrite.next.ite hs.next

theorem Evolves.signal (hs : Evolves s₀ s) {r} : Evolves s₀ (signal s r) := hs.setB.setB.ite hs.setB.emit

theorem Evolves.execRingInterrupt (hs : Evolves s₀ s) {ring_ byTime} : NextMeets (execRingInterrupt ring_ byTime s) (Evolves s₀) :=
  (hs.signal.ite hs).next

theorem Evolves.execMsixUnmask (hs : Evolves s₀ s) {vector} : NextMeets (execMsixUnmask vector s) (Evolves s₀) :=
  hs.next.ite (hs.setB.setB.emit.ite hs.setB).next

theorem Evolves.execHostDmaError (hs : Evolves s₀ s) {access} : NextMeets (execHostDmaError access s) (Evolves s₀) := by
  unfold Machine.execHostDmaError
  extract_lets u u1
  have hu : Evolves s₀ u := hs.inc
  have hu1 : Evolves s₀ u1 := hu.setF
  split
  · exact (hu.ringError.ite hu).next
  · exact (hu.ringError.ite hu).next
  · refine Evolves.next ?_
    refine hu.incF.ite ?_
    split
    · exact hu.inc
    · exact hu
  · exact (hu1.ite hu1.frame.event).next

theorem Evolves.txtsEmpty (hs : Evolves s₀ s) {p} : Evolves s₀ (txtsEmpty s p) := hs.setPort.setF

theorem Evolves.execFunctionLevelReset (hs : Evolves s₀ s) {linkDown} : NextMeets (execFunctionLevelReset linkDown s) (Evolves s₀) :=
  ((hs.filter.ite hs.filter.wr).foldl fun _ _ hu => hu.txtsEmpty).next

theorem Evolves.execBusMasterEnableChange (hs : Evolves s₀ s) {enable width speed} :
    NextMeets (execBusMasterEnableChange enable width speed s) (Evolves s₀) :=
  ((hs.setB.ite hs.setB.setB.setF.setF).foldl fun _ _ hu => hu.areaFlush).next.ite hs.setB.next

/-! ### RegWrite -/

theorem Evolves.writeTime (hs : Evolves s₀ s) {r v} : ∀ u ∈ writeTime s r v, Evolves s₀ u := by
  unfold Machine.writeTime
  split
  · exact hs.execTsEnableWrite.nextOr.some
  · exact hs.execTsIncrLoWrite.nextOr.some
  · exact hs.execTsIncrHiWrite.nextOr.some
  · exact hs.execTsRefCfgWrite.nextOr.some
  · exact hs.execOscCoeffWrite.nextOr.some
  · exact hs.execOscCoeffWrite.nextOr.some
  · exact hs.execOscCoeffWrite.nextOr.some
  · exact hs.execOscCoeffWrite.nextOr.some
  · exact hs.execTsEfcCodeWrite.nextOr.some
  · exact hs.execAvsTrackEnableWrite.nextOr.some
  · exact Evolves.none

theorem Evolves.writeClocks (hs : Evolves s₀ s) {r v} : ∀ u ∈ writeClocks s r v, Evolves s₀ u := by
  unfold Machine.writeClocks
  split
  · exact hs.execClapChRidxWrite.nextOr.some
  · exact hs.execClapLimitLoWrite.nextOr.some
  · exact hs.execClapLimitLoWrite.nextOr.some
  · exact hs.execClapLimitHiWrite.nextOr.some
  · exact hs.execClapLimitHiWrite.nextOr.some
  · exact hs.execDpCfgWrite.nextOr.some
  · exact hs.execApCfgWrite.nextOr.some
  · exact hs.execApSsWrite.nextOr.some
  · exact hs.regWrite.dpEvalAll.some
  · exact hs.regWrite.dpEvalAll.some
  · exact hs.regWrite.dpEvalAll.some
  · exact (hs.regWrite.setB.ite hs.regWrite).dpEvalAll.some
  · exact hs.outCfgWrite.some
  · exact hs.outCfgWrite.some
  · exact hs.outCfgWrite.some
  · exact hs.outCfgWrite.some
  · exact hs.outCfgWrite.some
  · exact hs.outFineWrite.some
  · exact hs.execCuePinCfgWrite.nextOr.some
  · exact hs.captureRidx.some
  · exact Evolves.none

theorem Evolves.writeServices (hs : Evolves s₀ s) {r v} : ∀ u ∈ writeServices s r v, Evolves s₀ u := by
  unfold Machine.writeServices
  split
  · exact hs.execGnssPortEnableWrite.nextOr.some
  · exact hs.execGnssNcoLoWrite.nextOr.some
  · exact hs.execGnssNcoLoWrite.nextOr.some
  · exact hs.execGnssNcoCommit.nextOr.some
  · exact hs.execGnssNcoCommit.nextOr.some
  · exact hs.execGnssCodeAdjWrite.nextOr.some
  · exact hs.areaRidx.some
  · exact hs.areaRidx.some
  · exact hs.execPortCfgWrite.nextOr.some
  · exact hs.portAdjWrite.some
  · exact hs.portAdjWrite.some
  · exact hs.areaRidx.some
  · exact hs.areaRidx.some
  · exact hs.execPtpInstEnable.nextOr.some
  · exact hs.execNtpInstEnable.nextOr.some
  · exact hs.execNtpPeerEnableWrite.nextOr.some
  · exact hs.execNtsCookieRootWrite.nextOr.some
  · exact Evolves.none

theorem Evolves.writeSystem (hs : Evolves s₀ s) {r v} : ∀ u ∈ writeSystem s r v, Evolves s₀ u := by
  unfold Machine.writeSystem
  split
  · exact hs.execStvPairKeyWrite.nextOr.some
  · exact hs.tampCfgWrite.some
  · exact hs.execRanTmoWrite.nextOr.some
  · exact hs.regWrite.permEval.some
  · exact hs.execHostRingEnable.nextOr.some
  · exact hs.execHostNudge.nextOr.some
  · exact (hs.regWrite.ite hs.execMsixUnmask.nextOr).some
  · exact Evolves.none

theorem Evolves.hostWrite (hs : Evolves s₀ s) {r v} : Evolves s₀ (hostWrite s r v) := by
  unfold Machine.hostWrite
  extract_lets o u
  have ho : ∀ u ∈ o, Evolves s₀ u := .orElse (.orElse hs.writeTime hs.writeClocks) (.orElse hs.writeServices hs.writeSystem)
  have hu : Evolves s₀ u := .getD ho hs.regWrite
  exact hu.setB.ite hu

theorem Evolves.barWrite (hs : Evolves s₀ s) {a v} : Evolves s₀ (barWrite s a v) := by
  unfold Machine.barWrite
  refine hs.ite ?_
  split
  · exact hs.violation
  · exact hs.hostWrite

theorem Evolves.execRegisterWrite (hs : Evolves s₀ s) {offset value} : NextMeets (execRegisterWrite offset value s) (Evolves s₀) := hs.barWrite.next

theorem Evolves.execW1cWrite (hs : Evolves s₀ s) {offset value set} : NextMeets (execW1cWrite offset value set s) (Evolves s₀) := by
  unfold Machine.execW1cWrite
  extract_lets u
  have hu : Evolves s₀ u := hs.barWrite
  split
  · exact (hu.wr.ite hu).next
  · exact hu.next

theorem Evolves.execRcRead (hs : Evolves s₀ s) {offset concurrent} : NextMeets (execRcRead offset concurrent s) (Evolves s₀) := by
  unfold Machine.execRcRead
  split
  · exact hs.next
  · exact hs.next.ite (hs.execPortCounterRead.nextOr.portCount.next.ite (hs.emit.wr.next.ite hs.next))

theorem Evolves.execBarAccessRefused (hs : Evolves s₀ s) {access} : NextMeets (execBarAccessRefused access s) (Evolves s₀) :=
  hs.next.ite (hs.violation.next.ite hs.emit.next)

/-! ### Firmware -/

theorem Evolves.execFwStage (hs : Evolves s₀ s) {h a} : NextMeets (execFwStage h a s) (Evolves s₀) :=
  hs.badArg.next.ite (hs.complete.next.ite (hs.complete.next.ite hs.begins.frame.next))

theorem Evolves.fwWritten (hs : Evolves s₀ s) {good} : Evolves s₀ (fwWritten s good) := by
  unfold Machine.fwWritten
  split
  · exact hs
  · exact hs.frame.emit.finish.ite hs.frame.finish

theorem Evolves.execFwSelect (hs : Evolves s₀ s) {h slot} : NextMeets (execFwSelect h slot s) (Evolves s₀) :=
  hs.badArg.next.ite (hs.complete.next.ite hs.frame.complete.next)

theorem Evolves.execFwConfirm (hs : Evolves s₀ s) {h} : NextMeets (execFwConfirm h s) (Evolves s₀) :=
  hs.badArg.next.ite (hs.complete.next.ite hs.frame.setB.complete.next)

theorem Evolves.setPlugin (hs : Evolves s₀ s) {i p} : Evolves s₀ (setPlugin s i p) := hs.frame

theorem Evolves.pluginStop (hs : Evolves s₀ s) {i cause} : Evolves s₀ (pluginStop s i cause) := by
  unfold Machine.pluginStop
  split
  · exact hs.setPlugin.logEvent.ite hs
  · exact hs

theorem Evolves.execPluginCtl (hs : Evolves s₀ s) {h id op} : NextMeets (execPluginCtl h id op s) (Evolves s₀) := by
  unfold Machine.execPluginCtl
  refine hs.badArg.next.ite ?_
  split
  · exact hs.complete.next
  · exact hs.pluginStop.complete.next.ite (hs.badArg.next.ite hs.setPlugin.complete.next)

theorem Evolves.execFwPluginFault (hs : Evolves s₀ s) {id cause} : NextMeets (execFwPluginFault id cause s) (Evolves s₀) :=
  (hs.pluginStop.ite hs).next

theorem Evolves.execPluginKernelCall (hs : Evolves s₀ s) {id call} : NextMeets (execPluginKernelCall id call s) (Evolves s₀) := by
  unfold Machine.execPluginKernelCall
  split
  · exact hs.next
  · refine hs.next.ite (hs.pluginStop.next.ite ?_)
    split
    · exact hs.barWrite.next
    · exact hs.spoofRaise.next
    · exact hs.logPut.sentTo.next
    · exact (hs.governorRefuses.ite hs).next

theorem Evolves.execGovPermit (hs : Evolves s₀ s) {h ts} : NextMeets (execGovPermit h ts s) (Evolves s₀) := by
  unfold Machine.execGovPermit
  refine hs.badArg.next.ite (hs.complete.next.ite (hs.complete.next.ite (hs.badArg.next.ite (hs.deniedBy.next.ite ?_))))
  exact hs.complete.next.ite hs.permitLapse.nextFresh.setPermit.permitEvent.sentTo.complete.next

theorem Evolves.execPermitExpiry (hs : Evolves s₀ s) {ts} : NextMeets (execPermitExpiry ts s) (Evolves s₀) := hs.permitLapse.next

theorem Evolves.setProfile (hs : Evolves s₀ s) {p} : Evolves s₀ (setProfile s p) :=
  hs.ite (hs.setF.avsWrite.setF.frame.gnssCoast.ite (hs.setF.avsWrite.setF.frame.gnssCoast.ite hs.setF.avsWrite.setF.frame)).event

theorem Evolves.execProfileSet (hs : Evolves s₀ s) {h profile} : NextMeets (execProfileSet h profile s) (Evolves s₀) :=
  hs.badArg.next.ite (hs.deniedBy.next.ite hs.setProfile.complete.next)

theorem Evolves.perfOvfEvent (hs : Evolves s₀ s) {c} : Evolves s₀ (perfOvfEvent s c) := hs.event.ite hs

theorem Evolves.execPerfOvf (hs : Evolves s₀ s) {counter} : NextMeets (execPerfOvf counter s) (Evolves s₀) :=
  hs.next.ite (hs.frame.perfOvfEvent.next.ite (hs.setPerfCount.perfOverflow.perfOvfEvent.next.ite hs.next))

theorem Evolves.perfLatch (hs : Evolves s₀ s) {c} : Evolves s₀ (perfLatch s c) := hs.frame.frame.ite hs.frame

theorem Evolves.execPerfCntRead (hs : Evolves s₀ s) {counter user} : NextMeets (execPerfCntRead counter user s) (Evolves s₀) :=
  hs.next.ite (hs.violation.emit.next.ite (hs.ite hs.perfLatch).emit.next)

theorem Evolves.sampleDrain (hs : Evolves s₀ s) : Evolves s₀ (sampleDrain s).1 := by
  unfold Machine.sampleDrain
  extract_lets
  split
  · exact hs.pair
  · split
    · exact hs.frame.cplWrite.pair
    · exact hs.pair

theorem Evolves.sampleFlush (hs : Evolves s₀ s) {n} : Evolves s₀ (sampleFlush n s) := by
  induction n generalizing s with
  | zero => exact hs
  | succ n ih => exact (ih hs.sampleDrain).ite hs

theorem Evolves.execPerfSample (hs : Evolves s₀ s) {h op} : NextMeets (execPerfSample h op s) (Evolves s₀) :=
  hs.badArg.next.ite (hs.complete.next.ite (hs.complete.next.ite (hs.sampleFlush.ite hs.frame).complete.next))

theorem Evolves.execPerfSampleRecord (hs : Evolves s₀ s) {r} : NextMeets (execPerfSampleRecord r s) (Evolves s₀) :=
  hs.next.ite (hs.inc.frame.next.ite hs.frame.next)

theorem Evolves.execPerfSampleDrain (hs : Evolves s₀ s) : NextMeets (execPerfSampleDrain s) (Evolves s₀) := hs.sampleDrain.next

/-! ### LogWrap -/

theorem Evolves.retireSegment (hs : Evolves s₀ s) {g} : Evolves s₀ (retireSegment s g) := hs.ite hs.frame.perf.setF.setF.setB.logEvent
theorem Evolves.streamCopy (hs : Evolves s₀ s) {r} : Evolves s₀ (streamCopy s r) := hs.areaProduce.ite hs

theorem Evolves.logWaiter (hs : Evolves s₀ s) {q kept} : Evolves s₀ (logWaiter s q kept) := by
  unfold Machine.logWaiter
  split
  · exact hs
  · exact hs.frame.finish

theorem Evolves.recordWrite (hs : Evolves s₀ s) : Evolves s₀ (recordWrite s).1 := by
  unfold Machine.recordWrite
  split
  · exact hs.pair
  · extract_lets _ u
    have hu : Evolves s₀ u := hs.frame
    split
    · exact hu.inc.logWaiter.pair
    · exact hu.frame.streamCopy.logWaiter.pair

theorem Evolves.wordFailed (hs : Evolves s₀ s) {q} : Evolves s₀ (wordFailed s q) := by
  unfold Machine.wordFailed
  split
  · exact hs
  · exact hs.frame.setLwValid.mediaDead

theorem Evolves.execLogRecordWrite (hs : Evolves s₀ s) {cellBad wordBad} : NextMeets (execLogRecordWrite cellBad wordBad s) (Evolves s₀) := by
  unfold Machine.execLogRecordWrite
  split
  · exact hs.next
  · extract_lets _ u
    have hu : Evolves s₀ u := by
      unfold u
      split
      · exact hs.recordWrite.retireSegment.ite hs.recordWrite
      · exact hs.recordWrite
    exact (hu.wordFailed.ite hu).next

theorem Evolves.execLogScrub (hs : Evolves s₀ s) {cell corrected bad} : NextMeets (execLogScrub cell corrected bad s) (Evolves s₀) :=
  hs.next.ite (hs.retireSegment.next.ite (hs.perf.ite hs).next)

theorem Evolves.recordFlush (hs : Evolves s₀ s) {n} : Evolves s₀ (recordFlush n s) := by
  induction n generalizing s with
  | zero => exact hs
  | succ n ih => exact hs.ite (ih hs.recordWrite)

theorem Evolves.putRecords (hs : Evolves s₀ s) {addr l} : Evolves s₀ (putRecords s addr l) := by
  induction l generalizing s addr with
  | nil => exact hs
  | cons r l ih => exact ih hs.emit

theorem Evolves.execLogRead (hs : Evolves s₀ s) {h a} : NextMeets (execLogRead h a s) (Evolves s₀) :=
  hs.badArg.next.ite (hs.recordFlush.putRecords.foldl fun _ _ hu => hu.retireSegment).complete.next

theorem Evolves.execLogWrite (hs : Evolves s₀ s) {h a} : NextMeets (execLogWrite h a s) (Evolves s₀) :=
  hs.badArg.next.ite (hs.logPut.sentTo.complete.next.ite hs.logPut.sentTo.begins.frame.next)

theorem Evolves.execLwRead (hs : Evolves s₀ s) {h addr bad} : NextMeets (execLwRead h addr bad s) (Evolves s₀) :=
  hs.badArg.next.ite (hs.complete.next.ite (hs.mediaDead.complete.next.ite hs.emit.complete.next))

theorem Evolves.execLwClear (hs : Evolves s₀ s) {h mask} : NextMeets (execLwClear h mask s) (Evolves s₀) :=
  hs.badArg.next.ite (hs.complete.next.ite (hs.foldl fun _ _ hu => hu.frame.setLwValid).complete.next)

theorem Evolves.execRtcLoad (hs : Evolves s₀ s) {ticks} : NextMeets (execRtcLoad ticks s) (Evolves s₀) := hs.advance.frame.next.ite hs.advance.next
theorem Evolves.runSet (hs : Evolves s₀ s) {new} : Evolves s₀ (runSet s new) := hs.setB.setF.logEvent
theorem Evolves.blockRes (hs : Evolves s₀ s) {b result full us} : Evolves s₀ (blockRes s b result full us) := hs.setF.setB.setF.setF
theorem Evolves.wrapBegin (hs : Evolves s₀ s) : Evolves s₀ (wrapBegin s) := (hs.setB.foldl fun _ _ hu => hu.blockRes).frame

theorem Evolves.blockEnd (hs : Evolves s₀ s) {b full fail us sev} : Evolves s₀ (blockEnd s b full fail us sev) :=
  hs.blockRes.logRec.frame.ite hs.blockRes.logRec

theorem Evolves.blockReset (hs : Evolves s₀ s) {b} : Evolves s₀ (blockReset s b) := by
  unfold Machine.blockReset
  extract_lets u
  have hu : Evolves s₀ u := hs.filter
  split
  · exact hu.frame
  · exact hu.frame
  · exact hu.frame
  · exact hu.frame
  · exact hu.frame
  · exact hu.frame
  · exact hu.frame
  · exact hu.frame
  · exact hu.frame
  · exact hu.frame
  · exact hu.frame
  · exact hu

theorem Evolves.execWrapBlockSlice (hs : Evolves s₀ s) {fail} : NextMeets (execWrapBlockSlice fail s) (Evolves s₀) := by
  unfold Machine.execWrapBlockSlice
  split
  · exact hs.next
  · exact hs.next.ite (hs.frame.next.ite hs.blockEnd.blockReset.frame.next)

theorem Evolves.wrapEnd (hs : Evolves s₀ s) {full} : Evolves s₀ (wrapEnd s full) := hs.setF.setF.frame.setB.setB.setB.runSet

theorem Evolves.execWrapTestEnd (hs : Evolves s₀ s) : NextMeets (execWrapTestEnd s) (Evolves s₀) := by
  unfold Machine.execWrapTestEnd
  split
  · exact hs.next
  · exact (hs.ite hs.wrapEnd).next

theorem Evolves.idleFail (hs : Evolves s₀ s) {kind i} : Evolves s₀ (idleFail s kind i) := (hs.frame.setF.setF.logRec.ite hs.frame.setF).logEvent

theorem Evolves.idleEnd (hs : Evolves s₀ s) {outcome} : Evolves s₀ (idleEnd s outcome) := by
  unfold Machine.idleEnd
  split
  · exact hs
  · extract_lets _ _ u u1
    have hu : Evolves s₀ u := hs.frame
    have hu1 : Evolves s₀ u1 := hu.idleFail.ite hu
    split
    · exact hu1
    · split
      · exact hu1.finish
      · exact hu1.finish
      · exact hu1.finish

theorem Evolves.execIdleSlice (hs : Evolves s₀ s) {index outcome} : NextMeets (execIdleSlice index outcome s) (Evolves s₀) := by
  unfold Machine.execIdleSlice
  split
  · split
    · exact hs.next
    · exact hs.next.ite hs.idleEnd.next
  · extract_lets
    refine hs.next.ite ?_
    split
    · exact hs.next
    · exact hs.frame.next.ite hs.next

theorem Evolves.execIdleSlicePreempt (hs : Evolves s₀ s) : NextMeets (execIdleSlicePreempt s) (Evolves s₀) := hs.idleEnd.next

theorem Evolves.execBistIdleRun (hs : Evolves s₀ s) {h kind index} : NextMeets (execBistIdleRun h kind index s) (Evolves s₀) :=
  hs.badArg.next.ite (hs.complete.next.ite (hs.complete.next.ite (hs.complete.next.ite hs.begins.frame.next)))

/-! ### Sheets -/

theorem Evolves.sheetSync (hs : Evolves s₀ s) : Evolves s₀ (sheetSync s) := hs.wr.wr.wr.setB.setB.setB.setB
theorem Evolves.directoryWrite (hs : Evolves s₀ s) : Evolves s₀ (directoryWrite s) := hs.frame.emit.sheetSync

theorem Evolves.execCshtStage (hs : Evolves s₀ s) {h a} : NextMeets (execCshtStage h a s) (Evolves s₀) := by
  unfold Machine.execCshtStage
  refine hs.badArg.next.ite ?_
  split
  · exact hs.complete.next
  · exact hs.complete.next.ite (hs.complete.next.ite (hs.complete.next.ite hs.begins.frame.next))

theorem Evolves.sheetWritten (hs : Evolves s₀ s) {good} : Evolves s₀ (sheetWritten s good) := by
  unfold Machine.sheetWritten
  split
  · exact hs
  · exact hs.frame.finish.ite hs.frame.emit.frame.directoryWrite.finish

theorem Evolves.execQspiWriteDone (hs : Evolves s₀ s) {sheet good} : NextMeets (execQspiWriteDone sheet good s) (Evolves s₀) :=
  (hs.sheetWritten.ite hs.fwWritten).next

theorem Evolves.applyGov {may x b v} (hs : Evolves s₀ x.1) : Evolves s₀ (applyGov may x b v).1 := by
  unfold Machine.applyGov
  split
  · extract_lets
    exact hs.govApply.pair
  · exact hs.violation.pair

theorem Evolves.applyWrite {x r w} (hs : Evolves s₀ x.1) : Evolves s₀ (applyWrite x r w).1 := by
  unfold Machine.applyWrite
  extract_lets _ u
  have hu : Evolves s₀ u := hs.wr.hostWrite
  exact hu.wr.pair

theorem Evolves.applyEntry {may x e} (hs : Evolves s₀ x.1) : Evolves s₀ (applyEntry may x e).1 := by
  unfold Machine.applyEntry
  split
  · exact hs.violation.pair
  · split
    · exact hs.applyGov
    · exact hs.applyWrite

theorem Evolves.applyUcal {x es} (hs : Evolves s₀ x.1) : Evolves s₀ (applyUcal x es).1 := by
  unfold Machine.applyUcal
  exact hs.foldlFst fun _ _ hu => hu.applyWrite.pair

theorem Evolves.applyWindows {x} (hs : Evolves s₀ x.1) : Evolves s₀ (applyWindows x).1 := by
  unfold Machine.applyWindows
  exact hs.foldlFst fun _ _ hu => hu.clampWindow.pair

theorem Evolves.applyGovs {may x gs} (hs : Evolves s₀ x.1) : Evolves s₀ (applyGovs may x gs).1 := by
  unfold Machine.applyGovs
  refine hs.foldlFst fun v _ hv => ?_
  refine hv.foldlFst fun v1 _ hv1 => ?_
  split
  · exact hv1.applyGov
  · exact hv1

theorem Evolves.sheetApply (hs : Evolves s₀ s) {sh} : Evolves s₀ (sheetApply s sh).1 := by
  unfold Machine.sheetApply
  extract_lets
  exact (hs.pair.applyGovs.applyWindows.applyUcal.foldlFst fun _ _ hu => hu.applyEntry).applyWindows

theorem Evolves.countApply {x} (hs : Evolves s₀ x.1) : Evolves s₀ (countApply x) := hs.inc.inc.setB

theorem Evolves.commitNow (hs : Evolves s₀ s) {h a} : Evolves s₀ (commitNow s h a) := by
  unfold Machine.commitNow
  split
  · exact hs.finish
  · exact (hs.sentTo.frame.directoryWrite.setB.ite hs.sentTo.frame.directoryWrite).setB.sheetApply.countApply.wr.setB.frame

theorem Evolves.commitAt (hs : Evolves s₀ s) {h a} : Evolves s₀ (commitAt s h a) := by
  unfold Machine.commitAt
  split
  · exact hs.finish
  · exact hs.commitNow

theorem Evolves.execCshtCommit (hs : Evolves s₀ s) {h a} : NextMeets (execCshtCommit h a s) (Evolves s₀) := by
  unfold Machine.execCshtCommit
  refine hs.badArg.next.ite (hs.complete.next.ite (hs.badArg.next.ite ?_))
  split
  · exact hs.complete.next
  · exact hs.complete.next.ite (hs.begins.commitNow.next.ite hs.begins.atTsWait.next)

theorem Evolves.execCshtApplyEnd (hs : Evolves s₀ s) : NextMeets (execCshtApplyEnd s) (Evolves s₀) := by
  unfold Machine.execCshtApplyEnd
  split
  · exact hs.next
  · extract_lets u _ u1 _ _ u2 u3
    have hu : Evolves s₀ u := hs.setB
    have hu1 : Evolves s₀ u1 := hu.frame
    have hu2 : Evolves s₀ u2 := by
      unfold u2
      split
      · exact hu1.finish
      · exact hu1
    have hu3 : Evolves s₀ u3 := by
      unfold u3
      split
      · exact hu1.finish
      · exact hu1
    exact hu2.logEvent.next.ite hu3.logEvent.next

theorem Evolves.execCshtConfirm (hs : Evolves s₀ s) {h version} : NextMeets (execCshtConfirm h version s) (Evolves s₀) := by
  unfold Machine.execCshtConfirm
  refine hs.badArg.next.ite (hs.complete.next.ite (hs.complete.next.ite ?_))
  extract_lets _ u u1
  have hu : Evolves s₀ u := hs.frame.directoryWrite
  have hu1 : Evolves s₀ u1 := by
    unfold u1
    split
    · exact hu.floorRaise.ite hu
    · exact hu
  exact hu1.logEvent.complete.next

theorem Evolves.revertRoles (hs : Evolves s₀ s) {cause} : Evolves s₀ (revertRoles s cause) := hs.frame.directoryWrite.setF

theorem Evolves.revertNow (hs : Evolves s₀ s) {h cause} : Evolves s₀ (revertNow s h cause) := by
  unfold Machine.revertNow
  extract_lets _ u _ u1 _ _ u2 _ u3
  have hu : Evolves s₀ u := hs.revertRoles
  have hu1 : Evolves s₀ u1 := hu.setB.ite hu
  have hu2 : Evolves s₀ u2 := (hu1.setB.pair.foldlFst fun _ _ hu => hu.applyEntry).applyWindows.applyUcal.countApply
  have hu3 : Evolves s₀ u3 := hu2.wr.setB
  exact hu3.frame

theorem Evolves.execCshtRevert (hs : Evolves s₀ s) {h expected} : NextMeets (execCshtRevert h expected s) (Evolves s₀) :=
  hs.badArg.next.ite (hs.complete.next.ite (hs.complete.next.ite (hs.complete.next.ite hs.begins.revertNow.next)))

theorem Evolves.execCshtDeadlineWarn (hs : Evolves s₀ s) : NextMeets (execCshtDeadlineWarn s) (Evolves s₀) := (hs.frame.logEvent.ite hs).next
theorem Evolves.execConfirmDeadlineExpiry (hs : Evolves s₀ s) : NextMeets (execConfirmDeadlineExpiry s) (Evolves s₀) := (hs.revertNow.ite hs).next

theorem Evolves.execCshtRead (hs : Evolves s₀ s) {h a} : NextMeets (execCshtRead h a s) (Evolves s₀) := by
  unfold Machine.execCshtRead
  refine hs.badArg.next.ite ?_
  extract_lets q
  clear_value q
  split
  · exact hs.complete.next
  · exact hs.badArg.next.ite hs.emit.complete.next

/-! ### Power -/

/-- The kept registers are a filter of the ones before, and the fold of the kept fields runs on top of that filter. -/
theorem Evolves.deviceReset (hs : Evolves s₀ s) {cause} :
    Evolves s₀ (deviceReset s cause) := by
  unfold Machine.deviceReset
  extract_lets _ kept u
  have hu : Evolves kept u := (Evolves.foldl (.refl _) fun _ _ hu => hu.setF).setF
  exact Evolves.emit ⟨fun h => (hu.canonical (regsWf_filter _ (hs.canonical h))).update.update, hs.pending⟩

theorem Evolves.execResetNAssert (hs : Evolves s₀ s) : NextMeets (execResetNAssert s) (Evolves s₀) := (hs.ite hs.frame.deviceReset).next
theorem Evolves.brownoutRecord (hs : Evolves s₀ s) {rails} : Evolves s₀ (brownoutRecord s rails) := hs.lwWrite.wr

theorem Evolves.execBrownout (hs : Evolves s₀ s) {rails} : NextMeets (execBrownout rails s) (Evolves s₀) := by
  unfold Machine.execBrownout
  extract_lets _ _ u _ _ _ _ u1 u2
  have hu : Evolves s₀ u := hs.setF
  have hu1 : Evolves s₀ u1 := hu.frame
  have hu2 : Evolves s₀ u2 := hu1.ite hu1.setB.incF.brownoutRecord
  exact hs.next.ite (hu2.ite hu2.deviceReset).next

theorem Evolves.execRailBackInRange (hs : Evolves s₀ s) {rail} : NextMeets (execRailBackInRange rail s) (Evolves s₀) := (hs.setF.ite hs).next
theorem Evolves.lastWordsCopy (hs : Evolves s₀ s) : Evolves s₀ (lastWordsCopy s) := hs.foldl fun _ _ hu => hu.frame.wr

theorem Evolves.bootStavris (hs : Evolves s₀ s) {b} : Evolves s₀ (bootStavris s b) := by
  unfold Machine.bootStavris
  extract_lets u _ u1 _ u2 u3 _ u4
  have hu : Evolves s₀ u := hs.setB
  have hu1 : Evolves s₀ u1 := hs.trngFails
  have hu2 : Evolves s₀ u2 := hu.frame.ite hu1.frame
  have hu3 : Evolves s₀ u3 := hu2.setB
  have hu4 : Evolves s₀ u4 := hu3.frame
  exact hu4.ite (hu2.setB.ite (hu4.drawNegative.setB.logEvent.ite hu4))

theorem Evolves.fwRun (hs : Evolves s₀ s) {k x trial} : Evolves s₀ (fwRun s k x trial) := hs.frame.wr.setF.setB.event

theorem Evolves.bootFirmware (hs : Evolves s₀ s) {b} : Evolves s₀ (bootFirmware s b) := by
  unfold Machine.bootFirmware
  extract_lets _ u _ _ _ xp xq _ u1 _ u2 u3 u4
  have hu : Evolves s₀ u := hs.frame
  have hu1 : Evolves s₀ u1 := hu.frame.ite hu
  have hu2 : Evolves s₀ u2 := hu.frame
  have hu3 : Evolves s₀ u3 := hu2.logRec
  have hu4 : Evolves s₀ u4 := hu.logRec
  split
  · clear_value xp
    split
    · exact hu1.fwRun
    · exact hu1
  · refine .ite ?_ hu4.frame
    clear_value xq
    split
    · exact hu3.fwRun
    · exact hu3

theorem Evolves.bootRevert (hs : Evolves s₀ s) : Evolves s₀ (bootRevert s) := hs.revertRoles.logEvent

theorem Evolves.bootPick (hs : Evolves s₀ s) {l rej} : Evolves s₀ (bootPick l s rej).1 := by
  induction l generalizing s rej with
  | nil => exact hs
  | cons ok l ih =>
    rw [Machine.bootPick]
    split
    · exact hs
    · split
      · exact hs
      · exact ih hs.bootRevert

theorem Evolves.bootSheet (hs : Evolves s₀ s) {b} : Evolves s₀ (bootSheet s b) := by
  unfold Machine.bootSheet
  extract_lets _ _ u _ u1 u2
  have hu : Evolves s₀ u := hs.bootRevert.ite (hs.frame.directoryWrite.ite hs.sheetSync)
  have hu1 : Evolves s₀ u1 := hu.bootPick
  have hu2 : Evolves s₀ u2 := hu1.ite hu1.setB.logRec
  split
  · exact hu2.logRec
  · exact hu2.foldl fun _ _ hu => hu.wr.ite hu.violation

theorem Evolves.bootClock (hs : Evolves s₀ s) : Evolves s₀ (bootClock s) := hs.nextFresh.frame.apStart.execApLocked.nextOr.shclkStart.dpEvalAll
theorem Evolves.resFromSummary (hs : Evolves s₀ s) {w} : Evolves s₀ (resFromSummary s w) := hs.foldl fun _ _ hu => hu.setF.setB.setF

theorem Evolves.bootSelfTest (hs : Evolves s₀ s) {b} : Evolves s₀ (bootSelfTest s b) := by
  unfold Machine.bootSelfTest
  extract_lets _ u u1 u2 u3
  have hu : Evolves s₀ u := by
    unfold u
    refine .ite ?_ (hs.foldl fun _ _ hu => hu.ite hu.blockEnd)
    split
    · exact hs.resFromSummary
    · exact hs
  have hu1 : Evolves s₀ u1 := hu.setF.setF
  have hu2 : Evolves s₀ u2 := hu1.setF
  have hu3 : Evolves s₀ u3 := hu2.event
  exact hu3.frame.ite hu3

theorem Evolves.bootPlugins (hs : Evolves s₀ s) {b} : Evolves s₀ (bootPlugins s b) := hs.foldl fun _ _ hu => hu.setPlugin.ite hu.setPlugin.logEvent

theorem Evolves.bootSetup (hs : Evolves s₀ s) {b} : Evolves s₀ (bootSetup s b) := by
  unfold Machine.bootSetup
  extract_lets u u1 u2 u3 u4 u5
  have hu : Evolves s₀ u := hs.runSet
  have hu1 : Evolves s₀ u1 := by
    unfold u1
    split
    · exact hu
    · exact hu.sheetApply.countApply.wr
  have hu2 : Evolves s₀ u2 := hu1.setProfile.setB
  have hu3 : Evolves s₀ u3 := hu2.bootPlugins.event
  have hu4 : Evolves s₀ u4 := hu3.ite hu3.setB.event
  have hu5 : Evolves s₀ u5 := hu4.setB.event.ite hu4
  exact hu5.frame.permEval

theorem Evolves.batteryLost (hs : Evolves s₀ s) : Evolves s₀ (batteryLost s) :=
  (hs.wr.wr.wr.setF.setB.setB.setB.frame.setF.setB.ite hs.wr.wr.wr.setF.setB.setB.setB.frame.setF).ite hs

theorem Evolves.execBootSequence (hs : Evolves s₀ s) {b} : NextMeets (execBootSequence b s) (Evolves s₀) := by
  unfold Machine.execBootSequence
  refine hs.next.ite ?_
  extract_lets u _ u1 u2 u3 _ _ u4 u5 u6 _ u7 u8 u9
  have hu : Evolves s₀ u := hs.wr
  have hu1 : Evolves s₀ u1 := hu.frame.ite hs
  have hu2 : Evolves s₀ u2 := hu1.ite hu1.batteryLost
  have hu3 : Evolves s₀ u3 := hu2.setB
  have hu4 : Evolves s₀ u4 := hu3.frame
  have hu5 : Evolves s₀ u5 := hu4.setF
  have hu6 : Evolves s₀ u6 := hu5.wr.ite hu5
  have hu7 : Evolves s₀ u7 := hu6.frame
  have hu8 : Evolves s₀ u8 := hu7.setF.lastWordsCopy.runSet.tamperEval.bootStavris.bootFirmware
  have hu9 : Evolves s₀ u9 := hu8.bootSheet.bootClock.bootSelfTest
  exact hu8.next.ite (hu9.next.ite hu9.stvOpen.floorBoot.bootSetup.next)

theorem Evolves.bootOutputs (hs : Evolves s₀ s) : Evolves s₀ (bootOutputs s) := by
  unfold Machine.bootOutputs
  extract_lets _ _ u
  have hu : Evolves s₀ u := by
    unfold u
    refine hs.foldl fun v1 _ hv1 => ?_
    split
    · exact hv1.logRec
    · exact hv1
  exact hu.foldl fun _ _ hu => hu.outArm.ite hu.outArm.setF

theorem Evolves.seedTs0 (hs : Evolves s₀ s) : Evolves s₀ (seedTs0 s) := hs.loadTime.ite hs

theorem Evolves.enterRun (hs : Evolves s₀ s) : Evolves s₀ (enterRun s) :=
  (hs.frame.runSet.setF.frame.ite hs.frame.runSet.setF).seedTs0.ranEnterRun.bootOutputs.ite hs.frame.runSet.ranEnterRun

theorem Evolves.execAutoRun (hs : Evolves s₀ s) : NextMeets (execAutoRun s) (Evolves s₀) := (hs.enterRun.ite hs).next

theorem Evolves.stopServices (hs : Evolves s₀ s) : Evolves s₀ (stopServices s) := by
  unfold Machine.stopServices
  extract_lets u u1
  have hu : Evolves s₀ u := hs.foldl fun _ _ hu => hu.execPtpInstEnable.nextOr
  have hu1 : Evolves s₀ u1 := hu.foldl fun _ _ hu => hu.execNtpInstEnable.nextOr
  exact hu1.foldl fun _ _ hu => hu.execNtpPeerEnableWrite.nextOr

theorem Evolves.stopOutputs (hs : Evolves s₀ s) : Evolves s₀ (stopOutputs s) :=
  ((hs.foldl fun _ _ hu => hu.ite hu.outStopped).foldl fun _ _ hu => hu.ite hu.cueFinish).cueSettle

theorem Evolves.stopLinks (hs : Evolves s₀ s) : Evolves s₀ (stopLinks s) := by
  unfold Machine.stopLinks
  extract_lets u u1
  have hu : Evolves s₀ u := hs.foldl fun _ _ hu => hu.execPortCfgWrite.nextOr
  have hu1 : Evolves s₀ u1 := hu.foldl fun _ _ hu => hu.execRanLaneState.nextOr
  exact hu1.gnssDown.ite hu1.setF

theorem Evolves.stopRings (hs : Evolves s₀ s) : Evolves s₀ (stopRings s) := by
  unfold Machine.stopRings
  refine hs.foldl fun v _ hv => ?_
  refine hv.ringDisable.ite (hv.ite ?_)
  extract_lets u1
  have hu1 : Evolves s₀ u1 := hv.setF
  split
  · exact hu1.txdStop
  · exact hu1.rxdStop
  · exact hu1

theorem Evolves.shutdownFence (hs : Evolves s₀ s) : Evolves s₀ (shutdownFence s) := (hs.fence.ite hs.setF).sendClaim

theorem Evolves.shutdownRest (hs : Evolves s₀ s) {h lead} : Evolves s₀ (shutdownRest s h lead) :=
  (hs.shutdownFence.ite hs).stopServices.stopOutputs.stopLinks.revokeAll.runSet.permEval.finish.stopRings.wrapBegin

theorem Evolves.shutdownResume (hs : Evolves s₀ s) : Evolves s₀ (shutdownResume s) := by
  unfold Machine.shutdownResume
  split
  · exact hs.frame.shutdownRest.ite hs
  · exact hs

theorem Evolves.shutdownBegin (hs : Evolves s₀ s) {h} : Evolves s₀ (shutdownBegin s h) := hs.begins.frame.ranSend.ite hs.begins.shutdownRest

theorem Evolves.execRunState (hs : Evolves s₀ s) {h target} : NextMeets (execRunState h target s) (Evolves s₀) := by
  unfold Machine.execRunState
  extract_lets
  refine hs.badArg.next.ite (hs.complete.next.ite (hs.badArg.next.ite (hs.deniedBy.next.ite (hs.complete.next.ite ?_))))
  split
  · exact hs.enterRun.complete.next
  · exact hs.runSet.complete.next
  · exact hs.shutdownBegin.next

theorem Evolves.execRanFrameReceive (hs : Evolves s₀ s) {f} : NextMeets (execRanFrameReceive f s) (Evolves s₀) := hs.frameArrive.shutdownResume.next
theorem Evolves.execHandbackTimeout (hs : Evolves s₀ s) : NextMeets (execHandbackTimeout s) (Evolves s₀) := hs.handbackEnd.shutdownResume.next
theorem Evolves.thermalRuns (hs : Evolves s₀ s) {tj} : Evolves s₀ (thermalRuns s tj) := hs.foldl fun _ _ hu => hu.frame
theorem Evolves.thermalShed (hs : Evolves s₀ s) {old new} : Evolves s₀ (thermalShed s old new) := hs.gnssShed.portThermal.ite (hs.gnssShed.ite hs)
theorem Evolves.thermalSafe (hs : Evolves s₀ s) {old new} : Evolves s₀ (thermalSafe s old new) := hs.frame.setB.runSet.ite (hs.runSet.ite hs)

theorem Evolves.thermalLimit (hs : Evolves s₀ s) {old new} : Evolves s₀ (thermalLimit s old new) := by
  unfold Machine.thermalLimit
  refine .ite ?_ hs
  extract_lets u _ u1 u2
  have hu : Evolves s₀ u := hs.setB
  have hu1 : Evolves s₀ u1 := hu.frame
  have hu2 : Evolves s₀ u2 := hu1.outStopAll.cueCutAll.fenceLead
  split
  · exact (hu2.foldl fun _ _ hu => hu.blockRes.ite hu).wrapEnd
  · exact hu2

theorem Evolves.thermalSet (hs : Evolves s₀ s) {tj new} : Evolves s₀ (thermalSet s tj new) :=
  (hs.setF.setF.setB.ite hs.setF.setF).logEvent.thermalShed.thermalSafe.thermalLimit

theorem Evolves.execThermalSample (hs : Evolves s₀ s) {tj} : NextMeets (execThermalSample tj s) (Evolves s₀) := by
  unfold Machine.execThermalSample
  refine hs.next.ite ?_
  extract_lets u u1 _ u2
  have hu : Evolves s₀ u := hs.setI
  have hu1 : Evolves s₀ u1 := hu.setI.ite hu
  have hu2 : Evolves s₀ u2 := hu1.thermalRuns
  exact hu1.next.ite (hu2.ite hu2.thermalSet).next

/-! ### AtTs -/

theorem Evolves.atTsDrop (hs : Evolves s₀ s) {w} : Evolves s₀ (atTsDrop s w) := hs.frame

theorem Evolves.atTsApply (hs : Evolves s₀ s) {w} : Evolves s₀ (atTsApply s w) := by
  unfold Machine.atTsApply
  split
  · exact hs.applyTsSet
  · exact hs.applySplice
  · exact hs.outStartDone
  · exact hs.outStopDone
  · exact hs.commitAt
  · exact hs

theorem Evolves.execAtTsInstantReached (hs : Evolves s₀ s) {ring_ tag ticks met} :
    NextMeets (execAtTsInstantReached ring_ tag ticks met s) (Evolves s₀) := by
  unfold Machine.execAtTsInstantReached
  extract_lets u
  have hu : Evolves s₀ u := hs.advance
  split
  · exact hu.next
  · exact hu.next.ite (hu.atTsDrop.atTsApply.next.ite hu.timeoutAtTs.next)

theorem Evolves.execAtTsTriggerStopped (hs : Evolves s₀ s) {ring_ tag} : NextMeets (execAtTsTriggerStopped ring_ tag s) (Evolves s₀) := by
  unfold Machine.execAtTsTriggerStopped
  split
  · exact hs.next
  · exact hs.next.ite hs.timeoutAtTs.next

/-! ### Commit -/

theorem Evolves.hostCmd (hs : Evolves s₀ s) {h c} : NextMeets (hostCmd h c s) (Evolves s₀) := by
  cases c with
  | tsSet => exact hs.execTsSet
  | tsStep => exact hs.execTsStep
  | tsSlew => exact hs.execTsSlew
  | tsSplice => exact hs.execTsSplice
  | tsLeap => exact hs.execTsLeap
  | tsReadView => exact hs.execTsReadView
  | refConfirm => exact hs.execRefConfirm
  | ensProvRead => exact hs.execEnsProvRead
  | refFeed => exact hs.execRefFeed
  | ensForce => exact hs.execEnsForce
  | clapArm => exact hs.execClapArm
  | clapDisarm => exact hs.execClapDisarm
  | clapCal => exact hs.execClapCal
  | clapSnapshot => exact hs.execClapSnapshot
  | apRelock => exact hs.execApRelock
  | dpRetune => exact hs.execDpRetune
  | dpAlignRun => exact hs.execDpAlignRun
  | apBandClear => exact hs.execApBandClear
  | outStart => exact hs.execOutStart
  | outStop => exact hs.execOutStop
  | outSwitch => exact hs.execOutSwitch
  | cueArm => exact hs.execCueArm
  | cueCancel => exact hs.execCueCancel
  | cueQuery => exact hs.execCueQuery
  | gnssAcq => exact hs.execGnssAcq
  | gnssChStart => exact hs.execGnssChStart
  | gnssChStop => exact hs.execGnssChStop
  | gnssPower => exact hs.execGnssPower
  | gnssSpoof => exact hs.execGnssSpoof
  | ptpClientFind => exact hs.execPtpClientFind
  | ptpClientCancel => exact hs.execPtpClientCancel
  | ptpKeyRoll => exact hs.execPtpKeyRoll
  | ptpUmaster => exact hs.execPtpUmaster
  | ptpParentRead => exact hs.execPtpParentRead
  | ntsCookieMint => exact hs.execNtsCookieMint
  | ntpRlQuery => exact hs.execNtpRlQuery
  | ntpPeerRead => exact hs.execNtpPeerRead
  | ranHandback => exact hs.execRanHandback
  | ranRejoin => exact hs.execRanRejoin
  | ranPeerRead => exact hs.execRanPeerRead
  | nop => exact hs.execNop
  | abort => exact hs.execAbort
  | ringStop => exact hs.execRingStop
  | runState => exact hs.execRunState
  | profileSet => exact hs.execProfileSet
  | govPermit => exact hs.execGovPermit
  | unassignedOpcode => exact hs.execUnassignedOpcode
  | cshtStage => exact hs.execCshtStage
  | cshtCommit => exact hs.execCshtCommit
  | cshtConfirm => exact hs.execCshtConfirm
  | cshtRevert => exact hs.execCshtRevert
  | cshtRead => exact hs.execCshtRead
  | stvDerive => exact hs.execStvDerive
  | stvRevoke => exact hs.execStvRevoke
  | stvKeyInfo => exact hs.execStvKeyInfo
  | stvCrypt => exact hs.execStvCrypt
  | stvImport => exact hs.execStvImport
  | stvChallenge => exact hs.execStvChallenge
  | stvRespond => exact hs.execStvRespond
  | stvIdentity => exact hs.execStvIdentity
  | stvRollbackSet => exact hs.execStvRollbackSet
  | fwStage => exact hs.execFwStage
  | fwSelect => exact hs.execFwSelect
  | fwConfirm => exact hs.execFwConfirm
  | pluginCtl => exact hs.execPluginCtl
  | perfSample => exact hs.execPerfSample
  | logRead => exact hs.execLogRead
  | logWrite => exact hs.execLogWrite
  | lwRead => exact hs.execLwRead
  | lwClear => exact hs.execLwClear
  | bistIdleRun => exact hs.execBistIdleRun

theorem Evolves.execCommandCommit (hs : Evolves s₀ s) {ring_} : NextMeets (execCommandCommit ring_ s) (Evolves s₀) := by
  unfold Machine.execCommandCommit
  split
  · exact hs.next
  · exact hs.next.ite (hs.setRing.perf.badArg.next.ite hs.setRing.perf.hostCmd)

/-! ### Dispatch -/

theorem Evolves.exec (hs : Evolves s₀ s) {i} : NextMeets (exec i s) (Evolves s₀) := by
  cases i with
  | tsSet => exact hs.execTsSet
  | tsStep => exact hs.execTsStep
  | tsSlew => exact hs.execTsSlew
  | tsSplice => exact hs.execTsSplice
  | tsLeap => exact hs.execTsLeap
  | tsReadView => exact hs.execTsReadView
  | timedLoadDeadline => exact hs.execTimedLoadDeadline
  | atTsInstantReached => exact hs.execAtTsInstantReached
  | atTsTriggerStopped => exact hs.execAtTsTriggerStopped
  | tsIncrLoWrite => exact hs.execTsIncrLoWrite
  | tsIncrHiWrite => exact hs.execTsIncrHiWrite
  | tsNowSnapshot => exact hs.execTsNowSnapshot
  | tsEnableWrite => exact hs.execTsEnableWrite
  | slewDone => exact hs.execSlewDone
  | leapSecondEnd => exact hs.execLeapSecondEnd
  | leapDayStart => exact hs.execLeapDayStart
  | refConfirm => exact hs.execRefConfirm
  | ensProvRead => exact hs.execEnsProvRead
  | refFeed => exact hs.execRefFeed
  | ensForce => exact hs.execEnsForce
  | refMeasurement => exact hs.execRefMeasurement
  | tsRefCfgWrite => exact hs.execTsRefCfgWrite
  | ensembleEpoch => exact hs.execEnsembleEpoch
  | refLossTimeout => exact hs.execRefLossTimeout
  | suspectTimeout => exact hs.execSuspectTimeout
  | qualificationWindowEnd => exact hs.execQualificationWindowEnd
  | oscCoeffWrite => exact hs.execOscCoeffWrite
  | tsEfcCodeWrite => exact hs.execTsEfcCodeWrite
  | paceWindowEnd => exact hs.execPaceWindowEnd
  | avsTransactionDone => exact hs.execAvsTransactionDone
  | avsTrackEnableWrite => exact hs.execAvsTrackEnableWrite
  | clapArm => exact hs.execClapArm
  | clapDisarm => exact hs.execClapDisarm
  | clapCal => exact hs.execClapCal
  | clapSnapshot => exact hs.execClapSnapshot
  | streamEdge => exact hs.execStreamEdge
  | intervalEnd => exact hs.execIntervalEnd
  | stopTimeout => exact hs.execStopTimeout
  | measurementLost => exact hs.execMeasurementLost
  | frequencyGateEnd => exact hs.execFrequencyGateEnd
  | clapRecordWrite => exact hs.execClapRecordWrite
  | clapChRidxWrite => exact hs.execClapChRidxWrite
  | clapLimitHiWrite => exact hs.execClapLimitHiWrite
  | clapLimitLoWrite => exact hs.execClapLimitLoWrite
  | referenceOffset => exact hs.execReferenceOffset
  | laneCalTrigger => exact hs.execLaneCalTrigger
  | laneCalDone => exact hs.execLaneCalDone
  | gearboxMeasurementDone => exact hs.execGearboxMeasurementDone
  | probeMeasurementDone => exact hs.execProbeMeasurementDone
  | apRelock => exact hs.execApRelock
  | dpRetune => exact hs.execDpRetune
  | dpAlignRun => exact hs.execDpAlignRun
  | apBandClear => exact hs.execApBandClear
  | dpCfgWrite => exact hs.execDpCfgWrite
  | apCfgWrite => exact hs.execApCfgWrite
  | apSsWrite => exact hs.execApSsWrite
  | dpllUpdate => exact hs.execDpllUpdate
  | refinStamp => exact hs.execRefinStamp
  | refinAbsent => exact hs.execRefinAbsent
  | apHopTimeout => exact hs.execApHopTimeout
  | apLocked => exact hs.execApLocked
  | apSearchTimeout => exact hs.execApSearchTimeout
  | apLost => exact hs.execApLost
  | apAutoRelock => exact hs.execApAutoRelock
  | detAnchor => exact hs.execDetAnchor
  | detPassEnd => exact hs.execDetPassEnd
  | ap0Loss => exact hs.execAp0Loss
  | ap0RelockAttempt => exact hs.execAp0RelockAttempt
  | shclkRestart => exact hs.execShclkRestart
  | ap0Rebuilt => exact hs.execAp0Rebuilt
  | outStart => exact hs.execOutStart
  | outStop => exact hs.execOutStop
  | outSwitch => exact hs.execOutSwitch
  | outGateOpen => exact hs.execOutGateOpen
  | outGateClose => exact hs.execOutGateClose
  | outFaultStop => exact hs.execOutFaultStop
  | outInterlockGate => exact hs.execOutInterlockGate
  | fallbackSwitch => exact hs.execFallbackSwitch
  | fallbackReturn => exact hs.execFallbackReturn
  | outFineStep => exact hs.execOutFineStep
  | outDividerReload => exact hs.execOutDividerReload
  | cueArm => exact hs.execCueArm
  | cueCancel => exact hs.execCueCancel
  | cueQuery => exact hs.execCueQuery
  | cueFiring => exact hs.execCueFiring
  | cueLate => exact hs.execCueLate
  | cueEnd => exact hs.execCueEnd
  | cueRingTimerRelease => exact hs.execCueRingTimerRelease
  | cuePinCfgWrite => exact hs.execCuePinCfgWrite
  | captureEdge => exact hs.execCaptureEdge
  | todMessageSend => exact hs.execTodMessageSend
  | todMessageReceive => exact hs.execTodMessageReceive
  | gnssAcq => exact hs.execGnssAcq
  | gnssAcqDone => exact hs.execGnssAcqDone
  | gnssChStart => exact hs.execGnssChStart
  | gnssChStop => exact hs.execGnssChStop
  | gnssPower => exact hs.execGnssPower
  | gnssSpoof => exact hs.execGnssSpoof
  | sampleEpochMark => exact hs.execSampleEpochMark
  | samplePathBreak => exact hs.execSamplePathBreak
  | samplePathRecover => exact hs.execSamplePathRecover
  | gnssPortEnableWrite => exact hs.execGnssPortEnableWrite
  | notchChange => exact hs.execNotchChange
  | gnssJam => exact hs.execGnssJam
  | gnssChannelEpoch => exact hs.execGnssChannelEpoch
  | gnssDumpInterrupt => exact hs.execGnssDumpInterrupt
  | gnssNcoCommit => exact hs.execGnssNcoCommit
  | gnssNcoLoWrite => exact hs.execGnssNcoLoWrite
  | gnssCodeAdjWrite => exact hs.execGnssCodeAdjWrite
  | gnssMeas => exact hs.execGnssMeas
  | gnssNav => exact hs.execGnssNav
  | osnmaTagResult => exact hs.execOsnmaTagResult
  | gnssWake => exact hs.execGnssWake
  | gnssSettleEnd => exact hs.execGnssSettleEnd
  | solutionFeed => exact hs.execSolutionFeed
  | portCfgWrite => exact hs.execPortCfgWrite
  | portBlockLock => exact hs.execPortBlockLock
  | portLinkDown => exact hs.execPortLinkDown
  | portRefSwitch => exact hs.execPortRefSwitch
  | rxFrame => exact hs.execRxFrame
  | txdChain => exact hs.execTxdChain
  | txTimestamp => exact hs.execTxTimestamp
  | txTimestampDrain => exact hs.execTxTimestampDrain
  | portCounterRead => exact hs.execPortCounterRead
  | portDaily => exact hs.execPortDaily
  | lpiEnter => exact hs.execLpiEnter
  | lpiWake => exact hs.execLpiWake
  | esmcSend => exact hs.execEsmcSend
  | esmcRxTimeout => exact hs.execEsmcRxTimeout
  | ptpInstEnable => exact hs.execPtpInstEnable
  | ptpMessageReceive => exact hs.execPtpMessageReceive
  | ptpPeriodicSend => exact hs.execPtpPeriodicSend
  | followUpSend => exact hs.execFollowUpSend
  | delayRespSend => exact hs.execDelayRespSend
  | slaveExchange => exact hs.execSlaveExchange
  | bmcaRun => exact hs.execBmcaRun
  | announceReceiptTimeout => exact hs.execAnnounceReceiptTimeout
  | grantExpiry => exact hs.execGrantExpiry
  | unicastRenew => exact hs.execUnicastRenew
  | l1SyncSend => exact hs.execL1SyncSend
  | ptpClientFind => exact hs.execPtpClientFind
  | ptpClientCancel => exact hs.execPtpClientCancel
  | ptpKeyRoll => exact hs.execPtpKeyRoll
  | ptpUmaster => exact hs.execPtpUmaster
  | ptpParentRead => exact hs.execPtpParentRead
  | ntpInstEnable => exact hs.execNtpInstEnable
  | ntpRequest => exact hs.execNtpRequest
  | ntpReplyLaunch => exact hs.execNtpReplyLaunch
  | ntpRequestExpiry => exact hs.execNtpRequestExpiry
  | ntsEpochRotation => exact hs.execNtsEpochRotation
  | ntsCookieRootWrite => exact hs.execNtsCookieRootWrite
  | ntpPeerPoll => exact hs.execNtpPeerPoll
  | ntpPeerReply => exact hs.execNtpPeerReply
  | ntpPeerEnableWrite => exact hs.execNtpPeerEnableWrite
  | ntsCookieMint => exact hs.execNtsCookieMint
  | ntpRlQuery => exact hs.execNtpRlQuery
  | ntpPeerRead => exact hs.execNtpPeerRead
  | aesJobGrant => exact hs.execAesJobGrant
  | ranLaneState => exact hs.execRanLaneState
  | claimSend => exact hs.execClaimSend
  | ranFrameReceive => exact hs.execRanFrameReceive
  | stateSend => exact hs.execStateSend
  | peerSilence => exact hs.execPeerSilence
  | claimRaise => exact hs.execClaimRaise
  | peerLeadNChange => exact hs.execPeerLeadNChange
  | drivePermissionChange => exact hs.execDrivePermissionChange
  | joinWaitEnd => exact hs.execJoinWaitEnd
  | autoRejoin => exact hs.execAutoRejoin
  | markSend => exact hs.execMarkSend
  | followModeUpdate => exact hs.execFollowModeUpdate
  | mirrorSend => exact hs.execMirrorSend
  | keywrapSend => exact hs.execKeywrapSend
  | ranHandback => exact hs.execRanHandback
  | ranRejoin => exact hs.execRanRejoin
  | ranPeerRead => exact hs.execRanPeerRead
  | ranTmoWrite => exact hs.execRanTmoWrite
  | nop => exact hs.execNop
  | abort => exact hs.execAbort
  | ringStop => exact hs.execRingStop
  | ringDrainDone => exact hs.execRingDrainDone
  | runState => exact hs.execRunState
  | profileSet => exact hs.execProfileSet
  | govPermit => exact hs.execGovPermit
  | unassignedOpcode => exact hs.execUnassignedOpcode
  | permitExpiry => exact hs.execPermitExpiry
  | doorbellPoll => exact hs.execDoorbellPoll
  | hostNudge value => exact hs.execHostNudge (_value := value)
  | hostRingEnable => exact hs.execHostRingEnable
  | commandCommit => exact hs.execCommandCommit
  | completionWrite => exact hs.execCompletionWrite
  | rxdDelivery => exact hs.execRxdDelivery
  | rxStarveTimeout => exact hs.execRxStarveTimeout
  | ringInterrupt => exact hs.execRingInterrupt
  | msixUnmask => exact hs.execMsixUnmask
  | hostDmaError => exact hs.execHostDmaError
  | functionLevelReset => exact hs.execFunctionLevelReset
  | busMasterEnableChange => exact hs.execBusMasterEnableChange
  | barAccessRefused => exact hs.execBarAccessRefused
  | registerWrite => exact hs.execRegisterWrite
  | w1cWrite => exact hs.execW1cWrite
  | rcRead => exact hs.execRcRead
  | cshtStage => exact hs.execCshtStage
  | cshtCommit => exact hs.execCshtCommit
  | cshtConfirm => exact hs.execCshtConfirm
  | cshtRevert => exact hs.execCshtRevert
  | cshtRead => exact hs.execCshtRead
  | cshtApplyEnd => exact hs.execCshtApplyEnd
  | cshtDeadlineWarn => exact hs.execCshtDeadlineWarn
  | confirmDeadlineExpiry => exact hs.execConfirmDeadlineExpiry
  | stvDerive => exact hs.execStvDerive
  | stvRevoke => exact hs.execStvRevoke
  | stvKeyInfo => exact hs.execStvKeyInfo
  | stvCrypt => exact hs.execStvCrypt
  | stvImport => exact hs.execStvImport
  | stvChallenge => exact hs.execStvChallenge
  | stvRespond => exact hs.execStvRespond
  | stvIdentity => exact hs.execStvIdentity
  | stvRollbackSet => exact hs.execStvRollbackSet
  | challengeExpiry => exact hs.execChallengeExpiry
  | challengeLockEnd => exact hs.execChallengeLockEnd
  | stvTamper => exact hs.execStvTamper
  | stvPairKeyWrite => exact hs.execStvPairKeyWrite
  | trngHealthFail => exact hs.execTrngHealthFail
  | trngRetest => exact hs.execTrngRetest
  | drbgReseed => exact hs.execDrbgReseed
  | drbgStaleTimeout => exact hs.execDrbgStaleTimeout
  | keyMaskRefresh => exact hs.execKeyMaskRefresh
  | inFlightDone => exact hs.execInFlightDone
  | fwStage => exact hs.execFwStage
  | fwSelect => exact hs.execFwSelect
  | fwConfirm => exact hs.execFwConfirm
  | pluginCtl => exact hs.execPluginCtl
  | perfSample => exact hs.execPerfSample
  | fwPluginFault => exact hs.execFwPluginFault
  | pluginKernelCall => exact hs.execPluginKernelCall
  | perfOvf => exact hs.execPerfOvf
  | perfCntRead => exact hs.execPerfCntRead
  | perfSampleRecord => exact hs.execPerfSampleRecord
  | perfSampleDrain => exact hs.execPerfSampleDrain
  | logRead => exact hs.execLogRead
  | logWrite => exact hs.execLogWrite
  | lwRead => exact hs.execLwRead
  | lwClear => exact hs.execLwClear
  | bistIdleRun => exact hs.execBistIdleRun
  | logRecordWrite => exact hs.execLogRecordWrite
  | logScrub => exact hs.execLogScrub
  | wrapBlockSlice => exact hs.execWrapBlockSlice
  | wrapTestEnd => exact hs.execWrapTestEnd
  | idleSlice => exact hs.execIdleSlice
  | idleSlicePreempt => exact hs.execIdleSlicePreempt
  | resetNAssert => exact hs.execResetNAssert
  | bootSequence => exact hs.execBootSequence
  | autoRun => exact hs.execAutoRun
  | brownout => exact hs.execBrownout
  | thermalSample => exact hs.execThermalSample
  | rtcLoad => exact hs.execRtcLoad
  | markArrival => exact hs.execMarkArrival
  | handbackTimeout => exact hs.execHandbackTimeout
  | qspiWriteDone => exact hs.execQspiWriteDone
  | cryptoJobDone => exact hs.execCryptoJobDone
  | railBackInRange => exact hs.execRailBackInRange

end

end Sys2Proof.Machine

namespace Sys2Proof.Machine
open Sys2Proof

/-- A step from a state whose register file is canonical leaves it canonical: the tick of an idle step, or the command at the front of the queue. -/
theorem step_canonical {s : State} (hs : RegsCanonical s) : NextMeets (step s) RegsCanonical := by
  unfold step
  split
  · exact ⟨_, rfl, (Evolves.refl s).advance.canonical hs⟩
  · obtain ⟨t, ht, hst⟩ := (Evolves.refl _).exec
    exact ⟨t, ht, hst.canonical hs.update⟩

/-- Settles O5: a step evolves the register file by writes and by leaving registers out. -/
theorem stepKeepsTheCanonicalForm : Obligations.StepKeepsTheCanonicalForm :=
  fun _ _ hs h => (step_canonical hs).of_eq h

/-- Settles O7: every meaning ends in a next state. -/
theorem everyCommandHasANextState : Obligations.EveryCommandHasANextState := by
  intro c s
  obtain ⟨t, ht, -⟩ := (Evolves.refl s).exec
  exact ⟨t, ht⟩

end Sys2Proof.Machine

namespace Sys2Proof.Machine
open Sys2Proof

/-! ### The decoder of BAR0 (R449) -/

section
variable {s : State} {a : Nat} {r : Reg}

theorem stride_mul_of_indexAt {stride count d i : Nat} (h : indexAt stride count d = some i) : stride * i = d := by
  unfold indexAt at h
  split at h
  · next h0 =>
    split at h
    · next hd => rw [h0, hd, Nat.zero_mul]
    · cases h
  · split at h
    · next hd =>
      cases h
      exact Nat.mul_div_cancel' (Nat.dvd_of_mod_eq_zero hd.1)
    · cases h

theorem addr_of_at {n : RegName} (h : n.at a = some r) : r.addr = a := by
  unfold RegName.at at h
  split at h
  · cases h
  · split at h
    next s1 c1 s2 c2 hd =>
    extract_lets d at h
    split at h
    · split at h
      · cases h
        simp only [Reg.addr]
        omega
      · cases h
    · split at h
      · obtain ⟨j, hj, rfl⟩ := Option.map_eq_some_iff.1 h
        have hmod := stride_mul_of_indexAt hj
        have hdiv := Nat.div_add_mod d s1
        simp only [Reg.addr, hd]
        omega
      · cases h

/-- A register stands at the offset that decodes to it. -/
theorem addr_of_regAt (h : regAt a = some r) : r.addr = a := by
  obtain ⟨n, -, hn⟩ := List.exists_of_findSome?_eq_some h
  exact addr_of_at hn

/-! ### Accesses of BAR0 (R5, R6, R7, R8, R303, R449, R450) -/

theorem barWrite_of_regAt {v : Word} (hr : regAt a = some r) (ha : barTakes s a = true) : barWrite s a v = hostWrite s r v := by
  simp [barWrite, ha, hr]

theorem barWrite_of_none {v : Word} (hr : regAt a = none) (ha : barTakes s a = true) : barWrite s a v = violation s := by
  simp [barWrite, ha, hr]

/-- A W1C write: the host's write, and the bits that hardware sets in the same access (R6). -/
theorem execW1cWrite_of_regAt {v e : Word} (hr : regAt a = some r) (ha : barTakes s a = true) :
    execW1cWrite a v e s
      = .next ((hostWrite s r v).wr r.name r.i r.j ((hostWrite s r v).rg r.name r.i r.j ||| (e &&& w1cMask r.name))) := by
  simp [execW1cWrite, hr, ha, barWrite_of_regAt hr ha]

/-- A read of a counter that clears: the value before is returned, and the events of the same access are what the counter then holds (R7). -/
theorem execRcRead_of_isRc {k : List Nat} (hr : regAt a = some r) (ha : barTakes s a = true) (hn : r.name ≠ .PORT_CNT_LO) (hc : isRc r.name = true) :
    execRcRead a k s = .next ((s.emit (.read a (s.rg r.name r.i r.j))).wr r.name r.i r.j (BitVec.ofNat 32 (rcAfter r.name k))) := by
  simp [execRcRead, hr, ha, hn, hc]

theorem execRcRead_of_portCounter {k : List Nat} (hr : regAt a = some r) (ha : barTakes s a = true) (hn : r.name = .PORT_CNT_LO) :
    execRcRead a k s = .next (portCount (nextOr s (execPortCounterRead r.i r.j s)) r.i r.j (k.headD 0)) := by
  simp [execRcRead, hr, ha, hn]

theorem execBarAccessRefused_of_refused {x : BarAccess} (hx : accessRefused x = true) (hp : s.pwr.inReset = false) (hb : barDead s = false) :
    execBarAccessRefused x s = .next (if x.write then violation s else s.emit (.read x.offset 0)) := by
  cases hw : x.write <;> simp [execBarAccessRefused, hx, hp, hb, hw]

/-- The counters after the read that clears them fit the register. -/
theorem rcAfter_pair (n : RegName) (i j : Nat) :
    rcAfter n [i, j] = if rcPair n then min i (2 ^ 16 - 1) + 2 ^ 16 * min j (2 ^ 16 - 1) else min i (2 ^ 32 - 1) := rfl

theorem rcAfter_lt (n : RegName) (k : List Nat) : rcAfter n k < 2 ^ 32 := by
  unfold rcAfter satNat
  split <;> omega

/-! ### Port counters (R219, R220, R221) -/

theorem port_setPort_same (s : State) (p : Nat) (x : PortSt) : port (setPort s p x) p = x := tget_tset_same ..

theorem port_setPort_other (s : State) {p q : Nat} (x : PortSt) (h : q ≠ p) : port (setPort s p x) q = port s q := tget_tset_other _ _ _ _ _ h

/-- A counter of a port set: it reads as it was set, and every other counter of every port as before. -/
theorem portCnt_setCnt_same (s : State) (p c v : Nat) : portCnt (setPort s p { port s p with cnt := tset (port s p).cnt c v }) p c = v := by
  rw [portCnt, port_setPort_same, tget_tset_same]

theorem portCnt_setCnt_other (s : State) {p q c d : Nat} (v : Nat) (h : ¬(q = p ∧ d = c)) :
    portCnt (setPort s p { port s p with cnt := tset (port s p).cnt c v }) q d = portCnt s q d := by
  by_cases hq : q = p
  · subst hq
    rw [portCnt, port_setPort_same, tget_tset_other _ _ _ _ _ fun hd => h ⟨rfl, hd⟩, portCnt]
  · rw [portCnt, port_setPort_other _ _ hq, portCnt]

/-- A counter that is 0 counts an occurrence of `n` events up to its 64 bits (R219). -/
theorem portCnt_portCount_of_zero {p c n : Nat} (h : portCnt s p c = 0) (hn : n < 2 ^ 64) : portCnt (portCount s p c n) p c = n := by
  rw [portCount, portCnt_setCnt_same, h, satNat]
  omega

theorem portCnt_congr {t : State} (h : t.ports = s.ports) (p c : Nat) : portCnt t p c = portCnt s p c := by
  rw [portCnt, port, h, portCnt, port]

/-- The state in which the read of a port counter has returned its low word and latched its upper half (R219). -/
def portLatched (s : State) (p c : Nat) : State :=
  (s.emit (.read (Reg.addr ⟨.PORT_CNT_LO, p, c⟩) (BitVec.ofNat 32 (portCnt s p c)))).wr .PORT_CNT_HI p c (BitVec.ofNat 32 (portCnt s p c / 2 ^ 32))

theorem portCnt_portLatched (s : State) (p c q d : Nat) : portCnt (portLatched s p c) q d = portCnt s q d := rfl

theorem portLatched_hi (s : State) (p c : Nat) : ((portLatched s p c).rg .PORT_CNT_HI p c).toNat = portCnt s p c / 2 ^ 32 % 2 ^ 32 := by
  simp [portLatched]

theorem portLatched_reader (s : State) (p c : Nat) : (portLatched s p c).fb F.PORT_CFG_stats_reader p = s.fb F.PORT_CFG_stats_reader p := by
  rw [State.fb, State.f, portLatched, rg_wr_name _ _ _ _ _ _ _ _ (by decide)]
  rfl

/-- The read of a port counter clears it where the register reads it, and not where the dailies do (R219, R220). -/
theorem execPortCounterRead_eq {p c : Nat} (hp : p < 4) (hc : c < 12) :
    execPortCounterRead p c s = .next (if s.fb F.PORT_CFG_stats_reader p then portLatched s p c
      else setPort (portLatched s p c) p { port (portLatched s p c) p with cnt := tset (port (portLatched s p c) p).cnt c 0 }) := by
  rw [← portLatched_reader s p c]
  exact if_neg (by omega)

/-- The dailies of a port write a record and clear its counters (R220, R221). -/
theorem execPortDaily_eq {p k : Nat} (hp : p < 4) (hr : (advance s k).fb F.PORT_CFG_stats_reader p = true) (hc : clocked (advance s k) = true)
    (hn : (tsc (advance s k) 0).cnt.sec % (advance s k).f F.PORT_DLY_CFG_interval p = 0) :
    ∃ d r, execPortDaily p k s
      = .next (areaProduce (sentTo (setPort (advance s k) p { port (advance s k) p with cnt := [], dlyFirst := false }) 0 d) (.daily p) r) := by
  refine ⟨_, _, if_neg ?_⟩
  simp [hr, hc, hn]
  omega

end

/-! ### The statements -/

/-- Settles O4: nothing is listed at reset. -/
theorem resetIsCanonical : Obligations.ResetIsCanonical := rfl

/-- Settles O55: the set bits of a W1C write are put into what it leaves; what a clearing read leaves is the count of its own events. -/
theorem eventsOfTheSameAccessAreKept : Obligations.EventsOfTheSameAccessAreKept := by
  refine ⟨?_, ?_, ?_⟩
  · intro s t a v e r k hr ha h hk
    cases (execW1cWrite_of_regAt hr ha).symm.trans h
    rw [rg_wr_same, BitVec.getLsbD_or, hk, Bool.or_true]
  · intro s t a n m r hr ha hc hn h
    cases (execRcRead_of_isRc hr ha hn hc).symm.trans h
    refine ⟨rfl, ?_⟩
    rw [rg_wr_same, BitVec.toNat_ofNat, Nat.mod_eq_of_lt (rcAfter_lt ..), rcAfter_pair]
  · intro s t a n r hr ha hn hi hj hs hlt h
    have hread := execPortCounterRead_eq (s := s) hi hj
    rw [hs, if_neg Bool.false_ne_true] at hread
    have hexec := execRcRead_of_portCounter (k := [n]) hr ha hn
    rw [hread] at hexec
    cases hexec.symm.trans h
    refine ⟨?_, portCnt_portCount_of_zero (portCnt_setCnt_same ..) hlt⟩
    rw [← addr_of_regAt hr]
    obtain ⟨m, i, j⟩ := r
    cases hn
    rfl

/-- Settles O34: the read latches the upper half and clears by the reader of the counter; the dailies clear all twelve. -/
theorem portCountersAct : Obligations.PortCountersAct := by
  intro s p hp
  refine ⟨?_, ?_⟩
  · intro c hc
    refine ⟨_, execPortCounterRead_eq hp hc, ?_⟩
    cases hs : s.fb F.PORT_CFG_stats_reader p with
    | true => exact ⟨portLatched_hi s p c, nofun, fun _ => rfl, fun _ _ _ => rfl⟩
    | false => exact ⟨portLatched_hi s p c, fun _ => portCnt_setCnt_same .., nofun, fun _ _ h => portCnt_setCnt_other _ _ h⟩
  · rintro k u rfl hr hc hn
    obtain ⟨d, r, h⟩ := execPortDaily_eq hp hr hc hn
    refine ⟨_, r, h, fun c => ?_, ?_⟩
    · rw [portCnt_congr (sentTo_ports ..), portCnt, port_setPort_same]
      rfl
    · rw [port, sentTo_ports]
      exact congrArg PortSt.dlyFirst (port_setPort_same ..)

/-- Settles O48: what each access of BAR0 does. -/
theorem registerAccessesAct : Obligations.RegisterAccessesAct := by
  intro s
  refine ⟨?_, ?_, ?_, ?_⟩
  · intro a v ha
    exact ⟨fun r hr => congrArg _ (barWrite_of_regAt hr ha), fun hr => congrArg _ (barWrite_of_none hr ha)⟩
  · intro a v e r hr ha
    exact ⟨_, execW1cWrite_of_regAt hr ha, rg_wr_same .., fun n i j h => rg_wr_other _ _ _ _ _ _ _ _ fun hq => h (by cases hq; exact ⟨rfl, rfl, rfl⟩)⟩
  · intro a k r hr hn hc ha
    exact ⟨_, execRcRead_of_isRc hr ha hn hc, rfl, rg_wr_same .., fun n i j h => rg_wr_other _ _ _ _ _ _ _ _ fun hq => h (by cases hq; exact ⟨rfl, rfl, rfl⟩)⟩
  · intro x hx hp hb
    have h := execBarAccessRefused_of_refused hx hp hb
    exact ⟨fun hw => by rw [hw] at h; exact h, fun hw => by rw [hw] at h; exact h⟩

end Sys2Proof.Machine

namespace Sys2Proof.Machine
open Sys2Proof

/-! ### What the loss of an analog loop leaves alone (R39)

The handshake domain, the timescales, the ensembles, the NTP, Stavris and twin engines and the registers of the pace monitor, as one relation between the
state before and the state after. It is carried through the model in the manner of `Evolves`: rules for the ways in which a state is built from another,
then a lemma for each function that a loss of AP1, AP2 or AP3 runs through. -/

/-- The registers of the pace monitor and its voltage path. -/
def paceRegs : List RegName :=
  [.PWR_PACE_STATUS, .PWR_PACE_CFG, .PWR_PACE_TARGET, .PWR_PACE_EVENT, .PWR_PACE_RAW, .PWR_PACE_SAG_COUNT, .PWR_AVS_STATUS]

/-- `t` differs from `s` neither in the handshake domain and the pace monitor nor in a timescale but for its stepped-since bits (R54), an ensemble or the
NTP, Stavris and twin engines. -/
structure SparesHandshake (s t : State) : Prop where
  hs : t.hs = s.hs
  time : t.time = { s.time with tbl := t.time.tbl }
  tsc : ∀ n, tsc t n = { tsc s n with stepped := (tsc t n).stepped }
  ens : t.ens = s.ens
  ntp : t.ntp = s.ntp
  stv : t.stv = s.stv
  ran : t.ran = s.ran
  rg : ∀ n ∈ paceRegs, ∀ i j, t.rg n i j = s.rg n i j

section
variable {s₀ s t : State}

/-! ### The rules -/

theorem SparesHandshake.refl (s : State) : SparesHandshake s s := ⟨rfl, rfl, fun _ => rfl, rfl, rfl, rfl, rfl, fun _ _ _ _ => rfl⟩

/-- A state that agrees with `s` in what is spared. -/
theorem SparesHandshake.congr (h : SparesHandshake s₀ s) (hhs : t.hs = s.hs) (htime : t.time = s.time) (hens : t.ens = s.ens) (hntp : t.ntp = s.ntp)
    (hstv : t.stv = s.stv) (hran : t.ran = s.ran) (hrg : ∀ n ∈ paceRegs, ∀ i j, t.rg n i j = s.rg n i j) : SparesHandshake s₀ t where
  hs := hhs.trans h.hs
  time := htime ▸ h.time
  tsc n := by
    have ht : Machine.tsc t n = Machine.tsc s n := by rw [Machine.tsc, htime, Machine.tsc]
    exact ht ▸ h.tsc n
  ens := hens.trans h.ens
  ntp := hntp.trans h.ntp
  stv := hstv.trans h.stv
  ran := hran.trans h.ran
  rg n hn i j := (hrg n hn i j).trans (h.rg n hn i j)

/-- An update of the state beside its registers and what is spared. -/
theorem SparesHandshake.frame (h : SparesHandshake s₀ s)
    {clap loops outs cues gnss ports ptp areas host gov log sheets fw perf wrap pwr ticks fresh out pending} :
    SparesHandshake s₀ ⟨s.regs, s.hs, s.time, s.ens, clap, loops, outs, cues, gnss, ports, s.stv, ptp, s.ntp, s.ran, areas, host, gov, log, sheets, fw, perf,
      wrap, pwr, ticks, fresh, out, pending⟩ := h.congr rfl rfl rfl rfl rfl rfl fun _ _ _ _ => rfl

theorem SparesHandshake.ite {p : Prop} {_ : Decidable p} (hs : SparesHandshake s₀ s) (ht : SparesHandshake s₀ t) :
    SparesHandshake s₀ (if p then s else t) := by
  split
  · exact hs
  · exact ht

theorem SparesHandshake.foldl {α : Type} {f : State → α → State} {l : List α} (h : SparesHandshake s₀ s)
    (hf : ∀ u x, SparesHandshake s₀ u → SparesHandshake s₀ (f u x)) : SparesHandshake s₀ (l.foldl f s) := foldl_inv (SparesHandshake s₀) f hf l s h

/-- The end of a command. -/
theorem SparesHandshake.next (h : SparesHandshake s₀ s) : NextMeets (.next s) (SparesHandshake s₀) := ⟨s, rfl, h⟩

/-! ### Ops -/

theorem SparesHandshake.wr (h : SparesHandshake s₀ s) {n i j v} (hn : n ∉ paceRegs := by decide) : SparesHandshake s₀ (s.wr n i j v) :=
  h.congr rfl rfl rfl rfl rfl rfl fun _ hm _ _ => rg_wr_name _ _ _ _ _ _ _ _ (ne_of_mem_of_not_mem hm hn)

theorem SparesHandshake.setF (h : SparesHandshake s₀ s) {d v i j} (hd : d.reg ∉ paceRegs := by decide) : SparesHandshake s₀ (s.setF d v i j) := h.wr hd
theorem SparesHandshake.setB (h : SparesHandshake s₀ s) {d b i j} (hd : d.reg ∉ paceRegs := by decide) : SparesHandshake s₀ (s.setB d b i j) := h.setF hd
theorem SparesHandshake.incF (h : SparesHandshake s₀ s) {d i j k} (hd : d.reg ∉ paceRegs := by decide) : SparesHandshake s₀ (s.incF d i j k) := h.setF hd
theorem SparesHandshake.inc (h : SparesHandshake s₀ s) {n i k} (hn : n ∉ paceRegs := by decide) : SparesHandshake s₀ (s.inc n i k) := h.wr hn

/-- A slate sent uses up a stepped-since bit and changes nothing else of any timescale (R54). -/
theorem tsc_sentTo (s : State) (n m : Nat) (d : Dest) : tsc (sentTo s n d) m = { tsc s m with stepped := (tsc (sentTo s n d) m).stepped } := by
  by_cases h : m = n
  · subst h
    rw [sentTo, tsc_setTsc_same]
  · rw [sentTo, tsc_setTsc_other _ _ _ _ h]

theorem SparesHandshake.sentTo (h : SparesHandshake s₀ s) {n d} : SparesHandshake s₀ (sentTo s n d) where
  hs := h.hs
  time := congrArg (fun u : TimeSt => { u with tbl := (Machine.sentTo s n d).time.tbl }) h.time
  tsc m := by rw [tsc_sentTo, h.tsc m]
  ens := h.ens
  ntp := h.ntp
  stv := h.stv
  ran := h.ran
  rg := h.rg

theorem SparesHandshake.setRing (h : SparesHandshake s₀ s) {r x} : SparesHandshake s₀ (setRing s r x) := h.frame

theorem SparesHandshake.cplWrite (h : SparesHandshake s₀ s) {r e} : SparesHandshake s₀ (cplWrite s r e) :=
  h.congr (cplWrite_hs ..) (cplWrite_time ..) (cplWrite_ens ..) (cplWrite_ntp ..) (cplWrite_stv ..) (cplWrite_ran ..)
    fun _ hn _ _ => cplWrite_rg _ _ _ _ _ _ (ne_of_mem_of_not_mem hn (by decide))

theorem SparesHandshake.postTo (h : SparesHandshake s₀ s) {r code data slate n} : SparesHandshake s₀ (postTo s r code data slate n) :=
  h.cplWrite.setRing.sentTo.ite h.inc.setRing

theorem SparesHandshake.notice (h : SparesHandshake s₀ s) {r code data} : SparesHandshake s₀ (notice s r code data) := h.postTo

theorem SparesHandshake.event (h : SparesHandshake s₀ s) {code data} : SparesHandshake s₀ (event s code data) :=
  (h.frame.setRing.ite h).notice.ite h.inc.frame

theorem SparesHandshake.setLwValid (h : SparesHandshake s₀ s) {k b} : SparesHandshake s₀ (setLwValid s k b) :=
  h.congr (setLwValid_hs ..) (setLwValid_time ..) (setLwValid_ens ..) (setLwValid_ntp ..) (setLwValid_stv ..) (setLwValid_ran ..)
    fun n hn _ _ => setLwValid_rg _ _ _ _ _ _ ((by decide : ∀ n ∈ paceRegs, isLogReg n = false) n hn)

theorem SparesHandshake.mediaDead (h : SparesHandshake s₀ s) : SparesHandshake s₀ (mediaDead s) := h.ite h.setB.event

theorem SparesHandshake.lwWrite (h : SparesHandshake s₀ s) {r} : SparesHandshake s₀ (lwWrite s r) := by
  unfold Machine.lwWrite
  refine h.ite (h.mediaDead.ite ?_)
  split
  · exact h.inc
  · exact h.frame.setLwValid

theorem SparesHandshake.logPut (h : SparesHandshake s₀ s) {sev source code data slate} : SparesHandshake s₀ (logPut s sev source code data slate) :=
  (h.wr.frame.ite h.wr.inc).lwWrite.ite (h.wr.frame.ite h.wr.inc)

theorem SparesHandshake.logRec (h : SparesHandshake s₀ s) {sev code data} : SparesHandshake s₀ (logRec s sev code data) := h.logPut.sentTo
theorem SparesHandshake.logEvent (h : SparesHandshake s₀ s) {sev code data} : SparesHandshake s₀ (logEvent s sev code data) := h.logRec.event

theorem SparesHandshake.cplQueue (h : SparesHandshake s₀ s) {r e} : SparesHandshake s₀ (cplQueue s r e) := h.setRing

theorem SparesHandshake.releaseAborts (h : SparesHandshake s₀ s) {c op st} : SparesHandshake s₀ (releaseAborts s c op st) :=
  h.setRing.foldl fun _ _ hu => hu.cplQueue

theorem SparesHandshake.altDone (h : SparesHandshake s₀ s) {i st} : SparesHandshake s₀ (altDone s i st) := h.frame.setB.ite h.frame

theorem SparesHandshake.complete (h : SparesHandshake s₀ s) {c op st p} : SparesHandshake s₀ (complete s c op st p) :=
  h.altDone.ite h.cplQueue.releaseAborts

theorem SparesHandshake.finish (h : SparesHandshake s₀ s) {c op st p} : SparesHandshake s₀ (finish s c op st p) := h.setRing.complete.ite h

/-! ### LoopCore -/

theorem SparesHandshake.setOut (h : SparesHandshake s₀ s) {o x} : SparesHandshake s₀ (setOut s o x) := h.frame
theorem SparesHandshake.outFault (h : SparesHandshake s₀ s) {o cause} : SparesHandshake s₀ (outFault s o cause) := h.setOut
theorem SparesHandshake.outOnFb (h : SparesHandshake s₀ s) {o fb} : SparesHandshake s₀ (outOnFb s o fb) := h.setB.setF.incF.ite h.setB.setF.incF
theorem SparesHandshake.outMoveEnd (h : SparesHandshake s₀ s) {o} : SparesHandshake s₀ (outMoveEnd s o) := h.setB.setOut

theorem SparesHandshake.outLoss1 (h : SparesHandshake s₀ s) {a o} : SparesHandshake s₀ (outLoss1 a s o) := by
  unfold Machine.outLoss1
  extract_lets
  refine h.ite ((h.outFault.ite (h.outMoveEnd.ite h)).ite ((h.outFault.ite (h.setB.setOut.ite h.outOnFb)).ite ?_))
  exact (h.outMoveEnd.ite h.outFault).ite h

theorem SparesHandshake.outLoss (h : SparesHandshake s₀ s) {a} : SparesHandshake s₀ (outLoss s a) := h.foldl fun _ _ hu => hu.outLoss1
theorem SparesHandshake.setDp (h : SparesHandshake s₀ s) {d x} : SparesHandshake s₀ (setDp s d x) := h.frame
theorem SparesHandshake.setAp (h : SparesHandshake s₀ s) {a x} : SparesHandshake s₀ (setAp s a x) := h.frame

theorem SparesHandshake.detAbandon (h : SparesHandshake s₀ s) {d} : SparesHandshake s₀ (detAbandon s d) := by
  unfold Machine.detAbandon
  extract_lets _ u
  have hu : SparesHandshake s₀ u := h.setDp.setF
  split
  · exact hu.finish
  · exact hu

theorem SparesHandshake.detBegin (h : SparesHandshake s₀ s) {d c} : SparesHandshake s₀ (detBegin s d c) := h.setDp.setF

theorem SparesHandshake.dpSet (h : SparesHandshake s₀ s) {d new} : SparesHandshake s₀ (dpSet s d new) := by
  unfold Machine.dpSet
  extract_lets _ left _ _ _ loaded _ cleared steering stated sloped logged
  have hleft : SparesHandshake s₀ left := h.detAbandon.ite h
  have hcleared : SparesHandshake s₀ cleared := hleft.setDp.setDp.ite hleft.setDp
  have hsteering : SparesHandshake s₀ steering := by
    unfold steering
    split
    · exact hcleared.setAp.ite hcleared
    · exact hcleared
  have hlogged : SparesHandshake s₀ logged := (hsteering.setF.ite hsteering.setF.setB).logEvent
  exact h.ite (hlogged.detBegin.ite hlogged)

theorem SparesHandshake.dpEval (h : SparesHandshake s₀ s) {d} : SparesHandshake s₀ (dpEval s d) := h.setB.setB.dpSet.dpSet
theorem SparesHandshake.dpEvalAll (h : SparesHandshake s₀ s) : SparesHandshake s₀ (dpEvalAll s) := h.foldl fun _ _ hu => hu.dpEval
theorem SparesHandshake.lpiCheck (h : SparesHandshake s₀ s) {p} : SparesHandshake s₀ (lpiCheck s p) := h.setB.ite h
theorem SparesHandshake.setPtpState (h : SparesHandshake s₀ s) {i p st} : SparesHandshake s₀ (setPtpState s i p st) := h.setF.lpiCheck

theorem SparesHandshake.ptpLink (h : SparesHandshake s₀ s) {p} : SparesHandshake s₀ (ptpLink s p) :=
  h.foldl fun _ _ hu => (hu.setPtpState.ite (hu.setPtpState.ite hu)).ite hu

theorem SparesHandshake.portPresence (h : SparesHandshake s₀ s) {p} : SparesHandshake s₀ (portPresence s p) := h.setB.dpEvalAll

theorem SparesHandshake.portSet (h : SparesHandshake s₀ s) {p new} : SparesHandshake s₀ (portSet s p new) :=
  h.setF.logEvent.ptpLink.portPresence

theorem SparesHandshake.portCalibrate (h : SparesHandshake s₀ s) {p} : SparesHandshake s₀ (portCalibrate s p) := h.frame.ite h.frame.portSet

theorem SparesHandshake.portsApLost (h : SparesHandshake s₀ s) {a} : SparesHandshake s₀ (portsApLost s a) :=
  h.foldl fun _ _ hu => hu.setB.portCalibrate.ite hu

theorem SparesHandshake.apSet (h : SparesHandshake s₀ s) {a new} : SparesHandshake s₀ (apSet s a new) := by
  unfold Machine.apSet
  extract_lets _ _ posted _ entered _ probed spread outputs ports
  have hposted : SparesHandshake s₀ posted := h.setF.event
  have hentered : SparesHandshake s₀ entered := hposted.logRec.inc.ite (hposted.setAp.ite hposted)
  have hspread : SparesHandshake s₀ spread := (hentered.frame.ite hentered).setB
  have houtputs : SparesHandshake s₀ outputs := hspread.outLoss.ite hspread
  have hports : SparesHandshake s₀ ports := houtputs.portsApLost.ite houtputs
  exact h.ite hports.dpEvalAll

/-! ### Loops -/

theorem SparesHandshake.apGo (h : SparesHandshake s₀ s) {a searchOnly} : SparesHandshake s₀ (apGo s a searchOnly) := by
  unfold Machine.apGo
  split
  · exact h.setAp.apSet
  · exact h.setAp.apSet

theorem SparesHandshake.apStart (h : SparesHandshake s₀ s) {a searchOnly} : SparesHandshake s₀ (apStart s a searchOnly) :=
  h.ite (h.setAp.apSet.ite (h.ite h.apGo))

theorem SparesHandshake.oscBack (h : SparesHandshake s₀ s) : SparesHandshake s₀ (oscBack s) := h.frame.foldl fun _ _ hu => hu.apStart.ite hu

theorem SparesHandshake.execApLost (h : SparesHandshake s₀ s) {a osc} : NextMeets (execApLost a osc s) (SparesHandshake s₀) :=
  (h.oscBack.ite h.frame).next.ite (h.oscBack.ite h.frame).apSet.next

end

/-! ### The statement -/

/-- Settles O21: every act of the loss spares the handshake domain. -/
theorem analogLossLeavesTheHandshake : Obligations.AnalogLossLeavesTheHandshake := by
  intro s t a osc _ _ hexec
  have h : SparesHandshake s t := (SparesHandshake.refl s).execApLost.of_eq hexec
  exact ⟨h.hs, h.time, h.tsc, h.ens, h.ntp, h.stv, h.ran, h.rg⟩

end Sys2Proof.Machine

namespace Sys2Proof.Machine
open Sys2Proof

/-! ### What a command that only asks leaves alone (R70, R254, R280, R327, R358) -/

/-- `t` differs from `s` in nothing but the host interface. -/
def OnlyHost (s t : State) : Prop := t = { s with host := t.host }

theorem OnlyHost.regs {s t : State} (h : OnlyHost s t) : t.regs = s.regs := by
  rw [h]

section
variable {s : State} {h : CmdHdr} (hr : h.ring < 64)
include hr

theorem onlyHost_complete {op st p} : OnlyHost s (complete s h op st p) := complete_eq s h op st p hr

theorem onlyHost_badArg {op} : OnlyHost s (badArg s h op) := onlyHost_complete hr

theorem complete_nextOnlyHost {op st p} : NextMeets (.next (complete s h op st p)) (OnlyHost s) := ⟨_, rfl, onlyHost_complete hr⟩

theorem badArg_nextOnlyHost {op} : NextMeets (.next (badArg s h op)) (OnlyHost s) := complete_nextOnlyHost hr

theorem execTsReadView_onlyHost {view form} : NextMeets (execTsReadView h view form s) (OnlyHost s) :=
  .ite (badArg_nextOnlyHost hr) (.ite (complete_nextOnlyHost hr) (.ite (badArg_nextOnlyHost hr)
    (.ite (complete_nextOnlyHost hr) (complete_nextOnlyHost hr))))

theorem execPtpClientFind_onlyHost {a} : NextMeets (execPtpClientFind h a s) (OnlyHost s) := by
  unfold execPtpClientFind
  refine .ite (badArg_nextOnlyHost hr) (.ite (complete_nextOnlyHost hr) ?_)
  split
  · refine ⟨_, rfl, ?_⟩
    split
    · exact onlyHost_complete hr
    · exact onlyHost_complete hr
  · exact complete_nextOnlyHost hr

theorem execPtpParentRead_onlyHost {inst} : NextMeets (execPtpParentRead h inst s) (OnlyHost s) :=
  .ite (badArg_nextOnlyHost hr) (.ite (complete_nextOnlyHost hr) (complete_nextOnlyHost hr))

theorem execNtpRlQuery_onlyHost {a} : NextMeets (execNtpRlQuery h a s) (OnlyHost s) :=
  .ite (badArg_nextOnlyHost hr) (complete_nextOnlyHost hr)

theorem execNtpPeerRead_onlyHost {p} : NextMeets (execNtpPeerRead h p s) (OnlyHost s) :=
  .ite (badArg_nextOnlyHost hr) (.ite (complete_nextOnlyHost hr) (complete_nextOnlyHost hr))

theorem nopRun_onlyHost : OnlyHost s (nopRun s h) := by
  unfold nopRun guarded
  split
  · exact onlyHost_complete hr
  · exact onlyHost_badArg hr

/-- The gate of the key commands completes the command or hands the same state on (R358). -/
theorem keyGate_onlyHost {op k} (hk : OnlyHost s (k s)) : OnlyHost s (keyGate s h op k) := by
  unfold keyGate
  split
  · exact onlyHost_complete hr
  · split
    · exact onlyHost_complete hr
    · split
      · exact onlyHost_complete hr
      · exact hk

theorem withHandle_onlyHost {op handle k} (hk : ∀ i n, OnlyHost s (k i n)) : OnlyHost s (withHandle s h op handle k) := by
  unfold withHandle
  split
  · exact onlyHost_complete hr
  · split
    · exact onlyHost_complete hr
    · split
      · exact onlyHost_complete hr
      · exact hk _ _

theorem execStvKeyInfo_onlyHost {handle node_} : NextMeets (execStvKeyInfo h handle node_ s) (OnlyHost s) := by
  refine ⟨_, rfl, keyGate_onlyHost hr ?_⟩
  split
  · split
    · exact onlyHost_badArg hr
    · split
      · exact onlyHost_complete hr
      · exact onlyHost_complete hr
  · refine withHandle_onlyHost hr fun i n => ?_
    split
    · exact onlyHost_badArg hr
    · exact onlyHost_complete hr

end

/-- Settles O57: every branch of a command that only asks is a completion. -/
theorem queriesChangeOnlyTheRings : Obligations.QueriesChangeOnlyTheRings := by
  intro s t h hr hexec
  have ht : OnlyHost s t := by
    rcases hexec with ⟨a, b, he⟩ | ⟨a, he⟩ | ⟨i, he⟩ | ⟨a, he⟩ | ⟨p, he⟩ | he | ⟨a, b, he⟩
    · exact (execTsReadView_onlyHost hr).of_eq he
    · exact (execPtpClientFind_onlyHost hr).of_eq he
    · exact (execPtpParentRead_onlyHost hr).of_eq he
    · exact (execNtpRlQuery_onlyHost hr).of_eq he
    · exact (execNtpPeerRead_onlyHost hr).of_eq he
    · cases he
      exact nopRun_onlyHost hr
    · exact (execStvKeyInfo_onlyHost hr).of_eq he
  exact ⟨ht.regs, ht⟩

end Sys2Proof.Machine

namespace Sys2Proof.Machine
open Sys2Proof

/-! ### Bound codes (R55, R56) -/

/-- What the code `c` stands for in ps, 0xFF and beyond included: the formula of R55 without its exception. -/
def codePs (c : Nat) : Nat := (16 + c % 16) * 4 ^ (c / 16)

theorem boundPs_of_ne {c : Nat} (h : c ≠ 0xFF) : boundPs c = some (codePs c) := if_neg h

theorem eq_codePs_of_boundPs {c v : Nat} (h : boundPs c = some v) : v = codePs c := by
  unfold boundPs at h
  split at h
  · cases h
  · exact (Option.some.inj h).symm

theorem codePs_mul_add {e k : Nat} (h : k < 16) : codePs (e * 16 + k) = (16 + k) * 4 ^ e := by
  unfold codePs
  congr
  · omega
  · omega

theorem codePs_le (c : Nat) : codePs c ≤ 31 * 4 ^ (c / 16) := Nat.mul_le_mul_right _ (by omega)

/-- The bounds rise with the codes: within an exponent by the mantissa, and 31 at one exponent is below 16 at the next, which is 64. -/
theorem codePs_lt_codePs {c d : Nat} (h : c < d) : codePs c < codePs d := by
  rcases (Nat.div_le_div_right (c := 16) h.le).eq_or_lt with he | he
  · unfold codePs
    rw [he]
    exact Nat.mul_lt_mul_of_pos_right (by omega) (by positivity)
  · calc codePs c ≤ 31 * 4 ^ (c / 16) := codePs_le c
      _ < 16 * 4 ^ (c / 16 + 1) := by rw [pow_succ]; have := Nat.pow_pos (n := c / 16) (show 0 < 4 by decide); omega
      _ ≤ (16 + d % 16) * 4 ^ (d / 16) := Nat.mul_le_mul (Nat.le_add_right ..) (Nat.pow_le_pow_right (by decide) he)

theorem codePs_le_codePs {c d : Nat} (h : c ≤ d) : codePs c ≤ codePs d := by
  rcases h.eq_or_lt with rfl | h
  · exact le_rfl
  · exact (codePs_lt_codePs h).le

theorem cdiv_le_iff {b m n : Nat} (hm : 0 < m) : cdiv b m ≤ n ↔ b ≤ n * m := by
  rw [cdiv, ← Nat.ceilDiv_eq_add_pred_div, ceilDiv_le_iff_le_mul hm, Nat.mul_comm]

/-- The search from exponent `e` on finds the least code that reaches `b`, where no code of a lower exponent does. -/
theorem boundCodeFrom_least {b fuel e : Nat} (he : e + fuel = 16) (hlow : ∀ c < e * 16, codePs c < b) :
    boundCodeFrom b e fuel ≤ 0xFF ∧ (boundCodeFrom b e fuel < 0xFF → b ≤ codePs (boundCodeFrom b e fuel))
      ∧ ∀ c < boundCodeFrom b e fuel, codePs c < b := by
  induction fuel generalizing e with
  | zero => exact ⟨le_rfl, fun h => absurd h (lt_irrefl _), fun c hc => hlow c (by have : c < 0xFF := hc; omega)⟩
  | succ fuel ih =>
    have hpos : 0 < 4 ^ e := Nat.pow_pos (by decide)
    simp only [boundCodeFrom]
    split
    case isTrue hk =>
      rw [Nat.min_eq_right (by omega)]
      refine ⟨by omega, fun _ => ?_, fun c hc => ?_⟩
      · rw [codePs_mul_add (by omega)]
        exact (cdiv_le_iff hpos).1 (by omega)
      · rcases lt_or_ge c (e * 16) with h | h
        · exact hlow c h
        · obtain ⟨k, rfl⟩ := Nat.exists_eq_add_of_le h
          rw [codePs_mul_add (by omega), ← not_le, ← cdiv_le_iff hpos]
          omega
    case isFalse hk =>
      refine ih (by omega) fun c hc => ?_
      rw [cdiv_le_iff hpos, not_le] at hk
      calc codePs c ≤ 31 * 4 ^ (c / 16) := codePs_le c
        _ ≤ 31 * 4 ^ e := Nat.mul_le_mul_left _ (Nat.pow_le_pow_right (by decide) (by omega))
        _ < b := hk

theorem boundCode_least (b : Nat) :
    boundCode b ≤ 0xFF ∧ (boundCode b < 0xFF → b ≤ codePs (boundCode b)) ∧ ∀ c < boundCode b, codePs c < b :=
  boundCodeFrom_least rfl fun _ h => absurd h (by omega)

/-- The greatest bound that is encoded: 30 × 4^15 ps. -/
theorem codePs_greatest : codePs 0xFE = 32212254720 := rfl

/-- Settles O58: the search of `boundCode` passes over the codes that do not reach the bound and stops at the first that does. -/
theorem boundCodeIsLeast : Obligations.BoundCodeIsLeast := by
  intro b
  obtain ⟨hle, hreach, hleast⟩ := boundCode_least b
  refine ⟨fun hb => ?_, fun hb => ?_, fun c d v w hcd hd hv hw => ?_⟩
  · have hlt : boundCode b < 0xFF := by
      by_contra hge
      have := hleast 0xFE (by omega)
      rw [codePs_greatest] at this
      omega
    exact ⟨_, boundPs_of_ne hlt.ne, hreach hlt, fun c w hc hw => eq_codePs_of_boundPs hw ▸ hleast c hc⟩
  · by_contra hne
    have hb' := hreach (by omega)
    have := codePs_le_codePs (show boundCode b ≤ 0xFE by omega)
    rw [codePs_greatest] at this
    omega
  · rw [eq_codePs_of_boundPs hv, eq_codePs_of_boundPs hw]
    exact codePs_lt_codePs hcd

end Sys2Proof.Machine

namespace Sys2Proof.Machine
open Sys2Proof

/-! ### The counter (R44) -/

/-- A counter set from whole seconds, nanoseconds and fraction takes them as they are, the seconds modulo 2^48. -/
theorem counterOf_parts {sec ns frac : Nat} (hns : ns < 10 ^ 9) (hfrac : frac < 2 ^ 48) :
    counterOf (((sec * 10 ^ 9 + ns) * 2 ^ 48 + frac) % (2 ^ 48 * unitsPerSec)) = ⟨sec % 2 ^ 48, ns, frac⟩ := by
  unfold counterOf unitsPerSec
  congr 1
  · omega
  · omega
  · omega

/-- A counter moved to a time not before 0, given in seconds, nanoseconds and fraction. -/
theorem counterAdd_eq {c : Counter} {d : Int} {sec ns frac : Nat} (hns : ns < 10 ^ 9) (hfrac : frac < 2 ^ 48)
    (h : (counterUnits c : Int) + d = ((sec * 10 ^ 9 + ns) * 2 ^ 48 + frac : Nat)) : counterAdd c d = ⟨sec % 2 ^ 48, ns, frac⟩ := by
  unfold counterAdd
  rw [h, ← Int.natCast_mod, Int.toNat_natCast, counterOf_parts hns hfrac]

/-- A counter stands for the number of units that it was set from. -/
theorem counterUnits_counterOf {u : Nat} (h : u < 2 ^ 48 * unitsPerSec) : counterUnits (counterOf u) = u := by
  unfold unitsPerSec at h
  simp only [counterUnits, counterOf, unitsPerSec]
  omega

/-- A counter moved within its range stands for the sum. -/
theorem counterUnits_counterAdd {c : Counter} {d : Int} (h0 : 0 ≤ (counterUnits c : Int) + d)
    (h1 : (counterUnits c : Int) + d < (2 ^ 48 * unitsPerSec : Nat)) : (counterUnits (counterAdd c d) : Int) = counterUnits c + d := by
  have hlt : ((counterUnits c : Int) + d).toNat < 2 ^ 48 * unitsPerSec := by omega
  rw [counterAdd, Int.emod_eq_of_lt h0 h1, counterUnits_counterOf hlt, Int.toNat_of_nonneg h0]

/-! ### The tick (R44, R45, R61) -/

/-- The table whose entries `l` are set to their values of `g`. -/
theorem tget_foldl_tset {α : Type} (g : Nat → α) (d : α) (l : List Nat) (t : Tbl α) (n : Nat) :
    tget (l.foldl (fun u m => tset u m (g m)) t) d n = if n ∈ l then g n else tget t d n := by
  induction l generalizing t with
  | nil => simp
  | cons m l ih =>
    rw [List.foldl_cons, ih]
    by_cases h : n = m
    · subst h
      simp
    · simp [h, tget_tset_other _ _ _ _ _ h]

/-- Each of the four timescales takes its exact update in `k` ticks. -/
theorem tsc_advance {s : State} {k n : Nat} (hn : n < 4) (hc : clocked s = true) : tsc (advance s k) n = tickTs s k n := by
  unfold advance
  rw [if_pos hc]
  exact (tget_foldl_tset (tickTs s k) _ _ _ _).trans (if_pos (List.mem_range.2 hn))

/-- A running timescale of its own after one tick: the increment in force and the slew's quantum are added. -/
theorem tickTs_one {s : State} {n : Nat} (hr : tsRuns s n = true) (hd : tsDerived s n = false) :
    (tickTs s 1 n).cnt = counterAdd (tsc s n).cnt (tsIncr s n + slewMoved (tsc s n).slewRem (slewRateOf s n) 1)
      ∧ (tickTs s 1 n).slewRem = (tsc s n).slewRem - slewMoved (tsc s n).slewRem (slewRateOf s n) 1 := by
  simp [tickTs, hr, hd, tickDelta]

/-- At the fastest slew a quantum is 8 × 10^-5 ns. -/
theorem slewQuantum_lt {rate : Nat} (h : rate ≤ 50000000) : slewQuantum rate < 2 ^ 48 / 10000 := by
  unfold slewQuantum
  omega

/-- A slew moves by its quantum at most, in either direction. -/
theorem natAbs_slewMoved_one_le (rem : Int) (rate : Nat) : (slewMoved rem rate 1).natAbs ≤ slewQuantum rate := by
  simp only [slewMoved, Nat.one_mul]
  split
  · omega
  · omega

/-- The update of R44 in its two carries: `f` is the sum of the fractions and `k` that of the nanoseconds with the carry of `f`. -/
theorem counterAdd_carries {c : Counter} {incr : Nat} {q : Int} (hfrac : c.frac < 2 ^ 48) (hns : c.ns < 10 ^ 9) (hsec : c.sec < 2 ^ 48)
    (hlo : 2 ^ 48 ≤ incr) (hhi : incr < 2 * 2 ^ 48) (hq : q.natAbs < 2 ^ 48 / 10000) :
    let f : Int := c.frac + (incr % 2 ^ 48 : Nat) + q
    let k : Int := c.ns + (incr / 2 ^ 48 : Nat) + f / 2 ^ 48
    let t := counterAdd c (incr + q)
    (t.frac : Int) = f % 2 ^ 48 ∧ (t.ns : Int) = (if 1000000000 ≤ k then k - 1000000000 else k)
      ∧ t.sec = (if 1000000000 ≤ k then (c.sec + 1) % 2 ^ 48 else c.sec) := by
  intro f k t
  have hk0 : 0 ≤ k := by omega
  have hk1 : k < 2000000000 := by omega
  have hsum : (counterUnits c : Int) + (incr + q) = (c.sec * 10 ^ 9 + k) * 2 ^ 48 + f % 2 ^ 48 := by
    unfold counterUnits
    omega
  by_cases hk : 1000000000 ≤ k
  · have ht : t = ⟨(c.sec + 1) % 2 ^ 48, (k - 1000000000).toNat, (f % 2 ^ 48).toNat⟩ :=
      counterAdd_eq (by omega) (by omega) (by omega)
    rw [ht, if_pos hk, if_pos hk]
    exact ⟨Int.toNat_of_nonneg (by omega), Int.toNat_of_nonneg (by omega), rfl⟩
  · have ht : t = ⟨c.sec % 2 ^ 48, k.toNat, (f % 2 ^ 48).toNat⟩ := counterAdd_eq (by omega) (by omega) (by omega)
    rw [ht, if_neg hk, if_neg hk]
    exact ⟨Int.toNat_of_nonneg (by omega), Int.toNat_of_nonneg (by omega), Nat.mod_eq_of_lt hsec⟩

/-- Settles O59: the sum of counter, increment and quantum, taken apart into its carries. -/
theorem tickIsTheExactUpdate : Obligations.TickIsTheExactUpdate := by
  intro s n hn hc hr hd hfrac hns hsec hlo hhi hgov q f k t
  have hrate : slewRateOf s n ≤ 50000000 := (Nat.min_le_right ..).trans hgov
  have hq : q.natAbs < 2 ^ 48 / 10000 := (natAbs_slewMoved_one_le ..).trans_lt (slewQuantum_lt hrate)
  obtain ⟨hcnt, hrem⟩ := tickTs_one hr hd
  have ht : t = counterAdd (tsc s n).cnt (tsIncr s n + q) := by
    unfold t
    rw [tsc_advance hn hc, hcnt]
  obtain ⟨h1, h2, h3⟩ := counterAdd_carries hfrac hns hsec hlo hhi hq
  rw [ht]
  exact ⟨h1, h2, h3, by rw [tsc_advance hn hc, hrem]⟩

end Sys2Proof.Machine

namespace Sys2Proof.Machine
open Sys2Proof

/-! ### What reports leave of the timescales (R51, R54) -/

/-- Every timescale of `t` is that of `s`, the stepped-since bits aside, which a slate that is sent uses up (R54). -/
def KeepsTimescales (s t : State) : Prop := ∀ n, tsc t n = { tsc s n with stepped := (tsc t n).stepped }

section
variable {s t u : State}

theorem KeepsTimescales.of_time (h : t.time = s.time) : KeepsTimescales s t := fun n => by rw [tsc, h, ← tsc]

theorem KeepsTimescales.trans (h : KeepsTimescales s t) (h' : KeepsTimescales t u) : KeepsTimescales s u := fun n => by rw [h' n, h n]

theorem KeepsTimescales.cnt (h : KeepsTimescales s t) (n : Nat) : (tsc t n).cnt = (tsc s n).cnt := by rw [h n]

theorem KeepsTimescales.state (h : KeepsTimescales s t) (n : Nat) : (tsc t n).state = (tsc s n).state := by rw [h n]

theorem logEvent_keepsTimescales {sev code data} : KeepsTimescales s (logEvent s sev code data) := (SparesHandshake.refl s).logEvent.tsc

theorem SparesHandshake.governorRefuses (h : SparesHandshake s t) {op limit} : SparesHandshake s (governorRefuses t op limit) :=
  h.logRec.ite h.logRec.frame.event

theorem SparesHandshake.deniedBy (h : SparesHandshake s t) {c op limit} : SparesHandshake s (deniedBy t c op limit) :=
  h.inc.governorRefuses.complete

/-- A command that the governor refuses moves no timescale. -/
theorem deniedBy_keepsTimescales {h op limit} : KeepsTimescales s (deniedBy s h op limit) := (SparesHandshake.refl s).deniedBy.tsc

end

/-! ### The permit (R381, R382) -/

@[simp] theorem setPermit_time (s : State) (n : Nat) (p : Option Permit) : (setPermit s n p).time = s.time := rfl

/-- The permit register's other fields: the mode and the source of every timescale are kept. -/
theorem setPermit_f (s : State) (n : Nat) (p : Option Permit) {d : Fld} (h : d.reg = .TS_CTRL ∧ d.lo ≤ d.hi
    ∧ (F.TS_CTRL_step_permit.hi < d.lo ∨ d.hi < F.TS_CTRL_step_permit.lo)) (m : Nat) : (setPermit s n p).f d m = s.f d m := by
  obtain ⟨hr, hd, ha⟩ := h
  by_cases hm : m = n
  · subst hm
    exact f_setF_apart _ _ _ _ _ _ hr (by decide) (by decide) hd ha
  · exact f_setF_index _ _ _ _ _ _ _ _ hm

/-- The permit that fits is used up: the event is posted, and no permit is held. -/
theorem consumePermit_of_fits {s : State} {n v : Nat} (h : permitFits s n v = true) :
    consumePermit s n = permitEvent (setPermit s n none) n 1 := by
  unfold consumePermit
  split
  · rfl
  · next hnone => simp [permitFits, permitFree, hnone] at h

theorem permitOf_congr {s t : State} (h : t.gov = s.gov) (n : Nat) : permitOf t n = permitOf s n := by rw [permitOf, h, permitOf]

theorem permitOf_setPermit (s : State) (n : Nat) (p : Option Permit) : permitOf (setPermit s n p) n = p := tget_tset_same ..

/-- A permit used up leaves the fields of TS_CTRL as they were, step_permit aside. -/
theorem consumePermit_f (s : State) (n : Nat) {d : Fld} (h : d.reg = .TS_CTRL ∧ d.lo ≤ d.hi
    ∧ (F.TS_CTRL_step_permit.hi < d.lo ∨ d.hi < F.TS_CTRL_step_permit.lo)) (m : Nat) : (consumePermit s n).f d m = s.f d m := by
  unfold consumePermit
  split
  · exact (logEvent_f _ _ _ _ _ _ _ (by rw [h.1]; decide)).trans (setPermit_f _ _ _ h m)
  · rfl

theorem consumePermit_keepsTimescales (s : State) (n : Nat) : KeepsTimescales s (consumePermit s n) := by
  unfold consumePermit
  split
  · exact (KeepsTimescales.of_time (setPermit_time ..)).trans logEvent_keepsTimescales
  · exact .of_time rfl

/-! ### The step (R49, R54, R62) -/

theorem tsc_congr {s t : State} (h : t.time = s.time) (n : Nat) : tsc t n = tsc s n := by rw [tsc, h, tsc]

/-- A fold whose pass for `m` changes timescale `m` alone, by `g m`, changes each timescale of the list once. -/
theorem tsc_foldl {f : State → Nat → State} {g : Nat → Tscale → Tscale}
    (hf : ∀ t m k, tsc (f t m) k = if k = m then g m (tsc t m) else tsc t k) {l : List Nat} (hl : l.Nodup) (s : State) (k : Nat) :
    tsc (l.foldl f s) k = if k ∈ l then g k (tsc s k) else tsc s k := by
  induction l generalizing s with
  | nil => rfl
  | cons m l ih =>
    obtain ⟨hm, hl⟩ := List.nodup_cons.1 hl
    rw [List.foldl_cons, ih hl, hf]
    by_cases h : k = m
    · subst h
      simp [hm]
    · simp [h]

/-- A step of timescale `n` in the state `s` moves timescale `m`: itself, or a running one derived from it (R49). -/
def stepMoves (s : State) (n m : Nat) : Bool := m = n || (derivesFrom s 4 m n && tsRuns s m)

/-- A timescale that a step moves by `d` (R54, R62). -/
def movedTs (d : Int) (x : Tscale) : Tscale := { x with cnt := counterAdd x.cnt d, stepped := allDests }

theorem tsc_movedTs (t : State) (m k : Nat) (d : Int) :
    tsc (setStepped (setTsc t m { tsc t m with cnt := counterAdd (tsc t m).cnt d }) m) k = if k = m then movedTs d (tsc t m) else tsc t k := by
  by_cases hk : k = m
  · subst hk
    rw [if_pos rfl, setStepped, tsc_setTsc_same, tsc_setTsc_same]
    rfl
  · rw [if_neg hk, setStepped, tsc_setTsc_other _ _ _ _ hk, tsc_setTsc_other _ _ _ _ hk]

theorem tsc_stepBy {s : State} {n m : Nat} {d : Int} (hm : m < 4) :
    tsc (stepBy s n d) m = if stepMoves s n m then movedTs d (tsc s m) else tsc s m := by
  unfold stepBy
  rw [tsc_foldl (g := fun m x => if stepMoves s n m then movedTs d x else x) _ List.nodup_range, if_pos (List.mem_range.2 hm)]
  intro t m k
  split
  · next h =>
    rw [if_pos (show stepMoves s n m = true from h)]
    exact tsc_movedTs t m k d
  · next h =>
    rw [if_neg (show ¬stepMoves s n m = true from h)]
    split
    · next hk => rw [hk]
    · rfl

theorem stepBy_gov (s : State) (n : Nat) (d : Int) : (stepBy s n d).gov = s.gov := by
  refine foldl_keeps State.gov _ (fun t m => ?_) _ _
  split
  · rfl
  · rfl

/-- What a timescale derives from is said by the modes and the sources in TS_CTRL alone. -/
theorem derivesFrom_congr {s t : State} (hmode : ∀ m, t.f F.TS_CTRL_mode m = s.f F.TS_CTRL_mode m)
    (hsrc : ∀ m, t.f F.TS_CTRL_derive_src m = s.f F.TS_CTRL_derive_src m) (k m n : Nat) : derivesFrom t k m n = derivesFrom s k m n := by
  induction k generalizing m with
  | zero => rfl
  | succ k ih => simp only [derivesFrom, tsDerived, tsSource, State.fb, hmode, hsrc, ih]

/-- The state in which a TS_STEP has used up its permit and cancelled the slew (R62). -/
def tsPaid (s : State) (a : TsStepArgs) : State := cancelSlew (consumePermit s a.ts) a.ts

/-- The state after a TS_STEP took effect: paid for, the counter moved and the step counted (R62). -/
def tsStepped (s : State) (a : TsStepArgs) : State := (stepBy (tsPaid s a) a.ts (stepUnits a)).inc .TS_STEP_COUNT a.ts

section
variable {s : State} {a : TsStepArgs}

theorem tsc_tsStepped {m : Nat} (hm : m < 4) :
    tsc (tsStepped s a) m = if stepMoves (tsPaid s a) a.ts m then movedTs (stepUnits a) (tsc (tsPaid s a) m) else tsc (tsPaid s a) m := by
  rw [tsStepped, tsc_congr (State.inc_time ..), tsc_stepBy hm]

/-- The timescale that the command names: its counter moves by the amount and its slew is cancelled. -/
theorem tsc_tsStepped_own (ha : a.ts < 4) :
    (tsc (tsStepped s a) a.ts).cnt = counterAdd (tsc s a.ts).cnt (stepUnits a) ∧ (tsc (tsStepped s a) a.ts).slewRem = 0 := by
  rw [tsc_tsStepped ha, if_pos (by simp [stepMoves]), tsPaid, cancelSlew, loadSlew, tsc_setTsc_same, movedTs]
  exact ⟨by rw [(consumePermit_keepsTimescales s a.ts).cnt], rfl⟩

/-- A timescale that neither is the one named nor derives from it is not moved (R49). -/
theorem tsc_tsStepped_other {m : Nat} (hm : m < 4) (hne : m ≠ a.ts) (hd : derivesFrom s 4 m a.ts = false) :
    (tsc (tsStepped s a) m).cnt = (tsc s m).cnt := by
  have hd' : derivesFrom (tsPaid s a) 4 m a.ts = false :=
    (derivesFrom_congr (consumePermit_f s a.ts (by decide)) (consumePermit_f s a.ts (by decide)) 4 m a.ts).trans hd
  rw [tsc_tsStepped hm, if_neg (by simp [stepMoves, hne, hd']), tsPaid, cancelSlew, loadSlew, tsc_setTsc_other _ _ _ _ hne,
    (consumePermit_keepsTimescales s a.ts).cnt]

/-- The permit that pays for the step is used up. -/
theorem permitOf_tsStepped (hp : permitFits s a.ts a.permit = true) : permitOf (tsStepped s a) a.ts = none := by
  have hgov : (tsStepped s a).gov = (setPermit s a.ts none).gov := by
    rw [tsStepped, State.inc_gov, stepBy_gov, tsPaid, cancelSlew, loadSlew, setTsc_gov, consumePermit_of_fits hp, permitEvent, logEvent_gov]
  rw [permitOf_congr hgov, permitOf_setPermit]

end

end Sys2Proof.Machine

namespace Sys2Proof.Machine
open Sys2Proof

/-! ### The commands that set, step, slew and splice (R60-R65, R70, R71, R457) -/

section
variable {s : State} {h : CmdHdr} (hm : h.mbz = true) (hi : s.log.isolated.contains 5 = false) (hc : s.hs.shclk = true)
include hm hi hc

/-- TS_SET with its time values in range, at its commit point. -/
theorem execTsSet_eq {a : TsSetArgs} (ha : a.ts < 4) (ht : a.triggerTs < 4) (htrig : a.trigger ≤ 1) (hns : a.ns < 10 ^ 9) (hsec : a.sec < 2 ^ 48)
    (htns : a.tNs < 10 ^ 9) (htsec : a.tSec < 2 ^ 48) (he : s.fb F.TS_CTRL_enable a.ts = true)
    (hp : tsLoaded s a.ts = true → permitFits s a.ts a.permit = true)
    (hx : a.trigger = 1 → a.triggerTs ≠ a.ts ∧ instantPast s a.triggerTs a.tSec a.tNs a.tFrac = false) :
    execTsSet h a s = .next (if a.trigger = 0 then applyTsSet (begins s h 0x10) h a
      else atTsWait (if tsLoaded s a.ts then reservePermit (begins s h 0x10) a.ts h else begins s h 0x10)
        ⟨h, .tsSet a, a.triggerTs, a.tSec, a.tNs, a.tFrac⟩) := by
  have hpast : ¬(a.trigger = 1 ∧ (a.triggerTs = a.ts ∨ instantPast s a.triggerTs a.tSec a.tNs a.tFrac = true)) := by
    rintro ⟨h1, h2 | h2⟩
    · exact (hx h1).1 h2
    · simp [(hx h1).2] at h2
  have hpermit : ¬((tsLoaded s a.ts && !permitFits s a.ts a.permit) = true) := by
    simpa using hp
  unfold execTsSet
  rw [if_neg (by simp [hm]), if_neg (ne_true_of_eq_false hi), if_neg (by omega),
    if_neg (by simp only [he, Bool.true_eq_false, or_false]; omega), if_neg (by simp [hc]), if_neg hpast, if_neg hpermit]
  split
  · rfl
  · rfl

/-- TS_STEP on an enabled timescale of its own: refused without its permit, BAD_ARG where the result leaves the range of the counter, else it takes
effect. -/
theorem execTsStep_eq {a : TsStepArgs} (ha : a.ts < 4) (he : s.fb F.TS_CTRL_enable a.ts = true) (hd : tsDerived s a.ts = false) :
    execTsStep h a s = if !permitFits s a.ts a.permit then .next (deniedBy s h 0x11 0x46)
      else if (counterUnits (tsc s a.ts).cnt : Int) + stepUnits a < 0 ∨ (2 ^ 48 * unitsPerSec : Nat) ≤ (counterUnits (tsc s a.ts).cnt : Int)
        + stepUnits a
      then .next (badArg s h 0x11)
      else .next (complete (tsStepped s a) h 0x11 .ok [(0, 8, twos 64 (unitsToPs (tsc s a.ts).slewRem))]) := by
  unfold execTsStep
  rw [if_neg (by simp [hm]), if_neg (ne_true_of_eq_false hi), if_neg (by omega), if_neg (by simp [he, hd]), if_neg (by simp [hc])]
  rfl

theorem execTsStep_takesEffect {a : TsStepArgs} (ha : a.ts < 4) (he : s.fb F.TS_CTRL_enable a.ts = true) (hd : tsDerived s a.ts = false)
    (hp : permitFits s a.ts a.permit = true) (h0 : 0 ≤ (counterUnits (tsc s a.ts).cnt : Int) + stepUnits a)
    (h1 : (counterUnits (tsc s a.ts).cnt : Int) + stepUnits a < (2 ^ 48 * unitsPerSec : Nat)) :
    execTsStep h a s = .next (complete (tsStepped s a) h 0x11 .ok [(0, 8, twos 64 (unitsToPs (tsc s a.ts).slewRem))]) := by
  rw [execTsStep_eq hm hi hc ha he hd, if_neg (by simp [hp]), if_neg (by omega)]

/-- TS_SLEW within the governor's rate, on an enabled timescale that the host steers. -/
theorem execTsSlew_eq {a : TsSlewArgs} (ha : a.ts < 4) (he : s.fb F.TS_CTRL_enable a.ts = true) (hd : tsDerived s a.ts = false)
    (hens : s.fb F.TS_CTRL_ens_enable a.ts = false) (hlo : 1000 ≤ a.rate) (hhi : a.rate ≤ 50000000)
    (hgov : a.rate ≤ s.f F.GOV_TS_SLEW_value a.ts) :
    execTsSlew h a s = .next (complete (loadSlew s a.ts (psToUnits a.amount) a.rate true) h 0x12 .ok
      [(0, 8, twos 64 (unitsToPs (tsc s a.ts).slewRem)), (8, 4, slewMs a.amount a.rate)]) := by
  unfold execTsSlew
  rw [if_neg (by simp [hm]), if_neg (ne_true_of_eq_false hi), if_neg (by omega),
    if_neg (by simp only [he, hd, Bool.true_eq_false, Bool.false_eq_true, false_or]; omega), if_neg (by simp [hens, hc]), if_neg (by omega)]
  simp only [if_neg (show a.rate ≠ 0 by omega)]

/-- TS_SPLICE in mode SLEW at the governor's rate, with consumers that follow timescale a and are not busy: it waits for its instant. -/
theorem execTsSplice_eq {a : TsSpliceArgs} (hfrom : a.from_ < 4) (hto : a.to_ < 4) (hne : a.from_ ≠ a.to_) (hmode : a.mode = 0) (hrate : a.rate = 0)
    (hmask : 0 < a.mask) (hmask' : a.mask < 2 ^ 20) (hns : a.ns < 10 ^ 9) (hsec : a.sec < 2 ^ 48) (hrun : tsRuns s a.to_ = true)
    (hload : tsLoaded s a.to_ = true) (hcons : (maskConsumers a.mask).any (fun c => consumerTs s c != some a.from_) = false)
    (hpast : instantPast s a.from_ a.sec a.ns 0 = false) (hbusy : (maskConsumers a.mask).any (consumerBusy s) = false) :
    execTsSplice h a s = .next (atTsWait (begins s h 0x13) ⟨h, .tsSplice a, a.from_, a.sec, a.ns, 0⟩) := by
  unfold execTsSplice
  rw [if_neg (by simp [hm]), if_neg (ne_true_of_eq_false hi), if_neg (by omega), if_neg (by omega), if_neg (by simp [hc]),
    if_neg (by simp only [hrun, hload, hcons, hpast]; decide), if_neg (by simp only [hbusy]; decide),
    if_neg (by simp [hrate]), if_neg (by simp [hmode])]
  simp only [if_neg (show ¬a.mode = 1 by omega)]

end

/-- Settles O60: without the permit nothing but reports follows, out of range nothing but the completion, and else the step of `tsStepped`. -/
theorem stepNeedsItsPermit : Obligations.StepNeedsItsPermit := by
  intro s h a hm _ hi hc ha he hd
  have hexec := execTsStep_eq hm hi hc ha he hd
  refine ⟨fun hp => ?_, fun hp hout => ?_, fun hp h0 h1 => ?_⟩
  · rw [if_pos (by simp [hp])] at hexec
    exact ⟨_, hexec, deniedBy_keepsTimescales.cnt⟩
  · rw [if_neg (by simp [hp]), if_pos hout] at hexec
    exact ⟨_, hexec, badArg_time .., badArg_gov ..⟩
  · have htsc := tsc_congr (complete_time (tsStepped s a) h 0x11 .ok [(0, 8, twos 64 (unitsToPs (tsc s a.ts).slewRem))])
    obtain ⟨hcnt, hrem⟩ := tsc_tsStepped_own (s := s) ha
    refine ⟨_, execTsStep_takesEffect hm hi hc ha he hd hp h0 h1, ?_, ?_, ?_, fun m hm' hne hder => ?_⟩
    · rw [htsc, hcnt, counterUnits_counterAdd h0 h1]
    · rw [htsc, hrem]
    · rw [permitOf_congr (complete_gov ..), permitOf_tsStepped hp]
    · rw [htsc, tsc_tsStepped_other hm' hne hder]

/-- Settles O8: the checks of each command pass, and what is left is its effect. -/
theorem timeCommandsTakeEffect : Obligations.TimeCommandsTakeEffect := by
  intro s h hm hi hc
  refine ⟨?_, ?_, ?_, ?_, ?_⟩
  · intro a ha htrig ht hns hsec htns htsec he hp
    exact (execTsSet_eq hm hi hc ha ht (by omega) hns hsec htns htsec he hp (by omega)).trans (by rw [if_pos htrig])
  · intro a ha htrig ht hne hns hsec htns htsec he hpast hload
    refine (execTsSet_eq hm hi hc ha ht (by omega) hns hsec htns htsec he (by simp [hload]) fun _ => ⟨hne, hpast⟩).trans ?_
    rw [if_neg (by omega), if_neg (by simp [hload])]
  · intro a ha he hd hp h0 h1
    exact execTsStep_takesEffect hm hi hc ha he hd hp h0 h1
  · intro a ha he hd hens hlo hhi hgov
    exact execTsSlew_eq hm hi hc ha he hd hens hlo hhi hgov
  · intro a hfrom hto hne hmode hrate hmask hmask' hns hsec hrun hload hcons hpast hbusy
    exact execTsSplice_eq hm hi hc hfrom hto hne hmode hrate hmask hmask' hns hsec hrun hload hcons hpast hbusy

end Sys2Proof.Machine

namespace Sys2Proof.Machine
open Sys2Proof

/-! ### Fields set and read -/

section
variable {s : State} {d e : Fld} {i j : Nat}

theorem fb_setB_same {b : Bool} (h1 : d.hi = d.lo) (h2 : d.hi < 32) : (s.setB d b i j).fb d i j = b := by
  rw [State.fb, State.setB, f_setF_same _ _ _ _ _ h1.ge h2, h1, Nat.sub_self]
  cases b
  · rfl
  · rfl

theorem twos_lt (bits : Nat) (x : Int) : twos bits x < 2 ^ bits := by
  have hpos : (0 : Int) < (2 ^ bits : Nat) := by exact_mod_cast Nat.two_pow_pos bits
  have hlo := Int.emod_nonneg x hpos.ne'
  have hhi := Int.emod_lt_of_pos x hpos
  unfold twos
  omega

theorem f_setI_same {x : Int} {w : Nat} (h1 : d.lo ≤ d.hi) (h2 : d.hi < 32) (hw : d.hi - d.lo + 1 = w) : (s.setI d x i j).f d i j = twos w x := by
  subst hw
  rw [State.setI, f_setF_same _ _ _ _ _ h1 h2, Nat.mod_eq_of_lt (twos_lt ..)]

theorem f_wr_name {n : RegName} {k l : Nat} {v : Word} (h : d.reg ≠ n) : (s.wr n k l v).f d i j = s.f d i j := by
  rw [State.f, rg_wr_name _ _ _ _ _ _ _ _ h, State.f]

theorem complete_f {h : CmdHdr} {op st p} (hr : h.ring < 64) : (complete s h op st p).f d i j = s.f d i j := f_congr (complete_regs _ _ _ _ _ hr) d i j

end

/-! ### The leap schedule (R67, R70, R291) -/

theorem leapScheduled_congr {s t : State} (h : t.f F.TS_LEAP_SCHED_dir = s.f F.TS_LEAP_SCHED_dir) : leapScheduled t = leapScheduled s := by
  rw [leapScheduled, h, leapScheduled]

theorem leapScheduled_clearLeap (s : State) : leapScheduled (clearLeap s) = false := by
  rw [leapScheduled, clearLeap, State.f, rg_wr_same]
  rfl

/-- TAI − UTC set to `x` and known. -/
def offsetSet (s : State) (x : Int) : State := (s.setI F.TS_UTC_OFS_tai_utc x).setB F.TS_UTC_OFS_known true

theorem offsetSet_known (s : State) (x : Int) : (offsetSet s x).fb F.TS_UTC_OFS_known = true := fb_setB_same rfl (by decide)

theorem offsetSet_taiUtc (s : State) (x : Int) : (offsetSet s x).f F.TS_UTC_OFS_tai_utc = twos 16 x := by
  rw [offsetSet, State.setB, f_setF_apart _ F.TS_UTC_OFS_known F.TS_UTC_OFS_tai_utc _ _ _ rfl (by decide) (by decide) (by decide) (by decide),
    f_setI_same (d := F.TS_UTC_OFS_tai_utc) (w := 16) (by decide) (by decide) rfl]

/-- A leap of direction `dir` at the end of `day` scheduled, pending where the day has begun. -/
def leapSet (s : State) (dir day : Nat) (pending : Bool) : State :=
  ((s.setF F.TS_LEAP_SCHED_dir dir).setF F.TS_LEAP_SCHED_day day).setB F.TS_LEAP_SCHED_pending pending

theorem leapSet_dir (s : State) {dir : Nat} (day : Nat) (pending : Bool) (h : dir < 4) : (leapSet s dir day pending).f F.TS_LEAP_SCHED_dir = dir := by
  rw [leapSet, State.setB, f_setF_apart _ F.TS_LEAP_SCHED_pending F.TS_LEAP_SCHED_dir _ _ _ rfl (by decide) (by decide) (by decide) (by decide),
    f_setF_apart _ F.TS_LEAP_SCHED_day F.TS_LEAP_SCHED_dir _ _ _ rfl (by decide) (by decide) (by decide) (by decide),
    f_setF_same _ F.TS_LEAP_SCHED_dir _ _ _ (by decide) (by decide)]
  exact Nat.mod_eq_of_lt h

theorem leapSet_day (s : State) (dir : Nat) {day : Nat} (pending : Bool) (h : day < 2 ^ 16) :
    (leapSet s dir day pending).f F.TS_LEAP_SCHED_day = day := by
  rw [leapSet, State.setB, f_setF_apart _ F.TS_LEAP_SCHED_pending F.TS_LEAP_SCHED_day _ _ _ rfl (by decide) (by decide) (by decide) (by decide),
    f_setF_same _ F.TS_LEAP_SCHED_day _ _ _ (by decide) (by decide)]
  exact Nat.mod_eq_of_lt h

section
variable {s : State} {h : CmdHdr} {a : TsLeapArgs} (hm : h.mbz = true) (hstand : standIn s = false)
include hm hstand

/-- SET_OFFSET of TS_LEAP, once (R67). -/
theorem execTsLeap_setOffset (hop : a.op = 2) (hk : s.fb F.TS_UTC_OFS_known = false) :
    execTsLeap h a s = .next (complete (offsetSet s a.taiUtc) h 0x14 .ok (leapPayload (offsetSet s a.taiUtc))) := by
  unfold execTsLeap
  rw [if_neg (by simp [hm, hop]), if_neg (by simp [hstand]), if_pos hop, if_neg (by simp [hk])]
  rfl

/-- SCHEDULE of TS_LEAP at the end of a UTC month, before its last minute (R67). -/
theorem execTsLeap_schedule (hop : a.op = 0) (hdir : a.dir = 1 ∨ a.dir = 2) (hnone : leapScheduled s = false)
    (ht : utcSec s < (a.day : Int) * 86400 + 86340) (hmonth : monthEnd a.day = true) (hk : s.fb F.TS_UTC_OFS_known = true) :
    ∃ pending, execTsLeap h a s
      = .next (complete (leapSet s a.dir a.day pending) h 0x14 .ok (leapPayload (leapSet s a.dir a.day pending))) := by
  refine ⟨decide ((a.day : Int) * 86400 ≤ utcSec ((s.setF F.TS_LEAP_SCHED_dir a.dir).setF F.TS_LEAP_SCHED_day a.day)), ?_⟩
  unfold execTsLeap
  rw [if_neg (by simp only [hm, Bool.not_true, Bool.false_eq_true, false_or]; omega), if_neg (by simp [hstand]), if_neg (by omega), if_pos hop,
    if_neg (by simp [hnone]), if_neg (by omega), if_neg (by simp [hmonth, hk])]
  rfl

/-- CANCEL of TS_LEAP before the last minute of the leap day (R67). -/
theorem execTsLeap_cancel (hop : a.op = 1) (hs : leapScheduled s = true) (ht : utcSec s < (s.f F.TS_LEAP_SCHED_day : Int) * 86400 + 86340) :
    execTsLeap h a s = .next (complete (clearLeap s) h 0x14 .ok (leapPayload (clearLeap s))) := by
  unfold execTsLeap
  rw [if_neg (by simp only [hm, Bool.not_true, Bool.false_eq_true, false_or]; omega), if_neg (by simp [hstand]), if_neg (by omega), if_neg (by omega),
    if_neg (by simp [hs]), if_neg (by omega)]

end

/-- A view that exists, in either form, is answered at once (R66, R70). -/
theorem execTsReadView_completes {s : State} {h : CmdHdr} {view form : Nat} (hm : h.mbz = true) (hv : view < 5) (hf : form ≤ 1) :
    ∃ p, execTsReadView h view form s = .next (complete s h 0x15 .ok p) := by
  unfold execTsReadView
  rw [if_neg (by simp [hm]), if_neg (by omega), if_neg (by omega)]
  extract_lets
  split
  · exact ⟨_, rfl⟩
  · exact ⟨_, rfl⟩

theorem execLeapDayStart_eq {s : State} (hs : leapScheduled s = true) : execLeapDayStart s = .next (s.setB F.TS_LEAP_SCHED_pending true) := by
  unfold execLeapDayStart
  rw [if_pos hs]

theorem execLeapSecondEnd_eq {s : State} (hs : leapScheduled s = true) :
    execLeapSecondEnd s = .next (clearLeap (({ s with time := { s.time with lastLeap := some (leapWindow s) } } : State).setI F.TS_UTC_OFS_tai_utc
      (taiUtc s + if s.f F.TS_LEAP_SCHED_dir = 1 then 1 else -1))) := by
  unfold execLeapSecondEnd
  rw [if_pos hs]
  rfl

/-- Settles O9: each operation of TS_LEAP writes its own fields before it completes, and the leap rows write theirs. -/
theorem leapAndViewCommandsTakeEffect : Obligations.LeapAndViewCommandsTakeEffect := by
  intro s h hm hr
  refine ⟨fun hstand => ⟨?_, ?_, ?_⟩, ?_, ?_, ?_⟩
  · intro a hop hk
    refine ⟨_, execTsLeap_setOffset hm hstand hop hk, ?_, ?_⟩
    · rw [State.fb, complete_f hr, ← State.fb, offsetSet_known]
    · rw [complete_f hr, offsetSet_taiUtc]
  · intro a hop hdir hday hnone ht hmonth hk
    obtain ⟨pending, hexec⟩ := execTsLeap_schedule hm hstand hop hdir hnone ht hmonth hk
    refine ⟨_, hexec, ?_, ?_⟩
    · rw [complete_f hr, leapSet_dir _ _ _ (by omega)]
    · rw [complete_f hr, leapSet_day _ _ _ hday]
  · intro a hop hs ht
    refine ⟨_, execTsLeap_cancel hm hstand hop hs ht, ?_, ?_⟩
    · rw [leapScheduled_congr (complete_f hr), leapScheduled_clearLeap]
    · rw [complete_time, clearLeap, State.wr_time]
  · intro view form hv hf
    obtain ⟨p, hexec⟩ := execTsReadView_completes (s := s) hm hv hf
    exact ⟨p, _, hexec, rfl, complete_eq _ _ _ _ _ hr⟩
  · intro hs
    exact ⟨_, execLeapDayStart_eq hs, fb_setB_same rfl (by decide), State.setB_time ..⟩
  · intro hs
    refine ⟨_, execLeapSecondEnd_eq hs, leapScheduled_clearLeap _, ?_⟩
    rw [clearLeap, f_wr_name (by decide), f_setI_same (d := F.TS_UTC_OFS_tai_utc) (w := 16) (by decide) (by decide) rfl]

end Sys2Proof.Machine

namespace Sys2Proof.Machine
open Sys2Proof

/-! ### The transitions of a timescale (R58) -/

section
variable {s t u : State}

theorem KeepsTimescales.ite {p : Prop} {_ : Decidable p} (ht : KeepsTimescales s t) (hu : KeepsTimescales s u) :
    KeepsTimescales s (if p then t else u) := by
  split
  · exact ht
  · exact hu

theorem KeepsTimescales.refl (s : State) : KeepsTimescales s s := .of_time rfl

theorem applyHeldCoeffs_time (s : State) : (applyHeldCoeffs s).time = s.time := by
  unfold applyHeldCoeffs
  split
  · rfl
  · extract_lets put
    have hput : ∀ t i, (put t i).time = t.time := by
      intro t i
      unfold put
      split
      · rfl
      · rfl
    exact (hput _ _).trans ((hput _ _).trans (hput _ _))

theorem advanceProv_keepsTimescales {n cause} : KeepsTimescales s (advanceProv s n cause) :=
  (KeepsTimescales.of_time (setEns_time ..)).trans logEvent_keepsTimescales

theorem ensFree_keepsTimescales {n} : KeepsTimescales s (ensFree s n) := by
  unfold ensFree
  extract_lets _ cleared counted bounded
  have hbounded : bounded.time = s.time := by
    simp only [bounded, counted, cleared, State.setF_time, State.setB_time, setEns_time]
  exact .ite (.of_time hbounded) ((KeepsTimescales.of_time ((State.setF_time ..).trans hbounded)).trans advanceProv_keepsTimescales)

/-- A timescale is in the state that it makes its transition to. -/
theorem state_tsTransition (s : State) (n : Nat) (st : TsState) : (tsc (tsTransition s n st) n).state = st := by
  unfold tsTransition
  extract_lets t frozen entered uncoasted posted
  split
  · next h => exact h
  · have hentered : (tsc entered n).state = st := congrArg Tscale.state (tsc_setTsc_same ..)
    have huncoasted : KeepsTimescales entered uncoasted := .ite (.of_time (applyHeldCoeffs_time entered)) (.refl _)
    have hposted : KeepsTimescales uncoasted posted := logEvent_keepsTimescales.trans advanceProv_keepsTimescales
    have hlast : KeepsTimescales posted (if st = .free then ensFree posted n else posted) := .ite ensFree_keepsTimescales (.refl _)
    rw [((huncoasted.trans hposted).trans hlast).state, hentered]

end

/-! ### Register writes, snapshots and the ends of slews (R45-R47, R57, R58, R61) -/

section
variable {s : State} {n : Nat}

theorem execTsIncrLoWrite_eq {v : Word} (hn : n < 4) (hok : hostIncrOk s n = true) :
    execTsIncrLoWrite n v s = .next (setTsc s n { tsc s n with heldLo := some v }) := by
  unfold execTsIncrLoWrite
  rw [if_neg (by omega), if_pos hok]

/-- The high half goes in force with the low half that is held. -/
theorem execTsIncrHiWrite_eq {v lo : Word} (hn : n < 4) (hok : hostIncrOk s n = true) (hc : s.hs.shclk = true) (hlo : (tsc s n).heldLo = some lo)
    (hrange : incrInRange (fget v 19 16 * 2 ^ 48 + fget v 15 0 * 2 ^ 32 + lo.toNat) = true)
    (hne : tsIncr s n ≠ fget v 19 16 * 2 ^ 48 + fget v 15 0 * 2 ^ 32 + lo.toNat) :
    execTsIncrHiWrite n v s
      = .next (applyIncr (setTsc s n { tsc s n with heldLo := none }) n (fget v 19 16 * 2 ^ 48 + fget v 15 0 * 2 ^ 32 + lo.toNat) 0) := by
  have hsame : ∀ x, tsIncr (setTsc s n x) n = tsIncr s n := fun _ => rfl
  have hmay : ∀ x, (hostIncrOk (setTsc s n x) n && (setTsc s n x).hs.shclk) = true := fun _ => Bool.and_eq_true_iff.2 ⟨hok, hc⟩
  unfold execTsIncrHiWrite
  rw [if_neg (by omega)]
  simp only [hlo, Option.getD_some]
  rw [hsame, if_neg hne.symm, hmay, hrange, Bool.and_self, if_pos rfl]

theorem execTsNowSnapshot_eq (hn : n < 4) :
    execTsNowSnapshot n s = .next (setTsc (sentTo s n .now) n { tsc (sentTo s n .now) n with now := slateOf s n .now }) := if_neg (by omega)

/-- The slate just sent has used up the stepped-since bit of its destination (R54). -/
theorem stepped_sentTo (s : State) (n : Nat) (d : Dest) : (tsc (sentTo s n d) n).stepped.contains d = false := by
  simp [sentTo]

/-- The timescale whose enable is written 0: FREE, its time not valid and without a bound (R58). -/
def tsDisabled (s : State) (n : Nat) : State :=
  setTsc (tsTransition s n .free) n { tsc (tsTransition s n .free) n with valid := false, bnd := 0xFF, everLocked := false }

theorem execTsEnableWrite_disables {v : Word} (hn : n < 4) (hen : s.fb F.TS_CTRL_enable n = true)
    (hdis : (dropDerived s (regWrite s ⟨.TS_CTRL, n, 0⟩ v)).fb F.TS_CTRL_enable n = false) :
    execTsEnableWrite n v s = .next (dpEvalAll (tsDisabled (endCues s (dropDerived s (regWrite s ⟨.TS_CTRL, n, 0⟩ v))) n)) := by
  have hdis' : (endCues s (dropDerived s (regWrite s ⟨.TS_CTRL, n, 0⟩ v))).fb F.TS_CTRL_enable n = false := hdis
  unfold execTsEnableWrite
  rw [if_neg (by omega)]
  simp only [hen, hdis', Bool.false_and, Bool.not_false, Bool.and_self, if_true, Bool.false_eq_true, if_false]
  rfl

/-- A slew started by TS_SLEW that has nothing left posts its end once (R61). -/
theorem execSlewDone_posts {k : Nat} (hrem : (tsc (advance s k) n).slewRem = 0) (hposts : (tsc (advance s k) n).slewPosts = true) :
    execSlewDone n k s = .next (event (setTsc ((advance s k).setB F.TS_ENS_STATUS_reacq false n) n { tsc (advance s k) n with slewPosts := false })
      0x0202 [(0, 1, n)]) := by
  unfold execSlewDone
  simp only [hrem, hposts, if_true, beq_self_eq_true, Bool.and_self]

/-! ### The instants of AT_TS commands (R33, R40, R457) -/

theorem execAtTsInstantReached_met {r tag k : Nat} {w : AtTs} (hw : atTsFind (advance s k) r tag = some w) (hc : (advance s k).hs.shclk = true)
    (hreached : atTsReached (advance s k) w = true) : execAtTsInstantReached r tag k true s = .next (atTsApply (atTsDrop (advance s k) w) w) := by
  unfold execAtTsInstantReached
  simp only [hw]
  rw [if_neg (by simp [hc, hreached]), if_pos trivial]

theorem execAtTsTriggerStopped_eq {r tag : Nat} {w : AtTs} (hw : atTsFind s r tag = some w)
    (hstop : tsRuns s w.trigger = false ∨ s.hs.shclk = false) :
    execAtTsTriggerStopped r tag s = .next (timeoutAtTs s (fun v => v == w)) := by
  unfold execAtTsTriggerStopped
  simp only [hw]
  exact if_neg (by simp only [Bool.and_eq_true, not_and_or, Bool.not_eq_true]; exact hstop)

end

/-- Settles O10: each write and each instant by the equation of its meaning. -/
theorem timeRegistersAndInstants : Obligations.TimeRegistersAndInstants := by
  intro s
  refine ⟨?_, ?_, ?_, ?_, fun _ _ => rfl, ?_, ?_, ?_⟩
  · intro n v hn hok
    exact ⟨_, execTsIncrLoWrite_eq hn hok, congrArg Tscale.heldLo (tsc_setTsc_same ..), rfl, fun m hm => tsc_setTsc_other _ _ _ _ hm⟩
  · intro n v lo hn hok hc hlo hrange hne
    exact execTsIncrHiWrite_eq hn hok hc hlo hrange hne
  · intro n hn
    refine ⟨_, execTsNowSnapshot_eq hn, ?_, ?_, rfl, ?_⟩
    · rw [tsc_setTsc_same]
    · rw [tsc_setTsc_same]
      exact stepped_sentTo s n .now
    · rw [tsc_setTsc_same]
      exact tsc_sentTo_cnt s n n .now
  · intro n v hn hen hdis
    refine ⟨_, execTsEnableWrite_disables hn hen hdis, ?_, ?_, ?_⟩
    · rw [tsDisabled, tsc_setTsc_same]
    · rw [tsDisabled, tsc_setTsc_same]
    · rw [tsDisabled, tsc_setTsc_same]
      exact state_tsTransition _ n .free
  · intro n k hrem hposts
    exact ⟨_, execSlewDone_posts hrem hposts, congrArg Tscale.slewPosts (tsc_setTsc_same ..), fb_setB_same rfl (by decide)⟩
  · intro r tag k w hw hc hreached
    exact execAtTsInstantReached_met hw hc hreached
  · intro r tag w hw hstop
    exact execAtTsTriggerStopped_eq hw hstop

end Sys2Proof.Machine

namespace Sys2Proof.Machine
open Sys2Proof

/-! ### The slots of the ensembles (R72, R75, R77) -/

section
variable {s : State} {k n st : Nat} {e : Bool}

@[simp] theorem ens_setEns_same (s : State) (n : Nat) (x : Ens) : ens (setEns s n x) n = x := tget_tset_same ..

/-- The provenance of a timescale advances in registers of the log and the event ring alone. -/
theorem advanceProv_f (s : State) (n cause : Nat) (d : Fld) (i j : Nat) (h : isLogReg d.reg = false) : (advanceProv s n cause).f d i j = s.f d i j :=
  (logEvent_f _ _ _ _ _ _ _ h).trans (setEns_f ..)

/-- A slot is in the state that it makes its transition to. -/
theorem slotState_slotTransition (s : State) (k : Nat) (h : st < 8) : slotState (slotTransition s k st) k = st := by
  unfold slotTransition
  extract_lets old entered unweighted x kept posted
  split
  · next hsame => exact hsame
  · have hentered : slotState entered k = st :=
      (f_setF_same _ F.TS_REF_STATUS_state _ _ _ (by decide) (by decide)).trans (Nat.mod_eq_of_lt h)
    have hunweighted : slotState unweighted k = slotState entered k := by
      unfold unweighted
      split
      · rfl
      · exact (f_setF_apart _ F.TS_REF_STATUS_in_use F.TS_REF_STATUS_state _ _ _ rfl (by decide) (by decide) (by decide) (by decide)).trans
          (f_setF_apart _ F.TS_REF_STATUS_weight F.TS_REF_STATUS_state _ _ _ rfl (by decide) (by decide) (by decide) (by decide))
    have hkept : slotState kept k = slotState unweighted k := rfl
    have hposted : slotState posted k = slotState kept k := logEvent_f _ _ _ _ F.TS_REF_STATUS_state _ _ rfl
    exact (advanceProv_f _ _ _ F.TS_REF_STATUS_state _ _ rfl).trans (hposted.trans (hkept.trans (hunweighted.trans hentered)))

/-- An evaluation leaves the slot in the state that its step gives it. -/
theorem slotState_slotEval_of_step {sp : Bool} (h : slotStep s k e sp = slotTransition s k st) (hst : st < 8) :
    slotState (slotEval s k e sp) k = st := by
  have heval : slotState (slotEval s k e sp) k = slotState (slotStep s k e sp) k := rfl
  rw [heval, h, slotState_slotTransition s k hst]

theorem slotStep_of_lost (hl : (slot s k).lost = true) (h1 : 1 ≤ slotState s k) (h3 : slotState s k ≤ 3) :
    slotStep s k e false = slotTransition s k 0 := by
  have hst : slotState s k = 1 ∨ slotState s k = 2 ∨ slotState s k = 3 := by omega
  rcases hst with hst | hst | hst
  · simp [slotStep, hl, hst]
  · simp [slotStep, hl, hst]
  · simp [slotStep, hl, hst]

theorem slotStep_of_timedOut (hl : (slot s k).lost = false) (ht : (slot s k).timedOut = true) (hst : slotState s k = 3) :
    slotStep s k e false = slotTransition s k 4 := by
  have hsus : suspectStep s k e = slotTransition s k 4 := if_pos ht
  simp [slotStep, hl, hst, hsus]

/-- The window of a frequency member that stayed within its limits qualifies it (R458). -/
theorem slotStep_of_windowDone (hl : (slot s k).lost = false) (hw : (slot s k).windowDone = true) (hin : beyondLimits s k = false)
    (hf : slotFreq s k = true) (hst : slotState s k = 1) : slotStep s k e false = slotTransition s k 2 := by
  have hqual : qualifyingStep s k = slotTransition s k 2 := by simp [qualifyingStep, hin, hw, hf]
  simp [slotStep, hl, hst, hqual]

/-- A QUALIFIED slot outside its frequency window becomes SUSPECT. -/
theorem slotStep_of_out (hl : (slot s k).lost = false) (ho : (slot s k).out = true) (hst : slotState s k = 2) :
    slotStep s k e false = slotTransition s k 3 := by
  simp [slotStep, hl, hst, ho]

/-- What reached a slot of a timescale that runs epochs waits. -/
theorem slotNote_of_waits (h : slotWaits s k = true) : slotNote s k = s := if_pos h

@[simp] theorem slotWaits_setSlot (s : State) (k j : Nat) (x : Slot) : slotWaits (setSlot s j x) k = slotWaits s k := rfl

/-- Whether a slot waits rests on TS_REF_CFG and TS_CTRL alone. -/
theorem slotWaits_setB {d : Fld} {b : Bool} {i : Nat} (h1 : d.reg ≠ .TS_REF_CFG) (h2 : d.reg ≠ .TS_CTRL) :
    slotWaits (s.setB d b i) k = slotWaits s k := by
  have hcfg : slotTs (s.setB d b i) k = slotTs s k := f_setF_name _ _ F.TS_REF_CFG_ts _ _ _ _ _ h1.symm
  have hctrl : ∀ c : Fld, c.reg = .TS_CTRL → ∀ m, (s.setB d b i).fb c m = s.fb c m := fun c hc m => by
    rw [State.fb, State.setB, f_setF_name _ _ _ _ _ _ _ _ (by rw [hc]; exact h2.symm), State.fb]
  simp only [slotWaits, tsDerived, hcfg, hctrl F.TS_CTRL_enable rfl, hctrl F.TS_CTRL_ens_enable rfl, hctrl F.TS_CTRL_mode rfl]

end

/-! ### The commands of the ensemble (R95, R97) -/

section
variable {s : State} {h : CmdHdr} {k n : Nat} (hm : h.mbz = true)
include hm

/-- ACCEPT of a SUSPECT slot whose solution is not flagged. -/
theorem execRefConfirm_accepts (hk : k < 32) (hon : slotOn s k = true) (hst : slotState s k = 3) (hsp : slotSpoofed s k = false) :
    execRefConfirm h k 0 s = .next (complete (acceptSlot s k) h 0x16 .ok [(0, 1, 3), (1, 1, 1), (2, 1, 2)]) := by
  simp [execRefConfirm, hm, Nat.not_le.2 hk, hon, hst, hsp]

/-- REJECT of a slot in use. -/
theorem execRefConfirm_rejects (hk : k < 32) (hon : slotOn s k = true) (hst : slotState s k = 2) :
    execRefConfirm h k 1 s = .next (complete (slotTransition s k 4) h 0x16 .ok [(0, 1, 2), (1, 1, 1), (2, 1, 4)]) := by
  simp [execRefConfirm, hm, Nat.not_le.2 hk, hon, hst]

/-- REQUALIFY of a DISQUALIFIED slot. -/
theorem execRefConfirm_requalifies (hk : k < 32) (hon : slotOn s k = true) (hst : slotState s k = 4) :
    execRefConfirm h k 2 s = .next (complete (slotTransition s k 0) h 0x16 .ok [(0, 1, 4), (1, 1, 1), (2, 1, 0)]) := by
  simp [execRefConfirm, hm, Nat.not_le.2 hk, hon, hst]

/-- ENS_PROV_READ waits for the next epoch where one is due. -/
theorem execEnsProvRead_waits {addr : Nat} (hn : n < 4) (h0 : 0 < addr) (h64 : addr % 64 = 0) (hen : s.fb F.TS_CTRL_enable n = true)
    (hd : tsDerived s n = false) (hens : s.fb F.TS_CTRL_ens_enable n = true) (hc : s.hs.shclk = true) :
    execEnsProvRead h n addr s = .next (setEns (begins s h 0x17) n { ens s n with provReads := (ens s n).provReads ++ [(h, addr)] }) := by
  have hdue : ((begins s h 0x17).fb F.TS_CTRL_enable n && !tsDerived (begins s h 0x17) n && (begins s h 0x17).fb F.TS_CTRL_ens_enable n
      && (begins s h 0x17).hs.shclk) = true := by
    have hd' : tsDerived (begins s h 0x17) n = false := hd
    simp [hen, hd', hens, hc]
  unfold execEnsProvRead
  rw [if_neg (by simp [hm]), if_neg (by omega), if_neg (by omega)]
  exact if_pos hdue

/-- REF_FEED of a FEED slot whose timescale has evaluated no epoch. -/
theorem execRefFeed_takes {a : RefFeedArgs} (hiso : s.log.isolated.contains 5 = false) (hk : a.slot < 32) (hns : a.slate.ns < 10 ^ 9)
    (hts : a.slate.ts ≤ 3) (hsec : a.slate.sec < 2 ^ 48) (hon : slotOn s a.slot = true) (htype : s.f F.TS_REF_CFG_type a.slot = 6)
    (hown : a.slate.ts = slotTs s a.slot) (hv : a.slate.valid = true) (hlast : (ens s (slotTs s a.slot)).lastEpoch = none)
    (hunc : a.unc ≠ 0xFFFFFFFF) :
    execRefFeed h a s = .next (complete (takeMeasAt s a.slot ⟨a.value, some a.unc, 0, 0xFF, 0⟩ (timeUnits a.slate.sec a.slate.ns a.slate.frac : Nat))
      h 0x18 .ok []) := by
  unfold execRefFeed
  rw [if_neg (by simp [hm]), if_neg (ne_true_of_eq_false hiso), if_neg (by omega), if_neg (by omega), if_neg (by simp [hon]), if_neg (by simp [htype, hown, hv])]
  simp only [hlast, if_neg hunc]

/-- ENS_FORCE RELEASE of a forced timescale marks its members for the return test at the next epoch (R90). -/
theorem execEnsForce_releases (hiso : s.log.isolated.contains 5 = false) (hn : n < 4) (hd : tsDerived s n = false)
    (hens : s.fb F.TS_CTRL_ens_enable n = true) :
    ∃ t, execEnsForce h n 0 s = .next (complete t h 0x19 .ok [(0, 4, tsStatusWord t n)])
      ∧ t = setEns (s.setB F.TS_ENS_STATUS_forced false n) n
        { ens s n with released := s.fb F.TS_ENS_STATUS_forced n || (ens s n).released } := by
  refine ⟨_, ?_, rfl⟩
  unfold execEnsForce
  rw [if_neg (by simp [hm]), if_neg (ne_true_of_eq_false hiso), if_neg (by omega), if_neg (by simp [hd, hens])]
  rfl

end

/-- Settles O11: each command by the equation of its meaning. -/
theorem ensembleCommandsTakeEffect : Obligations.EnsembleCommandsTakeEffect := by
  intro s h hm
  refine ⟨fun k hk hon => ⟨?_, ?_, ?_⟩, ?_, fun hiso => ⟨?_, ?_⟩⟩
  · exact execRefConfirm_accepts hm hk hon
  · exact execRefConfirm_rejects hm hk hon
  · exact execRefConfirm_requalifies hm hk hon
  · intro n addr hn h0 h64 hen hd hens hc
    refine ⟨_, execEnsProvRead_waits hm hn h0 h64 hen hd hens hc, ?_, ?_⟩
    · rw [ens_setEns_same]
    · rw [setEns_regs, begins_regs]
  · intro a hk hns hts hsec hon htype hown hv hlast hunc
    exact execRefFeed_takes hm hiso hk hns hts hsec hon htype hown hv hlast hunc
  · intro n hn hd hens
    obtain ⟨t, hexec, ht⟩ := execEnsForce_releases hm hiso hn hd hens
    refine ⟨_, t, hexec, ?_, ?_, rfl, ?_⟩
    · rw [ht, setEns_regs]
    · rw [ht, setEns_time, State.setB_time]
    · rw [ht, ens_setEns_same]
      exact Bool.or_eq_true_iff

end Sys2Proof.Machine

namespace Sys2Proof.Machine
open Sys2Proof

/-! ### The timers of a slot and its configuration (R72, R75, R77) -/

section
variable {s : State} {k n : Nat}

theorem execRefMeasurement_inTime {m : Meas} (hk : k < 32) (hon : slotOn s k = true) : execRefMeasurement k m false s = .next (takeMeas s k m) := by
  simp [execRefMeasurement, hk, hon]

theorem execRefLossTimeout_notes (hon : slotOn s k = true) :
    execRefLossTimeout k s = .next (slotNote (setSlot (s.setB F.TS_REF_STATUS_signal false k) k { slot s k with lost := true }) k) := by
  have hon' : slotOn (s.setB F.TS_REF_STATUS_signal false k) k = true := by
    rw [← hon, slotOn, State.fb, State.setB, f_setF_name _ _ F.TS_REF_CFG_enable _ _ _ _ _ (by decide), slotOn, State.fb]
  exact congrArg Host.Outcome.next (if_pos hon')

theorem execSuspectTimeout_notes (hon : slotOn s k = true) (hst : slotState s k = 3) (ht : s.f F.TS_REF_QUAL_suspect_timeout k ≠ 0) :
    execSuspectTimeout k s = .next (slotNote (setSlot s k { slot s k with timedOut := true }) k) := by
  simp [execSuspectTimeout, hon, hst, ht]

theorem execQualificationWindowEnd_notes {m : Meas} (hon : slotOn s k = true) (hlast : (slot s k).last = some m) (hst : slotState s k = 1) :
    execQualificationWindowEnd k s = .next (slotNote (setSlot s k { slot s k with windowDone := true }) k) := by
  simp [execQualificationWindowEnd, hon, hlast, hst]

/-- An epoch whose load does not fall in the same step. -/
theorem execEnsembleEpoch_eq (hn : n ≠ 0) (hr : epochRuns s n = true) :
    execEnsembleEpoch n none s = .next (boundRelease (altEpochs (epochStep (ptpFeeds s n) n) n) n) := by
  unfold execEnsembleEpoch
  rw [if_neg (by simp [hr])]
  exact congrArg Host.Outcome.next (if_neg hn)

theorem execTsEfcCodeWrite_eq {v : Word} (h : s.fb F.TS_OSC_CFG_efc = false) :
    execTsEfcCodeWrite v s = .next (regWrite s ⟨.TS_EFC_CODE, 0, 0⟩ v) := by
  simp [execTsEfcCodeWrite, h]

theorem execTsRefCfgWrite_outOfRange {v : Word} (hk : 32 ≤ k) : execTsRefCfgWrite k v s = .next (violation s) := if_pos hk

/-- A disabled slot that stays disabled takes the configuration written. -/
theorem execTsRefCfgWrite_disabled {v : Word} (hk : k < 32) (hoff : slotOn s k = false) (hok : (writeResult s ⟨.TS_REF_CFG, k, 0⟩ v).2 = false)
    (hen : fget (writeResult s ⟨.TS_REF_CFG, k, 0⟩ v).1 31 31 = 0) :
    execTsRefCfgWrite k v s = .next (s.wr .TS_REF_CFG k 0 (fput (writeResult s ⟨.TS_REF_CFG, k, 0⟩ v).1 31 31 0)) := by
  simp [execTsRefCfgWrite, Nat.not_le.2 hk, hoff, hok, hen]

end

/-! ### The pace monitor (R31, R32, R42, R43) -/

/-- A field of PWR_PACE_STATUS below its sag bit: what a window that ends reports there. -/
def PaceReport (d : Fld) : Prop := d.reg = .PWR_PACE_STATUS ∧ d.lo ≤ d.hi ∧ d.hi < F.PWR_PACE_STATUS_sag.lo

section
variable {s : State} {d : Fld} (hd : PaceReport d)
include hd

theorem sagChange_f (s : State) (entered : Bool) : (sagChange s entered).f d = s.f d := by
  obtain ⟨hr, hle, hlt⟩ := hd
  unfold sagChange
  extract_lets x set status seen
  have hstatus : status.f d = s.f d := f_setF_apart set F.PWR_PACE_STATUS_sag d _ _ _ hr (by decide) (by decide) hle (.inr hlt)
  have hseen : seen.f d = status.f d := by
    unfold seen
    split
    · exact f_setF_name _ _ _ _ _ _ _ _ (by rw [hr]; decide)
    · rfl
  rw [logEvent_f _ _ _ _ _ _ _ (by rw [hr]; decide), hseen, hstatus]

theorem sagFilter_f (s : State) (below : Bool) : (sagFilter s below).f d = s.f d := by
  unfold sagFilter
  extract_lets b a x counted m
  have hcounted : counted.f d = s.f d := rfl
  split
  · rw [sagChange_f hd, hcounted]
  · split
    · rw [sagChange_f hd, hcounted]
    · exact hcounted

theorem avsTrack_f (s : State) (pace : Nat) : (avsTrack s pace).f d = s.f d := by
  have hstep : ∀ (p : Prop) [Decidable p] (mv : Nat), (if p then avsStep s mv else s).f d = s.f d := by
    intro p _ mv
    split
    · rfl
    · rfl
  have hlimit : (s.setB F.PWR_PACE_EVENT_avs_limit true).f d = s.f d := f_setF_name _ _ _ _ _ _ _ _ (by rw [hd.1]; decide)
  unfold avsTrack
  extract_lets t v w low high
  split
  · split
    · exact hstep ..
    · split
      · exact hstep ..
      · split
        · exact hlimit
        · rfl
  · rfl

theorem sagCount_f (s : State) : (perf (s.inc .PWR_PACE_SAG_COUNT) 0x0040 0).f d = s.f d := by
  rw [State.f, perf_rg _ _ _ _ _ _ _ (by rw [hd.1]; decide), ← State.f]
  exact f_wr_name (by rw [hd.1]; decide)

end

/-- The registers at the end of a window of `n` cycles of the ring oscillator (R31). -/
def paceReported (s : State) (n : Nat) : State :=
  (((s.setF F.PWR_PACE_STATUS_pace_index (min 0xFFFF (4096 * n / refCount s.hs.windowExp))).setB F.PWR_PACE_STATUS_valid true).setF F.PWR_PACE_RAW_value
    (n % 2 ^ 24)).wr .CLAP_PROBE_LO 0 0 (BitVec.ofNat 32 n)

theorem paceReported_f (s : State) (n : Nat) {d : Fld} (hd : d.reg = .PWR_PACE_STATUS) :
    (paceReported s n).f d
      = ((s.setF F.PWR_PACE_STATUS_pace_index (min 0xFFFF (4096 * n / refCount s.hs.windowExp))).setB F.PWR_PACE_STATUS_valid true).f d :=
  (f_wr_name (by rw [hd]; decide)).trans (f_setF_name _ _ _ _ _ _ _ _ (by rw [hd]; decide))

theorem paceReported_index (s : State) (n : Nat) :
    (paceReported s n).f F.PWR_PACE_STATUS_pace_index = min 0xFFFF (4096 * n / refCount s.hs.windowExp) := by
  rw [paceReported_f _ _ rfl, State.setB,
    f_setF_apart _ F.PWR_PACE_STATUS_valid F.PWR_PACE_STATUS_pace_index _ _ _ rfl (by decide) (by decide) (by decide) (by decide),
    f_setF_same _ F.PWR_PACE_STATUS_pace_index _ _ _ (by decide) (by decide)]
  exact Nat.mod_eq_of_lt ((Nat.min_le_left ..).trans_lt (by decide))

theorem paceReported_valid (s : State) (n : Nat) : (paceReported s n).fb F.PWR_PACE_STATUS_valid = true := by
  rw [State.fb, paceReported_f _ _ rfl, ← State.fb]
  exact fb_setB_same rfl (by decide)

section
variable {s : State}

/-- A window that ends reports its index, and the window length of PWR_PACE_CFG is in force after it. -/
theorem execPaceWindowEnd_reports {n : Nat} (hc : s.hs.shclk = true) :
    ∃ t, execPaceWindowEnd n s = .next t ∧ (∀ d, PaceReport d → t.f d = (paceReported s n).f d) ∧ t.hs.windowExp = t.f F.PWR_PACE_CFG_window_exp := by
  unfold execPaceWindowEnd
  rw [if_neg (by simp [hc])]
  extract_lets pace set reported below counted filtered tracked exp
  have htracked : ∀ d, PaceReport d → tracked.f d = (paceReported s n).f d := by
    intro d hd
    have hcounted : counted.f d = reported.f d := by
      unfold counted
      split
      · exact sagCount_f hd _
      · rfl
    exact (avsTrack_f hd _ _).trans ((sagFilter_f hd _ _).trans hcounted)
  refine ⟨_, rfl, ?_, ?_⟩
  · split
    · exact htracked
    · exact htracked
  · split
    · next hsame => exact hsame.symm
    · rfl

/-- An acknowledged voltage is the confirmed one, and no transaction is pending. -/
theorem execAvsTransactionDone_acked {mv : Nat} {r : Bool} (hp : s.hs.avsPending = some (mv, r)) :
    ∃ t, execAvsTransactionDone .acked s = .next t ∧ t.f F.PWR_AVS_STATUS_vcore_mv = mv % 2 ^ 16 ∧ t.hs.avsPending = none := by
  unfold execAvsTransactionDone
  simp only [hp, if_true]
  refine ⟨_, rfl, ?_, rfl⟩
  rw [State.setB, f_setF_name _ _ _ _ _ _ _ _ (by decide)]
  exact f_setF_same _ F.PWR_AVS_STATUS_vcore_mv _ _ _ (by decide) (by decide)

/-- avs_track from 0 to 1 restarts tracking, which works in run state RUN. -/
theorem execAvsTrackEnableWrite_restarts {v : Word} (hwas : s.fb F.PWR_PACE_CFG_avs_track = false)
    (hnow : (regWrite s ⟨.PWR_PACE_CFG, 0, 0⟩ v).fb F.PWR_PACE_CFG_avs_track = true) :
    ∃ t, execAvsTrackEnableWrite v s = .next t ∧ t.hs.avsSuspended = false
      ∧ t.fb F.PWR_PACE_STATUS_avs_tracking = ((regWrite s ⟨.PWR_PACE_CFG, 0, 0⟩ v).f F.PWR_RUN_run_state == 3) := by
  unfold execAvsTrackEnableWrite
  simp only [hwas, hnow, Bool.not_false, Bool.and_self, if_true]
  exact ⟨_, rfl, rfl, fb_setB_same rfl (by decide)⟩

end

/-- Settles O12: each event by the equation of its meaning; a slot's transition by the step of its state. -/
theorem ensembleEventsTakeEffect : Obligations.EnsembleEventsTakeEffect := by
  intro s
  refine ⟨?_, ?_, ?_, ?_, fun k e => ⟨?_, ?_, ?_, ?_⟩, ?_, fun _ => rfl, ?_, ?_, ?_, ?_, ?_, ?_⟩
  · intro k m hk hon
    exact execRefMeasurement_inTime hk hon
  · rintro k u hon rfl
    refine ⟨execRefLossTimeout_notes hon, fun hw => slotNote_of_waits ?_⟩
    rwa [slotWaits_setSlot, slotWaits_setB (by decide) (by decide)]
  · rintro k u hon hst ht rfl
    exact ⟨execSuspectTimeout_notes hon hst ht, fun hw => slotNote_of_waits hw⟩
  · rintro k m u hon hlast hst rfl
    exact ⟨execQualificationWindowEnd_notes hon hlast hst, fun hw => slotNote_of_waits hw⟩
  · intro hl h1 h3
    exact slotState_slotEval_of_step (slotStep_of_lost hl h1 h3) (by decide)
  · intro hl ht hst
    exact slotState_slotEval_of_step (slotStep_of_timedOut hl ht hst) (by decide)
  · intro hl hw hin hf hst
    exact slotState_slotEval_of_step (slotStep_of_windowDone hl hw hin hf hst) (by decide)
  · intro hl ho hst
    exact slotState_slotEval_of_step (slotStep_of_out hl ho hst) (by decide)
  · intro n hn hr
    exact execEnsembleEpoch_eq hn hr
  · intro v h
    exact execTsEfcCodeWrite_eq h
  · intro k v hk
    exact execTsRefCfgWrite_outOfRange hk
  · intro k v hk hoff hok hen
    exact execTsRefCfgWrite_disabled hk hoff hok hen
  · intro n hc
    obtain ⟨t, hexec, hreport, hexp⟩ := execPaceWindowEnd_reports (n := n) hc
    refine ⟨t, hexec, ?_, ?_, hexp⟩
    · rw [hreport F.PWR_PACE_STATUS_pace_index ⟨rfl, by decide, by decide⟩, paceReported_index]
    · rw [State.fb, hreport F.PWR_PACE_STATUS_valid ⟨rfl, by decide, by decide⟩, ← State.fb, paceReported_valid]
  · intro mv r hp
    exact execAvsTransactionDone_acked hp
  · intro v hwas hnow
    exact execAvsTrackEnableWrite_restarts hwas hnow

end Sys2Proof.Machine

namespace Sys2Proof.Machine
open Sys2Proof

/-! ### The dead time of a channel (R102, R103) -/

section
variable {s : State} {c : Nat}

@[simp] theorem clapCh_setClapCh_same (s : State) (c : Nat) (x : ClapCh) : clapCh (setClapCh s c x) c = x := tget_tset_same ..

theorem clapCh_setClapCh_other (s : State) {c d : Nat} (x : ClapCh) (h : d ≠ c) : clapCh (setClapCh s c x) d = clapCh s d := tget_tset_other _ _ _ _ _ h

theorem clapCh_congr {t : State} (h : t.clap = s.clap) (c : Nat) : clapCh t c = clapCh s c := by rw [clapCh, h, ← clapCh]

/-- An update that keeps the last stamp of its own channel keeps that of every channel. -/
theorem lastStamp_setClapCh {d : Nat} {x : ClapCh} (hx : x.lastStamp = (clapCh s d).lastStamp) :
    (clapCh (setClapCh s d x) c).lastStamp = (clapCh s c).lastStamp := by
  by_cases h : c = d
  · rw [h, clapCh_setClapCh_same, hx]
  · rw [clapCh_setClapCh_other _ _ h]

/-- A lost stamp marks measurements and the next stamp, and leaves the dead time as it is. -/
theorem lastStamp_stampLost (s : State) (c d : Nat) (path : Bool) : (clapCh (stampLost s c path) d).lastStamp = (clapCh s d).lastStamp := by
  unfold stampLost
  extract_lets marked _ gapped counted
  have hmarked : (clapCh marked d).lastStamp = (clapCh s d).lastStamp :=
    foldl_keeps (fun t => (clapCh t d).lastStamp) _ (fun t k => by
      split
      · exact lastStamp_setClapCh rfl
      · rfl) _ _
  have hgapped : (clapCh gapped d).lastStamp = (clapCh marked d).lastStamp := lastStamp_setClapCh rfl
  split
  · exact hgapped.trans hmarked
  · rw [clapCh_congr (perf_clap ..)]
    exact hgapped.trans hmarked

section
variable {frac q : Nat} {falling : Bool} (hq : (clapCh s c).lastStamp = some q)
include hq

theorem stampEdge_of_dead {full : Bool} (h : s.ticks * 2 ^ 32 + frac < q + 2 * 2 ^ 32) : stampEdge s c frac falling full = s.inc .CLAP_CH_MISSED c := by
  unfold stampEdge
  simp only [hq, h, decide_true, if_true]

/-- An edge outside the dead time that finds the aggregate path full is stamped, and its stamp is lost. -/
theorem stampEdge_of_pathFull (h : q + 2 * 2 ^ 32 ≤ s.ticks * 2 ^ 32 + frac) :
    stampEdge s c frac falling true = stampLost (perf (setClapCh s c { clapCh s c with lastStamp := some (s.ticks * 2 ^ 32 + frac) }) 0x0030
      (s.f F.CLAP_CH_STATUS_lane c)) c true := by
  unfold stampEdge
  simp only [hq, Nat.not_lt.2 h, decide_false, Bool.false_eq_true, if_false, if_true]

end

end

/-- Settles O15: an edge in the dead time writes the one counter, and a later one sets the last stamp, which the loss of its stamp keeps. -/
theorem edgesInTheDeadTimeAreCounted : Obligations.EdgesInTheDeadTimeAreCounted := by
  intro s c frac falling full q hq
  refine ⟨fun hdead => ?_, fun hpast => ?_⟩
  · have hedge : stampEdge s c frac falling full = s.inc .CLAP_CH_MISSED c := stampEdge_of_dead hq hdead
    refine ⟨hedge, fun n i j hne => ?_⟩
    rw [hedge]
    exact rg_wr_other _ _ _ _ _ _ _ _ (by simpa using hne)
  · rw [stampEdge_of_pathFull hq hpast, lastStamp_stampLost, clapCh_congr (perf_clap ..), clapCh_setClapCh_same]

end Sys2Proof.Machine

namespace Sys2Proof.Machine
open Sys2Proof

/-! ### The commands of the Clapper (R109, R110, R115, R118, R119) -/

section
variable {s : State} {h : CmdHdr} {ch : Nat} (hm : h.mbz = true) (hi : s.log.isolated.contains 6 = false)
include hm

/-- CLAP_DISARM of a gate that has not started: nothing is abandoned and no record is written. -/
theorem execClapDisarm_idleGate (hch : ch < 16) (ha : clapArmed s ch = true) (hfn : clapFn s ch = 2) (hstart : (clapCh s ch).start = none)
    (hstops : (clapCh s ch).stops = []) (hl : (clapCh s ch).lost = false) :
    execClapDisarm h ch s = .next (laneGrant (complete (clapDisarm s ch) h 0x21 .ok [(0, 4, satNat 32 (clapCh s ch).made), (4, 1, 0)])) := by
  unfold execClapDisarm
  rw [if_neg (by simp [hm]), if_neg (by simp [ha, hfn, hch])]
  simp [hfn, hstart, hstops, hl, bit]

include hi

/-- CLAP_ARM of a channel that may be armed, with SHCLK present and its lane in service. -/
theorem execClapArm_eq {count : Nat} (hch : ch < 16) (ha : clapArmed s ch = false) (hb : clapArmBad s ch = false) (hc : s.hs.shclk = true)
    (hlane : s.f F.CLAP_LANE_STATUS_cal (s.f F.CLAP_CH_STATUS_lane ch) ≠ 3) :
    execClapArm h ch count s = .next (complete (restartPrescalers s (setClapCh (s.setB F.CLAP_CH_STATUS_armed true ch) ch
      (armFirst s ch { clapCh s ch with armPos := clapPos s ch 0, left := if count = 0 then none else some count, made := 0, early := [], later := [],
                                        start := none, stops := [], periods := 0, lost := false, acc := ClapAcc.empty }))) h 0x20 .ok
      [(0, 4, (clapCh s ch).seq)]) := by
  unfold execClapArm
  rw [if_neg (by simp [hm]), if_neg (by omega), if_neg (by simp [ha]), if_neg (by simp [hb]), if_neg (by simp [hc]),
    if_neg (by simp only [hlane, hi, Bool.false_eq_true, or_self, not_false_eq_true])]

/-- CLAP_CAL of one lane that is not retired: the command waits for its result, and the lane is asked for. -/
theorem execClapCal_oneLane {lane : Nat} (hl : lane < 32) (hcal : s.f F.CLAP_LANE_STATUS_cal lane ≠ 3) :
    execClapCal h lane s = .next (laneGrant (laneRequest
      { begins s h 0x22 with clap := { s.clap with cals := s.clap.cals ++ [⟨h, [lane], 0, 0, s.ticks⟩] } } lane)) := by
  unfold execClapCal
  rw [if_neg (by simp [hm]), if_neg (by omega), if_neg (ne_true_of_eq_false hi), if_neg (show lane ≠ 0xFF by omega)]
  simp [hcal]

/-- CLAP_SNAPSHOT of an accumulator that is not empty. -/
theorem execClapSnapshot_eq (hch : ch < 16) (hstat : s.fb F.CLAP_CH_CFG_stat_en ch = true) (ha : clapArmed s ch = true) (hn : (clapCh s ch).acc.n ≠ 0) :
    execClapSnapshot h ch s = .next (complete (statRecord s ch 5 (clapCh s ch).acc) h 0x23 .ok [(0, 4, (clapCh s ch).seq)]) := by
  unfold execClapSnapshot
  rw [if_neg (by simp [hm]), if_neg (ne_true_of_eq_false hi), if_neg (by omega), if_neg (by simp [hstat]), if_neg (by simp [ha, hn])]

end

/-- Settles O13: the checks of each command pass, and what is left is its effect. -/
theorem clapperCommandsTakeEffect : Obligations.ClapperCommandsTakeEffect := by
  intro s h hm hi
  refine ⟨?_, ?_, ?_, ?_⟩
  · intro ch count hch ha hb hc hlane
    exact execClapArm_eq hm hi hch ha hb hc hlane
  · intro ch hch ha hfn hstart hstops hl
    exact execClapDisarm_idleGate hm hch ha hfn hstart hstops hl
  · intro lane hl hcal
    exact execClapCal_oneLane hm hi hl hcal
  · intro ch hch hstat ha hn
    exact execClapSnapshot_eq hm hi hch hstat ha hn

end Sys2Proof.Machine

namespace Sys2Proof.Machine
open Sys2Proof

/-! ### What a measurement writes of the register file (R75, R77, R459)

Carried through the steps of a slot in the manner of `Evolves`. -/

/-- The registers of a slot that its measurements and transitions write. -/
def slotRegs : List RegName := [.TS_REF_STATUS, .TS_REF_OFS, .TS_REF_SIGMA]

/-- `t` differs from `s` in registers of `slotRegs` and of the log alone. -/
def WritesSlotRegs (s t : State) : Prop := ∀ n, n ∉ slotRegs → isLogReg n = false → ∀ i j, t.rg n i j = s.rg n i j

section
variable {s₀ s t : State} {k : Nat}

theorem WritesSlotRegs.refl (s : State) : WritesSlotRegs s s := fun _ _ _ _ _ => rfl

theorem WritesSlotRegs.ite {p : Prop} {_ : Decidable p} (hs : WritesSlotRegs s₀ s) (ht : WritesSlotRegs s₀ t) :
    WritesSlotRegs s₀ (if p then s else t) := by
  split
  · exact hs
  · exact ht

theorem WritesSlotRegs.setF (h : WritesSlotRegs s₀ s) {d v i j} (hd : d.reg ∈ slotRegs := by decide) : WritesSlotRegs s₀ (s.setF d v i j) :=
  fun n hn hl k l => (rg_setF_name _ _ _ _ _ _ _ _ (ne_of_mem_of_not_mem hd hn).symm).trans (h n hn hl k l)

theorem WritesSlotRegs.setB (h : WritesSlotRegs s₀ s) {d b i j} (hd : d.reg ∈ slotRegs := by decide) : WritesSlotRegs s₀ (s.setB d b i j) := h.setF hd
theorem WritesSlotRegs.setI (h : WritesSlotRegs s₀ s) {d x i j} (hd : d.reg ∈ slotRegs := by decide) : WritesSlotRegs s₀ (s.setI d x i j) := h.setF hd
theorem WritesSlotRegs.setSlot (h : WritesSlotRegs s₀ s) {x} : WritesSlotRegs s₀ (setSlot s k x) := h
theorem WritesSlotRegs.setEns (h : WritesSlotRegs s₀ s) {n x} : WritesSlotRegs s₀ (setEns s n x) := h

theorem WritesSlotRegs.logEvent (h : WritesSlotRegs s₀ s) {sev code data} : WritesSlotRegs s₀ (logEvent s sev code data) :=
  fun n hn hl i j => (logEvent_rg _ _ _ _ _ _ _ hl).trans (h n hn hl i j)

theorem WritesSlotRegs.advanceProv (h : WritesSlotRegs s₀ s) {n cause} : WritesSlotRegs s₀ (advanceProv s n cause) := h.setEns.logEvent

theorem WritesSlotRegs.slotTransition (h : WritesSlotRegs s₀ s) {st} : WritesSlotRegs s₀ (slotTransition s k st) :=
  h.ite (h.setF.ite h.setF.setF.setB).setSlot.logEvent.advanceProv

theorem WritesSlotRegs.slotRestart (h : WritesSlotRegs s₀ s) : WritesSlotRegs s₀ (slotRestart s k) := h.logEvent.advanceProv
theorem WritesSlotRegs.keepMeas (h : WritesSlotRegs s₀ s) {m t} : WritesSlotRegs s₀ (keepMeas s k m t) := h.setSlot.setI.setF.setF.setB
theorem WritesSlotRegs.acceptSlot (h : WritesSlotRegs s₀ s) : WritesSlotRegs s₀ (acceptSlot s k) := h.slotTransition.setSlot
theorem WritesSlotRegs.restartWindow (h : WritesSlotRegs s₀ s) : WritesSlotRegs s₀ (restartWindow s k) := h.setSlot.setF

theorem WritesSlotRegs.qualifiedStep (h : WritesSlotRegs s₀ s) {m} : WritesSlotRegs s₀ (qualifiedStep s k m) :=
  (h.setSlot.ite h.slotTransition).ite (h.ite (h.setSlot.ite (h.slotTransition.ite h.setSlot)))

theorem WritesSlotRegs.qualifyingStep (h : WritesSlotRegs s₀ s) : WritesSlotRegs s₀ (qualifyingStep s k) := by
  unfold Machine.qualifyingStep
  refine h.restartWindow.slotRestart.ite (h.ite (h.slotTransition.ite ?_))
  split
  · exact h.acceptSlot.ite h.slotTransition
  · exact h

theorem WritesSlotRegs.suspectStep (h : WritesSlotRegs s₀ s) {epoch} : WritesSlotRegs s₀ (suspectStep s k epoch) :=
  h.slotTransition.ite ((h.restartWindow.ite (h.slotTransition.ite h)).ite (h.acceptSlot.ite h))

theorem WritesSlotRegs.slotStep (h : WritesSlotRegs s₀ s) {epoch spoofed} : WritesSlotRegs s₀ (slotStep s k epoch spoofed) := by
  unfold Machine.slotStep
  extract_lets
  refine h.slotTransition.ite (h.slotTransition.ite ((h.restartWindow.slotTransition.ite h).ite (h.qualifyingStep.ite (.ite ?_ (h.suspectStep.ite h)))))
  refine h.slotTransition.ite (h.ite ?_)
  split
  · exact h.qualifiedStep
  · exact h

theorem WritesSlotRegs.slotEval (h : WritesSlotRegs s₀ s) {epoch spoofed} : WritesSlotRegs s₀ (slotEval s k epoch spoofed) := h.slotStep.setSlot
theorem WritesSlotRegs.slotNote (h : WritesSlotRegs s₀ s) : WritesSlotRegs s₀ (slotNote s k) := h.ite h.slotEval
theorem WritesSlotRegs.takeMeasAt (h : WritesSlotRegs s₀ s) {m t} : WritesSlotRegs s₀ (takeMeasAt s k m t) := h.keepMeas.slotNote
theorem WritesSlotRegs.takeMeas (h : WritesSlotRegs s₀ s) {m} : WritesSlotRegs s₀ (takeMeas s k m) := h.takeMeasAt

end

/-! ### The slots that a REFERENCE channel feeds (R111) -/

theorem foldl_fixed_of_mem {α β : Type} {f : β → α → β} {l : List α} {b : β} (h : ∀ x ∈ l, f b x = b) : l.foldl f b = b :=
  List.foldlRecOn (motive := (· = b)) l f rfl fun _ hb x hx => hb ▸ h x hx

/-- A fold of which one element alone acts. -/
theorem foldl_of_unique {α β : Type} {f : β → α → β} {l : List α} {k : α} {b : β} (hl : l.Nodup) (hk : k ∈ l) (hb : ∀ x ∈ l, x ≠ k → f b x = b)
    (ha : ∀ x ∈ l, x ≠ k → f (f b k) x = f b k) : l.foldl f b = f b k := by
  obtain ⟨before, after, rfl⟩ := List.append_of_mem hk
  obtain ⟨hnb, hna⟩ : k ∉ before ∧ k ∉ after := by simpa using (List.nodup_middle.1 hl).notMem
  rw [List.foldl_append, List.foldl_cons, foldl_fixed_of_mem fun x hx => hb x (by simp [hx]) (ne_of_mem_of_not_mem hx hnb),
    foldl_fixed_of_mem fun x hx => ha x (by simp [hx]) (ne_of_mem_of_not_mem hx hna)]

/-- Slot `k` is an enabled CIN slot of channel `ch`. -/
def FedBy (s : State) (ch k : Nat) : Prop := slotOn s k = true ∧ s.f F.TS_REF_CFG_type k = 2 ∧ s.f F.TS_REF_CFG_source k = ch

/-- What slot `k` does with the epoch's offsets of channel `ch` in `s`, in the state `t` that the slots before it left. -/
def takeRef (s : State) (ch : Nat) (t : State) (k : Nat) : State :=
  if slotOn t k && t.f F.TS_REF_CFG_type k == 2 && t.f F.TS_REF_CFG_source k == ch then
    (match refMeas (tget (clapCh s ch).refs RefAcc.empty (s.f F.TS_REF_CFG_ts k)) with
    | some m => takeMeas t k m
    | none => t) else t

section
variable {s t : State} {ch k : Nat}

theorem execReferenceOffset_eq (s : State) (ch : Nat) :
    execReferenceOffset ch s = .next ((List.range 32).foldl (takeRef s ch) (setClapCh s ch { clapCh s ch with refs := [] })) := rfl

theorem takeRef_of_fedBy {m : Meas} (h : FedBy t ch k) (hm : refMeas (tget (clapCh s ch).refs RefAcc.empty (s.f F.TS_REF_CFG_ts k)) = some m) :
    takeRef s ch t k = takeMeas t k m := by
  obtain ⟨hon, htype, hsource⟩ := h
  simp [takeRef, hon, htype, hsource, hm]

theorem takeRef_of_not_fedBy (h : ¬FedBy t ch k) : takeRef s ch t k = t := if_neg (by simpa [FedBy, and_assoc] using h)

/-- Which slots a channel feeds rests on TS_REF_CFG alone. -/
theorem fedBy_congr (h : WritesSlotRegs s t) : FedBy t ch k ↔ FedBy s ch k := by
  have hcfg : t.rg .TS_REF_CFG k = s.rg .TS_REF_CFG k := h _ (by decide) rfl k 0
  have hf : ∀ d : Fld, d.reg = .TS_REF_CFG → t.f d k = s.f d k := fun d hd => by rw [State.f, State.f, hd, hcfg]
  rw [FedBy, slotOn, State.fb, hf _ rfl, hf _ rfl, hf _ rfl, FedBy, slotOn, State.fb]

/-- The one slot that channel `ch` feeds takes the mean of its timescale. -/
theorem execReferenceOffset_oneSlot {m : Meas} (hk : k < 32) (hm : refMeas (tget (clapCh s ch).refs RefAcc.empty (s.f F.TS_REF_CFG_ts k)) = some m)
    (hfed : ∀ j < 32, FedBy s ch j ↔ j = k) :
    execReferenceOffset ch s = .next (takeMeas (setClapCh s ch { clapCh s ch with refs := [] }) k m) := by
  rw [execReferenceOffset_eq]
  generalize hu : setClapCh s ch { clapCh s ch with refs := [] } = u
  have hregs : WritesSlotRegs s u := hu ▸ .refl s
  have htake : takeRef s ch u k = takeMeas u k m := takeRef_of_fedBy ((fedBy_congr hregs).2 ((hfed k hk).2 rfl)) hm
  have hrest : ∀ v, WritesSlotRegs s v → ∀ j ∈ List.range 32, j ≠ k → takeRef s ch v j = v := fun v hv j hj hne =>
    takeRef_of_not_fedBy (by rw [fedBy_congr hv, hfed j (List.mem_range.1 hj)]; exact hne)
  rw [foldl_of_unique List.nodup_range (List.mem_range.2 hk) (hrest u hregs) (htake ▸ hrest _ hregs.takeMeas), htake]

end

/-! ### The ends of a measurement (R105, R106, R107, R110) -/

section
variable {s : State} {ch : Nat} (ha : clapArmed s ch = true)
include ha

/-- A measurement with a lost stamp ends with LOST. -/
theorem execMeasurementLost_eq (hfn : clapFn s ch = 1 ∨ clapFn s ch = 2) (hl : (clapCh s ch).lost = true) :
    execMeasurementLost ch s = .next (closeRunning s ch 2) := congrArg Host.Outcome.next (if_pos (by simp [ha, hl, hfn]))

variable (hl : (clapCh s ch).lost = false)
include hl

theorem execIntervalEnd_eq (hfn : clapFn s ch = 1) (hstart : (clapCh s ch).start.isSome = true)
    (hn : s.f F.CLAP_CH_MEAS_n_stops ch ≤ (clapCh s ch).stops.length) : execIntervalEnd ch s = .next (closeRunning s ch 0) :=
  congrArg Host.Outcome.next (if_pos (by simp [ha, hfn, hstart, hl, hn]))

theorem execFrequencyGateEnd_eq (hfn : clapFn s ch = 2) (hstops : (clapCh s ch).stops ≠ []) :
    execFrequencyGateEnd ch s = .next (closeRunning s ch 0) := congrArg Host.Outcome.next (if_pos (by simp [ha, hfn, hl, hstops]))

theorem execStopTimeout_interval (hfn : clapFn s ch = 1) (hstart : (clapCh s ch).start.isSome = true)
    (hn : (clapCh s ch).stops.length < s.f F.CLAP_CH_MEAS_n_stops ch) : execStopTimeout ch s = .next (closeRunning s ch 1) :=
  congrArg Host.Outcome.next (if_pos (by simp [ha, hfn, hstart, hl, hn]))

/-- A gate with fewer than two edges ends by its timeout; one with two waits for its end edge. -/
theorem execStopTimeout_gate (hfn : clapFn s ch = 2) (hstops : (clapCh s ch).stops = []) :
    execStopTimeout ch s = .next (if (clapCh s ch).periods = 0 then closeRunning s ch 1 else s) := by
  simp [execStopTimeout, ha, hfn, hl, hstops]

end

/-- Settles O14: each end by the equation of its meaning; of the slots, one alone takes the mean. -/
theorem clapperMeasurementsEnd : Obligations.ClapperMeasurementsEnd := by
  intro s ch
  refine ⟨fun ha hfn hstart hl => ⟨?_, ?_⟩, ?_, ?_, fun ha hfn hl hstops => ⟨?_, ?_⟩, ?_⟩
  · exact execIntervalEnd_eq ha hl hfn hstart
  · exact execStopTimeout_interval ha hl hfn hstart
  · intro ha hfn hl
    exact execMeasurementLost_eq ha (.inl hfn) hl
  · intro ha hfn hl hstops
    exact execFrequencyGateEnd_eq ha hl hfn hstops
  · intro hp
    exact (execStopTimeout_gate ha hl hfn hstops).trans (by rw [if_pos hp])
  · intro hp
    exact (execStopTimeout_gate ha hl hfn hstops).trans (by rw [if_neg hp])
  · rintro _ k m - hk hm hfed rfl
    exact execReferenceOffset_oneSlot hk hm hfed

end Sys2Proof.Machine

namespace Sys2Proof.Machine
open Sys2Proof

/-! ### The commands of the loops (R129, R131, R133, R135, R141, R142) -/

/-- The APLL that a DPLL steers rests on AP_CFG alone. -/
theorem steered_congr {s t : State} (h : ∀ a, t.f F.AP_CFG_dpll a = s.f F.AP_CFG_dpll a) (d : Nat) : steered t d = steered s d := by
  simp only [steered, h]

/-- The frequency and the alignment divider that DP_RETUNE writes. -/
def dpFreqSet (s : State) (a : DpRetuneArgs) : State :=
  ((s.setF F.DP_FREQ_LO_value (a.freq % 2 ^ 32) a.dpll).setF F.DP_FREQ_HI_value (a.freq / 2 ^ 32) a.dpll).setF F.DP_ALIGN_align_div a.alignDiv a.dpll

theorem steered_dpFreqSet (s : State) (a : DpRetuneArgs) (d : Nat) : steered (dpFreqSet s a) d = steered s d := by
  refine steered_congr (fun b => ?_) d
  rw [dpFreqSet, f_setF_name _ _ _ _ _ _ _ _ (by decide), f_setF_name _ _ _ _ _ _ _ _ (by decide), f_setF_name _ _ _ _ _ _ _ _ (by decide)]

theorem dpRetuned_of_unsteered {s : State} {d : Nat} (h : steered s d = none) : dpRetuned s d = s := by
  unfold dpRetuned
  rw [h]

/-- A register that a fold writes at the indices of a list holds the value written, at an index of the list or where it held that value before. -/
theorem rg_foldl_wr {n : RegName} {a j : Nat} {v : Word} {l : List Nat} {s : State} (h : j ∈ l ∨ s.rg n a j = v) :
    (l.foldl (fun t k => t.wr n a k v) s).rg n a j = v := by
  induction l generalizing s with
  | nil => exact h.resolve_left List.not_mem_nil
  | cons k l ih =>
    refine ih ?_
    by_cases hk : j = k
    · exact .inr (by rw [hk, rg_wr_same])
    · rcases h with hmem | hv
      · exact .inl ((List.mem_cons.1 hmem).resolve_left hk)
      · exact .inr (by rw [rg_wr_other _ _ _ _ _ _ _ _ (by simp [hk]), hv])

/-- The band table of APLL `a` with every entry 0. -/
def bandsCleared (s : State) (a : Nat) : State := (List.range 32).foldl (fun t j => t.wr .AP_BTAB a j 0) s

theorem bandsCleared_valid (s : State) (a : Nat) {j : Nat} (hj : j < 32) : (bandsCleared s a).fb F.AP_BTAB_valid a j = false := by
  rw [bandsCleared, State.fb, State.f, rg_foldl_wr (.inl (List.mem_range.2 hj))]
  rfl

@[simp] theorem ap_setAp_same (s : State) (a : Nat) (x : Apll) : ap (setAp s a x) a = x := tget_tset_same ..
@[simp] theorem dp_setDp_same (s : State) (d : Nat) (x : Dpll) : dp (setDp s d x) d = x := tget_tset_same ..

section
variable {s : State} {h : CmdHdr} (hm : h.mbz = true)
include hm

theorem execApRelock_begins {a mode : Nat} (hiso : s.log.isolated.contains 8 = false) (h0 : 0 < a) (h4 : a < 4) (hmode : mode ≤ 1)
    (htarget : (apTarget s a).isNone = false) (hpfd : pfdOk s a = true) (hst : apState s a = 3 ∨ apState s a = 4) (hen : s.fb F.AP_CFG_enable a = true)
    (hstuck : (ap s a).stuck = false) (hcmd : (ap s a).cmd = none) (hout : outRunningOn s a = false) :
    execApRelock h a mode s = .next (apGo (setAp (begins s h 0x30) a { ap s a with cmd := some (h, 0x30) }) a (mode == 1)) := by
  unfold execApRelock
  rw [if_neg (by simp [hm]), if_neg (by omega), if_neg (by simp [htarget, hpfd, hstuck]; omega), if_neg (by simp [hen, hcmd]; omega),
    if_neg (ne_true_of_eq_false hiso), if_neg (ne_true_of_eq_false hout)]

theorem execDpRetune_unsteered {a : DpRetuneArgs} (hiso : s.log.isolated.contains 7 = false) (h0 : 0 < a.dpll) (h6 : a.dpll < 6)
    (hvco : vcoOk a.freq = true) (hdiv : 0 < a.alignDiv) (hmax : a.alignDiv ≤ 1000000) (hc : s.hs.shclk = true) (hst : steered s a.dpll = none) :
    execDpRetune h a s = .next (complete (dpEval (dpFreqSet s a) a.dpll) h 0x31 .ok []) := by
  have hkeep : dpRetuned (dpFreqSet s a) a.dpll = dpFreqSet s a := dpRetuned_of_unsteered ((steered_dpFreqSet s a _).trans hst)
  unfold execDpRetune
  rw [if_neg (by simp [hm]), if_neg (by omega), if_neg (by simp [hvco]; omega), if_neg (by simp [hc])]
  simp only [hst, hiso, Bool.false_eq_true, if_false]
  exact congrArg (fun t => Host.Outcome.next (complete (dpEval t a.dpll) h 0x31 .ok [])) hkeep

theorem execDpAlignRun_begins {d : Nat} (hiso : s.log.isolated.contains 7 = false) (h0 : 0 < d) (h6 : d < 6) (hc : s.hs.shclk = true)
    (hdet : s.fb F.DP_CFG_det d = true) (havail : detAvail s d = true) (hst : dpState s d = 3) (hidle : (dp s d).active = false) :
    execDpAlignRun h d s = .next (detBegin (begins s h 0x32) d (some h)) := by
  unfold execDpAlignRun
  rw [if_neg (by simp [hm]), if_neg (by omega), if_neg (by omega), if_neg (by simp [hc]), if_neg (by simp [hdet, havail, hst]),
    if_neg (ne_true_of_eq_false hidle), if_neg (ne_true_of_eq_false hiso)]

theorem execApBandClear_clears {a : Nat} (h4 : a < 4) :
    execApBandClear h a s = .next (complete (setAp (bandsCleared s a) a { ap (bandsCleared s a) a with lru := [] }) h 0x33 .ok
      [(0, 1, ((List.range 32).filter (fun j => s.fb F.AP_BTAB_valid a j)).length)]) := by
  unfold execApBandClear
  rw [if_neg (by simp [hm]), if_neg (by omega)]
  rfl

end

/-- Settles O17: each command by the equation of its meaning. -/
theorem loopCommandsTakeEffect : Obligations.LoopCommandsTakeEffect := by
  intro s h hm hiso7 hiso8
  refine ⟨?_, ?_, ?_, ?_⟩
  · intro a mode h0 h4 hmode htarget hpfd hst hen hstuck hcmd hout
    exact execApRelock_begins hm hiso8 h0 h4 hmode htarget hpfd hst hen hstuck hcmd hout
  · intro a h0 h6 hvco hdiv hmax hc hst
    exact execDpRetune_unsteered hm hiso7 h0 h6 hvco hdiv hmax hc hst
  · intro d h0 h6 hc hdet havail hst hidle
    exact execDpAlignRun_begins hm hiso7 h0 h6 hc hdet havail hst hidle
  · intro a h4
    refine ⟨_, _, execApBandClear_clears hm h4, fun j hj => ?_, ?_, rfl⟩
    · rw [setAp_fb, bandsCleared_valid s a hj]
    · rw [ap_setAp_same]

end Sys2Proof.Machine

namespace Sys2Proof.Machine
open Sys2Proof

/-! ### What the followers of an APLL leave of it (R126, R136, R212)

The outputs, the ports and the DPLLs follow a transition of an APLL; none of them touches the APLLs' status registers or the commands that wait for
their locks. One relation between the state before and the state after, carried through the model in the manner of `Evolves`. -/

/-- `t` has the status registers of the APLLs of `s`, and the same commands wait for their locks. -/
structure SparesAplls (s t : State) : Prop where
  cmd : ∀ b, (ap t b).cmd = (ap s b).cmd
  status : ∀ b, t.rg .AP_STATUS b = s.rg .AP_STATUS b

/-- No completion writes a register but that a splice of the device's own sets alt_spliced (R244). -/
theorem complete_rg (s : State) (h : CmdHdr) (op : Nat) (st : Status) (p : Layout) {n : RegName} (hn : n ≠ .PTP_INST_INFO) (i j : Nat) :
    (complete s h op st p).rg n i j = s.rg n i j := by
  by_cases hr : h.ring < 64
  · exact rg_congr (complete_regs _ _ _ _ _ hr) _ _ _
  · rw [complete, if_pos (Nat.not_lt.1 hr), altDone]
    split
    · exact rg_setF_name _ _ _ _ _ _ _ _ hn
    · rfl

theorem finish_rg (s : State) (h : CmdHdr) (op : Nat) (st : Status) (p : Layout) {n : RegName} (hn : n ≠ .PTP_INST_INFO) (i j : Nat) :
    (finish s h op st p).rg n i j = s.rg n i j := by
  unfold finish
  split
  · exact complete_rg _ _ _ _ _ hn _ _
  · rfl

section
variable {s₀ s t : State}

theorem ap_congr (h : t.loops = s.loops) (a : Nat) : ap t a = ap s a := by rw [ap, h, ← ap]

theorem SparesAplls.refl (s : State) : SparesAplls s s := ⟨fun _ => rfl, fun _ => rfl⟩

theorem SparesAplls.trans (h : SparesAplls s₀ s) (h' : SparesAplls s t) : SparesAplls s₀ t :=
  ⟨fun b => (h'.cmd b).trans (h.cmd b), fun b => (h'.status b).trans (h.status b)⟩

/-- A state that agrees with `s` in the loops and in the status registers of the APLLs. -/
theorem SparesAplls.congr (h : SparesAplls s₀ s) (hloops : t.loops = s.loops) (hrg : ∀ b, t.rg .AP_STATUS b = s.rg .AP_STATUS b) : SparesAplls s₀ t :=
  h.trans ⟨fun b => congrArg Apll.cmd (ap_congr hloops b), hrg⟩

/-- An update of the state beside its registers and the loops. -/
theorem SparesAplls.frame (h : SparesAplls s₀ s)
    {hand time ens clap outs cues gnss ports stv ptp ntp ran areas host gov log sheets fw perf wrap pwr ticks fresh out pending} :
    SparesAplls s₀ ⟨s.regs, hand, time, ens, clap, s.loops, outs, cues, gnss, ports, stv, ptp, ntp, ran, areas, host, gov, log, sheets, fw, perf, wrap, pwr,
      ticks, fresh, out, pending⟩ := h.congr rfl fun _ => rfl

theorem SparesAplls.ite {p : Prop} {_ : Decidable p} (hs : SparesAplls s₀ s) (ht : SparesAplls s₀ t) : SparesAplls s₀ (if p then s else t) := by
  split
  · exact hs
  · exact ht

theorem SparesAplls.foldl {α : Type} {f : State → α → State} {l : List α} (h : SparesAplls s₀ s)
    (hf : ∀ u x, SparesAplls s₀ u → SparesAplls s₀ (f u x)) : SparesAplls s₀ (l.foldl f s) := foldl_inv (SparesAplls s₀) f hf l s h

theorem SparesAplls.setF (h : SparesAplls s₀ s) {d v i j} (hd : RegName.AP_STATUS ≠ d.reg := by decide) : SparesAplls s₀ (s.setF d v i j) :=
  h.congr rfl fun _ => rg_setF_name _ _ _ _ _ _ _ _ hd

theorem SparesAplls.setB (h : SparesAplls s₀ s) {d b i j} (hd : RegName.AP_STATUS ≠ d.reg := by decide) : SparesAplls s₀ (s.setB d b i j) := h.setF hd
theorem SparesAplls.incF (h : SparesAplls s₀ s) {d i j k} (hd : RegName.AP_STATUS ≠ d.reg := by decide) : SparesAplls s₀ (s.incF d i j k) := h.setF hd

theorem SparesAplls.inc (h : SparesAplls s₀ s) {n i k} (hn : RegName.AP_STATUS ≠ n := by decide) : SparesAplls s₀ (s.inc n i k) :=
  h.congr rfl fun _ => rg_wr_name _ _ _ _ _ _ _ _ hn

theorem SparesAplls.logEvent (h : SparesAplls s₀ s) {sev code data} : SparesAplls s₀ (logEvent s sev code data) :=
  h.congr (logEvent_loops ..) fun _ => logEvent_rg _ _ _ _ _ _ _ rfl

theorem SparesAplls.logRec (h : SparesAplls s₀ s) {sev code data} : SparesAplls s₀ (logRec s sev code data) :=
  h.congr (logRec_loops ..) fun _ => logRec_rg _ _ _ _ _ _ _ rfl

theorem SparesAplls.event (h : SparesAplls s₀ s) {code data} : SparesAplls s₀ (event s code data) :=
  h.congr (event_loops ..) fun _ => event_rg _ _ _ _ _ _ rfl

theorem SparesAplls.finish (h : SparesAplls s₀ s) {c op st p} : SparesAplls s₀ (finish s c op st p) :=
  h.congr (finish_loops ..) fun _ => finish_rg _ _ _ _ _ (by decide) _ _

theorem SparesAplls.setOut (h : SparesAplls s₀ s) {o x} : SparesAplls s₀ (setOut s o x) := h.frame
theorem SparesAplls.outFault (h : SparesAplls s₀ s) {o cause} : SparesAplls s₀ (outFault s o cause) := h.setOut
theorem SparesAplls.outOnFb (h : SparesAplls s₀ s) {o fb} : SparesAplls s₀ (outOnFb s o fb) := h.setB.setF.incF.ite h.setB.setF.incF
theorem SparesAplls.outMoveEnd (h : SparesAplls s₀ s) {o} : SparesAplls s₀ (outMoveEnd s o) := h.setB.setOut

theorem SparesAplls.outLoss1 (h : SparesAplls s₀ s) {a o} : SparesAplls s₀ (outLoss1 a s o) := by
  unfold Machine.outLoss1
  extract_lets
  refine h.ite ((h.outFault.ite (h.outMoveEnd.ite h)).ite ((h.outFault.ite (h.setB.setOut.ite h.outOnFb)).ite ?_))
  exact (h.outMoveEnd.ite h.outFault).ite h

theorem SparesAplls.outLoss (h : SparesAplls s₀ s) {a} : SparesAplls s₀ (outLoss s a) := h.foldl fun _ _ hu => hu.outLoss1
theorem SparesAplls.setDp (h : SparesAplls s₀ s) {d x} : SparesAplls s₀ (setDp s d x) := h.trans ⟨fun _ => rfl, fun _ => rfl⟩

/-- An update of an APLL that keeps the command that waits for its lock. -/
theorem SparesAplls.setAp (h : SparesAplls s₀ s) {a x} (hx : x.cmd = (ap s a).cmd := by rfl) : SparesAplls s₀ (setAp s a x) := by
  refine h.trans ⟨fun b => ?_, fun _ => rfl⟩
  by_cases hb : b = a
  · rw [hb, ap_setAp_same, hx]
  · rw [ap, Machine.setAp, tget_tset_other _ _ _ _ _ hb, ← ap]

theorem SparesAplls.detAbandon (h : SparesAplls s₀ s) {d} : SparesAplls s₀ (detAbandon s d) := by
  unfold Machine.detAbandon
  extract_lets _ ended
  have hended : SparesAplls s₀ ended := h.setDp.setF
  split
  · exact hended.finish
  · exact hended

theorem SparesAplls.detBegin (h : SparesAplls s₀ s) {d c} : SparesAplls s₀ (detBegin s d c) := h.setDp.setF

theorem SparesAplls.dpSet (h : SparesAplls s₀ s) {d new} : SparesAplls s₀ (dpSet s d new) := by
  unfold Machine.dpSet
  extract_lets _ left _ _ _ loaded _ cleared steering stated sloped logged
  have hleft : SparesAplls s₀ left := h.detAbandon.ite h
  have hcleared : SparesAplls s₀ cleared := hleft.setDp.setDp.ite hleft.setDp
  have hsteering : SparesAplls s₀ steering := by
    unfold steering
    split
    · exact hcleared.setAp.ite hcleared
    · exact hcleared
  have hlogged : SparesAplls s₀ logged := (hsteering.setF.ite hsteering.setF.setB).logEvent
  exact h.ite (hlogged.detBegin.ite hlogged)

theorem SparesAplls.dpEval (h : SparesAplls s₀ s) {d} : SparesAplls s₀ (dpEval s d) := h.setB.setB.dpSet.dpSet
theorem SparesAplls.dpEvalAll (h : SparesAplls s₀ s) : SparesAplls s₀ (dpEvalAll s) := h.foldl fun _ _ hu => hu.dpEval
theorem SparesAplls.lpiCheck (h : SparesAplls s₀ s) {p} : SparesAplls s₀ (lpiCheck s p) := h.setB.ite h
theorem SparesAplls.setPtpState (h : SparesAplls s₀ s) {i p st} : SparesAplls s₀ (setPtpState s i p st) := h.setF.lpiCheck

theorem SparesAplls.ptpLink (h : SparesAplls s₀ s) {p} : SparesAplls s₀ (ptpLink s p) :=
  h.foldl fun _ _ hu => (hu.setPtpState.ite (hu.setPtpState.ite hu)).ite hu

theorem SparesAplls.portPresence (h : SparesAplls s₀ s) {p} : SparesAplls s₀ (portPresence s p) := h.setB.dpEvalAll
theorem SparesAplls.portSet (h : SparesAplls s₀ s) {p new} : SparesAplls s₀ (portSet s p new) := h.setF.logEvent.ptpLink.portPresence
theorem SparesAplls.portCalibrate (h : SparesAplls s₀ s) {p} : SparesAplls s₀ (portCalibrate s p) := h.frame.ite h.frame.portSet
theorem SparesAplls.portsApLost (h : SparesAplls s₀ s) {a} : SparesAplls s₀ (portsApLost s a) := h.foldl fun _ _ hu => hu.setB.portCalibrate.ite hu

theorem SparesAplls.f (h : SparesAplls s t) {d : Fld} (hd : d.reg = .AP_STATUS) (b : Nat) : t.f d b = s.f d b := by
  rw [State.f, hd, h.status, State.f, hd]

end

/-! ### The transitions of an APLL (R131) -/

section
variable {s : State} {a new : Nat}

/-- A transition writes the APLL's state and spread_active; all else that it does spares the APLLs. -/
theorem apSet_writes (hne : apState s a ≠ new) : ∃ u b,
    SparesAplls (s.setF F.AP_STATUS_state new a) u ∧ SparesAplls (u.setB F.AP_STATUS_spread_active b a) (apSet s a new) := by
  unfold apSet
  extract_lets old _ posted _ entered _ probed spread outputs ports
  rw [if_neg hne]
  have hposted : SparesAplls (s.setF F.AP_STATUS_state new a) posted := (SparesAplls.refl _).event
  have hentered : SparesAplls (s.setF F.AP_STATUS_state new a) entered := hposted.logRec.inc.ite (hposted.setAp.ite hposted)
  have hprobed : SparesAplls (s.setF F.AP_STATUS_state new a) probed := .ite (hentered.trans ⟨fun _ => rfl, fun _ => rfl⟩) hentered
  have houtputs : SparesAplls spread outputs := (SparesAplls.refl _).outLoss.ite (.refl _)
  have hports : SparesAplls spread ports := houtputs.portsApLost.ite houtputs
  exact ⟨probed, _, hprobed, hports.dpEvalAll⟩

theorem apSet_cmd (s : State) (a new b : Nat) : (ap (apSet s a new) b).cmd = (ap s b).cmd := by
  by_cases hne : apState s a = new
  · rw [apSet, if_pos hne]
  · obtain ⟨u, v, hu, ht⟩ := apSet_writes hne
    exact (ht.cmd b).trans (hu.cmd b)

/-- An APLL is in the state that it makes its transition to. -/
theorem apState_apSet (hnew : new < 8) : apState (apSet s a new) a = new := by
  by_cases hne : apState s a = new
  · rw [apSet, if_pos hne, hne]
  · obtain ⟨u, b, hu, ht⟩ := apSet_writes hne
    calc apState (apSet s a new) a
      _ = (u.setB F.AP_STATUS_spread_active b a).f F.AP_STATUS_state a := ht.f rfl a
      _ = u.f F.AP_STATUS_state a :=
          f_setF_apart _ F.AP_STATUS_spread_active F.AP_STATUS_state _ _ _ rfl (by decide) (by decide) (by decide) (by decide)
      _ = (s.setF F.AP_STATUS_state new a).f F.AP_STATUS_state a := hu.f rfl a
      _ = new % 8 := f_setF_same _ F.AP_STATUS_state _ _ _ (by decide) (by decide)
      _ = new := Nat.mod_eq_of_lt hnew

/-- A transition leaves the fields above spread_active, which tell of the last lock. -/
theorem apSet_f_above {d : Fld} (hd : d.reg = .AP_STATUS) (hle : d.lo ≤ d.hi) (hlo : 3 < d.lo) : (apSet s a new).f d a = s.f d a := by
  by_cases hne : apState s a = new
  · rw [apSet, if_pos hne]
  · obtain ⟨u, b, hu, ht⟩ := apSet_writes hne
    calc (apSet s a new).f d a
      _ = (u.setB F.AP_STATUS_spread_active b a).f d a := ht.f hd a
      _ = u.f d a := f_setF_apart _ F.AP_STATUS_spread_active d _ _ _ hd (by decide) (by decide) hle (.inl hlo)
      _ = (s.setF F.AP_STATUS_state new a).f d a := hu.f hd a
      _ = s.f d a := f_setF_apart _ F.AP_STATUS_state d _ _ _ hd (by decide) (by decide) hle (.inl (by exact Nat.lt_of_succ_lt hlo))

theorem apFinish_of_noCmd {st : Status} {p : Layout} (h : (ap s a).cmd = none) : apFinish s a st p = s := by
  unfold apFinish
  rw [h]

end

/-! ### The events of an APLL (R121, R128, R129, R131, R135, R136) -/

/-- The fields of AP_STATUS that a lock reports (R131). -/
def lockReported (s : State) (a band hopped : Nat) (l : ApLock) : State :=
  (((s.setF F.AP_STATUS_band band a).setF F.AP_STATUS_from_table hopped a).setF F.AP_STATUS_lock_us (satNat 16 l.us) a).setB F.AP_STATUS_tune_margin
    l.margin a

/-- The APLL LOCKED after the report of its lock. -/
def apLockedAs (s : State) (a band hopped : Nat) (l : ApLock) : State :=
  apSet (setAp (lockReported s a band hopped l) a { ap (lockReported s a band hopped l) a with hop := none }) a 3

section
variable {s : State} {a band hopped : Nat} {l : ApLock}

theorem lockReported_band : (lockReported s a band hopped l).f F.AP_STATUS_band a = band % 512 := by
  rw [lockReported, State.setB,
    f_setF_apart _ F.AP_STATUS_tune_margin F.AP_STATUS_band _ _ _ rfl (by decide) (by decide) (by decide) (by decide),
    f_setF_apart _ F.AP_STATUS_lock_us F.AP_STATUS_band _ _ _ rfl (by decide) (by decide) (by decide) (by decide),
    f_setF_apart _ F.AP_STATUS_from_table F.AP_STATUS_band _ _ _ rfl (by decide) (by decide) (by decide) (by decide),
    f_setF_same _ F.AP_STATUS_band _ _ _ (by decide) (by decide)]
  rfl

theorem lockReported_fromTable : (lockReported s a band hopped l).f F.AP_STATUS_from_table a = hopped % 2 := by
  rw [lockReported, State.setB,
    f_setF_apart _ F.AP_STATUS_tune_margin F.AP_STATUS_from_table _ _ _ rfl (by decide) (by decide) (by decide) (by decide),
    f_setF_apart _ F.AP_STATUS_lock_us F.AP_STATUS_from_table _ _ _ rfl (by decide) (by decide) (by decide) (by decide),
    f_setF_same _ F.AP_STATUS_from_table _ _ _ (by decide) (by decide)]
  rfl

theorem apLockedAs_state : apState (apLockedAs s a band hopped l) a = 3 := apState_apSet (by decide)

theorem apLockedAs_band : (apLockedAs s a band hopped l).f F.AP_STATUS_band a = band % 512 := by
  rw [apLockedAs, apSet_f_above rfl (by decide) (by decide), setAp_f, lockReported_band]

theorem apLockedAs_fromTable : (apLockedAs s a band hopped l).fb F.AP_STATUS_from_table a = (hopped % 2 != 0) := by
  rw [State.fb, apLockedAs, apSet_f_above rfl (by decide) (by decide), setAp_f, lockReported_fromTable]

theorem lockReported_loops : (lockReported s a band hopped l).loops = s.loops := by
  simp only [lockReported, State.setB_loops, State.setF_loops]

theorem apLockedAs_cmd : (ap (apLockedAs s a band hopped l) a).cmd = (ap s a).cmd := by
  rw [apLockedAs, apSet_cmd, ap_setAp_same, ap_congr lockReported_loops]

end

section
variable {s : State} {a : Nat}

theorem execApHopTimeout_searches {j : Nat × Nat} (h4 : a < 4) (hst : apState s a = 2) (hhop : (ap s a).hop = some j) :
    execApHopTimeout a s = .next (apSet (setAp (s.setB F.AP_BTAB_valid false a j.1) a { ap s a with hop := none }) a 1) := by
  unfold execApHopTimeout
  rw [if_neg (by omega)]
  simp only [hhop, ap_congr (State.setB_loops s ..)]

/-- The entry `j` of the band table that a search that locks writes (R129). -/
def bandEntered (s : State) (a band j : Nat) : State :=
  (((s.setB F.AP_BTAB_valid true a j).setF F.AP_BTAB_band band a j).setF F.AP_BTAB_freq_mhz (mhz ((apTarget s a).getD 0)) a j).setI F.AP_BTAB_temp
    (satInt 8 (dieTemp s)) a j

/-- The band of a search that locks stored, in the entry then used last. -/
def bandStored (s : State) (a band : Nat) : State :=
  bandTouch (bandEntered s a band (bandVictim s a ((apTarget s a).getD 0))) a (bandVictim s a ((apTarget s a).getD 0))

theorem bandTouch_cmd (s : State) (a j : Nat) : (ap (bandTouch s a j) a).cmd = (ap s a).cmd := by rw [bandTouch, ap_setAp_same]

theorem bandEntered_loops (s : State) (a band j : Nat) : (bandEntered s a band j).loops = s.loops := by
  simp only [bandEntered, State.setI_loops, State.setF_loops, State.setB_loops]

theorem bandStored_cmd (s : State) (a band : Nat) : (ap (bandStored s a band) a).cmd = (ap s a).cmd := by
  rw [bandStored, bandTouch_cmd, ap_congr (bandEntered_loops ..)]

/-- A search that locks, with no command that waits for it. -/
theorem execApLocked_search {band : Nat} {l : ApLock} (h4 : a < 4) (hst : apState s a = 1) (hhop : (ap s a).hop = none) (hcmd : (ap s a).cmd = none) :
    execApLocked a band l s = .next (apLockedAs (bandStored s a band) a (band % 512) 0 l) := by
  unfold execApLocked
  rw [if_neg (by omega)]
  simp only [hhop]
  exact congrArg Host.Outcome.next (apFinish_of_noCmd (apLockedAs_cmd.trans ((bandStored_cmd ..).trans hcmd)))

/-- A hop that locks on the band it loaded, with no command that waits for it. -/
theorem execApLocked_hop {j : Nat × Nat} {band : Nat} {l : ApLock} (h4 : a < 4) (hst : apState s a = 2) (hhop : (ap s a).hop = some j)
    (hcmd : (ap s a).cmd = none) : execApLocked a band l s = .next (apLockedAs (bandTouch s a j.1) a j.2 1 l) := by
  unfold execApLocked
  rw [if_neg (by omega)]
  simp only [hhop]
  exact congrArg Host.Outcome.next (apFinish_of_noCmd (apLockedAs_cmd.trans ((bandTouch_cmd ..).trans hcmd)))

theorem execApSearchTimeout_loses (h4 : a < 4) (hst : apState s a = 1) (hcmd : (ap s a).cmd = none) :
    execApSearchTimeout a s = .next (apSet s a 4) := by
  unfold execApSearchTimeout
  rw [if_neg (by omega)]
  simp only [apSet_cmd, hcmd]

/-- A lock lost without OSC_IN. -/
theorem execApLost_oscAbsent (h0 : 0 < a) (h4 : a < 4) (hst : apState s a = 3) :
    execApLost a false s = .next (apSet { s with loops := { s.loops with osc := false } } a 4) := by
  have hst' : apState { s with loops := { s.loops with osc := false } } a = 3 := hst
  exact if_neg (by simp [hst']; omega)

/-- A lock lost with OSC_IN present, whose return starts the APLLs that wait for it. -/
theorem execApLost_oscPresent (h0 : 0 < a) (h4 : a < 4) (hst : apState (oscBack s) a = 3) : execApLost a true s = .next (apSet (oscBack s) a 4) :=
  if_neg (by simp [hst]; omega)

theorem execApAutoRelock_starts (h0 : 0 < a) (h4 : a < 4) (hst : apState s a = 4) (hauto : s.fb F.AP_CFG_auto_relock a = true)
    (hstuck : (ap s a).stuck = false) (hpfd : pfdOk s a = true) : execApAutoRelock a s = .next (apStart (oscBack s) a false) :=
  if_neg (by simp [hst, hauto, hstuck, hpfd]; omega)

/-- An APLL in OFF whose enable is written 1 starts; its DPLL stays the one named. -/
theorem execApCfgWrite_starts {v : Word} (h4 : a < 4) (hen : (regWrite s ⟨.AP_CFG, a, 0⟩ v).fb F.AP_CFG_enable a = true)
    (hdp : (regWrite s ⟨.AP_CFG, a, 0⟩ v).f F.AP_CFG_dpll a = s.f F.AP_CFG_dpll a) (hoff : apState (regWrite s ⟨.AP_CFG, a, 0⟩ v) a = 0) :
    execApCfgWrite a v s = .next (dpEvalAll (apStart (regWrite s ⟨.AP_CFG, a, 0⟩ v) a false)) := by
  unfold execApCfgWrite
  rw [if_neg (by omega)]
  simp [hen, hdp, hoff]

theorem execApSsWrite_eq {v : Word} (h4 : a < 4) :
    execApSsWrite a v s = .next (dpEvalAll ((regWrite s ⟨.AP_SS, a, 0⟩ v).setB F.AP_STATUS_spread_active
      (apState (regWrite s ⟨.AP_SS, a, 0⟩ v) a == 3 && spreadOn (regWrite s ⟨.AP_SS, a, 0⟩ v) a) a)) := if_neg (by omega)

theorem execDpCfgWrite_eq {d : Nat} {v : Word} (h6 : d < 6) :
    execDpCfgWrite d v s = .next (lpiCheckAll (dpEval (regWrite s ⟨.DP_CFG, d, 0⟩ v) d)) := if_neg (by omega)

end

/-- Settles O18: each event and each write by the equation of its meaning. -/
theorem analogLoopsChangeState : Obligations.AnalogLoopsChangeState := by
  intro s a h4
  refine ⟨?_, ?_, ?_, ?_, ?_, ?_, ?_, ?_, ?_, ?_⟩
  · intro j hst hhop
    exact execApHopTimeout_searches h4 hst hhop
  · intro band l hst hhop hcmd
    exact ⟨_, execApLocked_search h4 hst hhop hcmd, apLockedAs_state⟩
  · intro j band l hst hhop hcmd
    exact ⟨_, execApLocked_hop h4 hst hhop hcmd, apLockedAs_band, apLockedAs_fromTable⟩
  · intro hst hcmd
    exact execApSearchTimeout_loses h4 hst hcmd
  · intro h0 hst
    exact execApLost_oscAbsent h0 h4 hst
  · intro h0 hst
    exact execApLost_oscPresent h0 h4 hst
  · intro h0 hst hauto hstuck hpfd
    exact execApAutoRelock_starts h0 h4 hst hauto hstuck hpfd
  · intro v hen hdp hoff
    exact execApCfgWrite_starts h4 hen hdp hoff
  · intro v
    exact ⟨_, rfl, execApSsWrite_eq h4⟩
  · intro d v h6
    exact execDpCfgWrite_eq h6

end Sys2Proof.Machine

namespace Sys2Proof.Machine
open Sys2Proof

/-! ### Signed fields -/

theorem sext_twos {n : Nat} {x : Int} (hlo : -(2 ^ n : Nat) ≤ x) (hhi : x < (2 ^ n : Nat)) : sext (n + 1) (twos (n + 1) x) = x := by
  have hpow : 2 ^ (n + 1) = 2 * 2 ^ n := by rw [Nat.pow_succ, Nat.mul_comm]
  rw [sext, Nat.mod_eq_of_lt (twos_lt ..), Nat.add_sub_cancel, twos, hpow]
  generalize 2 ^ n = p at hlo hhi
  have hmod : x % ((2 * p : Nat) : Int) = if 0 ≤ x then x else x + (2 * p : Nat) := by
    split
    · exact Int.emod_eq_of_lt ‹_› (by omega)
    · rw [← Int.add_emod_right]
      exact Int.emod_eq_of_lt (by omega) (by omega)
  rw [hmod]
  split
  · rw [if_pos (by omega)]
    omega
  · rw [if_neg (by omega)]
    omega

theorem satInt_mem (n : Nat) (x : Int) : -(2 ^ n : Nat) ≤ satInt (n + 1) x ∧ satInt (n + 1) x < (2 ^ n : Nat) := by
  have hpos := Nat.two_pow_pos n
  rw [satInt, Nat.add_sub_cancel]
  omega

/-- A signed field reads what saturates at its width. -/
theorem fi_setI_satInt {s : State} {d : Fld} {i j n : Nat} (x : Int) (h1 : d.lo ≤ d.hi) (h2 : d.hi < 32) (hn : d.hi - d.lo = n) :
    (s.setI d (satInt (n + 1) x) i j).fi d i j = satInt (n + 1) x := by
  obtain ⟨hlo, hhi⟩ := satInt_mem n x
  rw [State.fi, f_setI_same h1 h2 rfl, hn, sext_twos hlo hhi]

/-! ### The updates of the DPLLs (R123, R124, R125, R126) -/

/-- What an update of DPLL `d` reports of its phase error `e`, its lag and the tuning margin of the APLL that it steers. -/
def dpReported (s : State) (d : Nat) (e lag : Int) (margin : Bool) : State :=
  let t := (s.setI F.DP_PERR_value e d).setB F.DP_STATUS_slope_limited (lag != 0) d
  match steered t d with
  | some a => t.setB F.AP_STATUS_tune_margin margin a
  | none => t

section
variable {s : State} {d : Nat} {e lag : Int} {margin : Bool}

theorem dpReported_f {b : Fld} (hb : b.reg ≠ .AP_STATUS) :
    (dpReported s d e lag margin).f b d = ((s.setI F.DP_PERR_value e d).setB F.DP_STATUS_slope_limited (lag != 0) d).f b d := by
  unfold dpReported
  extract_lets t
  split
  · exact f_setF_name _ _ _ _ _ _ _ _ hb
  · rfl

theorem dpReported_perr (x : Int) : (dpReported s d (satInt 32 x) lag margin).fi F.DP_PERR_value d = satInt 32 x := by
  rw [State.fi, dpReported_f (by decide), State.setB, f_setF_name _ _ _ _ _ _ _ _ (by decide), ← State.fi,
    fi_setI_satInt (n := 31) x (by decide) (by decide) rfl]

theorem dpReported_slopeLimited : (dpReported s d e lag margin).fb F.DP_STATUS_slope_limited d = (lag != 0) := by
  rw [State.fb, dpReported_f (by decide), ← State.fb]
  exact fb_setB_same rfl (by decide)

/-- The ratio that an update loads lies within the range of R123. -/
theorem dpNextRatio_mem (s : State) (d : Nat) (phase freq : Int) :
    64 * 2 ^ 40 ≤ dpNextRatio s d phase freq ∧ dpNextRatio s d phase freq < 2561 * 2 ^ 40 := by
  unfold dpNextRatio
  extract_lets x l base want move
  generalize base + move = y
  omega

/-- An update whose load does not fall in the same step: it reports, notes what it took, and queues the load of its ratio before the lock decision. -/
theorem execDpllUpdate_queues {m : DpMeas} {t : State} (h0 : 0 < d) (h6 : d < 6) (ht : dpEval s d = t) (hst : dpState t d = 2 ∨ dpState t d = 3)
    (he : satInt 32 (dpPhaseErr t d m) = e) :
    ∃ x, execDpllUpdate d m none s = .next (dpLockStep (queueLoad (setDp (dpReported t d e (dpLag t d) m.margin) d x)
      (.dpll d (dpNextRatio t d e m.freq))) d (e - roundRat ((dpLag t d : Rat) / 256000)) m.freq) := by
  unfold execDpllUpdate
  rw [if_pos h6, ht, if_neg (by omega), he]
  exact ⟨_, rfl⟩

end

/-! ### The reference inputs (R122) -/

/-- A stamp of reference input `i` noted, with the one before it. -/
def refinNoted (s : State) (i : Nat) (stamp : Int) : State :=
  { s with loops := { s.loops with refin := tset s.loops.refin i ⟨some stamp, (tget s.loops.refin Refin.reset i).last⟩ } }

/-- The stamps of reference input `i` forgotten. -/
def refinForgotten (s : State) (i : Nat) : State := { s with loops := { s.loops with refin := tset s.loops.refin i Refin.reset } }

theorem refinNoted_prev (s : State) (i : Nat) (stamp : Int) :
    (tget (refinNoted s i stamp).loops.refin Refin.reset i).prev = (tget s.loops.refin Refin.reset i).last := by
  rw [refinNoted, tget_tset_same]

theorem execRefinStamp_notes {s : State} {i : Nat} {e : RefinEdge} (h8 : i < 8) (hnom : (advance s e.ticks).f F.SYN_REFIN_CFG_f_nom i ≠ 0)
    (hc : (advance s e.ticks).hs.shclk = true) : ∃ stamp, execRefinStamp i e s = .next (dpEvalAll
      (((refinNoted (advance s e.ticks) i stamp).setB F.SYN_REFIN_STATUS_present true i).setI F.SYN_REFIN_STATUS_offset (satInt 24 e.ppb) i)) := by
  unfold execRefinStamp
  generalize advance s e.ticks = t at hnom hc
  exact ⟨_, if_neg (by simp [hnom, hc]; omega)⟩

theorem execRefinAbsent_forgets {s : State} {i : Nat} (h8 : i < 8) :
    execRefinAbsent i s = .next (dpEvalAll ((refinForgotten s i).setB F.SYN_REFIN_STATUS_present false i)) := if_neg (by omega)

/-! ### The deterministic-phase procedure (R133) -/

/-- Pass 1 of the procedure of DPLL `d` begun on the grid instant `g`. -/
def detAnchored (s : State) (d : Nat) (g : GridAt) : State := setDp (s.setF F.DP_STATUS_det_state 1 d) d { dp s d with anchor := some g }

/-- A pass of DPLL `d` ended with residual `r`: counted, shown, and −`r` added to the DPLL's phase. -/
def detPassed (s : State) (d : Nat) (r : Int) : State :=
  ((setDp s d { dp s d with residual := r, correction := (dp s d).correction - r }).setF F.DP_STATUS_passes (s.f F.DP_STATUS_passes d + 1) d).setI
    F.DP_STATUS_residual (residualPs r) d

/-- The procedure of DPLL `d` ended. -/
def detEnded (s : State) (d : Nat) : State := setDp s d { dp s d with active := false, det := none }

section
variable {s : State} {d : Nat} {r : Int}

theorem execDetAnchor_begins {g : GridAt} (h6 : d < 6) (hactive : (dp s d).active = true) (hst : dpState s d = 3) (hc : clocked s = true)
    (hfree : steered s d = none) (hg : (dp s d).anchor.bind (gridCome s d) = some g) : execDetAnchor d s = .next (detAnchored s d g) := by
  have hfree' : steered (detAnchored s d g) d = none :=
    (steered_congr (fun _ => f_setF_name _ _ _ _ _ _ _ _ (by decide)) d).trans hfree
  unfold execDetAnchor
  rw [if_neg (by simp [hactive, hst, hc]; omega)]
  simp only [hg]
  rw [show steered (setDp (s.setF F.DP_STATUS_det_state 1 d) d _) d = none from hfree']
  rfl

theorem detPassed_detState : (detPassed s d r).f F.DP_STATUS_det_state d = s.f F.DP_STATUS_det_state d := by
  rw [detPassed, State.setI,
    f_setF_apart _ F.DP_STATUS_residual F.DP_STATUS_det_state _ _ _ rfl (by decide) (by decide) (by decide) (by decide),
    f_setF_apart _ F.DP_STATUS_passes F.DP_STATUS_det_state _ _ _ rfl (by decide) (by decide) (by decide) (by decide), setDp_f]

theorem detPassed_correction : (dp (detPassed s d r) d).correction = (dp s d).correction - r := by
  rw [dp, detPassed, State.setI_loops, State.setF_loops, ← dp, dp_setDp_same]

theorem detEnded_active : (dp (detEnded s d) d).active = false := by rw [detEnded, dp_setDp_same]

theorem detEnded_f (s : State) (d : Nat) (b : Fld) (i : Nat) : (detEnded s d).f b i = s.f b i := setDp_f ..

section
variable (h6 : d < 6) (hactive : (dp s d).active = true) (hst : s.f F.DP_STATUS_det_state d = 1) (hc : clocked s = true) (hcorr : detCorrecting s d = false)
include h6 hactive hst hc hcorr

/-- A residual beyond 2 ps before the fourth pass: another pass. -/
theorem execDetPassEnd_again (hr : 512 < r.natAbs) (hk : s.f F.DP_STATUS_passes d + 1 < 4) : execDetPassEnd d r s = .next (detPassed s d r) := by
  unfold execDetPassEnd
  rw [if_neg (by simp [hactive, hst, hc, hcorr]; omega)]
  exact if_pos ⟨hr, hk⟩

/-- A residual within 2 ps ends a procedure that no command waits for with DONE. -/
theorem execDetPassEnd_done (hr : r.natAbs ≤ 512) (hdet : (dp s d).det = none) :
    execDetPassEnd d r s = .next (detEnded ((detPassed s d r).setF F.DP_STATUS_det_state 2 d) d) := by
  unfold execDetPassEnd
  rw [if_neg (by simp [hactive, hst, hc, hcorr]; omega)]
  extract_lets x k corrected passed failed shown recorded _ ended
  rw [if_neg (by omega)]
  have hfailed : ¬failed = true := by simp [failed]; omega
  have hshown : shown = (detPassed s d r).setF F.DP_STATUS_det_state 2 d := congrArg (passed.setF F.DP_STATUS_det_state · d) (if_neg hfailed)
  have hrecorded : recorded = shown := if_neg hfailed
  rw [show x.det = none from hdet]
  exact congrArg (fun t => Host.Outcome.next (detEnded t d)) (hrecorded.trans hshown)

/-- A residual beyond 2 ps after the fourth pass ends it with FAILED, and is recorded. -/
theorem execDetPassEnd_failed (hr : 512 < r.natAbs) (hk : s.f F.DP_STATUS_passes d = 3) (hdet : (dp s d).det = none) :
    execDetPassEnd d r s = .next (detEnded (logRec ((detPassed s d r).setF F.DP_STATUS_det_state 3 d) 3 0x0480
      [(0, 1, d), (1, 1, s.f F.DP_STATUS_passes d + 1), (4, 4, twos 32 r)]) d) := by
  unfold execDetPassEnd
  rw [if_neg (by simp [hactive, hst, hc, hcorr]; omega)]
  extract_lets x k corrected passed failed shown recorded _ ended
  rw [if_neg (by omega)]
  have hfailed : failed = true := decide_eq_true hr
  have hshown : shown = (detPassed s d r).setF F.DP_STATUS_det_state 3 d := congrArg (passed.setF F.DP_STATUS_det_state · d) (if_pos hfailed)
  have hrecorded : recorded = logRec shown 3 0x0480 [(0, 1, d), (1, 1, k), (4, 4, twos 32 r)] := if_pos hfailed
  rw [show x.det = none from hdet, ← hshown]
  exact congrArg (fun t => Host.Outcome.next (detEnded t d)) hrecorded

end

end

/-- Settles O19: each event by the equation of its meaning; the ratio's range by its clamp. -/
theorem dpllsAndRefinsAct : Obligations.DpllsAndRefinsAct := by
  intro s
  refine ⟨?_, ?_, ?_, ?_, ?_⟩
  · rintro d m e _ h0 h6 hst he rfl
    obtain ⟨x, hexec⟩ := execDpllUpdate_queues h0 h6 rfl hst he.symm
    obtain ⟨hlo, hhi⟩ := dpNextRatio_mem (dpEval s d) d e m.freq
    refine ⟨_, hexec, ?_, ?_, hlo, hhi⟩
    · rw [State.fi, setDp_f, ← State.fi, he, dpReported_perr]
    · exact dpReported_slopeLimited
  · intro i e h8 hnom hc
    obtain ⟨stamp, hexec⟩ := execRefinStamp_notes h8 hnom hc
    exact ⟨_, hexec, rfl, refinNoted_prev ..⟩
  · intro i h8
    exact ⟨_, execRefinAbsent_forgets h8, rfl⟩
  · intro d g h6 hactive hst hc hfree hg
    exact execDetAnchor_begins h6 hactive hst hc hfree hg
  · intro d r h6 hactive hst hc hcorr
    refine ⟨fun hr hk => ?_, fun hr hdet => ?_, fun hr hk hdet => ?_⟩
    · exact ⟨_, execDetPassEnd_again h6 hactive hst hc hcorr hr hk, detPassed_detState.trans hst, detPassed_correction⟩
    · refine ⟨_, execDetPassEnd_done h6 hactive hst hc hcorr hr hdet, ?_, detEnded_active⟩
      exact (detEnded_f ..).trans (f_setF_same _ F.DP_STATUS_det_state _ _ _ (by decide) (by decide))
    · refine ⟨_, execDetPassEnd_failed h6 hactive hst hc hcorr hr hk hdet, ?_, detEnded_active⟩
      rw [detEnded_f, State.f, logRec_rg _ _ _ _ _ _ _ rfl, ← State.f]
      exact f_setF_same _ F.DP_STATUS_det_state _ _ _ (by decide) (by decide)

end Sys2Proof.Machine

namespace Sys2Proof.Machine
open Sys2Proof

/-! ### What keeps the handshake domain (R58, R87, R137, R208, R287)

Once SHCLK has stopped, what else the loss of AP0 does to the timescales, the outputs, the ports and Ranin leaves the handshake domain as it is. One
relation between the state before and the state after, carried through the model in the manner of `Evolves`. -/

/-- The handshake domain of `t` is that of `s`. -/
structure KeepsHandshake (s t : State) : Prop where
  hs : t.hs = s.hs

section
variable {s₀ s t : State}

theorem KeepsHandshake.refl (s : State) : KeepsHandshake s s := ⟨rfl⟩

theorem KeepsHandshake.trans (h : KeepsHandshake s₀ s) (h' : KeepsHandshake s t) : KeepsHandshake s₀ t := ⟨h'.hs.trans h.hs⟩

/-- An update of the state beside its handshake domain. -/
theorem KeepsHandshake.frame (h : KeepsHandshake s₀ s)
    {regs time ens clap loops outs cues gnss ports stv ptp ntp ran areas host gov log sheets fw perf wrap pwr ticks fresh out pending} :
    KeepsHandshake s₀ ⟨regs, s.hs, time, ens, clap, loops, outs, cues, gnss, ports, stv, ptp, ntp, ran, areas, host, gov, log, sheets, fw, perf, wrap, pwr,
      ticks, fresh, out, pending⟩ := ⟨h.hs⟩

theorem KeepsHandshake.ite {p : Prop} {_ : Decidable p} (hs : KeepsHandshake s₀ s) (ht : KeepsHandshake s₀ t) :
    KeepsHandshake s₀ (if p then s else t) := by
  split
  · exact hs
  · exact ht

theorem KeepsHandshake.foldl {α : Type} {f : State → α → State} {l : List α} (h : KeepsHandshake s₀ s)
    (hf : ∀ u x, KeepsHandshake s₀ u → KeepsHandshake s₀ (f u x)) : KeepsHandshake s₀ (l.foldl f s) := foldl_inv (KeepsHandshake s₀) f hf l s h

/-- The end of a command. -/
theorem KeepsHandshake.next (h : KeepsHandshake s₀ s) : NextMeets (.next s) (KeepsHandshake s₀) := ⟨s, rfl, h⟩

theorem KeepsHandshake.wr (h : KeepsHandshake s₀ s) {n i j v} : KeepsHandshake s₀ (s.wr n i j v) := h.frame
theorem KeepsHandshake.setF (h : KeepsHandshake s₀ s) {d v i j} : KeepsHandshake s₀ (s.setF d v i j) := h.wr
theorem KeepsHandshake.setB (h : KeepsHandshake s₀ s) {d b i j} : KeepsHandshake s₀ (s.setB d b i j) := h.setF
theorem KeepsHandshake.incF (h : KeepsHandshake s₀ s) {d i j k} : KeepsHandshake s₀ (s.incF d i j k) := h.setF
theorem KeepsHandshake.inc (h : KeepsHandshake s₀ s) {n i k} : KeepsHandshake s₀ (s.inc n i k) := h.wr
theorem KeepsHandshake.emit (h : KeepsHandshake s₀ s) {e} : KeepsHandshake s₀ (s.emit e) := h.frame
theorem KeepsHandshake.setTsc (h : KeepsHandshake s₀ s) {n x} : KeepsHandshake s₀ (setTsc s n x) := h.frame
theorem KeepsHandshake.sentTo (h : KeepsHandshake s₀ s) {n d} : KeepsHandshake s₀ (sentTo s n d) := h.setTsc
theorem KeepsHandshake.setEns (h : KeepsHandshake s₀ s) {n x} : KeepsHandshake s₀ (setEns s n x) := h.frame
theorem KeepsHandshake.setOut (h : KeepsHandshake s₀ s) {o x} : KeepsHandshake s₀ (setOut s o x) := h.frame
theorem KeepsHandshake.setPort (h : KeepsHandshake s₀ s) {p x} : KeepsHandshake s₀ (setPort s p x) := h.frame
theorem KeepsHandshake.setCuePin (h : KeepsHandshake s₀ s) {p x} : KeepsHandshake s₀ (setCuePin s p x) := h.frame
theorem KeepsHandshake.logEvent (h : KeepsHandshake s₀ s) {sev code data} : KeepsHandshake s₀ (logEvent s sev code data) := h.trans ⟨logEvent_hs ..⟩
theorem KeepsHandshake.finish (h : KeepsHandshake s₀ s) {c op st p} : KeepsHandshake s₀ (finish s c op st p) := h.trans ⟨finish_hs ..⟩

/-! #### The loops and the outputs -/

theorem KeepsHandshake.dpEvalAll (h : KeepsHandshake s₀ s) : KeepsHandshake s₀ (dpEvalAll s) := h.trans ⟨(SparesHandshake.refl s).dpEvalAll.hs⟩
theorem KeepsHandshake.apSet (h : KeepsHandshake s₀ s) {a new} : KeepsHandshake s₀ (apSet s a new) := h.trans ⟨(SparesHandshake.refl s).apSet.hs⟩
theorem KeepsHandshake.outFault (h : KeepsHandshake s₀ s) {o cause} : KeepsHandshake s₀ (outFault s o cause) := h.setOut
theorem KeepsHandshake.outStopAll (h : KeepsHandshake s₀ s) {cause} : KeepsHandshake s₀ (outStopAll s cause) := h.foldl fun _ _ hu => hu.ite hu.outFault

/-! #### The timescales -/

theorem KeepsHandshake.applyHeldCoeffs (h : KeepsHandshake s₀ s) : KeepsHandshake s₀ (applyHeldCoeffs s) := by
  unfold Machine.applyHeldCoeffs
  extract_lets put
  have hput : ∀ {u i}, KeepsHandshake s₀ u → KeepsHandshake s₀ (put u i) := by
    intro u i hu
    unfold put
    split
    · exact hu.setF
    · exact hu
  exact h.ite (hput (hput (hput h))).frame

theorem KeepsHandshake.advanceProv (h : KeepsHandshake s₀ s) {n cause} : KeepsHandshake s₀ (advanceProv s n cause) := h.setEns.logEvent

theorem KeepsHandshake.ensFree (h : KeepsHandshake s₀ s) {n} : KeepsHandshake s₀ (ensFree s n) :=
  h.setEns.setF.setF.setF.setB.setF.ite h.setEns.setF.setF.setF.setB.setF.setF.advanceProv

theorem KeepsHandshake.tsTransition (h : KeepsHandshake s₀ s) {n st} : KeepsHandshake s₀ (tsTransition s n st) := by
  unfold Machine.tsTransition
  extract_lets _ _ entered uncoasted posted
  have huncoasted : KeepsHandshake s₀ uncoasted := h.setTsc.applyHeldCoeffs.wr.ite h.setTsc
  have hposted : KeepsHandshake s₀ posted := huncoasted.logEvent.advanceProv
  exact h.ite (hposted.ensFree.ite hposted)

theorem KeepsHandshake.reportBound (h : KeepsHandshake s₀ s) {n e} : KeepsHandshake s₀ (reportBound s n e) :=
  h.setEns.setF.setF.setF.setF.setF.setF.setTsc

theorem KeepsHandshake.coastEntry (h : KeepsHandshake s₀ s) {n atEpoch} : KeepsHandshake s₀ (coastEntry s n atEpoch) :=
  h.setEns.wr.setF.tsTransition.reportBound

theorem KeepsHandshake.coastAll (h : KeepsHandshake s₀ s) : KeepsHandshake s₀ (coastAll s) := h.foldl fun _ _ hu => hu.coastEntry.ite hu

/-! #### The commands that wait for an instant -/

theorem KeepsHandshake.setPermit (h : KeepsHandshake s₀ s) {n p} : KeepsHandshake s₀ (setPermit s n p) := h.frame.setB

theorem KeepsHandshake.releasePermit (h : KeepsHandshake s₀ s) {n c} : KeepsHandshake s₀ (releasePermit s n c) := by
  unfold Machine.releasePermit
  split
  · exact (h.setPermit.logEvent.ite h.setPermit).ite h
  · exact h

theorem KeepsHandshake.timeoutAtTs (h : KeepsHandshake s₀ s) {p} : KeepsHandshake s₀ (timeoutAtTs s p) := by
  refine KeepsHandshake.foldl h.frame fun u w hu => KeepsHandshake.finish ?_
  split
  · exact hu.releasePermit
  · exact hu.releasePermit
  · exact hu.foldl fun _ _ hv => hv.setF.setOut.ite hv
  · exact hu.foldl fun _ _ hv => hv.setF.ite hv
  · exact hu

/-! #### The ports -/

theorem KeepsHandshake.portSet (h : KeepsHandshake s₀ s) {p new} : KeepsHandshake s₀ (portSet s p new) := h.trans ⟨(SparesHandshake.refl s).portSet.hs⟩
theorem KeepsHandshake.txtsPut (h : KeepsHandshake s₀ s) {p e} : KeepsHandshake s₀ (txtsPut s p e) := h.inc.setB.ite h.setPort.setF
theorem KeepsHandshake.txtsAbort (h : KeepsHandshake s₀ s) {p} : KeepsHandshake s₀ (txtsAbort s p) := h.setPort.foldl fun _ _ hu => hu.txtsPut
theorem KeepsHandshake.portLeave (h : KeepsHandshake s₀ s) {p} : KeepsHandshake s₀ (portLeave s p) := h.frame.setB.setB.txtsAbort
theorem KeepsHandshake.portCount (h : KeepsHandshake s₀ s) {p i k} : KeepsHandshake s₀ (portCount s p i k) := h.setPort

theorem KeepsHandshake.portDown (h : KeepsHandshake s₀ s) {p cause} : KeepsHandshake s₀ (portDown s p cause) :=
  h.ite (h.setF.ite h.setF.portCount).portLeave.portSet

theorem KeepsHandshake.portsAp0Lost (h : KeepsHandshake s₀ s) : KeepsHandshake s₀ (portsAp0Lost s) := h.foldl fun _ _ hu => hu.portDown

/-! #### Ranin and the roles -/

theorem KeepsHandshake.ranEvent (h : KeepsHandshake s₀ s) {b} : KeepsHandshake s₀ (ranEvent s b) := h.setF

theorem KeepsHandshake.execRanLaneState (h : KeepsHandshake s₀ s) {lane up training} :
    NextMeets (execRanLaneState lane up training s) (KeepsHandshake s₀) :=
  h.next.ite (h.setF.setF.frame.next.ite (h.setF.setF.ranEvent.setB.next.ite h.setF.setF.next))

theorem KeepsHandshake.lanesDown (h : KeepsHandshake s₀ s) : KeepsHandshake s₀ (lanesDown s) := by
  unfold Machine.lanesDown
  refine h.foldl fun u _ hu => ?_
  split
  · exact hu.execRanLaneState.of_eq ‹_›
  · exact hu

theorem KeepsHandshake.ranSend (h : KeepsHandshake s₀ s) {kind fields} : KeepsHandshake s₀ (ranSend s kind fields) := by
  unfold Machine.ranSend
  refine h.ite ?_
  split
  · exact h.emit
  · exact h.frame.emit

theorem KeepsHandshake.sendClaim (h : KeepsHandshake s₀ s) : KeepsHandshake s₀ (sendClaim s) := h.ranSend.ite h
theorem KeepsHandshake.blockedEval (h : KeepsHandshake s₀ s) : KeepsHandshake s₀ (blockedEval s) := (h.ranEvent.ite h).setB

theorem KeepsHandshake.roleSet (h : KeepsHandshake s₀ s) {new} : KeepsHandshake s₀ (roleSet s new) :=
  (h.setF.ranEvent.ite (h.setF.ranEvent.ite h.setF)).logEvent

theorem KeepsHandshake.followEnd (h : KeepsHandshake s₀ s) : KeepsHandshake s₀ (followEnd s) := h.ite (h.setEns.tsTransition.ite (h.ite h.coastEntry))
theorem KeepsHandshake.bumpSequences (h : KeepsHandshake s₀ s) : KeepsHandshake s₀ (bumpSequences s) := h.frame

theorem KeepsHandshake.enterLead (h : KeepsHandshake s₀ s) : KeepsHandshake s₀ (enterLead s) :=
  h.roleSet.incF.setB.setB.followEnd.bumpSequences.frame

theorem KeepsHandshake.cueSettle (h : KeepsHandshake s₀ s) : KeepsHandshake s₀ (cueSettle s) := h.foldl fun _ _ hu => hu.ite hu.setCuePin
theorem KeepsHandshake.cuePinCut (h : KeepsHandshake s₀ s) {p} : KeepsHandshake s₀ (cuePinCut s p) := (h.emit.ite h).setCuePin.ite h
theorem KeepsHandshake.cueCutAll (h : KeepsHandshake s₀ s) : KeepsHandshake s₀ (cueCutAll s) := h.foldl fun _ _ hu => hu.ite hu.cuePinCut

theorem KeepsHandshake.permEval (h : KeepsHandshake s₀ s) : KeepsHandshake s₀ (permEval s) := by
  unfold Machine.permEval
  extract_lets _ granted led cleared _ withdrawn
  have hgranted : KeepsHandshake s₀ granted := h.setB.setB
  have hled : KeepsHandshake s₀ led := hgranted.enterLead.ite hgranted
  have hcleared : KeepsHandshake s₀ cleared := h.setB.setB
  have hwithdrawn : KeepsHandshake s₀ withdrawn := hcleared.frame
  exact h.blockedEval.ite (hled.blockedEval.cueSettle.sendClaim.ite hwithdrawn.cueCutAll.blockedEval.sendClaim)

/-- As in `Evolves.fence`, the function is unfolded without its arguments, or the kernel would evaluate `permEval`. -/
theorem KeepsHandshake.fence (h : KeepsHandshake s₀ s) {cause} : KeepsHandshake s₀ (fence s cause) := by
  suffices hf : ∀ f, f = @Machine.fence → KeepsHandshake s₀ (f s cause) from hf _ rfl
  intro f hf
  delta Machine.fence at hf
  subst hf
  beta_reduce
  extract_lets -underBinder _ fenced left caused evaluated
  have hevaluated : KeepsHandshake s₀ evaluated := (h.roleSet.incF.followEnd.ite h.roleSet.incF).setF.setB.setB.permEval
  clear_value evaluated
  split
  · exact hevaluated.frame.sentTo.finish.ite hevaluated
  · exact hevaluated

theorem KeepsHandshake.fenceLead (h : KeepsHandshake s₀ s) {cause} : KeepsHandshake s₀ (fenceLead s cause) := h.fence.ite h

end

/-! ### The loss and the relock of AP0 (R40, R137, R138) -/

section
variable {s : State} {oscMissing : Bool} {phiLoss : Nat}

/-- The loss of AP0 while SHCLK is present stops it, and nothing that follows starts it. -/
theorem ap0Lost_keepsStop (hc : s.hs.shclk = true) : ∃ u, KeepsHandshake (shclkStop u) (ap0Lost oscMissing phiLoss s) := by
  unfold ap0Lost
  rw [if_neg (by simp [hc])]
  extract_lets ran _ noted broken coasted gap rebuild stopped lost evaluated
  have hcoasted : KeepsHandshake (shclkStop broken) coasted := (KeepsHandshake.refl _).coastAll
  have hrebuild : KeepsHandshake (shclkStop broken) rebuild := hcoasted.setB.setB.setB.setB
  have hstopped : KeepsHandshake (shclkStop broken) stopped := hrebuild.outStopAll.ite hrebuild
  exact ⟨broken, hstopped.apSet.dpEvalAll.timeoutAtTs⟩

theorem execAp0Loss_stopsShclk (hc : s.hs.shclk = true) : ∃ t, execAp0Loss oscMissing phiLoss s = .next t ∧ t.hs.shclk = false := by
  obtain ⟨u, hu⟩ := ap0Lost_keepsStop (oscMissing := oscMissing) (phiLoss := phiLoss) hc
  exact ⟨_, congrArg Host.Outcome.next (if_pos hc), congrArg HandshakeSt.shclk hu.portsAp0Lost.lanesDown.fenceLead.hs⟩

theorem execAp0RelockAttempt_starts (h : apState (oscBack s) 0 = 4) : execAp0RelockAttempt s = .next (apStart (oscBack s) 0 false) := if_pos h

end

/-! ### The restart of SHCLK (R134, R138) -/

section
variable {s : State}

/-- The anchoring of an output's dividers leaves the loops as they are. -/
theorem outAnchor_loops (a : Nat) (g : GridAt) (s : State) (o : Nat) : (outAnchor a g s o).loops = s.loops := by
  unfold outAnchor
  extract_lets x prim fb y noted
  split
  · rfl
  · rfl

/-- SYN_GAP_STATUS as SHCLK restarts: the gap is over and its rebuild begins, with its overflow shown (R138). -/
def gapClosed (s : State) (oscMissing : Bool) (nGap : Nat) : State :=
  let t := (s.setB F.SYN_GAP_STATUS_gap_active false).setB F.SYN_GAP_STATUS_rebuilding true
  (if oscMissing then t.setB F.SYN_GAP_STATUS_osc_missing true else t).setB F.SYN_GAP_STATUS_overflow (decide (2 ^ 48 ≤ nGap))

section
variable {oscMissing : Bool} {nGap : Nat}

/-- The marks that the restart leaves above overflow. -/
theorem gapClosed_f {d : Fld} (hd : d.reg = .SYN_GAP_STATUS) (hle : d.lo ≤ d.hi) (hlo : 1 < d.lo) :
    (gapClosed s oscMissing nGap).f d = ((s.setB F.SYN_GAP_STATUS_gap_active false).setB F.SYN_GAP_STATUS_rebuilding true).f d := by
  unfold gapClosed
  extract_lets t
  rw [State.setB, f_setF_apart _ F.SYN_GAP_STATUS_overflow d _ _ _ hd (by decide) (by decide) hle (.inl hlo)]
  split
  · exact f_setF_apart _ F.SYN_GAP_STATUS_osc_missing d _ _ _ hd (by decide) (by decide) hle (.inl (Nat.lt_of_succ_lt hlo))
  · rfl

theorem gapClosed_gapActive : (gapClosed s oscMissing nGap).fb F.SYN_GAP_STATUS_gap_active = false := by
  have hmark : ((s.setB F.SYN_GAP_STATUS_gap_active false).setB F.SYN_GAP_STATUS_rebuilding true).f F.SYN_GAP_STATUS_gap_active
      = (s.setB F.SYN_GAP_STATUS_gap_active false).f F.SYN_GAP_STATUS_gap_active :=
    f_setF_apart _ F.SYN_GAP_STATUS_rebuilding F.SYN_GAP_STATUS_gap_active _ _ _ rfl (by decide) (by decide) (by decide) (by decide)
  rw [State.fb, gapClosed_f rfl (by decide) (by decide), hmark, ← State.fb, fb_setB_same rfl (by decide)]

theorem gapClosed_rebuilding : (gapClosed s oscMissing nGap).fb F.SYN_GAP_STATUS_rebuilding = true := by
  rw [State.fb, gapClosed_f rfl (by decide) (by decide), ← State.fb, fb_setB_same rfl (by decide)]

theorem gapClosed_overflow : (gapClosed s oscMissing nGap).fb F.SYN_GAP_STATUS_overflow = decide (2 ^ 48 ≤ nGap) := fb_setB_same rfl (by decide)

theorem gapClosed_loops : (gapClosed s oscMissing nGap).loops = s.loops := by
  unfold gapClosed
  extract_lets t
  rw [State.setB_loops]
  split
  · rfl
  · rfl

end

/-- SHCLK restarts where AP0 has stayed LOCKED and the gap is counted. -/
theorem execShclkRestart_starts {nGap phiRes : Nat} {oscMissing : Bool} (hc : s.hs.shclk = false) (hst : apState s 0 = 3)
    (hgap : s.fb F.SYN_GAP_STATUS_gap_active = true) :
    ∃ u, execShclkRestart nGap phiRes oscMissing s = .next (shclkStart (gapClosed u oscMissing nGap)) ∧ u.loops.nGap = nGap := by
  unfold execShclkRestart
  rw [if_neg (by simp [hc, hst, hgap])]
  extract_lets _ noted anchored
  have hloops : anchored.loops = noted.loops := foldl_keeps State.loops _ (fun u o => outAnchor_loops ..) _ _
  exact ⟨anchored, rfl, congrArg LoopSt.nGap hloops⟩

end

/-! ### The rebuild (R138, R139) -/

/-- The gap registers hold the gap counter's value `n`, and no rebuild is pending. -/
def gapReported (s : State) (n : Nat) : State :=
  ((s.setF F.SYN_GAP_LO_value (n % 2 ^ 32)).setF F.SYN_GAP_HI_value (n / 2 ^ 32)).setB F.SYN_GAP_STATUS_rebuilding false

/-- The rebuild counted and posted. -/
def gapPosted (s : State) (n : Nat) : State := logEvent ((gapReported s n).incF F.SYN_GAP_STATUS_rebuilds) 2 0x0403 [(0, 8, n)]

section
variable {s : State} {n : Nat}

theorem gapPosted_rebuilding : (gapPosted s n).fb F.SYN_GAP_STATUS_rebuilding = false := by
  rw [State.fb, gapPosted, logEvent_f _ _ _ _ _ _ _ rfl, State.incF,
    f_setF_apart _ F.SYN_GAP_STATUS_rebuilds F.SYN_GAP_STATUS_rebuilding _ _ _ rfl (by decide) (by decide) (by decide) (by decide), ← State.fb]
  exact fb_setB_same rfl (by decide)

theorem gapPosted_f {d : Fld} (hd : d.reg ≠ .SYN_GAP_STATUS) (hlog : isLogReg d.reg = false) :
    (gapPosted s n).f d = ((s.setF F.SYN_GAP_LO_value (n % 2 ^ 32)).setF F.SYN_GAP_HI_value (n / 2 ^ 32)).f d := by
  rw [gapPosted, logEvent_f _ _ _ _ _ _ _ hlog, State.incF, f_setF_name _ _ _ _ _ _ _ _ hd, gapReported, State.setB, f_setF_name _ _ _ _ _ _ _ _ hd]

/-- The two gap registers hold a gap of 48 bits. -/
theorem gapPosted_value (hn : n < 2 ^ 48) :
    (gapPosted s n).f F.SYN_GAP_LO_value + (gapPosted s n).f F.SYN_GAP_HI_value * 2 ^ 32 = n := by
  have hlo : (gapPosted s n).f F.SYN_GAP_LO_value = n % 2 ^ 32 % 2 ^ 32 := by
    rw [gapPosted_f (by decide) rfl, f_setF_name _ _ _ _ _ _ _ _ (by decide)]
    exact f_setF_same _ F.SYN_GAP_LO_value _ _ _ (by decide) (by decide)
  have hhi : (gapPosted s n).f F.SYN_GAP_HI_value = n / 2 ^ 32 % 2 ^ 16 := by
    rw [gapPosted_f (by decide) rfl]
    exact f_setF_same _ F.SYN_GAP_HI_value _ _ _ (by decide) (by decide)
  rw [hlo, hhi]
  omega

theorem execAp0Rebuilt_rebuilds (hc : s.hs.shclk = true) (hr : s.fb F.SYN_GAP_STATUS_rebuilding = true) (hn : s.loops.nGap < 2 ^ 48) :
    ∃ v, execAp0Rebuilt s = .next (dpEvalAll (gnssRebuilt ((List.range 4).foldl rebuildBound (gapPosted v s.loops.nGap))
      (gapTicks ((List.range 4).foldl rebuildBound (gapPosted v s.loops.nGap))).floor.toNat)) := by
  unfold execAp0Rebuilt
  rw [if_neg (by simp [hc, hr]), Nat.mod_eq_of_lt hn]
  exact ⟨(List.range 4).foldl rebuildTs s, rfl⟩

end

/-- Settles O20: the loss by what keeps the stop of SHCLK, the rest by the equations of the meanings. -/
theorem ap0LossAndRebuildAct : Obligations.Ap0LossAndRebuildAct := by
  intro s
  refine ⟨?_, ?_, ?_, ?_⟩
  · intro m p _ hc
    exact execAp0Loss_stopsShclk hc
  · intro h
    exact execAp0RelockAttempt_starts h
  · intro n p m hc hst hgap
    obtain ⟨u, hexec, hn⟩ := execShclkRestart_starts (nGap := n) (phiRes := p) (oscMissing := m) hc hst hgap
    exact ⟨_, hexec, (congrArg LoopSt.nGap gapClosed_loops).trans hn, gapClosed_gapActive, gapClosed_rebuilding, gapClosed_overflow⟩
  · intro hc hr hn
    obtain ⟨v, hexec⟩ := execAp0Rebuilt_rebuilds hc hr hn
    exact ⟨_, _, hexec, rfl, gapPosted_rebuilding, gapPosted_value hn⟩

end Sys2Proof.Machine

namespace Sys2Proof.Machine
open Sys2Proof

/-! ### The commands of the outputs (R144, R147, R150, R151, R152, R156, R157, R159) -/

/-- A command of the outputs that waits for the load edge of its instant, `c` (R151, R152). -/
def outWaiting (h : CmdHdr) (cmd : HostCmd) (ts : Nat) (c : Counter) : AtTs := ⟨h, cmd, ts, c.sec, c.ns, c.frac / 2 ^ 16⟩

section
variable {s : State} {h : CmdHdr} {a : OutArgs} (hm : h.mbz = true)
include hm

section
variable (hmask : a.mask ≠ 0) (hts : a.ts < 4) (hns : a.ns < 10 ^ 9) (hsec : a.sec < 2 ^ 48) (hcfg : (maskOuts a.mask).any (outCfgBad s) = false)
  (hc : clocked s = true) (hbusy : (maskOuts a.mask).any (outBusy s) = false) (hiso : s.log.isolated.contains 9 = false) (htj : tjLimit s = false)
  (hspread : (maskOuts a.mask).any (outSpreads s) = false)
include hmask hts hns hsec hcfg hc hbusy hiso htj hspread

/-- OUT_START with no check against it arms the outputs of its mask. -/
theorem execOutStart_accepted (htrig : a.trigger ≤ 1) (hpast : a.trigger = 1 → instantPast s a.ts a.sec a.ns 0 = false) :
    execOutStart h a s =
      let t := (maskOuts a.mask).foldl (outArm (a.trigger == 1)) (begins s h 0x34)
      if a.trigger = 0 then .next (outStartDone t h a) else .next (atTsWait t (outWaiting h (.outStart a) a.ts (outLoadAt t a))) := by
  obtain ⟨hclk, -⟩ : s.hs.shclk = true ∧ s.fb F.SYN_GAP_STATUS_rebuilding = false := by simpa [clocked] using hc
  unfold execOutStart
  rw [if_neg (by simp [hm, hmask]; omega), if_neg (by omega), if_neg (by simp only [hcfg, Bool.false_eq_true, or_false]; omega),
    if_neg (by simp [hclk]), if_neg (fun hp => ne_true_of_eq_false (hpast hp.1) hp.2), if_neg (ne_true_of_eq_false hbusy),
    if_neg (ne_true_of_eq_false hiso), if_neg (ne_true_of_eq_false htj), if_neg (ne_true_of_eq_false hspread)]
  rfl

theorem execOutStart_atOnce (htrig : a.trigger = 0) :
    execOutStart h a s = .next (outStartDone ((maskOuts a.mask).foldl (outArm false) (begins s h 0x34)) h a) := by
  rw [execOutStart_accepted hm hmask hts hns hsec hcfg hc hbusy hiso htj hspread (by omega) (by omega), htrig]
  rfl

theorem execOutStart_waits (htrig : a.trigger = 1) (hpast : instantPast s a.ts a.sec a.ns 0 = false) :
    execOutStart h a s =
      let t := (maskOuts a.mask).foldl (outArm true) (begins s h 0x34)
      .next (atTsWait t (outWaiting h (.outStart a) a.ts (outLoadAt t a))) := by
  rw [execOutStart_accepted hm hmask hts hns hsec hcfg hc hbusy hiso htj hspread htrig.le fun _ => hpast, htrig]
  rfl

end

section
variable (hts : a.ts < 4) (hns : a.ns < 10 ^ 9) (hsec : a.sec < 2 ^ 48)
  (hrun : ((maskOuts a.mask).filter (fun o => outState s o != 0)).isEmpty = false)
include hts hns hsec hrun

theorem execOutStop_atOnce (htrig : a.trigger = 0) : execOutStop h a s = .next (outStopDone (begins s h 0x35) h a) := by
  unfold execOutStop
  rw [if_neg (by simp [hm, htrig]), if_neg (by omega), if_neg (by omega), if_neg (ne_true_of_eq_false hrun), if_pos htrig]

theorem execOutStop_waits (htrig : a.trigger = 1) (hc : clocked s = true) (hpast : instantPast s a.ts a.sec a.ns 0 = false) :
    ∃ t, execOutStop h a s = .next (atTsWait t (outWaiting h (.outStop a) a.ts (outLoadAt s a))) := by
  obtain ⟨hclk, -⟩ : s.hs.shclk = true ∧ s.fb F.SYN_GAP_STATUS_rebuilding = false := by simpa [clocked] using hc
  unfold execOutStop
  rw [if_neg (by simp [hm, htrig]), if_neg (by omega), if_neg (by omega), if_neg (ne_true_of_eq_false hrun), if_neg (by omega),
    if_neg (by simp [hclk]), if_neg (ne_true_of_eq_false hpast)]
  exact ⟨_, rfl⟩

end

/-- OUT_STATUS of output `o` as it stands once the mux has moved the output to its fallback (R156). -/
def outStatusOnFb (s : State) (o : Nat) : Word :=
  ((s.setB F.OUT_STATUS_on_fallback true o).setF F.OUT_STATUS_apll (s.f F.OUT_CFG_fb_apll o) o).rg .OUT_STATUS o

/-- OUT_SWITCH towards a LOCKED fallback. -/
theorem execOutSwitch_toFallback {o : Nat} (ho : o < 32) (hst : outState s o = 2) (hen : s.fb F.OUT_CFG_fb_en o = true) (hsrc : outSrc s o ≠ 4)
    (hfb : s.fb F.OUT_STATUS_on_fallback o = false) (hsw : s.fb F.OUT_STATUS_switching o = false) (hap : apState s (s.f F.OUT_CFG_fb_apll o) = 3) :
    execOutSwitch h o 0 s = .next (complete (setOut (s.setB F.OUT_STATUS_switching true o) o { outOf s o with move := some true }) h 0x36 .ok
      [(0, 4, (outStatusOnFb s o).toNat)]) := by
  unfold execOutSwitch
  rw [if_neg (by simp [hm]), if_neg (by omega), if_neg (by decide), if_neg (by simp [hst]), if_neg (by simp [hen, hsrc, hfb])]
  exact if_neg (by simp [hsw, hap])

end

/-- Settles O22: the checks of each command pass, and what is left is its effect. -/
theorem outputCommandsTakeEffect : Obligations.OutputCommandsTakeEffect := by
  intro s h hm hiso
  refine ⟨?_, ?_, ?_⟩
  · intro a hmask hts hns hsec hcfg hc hbusy htj hspread
    refine ⟨fun htrig => ?_, fun htrig hpast => ?_⟩
    · exact execOutStart_atOnce hm hmask hts hns hsec hcfg hc hbusy hiso htj hspread htrig
    · exact ⟨_, _, execOutStart_waits hm hmask hts hns hsec hcfg hc hbusy hiso htj hspread htrig hpast, rfl, rfl⟩
  · intro a _ hts hns hsec hrun
    refine ⟨fun htrig => ?_, fun htrig hc hpast => ?_⟩
    · exact execOutStop_atOnce hm hts hns hsec hrun htrig
    · obtain ⟨t, ht⟩ := execOutStop_waits hm hts hns hsec hrun htrig hc hpast
      exact ⟨_, t, ht, rfl⟩
  · intro o ho hst hen hsrc hfb hsw hap
    exact ⟨_, execOutSwitch_toFallback hm ho hst hen hsrc hfb hsw hap, rfl⟩

end Sys2Proof.Machine

namespace Sys2Proof.Machine
open Sys2Proof

/-! ### The sequencer and the mux of an output (R150-R157) -/

section
variable {s : State} {o : Nat}

@[simp] theorem outOf_setOut_same (s : State) (o : Nat) (x : Out) : outOf (setOut s o x) o = x := tget_tset_same ..

/-- An output's state stands below the other fields of OUT_STATUS. -/
theorem outState_setF_apart {d : Fld} {v : Nat} (hr : d.reg = .OUT_STATUS) (hle : d.lo ≤ d.hi) (hhi : d.hi < 32) (hlo : 2 < d.lo) :
    outState (s.setF d v o) o = outState s o := f_setF_apart _ _ F.OUT_STATUS_state _ _ _ hr.symm hle hhi (by decide) (.inr hlo)

theorem outState_outMoveEnd : outState (outMoveEnd s o) o = outState s o :=
  outState_setF_apart (d := F.OUT_STATUS_switching) rfl (by decide) (by decide) (by decide)

theorem outState_outOnFb {fb : Bool} : outState (outOnFb s o fb) o = outState s o := by
  have hmoved : ∀ v, outState ((s.setB F.OUT_STATUS_on_fallback fb o).setF F.OUT_STATUS_apll v o) o = outState s o := fun v =>
    (outState_setF_apart (d := F.OUT_STATUS_apll) rfl (by decide) (by decide) (by decide)).trans
      (outState_setF_apart (d := F.OUT_STATUS_on_fallback) rfl (by decide) (by decide) (by decide))
  unfold outOnFb
  split
  · exact (f_setF_name _ F.OUT_SWITCHES_to_fb F.OUT_STATUS_state _ _ _ _ _ (by decide)).trans (hmoved _)
  · exact (f_setF_name _ F.OUT_SWITCHES_returns F.OUT_STATUS_state _ _ _ _ _ (by decide)).trans (hmoved _)

theorem outOnFb_out {fb : Bool} : (outOnFb s o fb).out = s.out := by
  unfold outOnFb
  split
  · rfl
  · rfl

/-- The gate of output `o` closes as its permission is withdrawn; a mux move in progress ends (R154, R155). -/
def outGated (s : State) (o : Nat) : State := outMoveEnd ((s.emit (.outPin o false)).setF F.OUT_STATUS_state 3 o) o

theorem outState_outGated : outState (outGated s o) o = 3 :=
  outState_outMoveEnd.trans (f_setF_same _ F.OUT_STATUS_state _ _ _ (by decide) (by decide))

theorem outPin_low_mem_outGated : .outPin o false ∈ (outGated s o).out := List.mem_cons_self

/-- The gated output is fed by its usable fallback where its primary is LOST (R155). -/
def outGatedFed (s : State) (o : Nat) : State :=
  let t := outGated s o
  if !t.fb F.OUT_STATUS_on_fallback o && apState t (outSrc t o) == 4 && outFbUsable t o then outOnFb t o true else t

theorem outState_outGatedFed : outState (outGatedFed s o) o = 3 := by
  unfold outGatedFed
  extract_lets t
  split
  · exact outState_outOnFb.trans outState_outGated
  · exact outState_outGated

theorem outPin_low_mem_outGatedFed : .outPin o false ∈ (outGatedFed s o).out := by
  unfold outGatedFed
  extract_lets t
  split
  · rw [outOnFb_out]
    exact outPin_low_mem_outGated
  · exact outPin_low_mem_outGated

variable (ho : o < 32)
include ho

theorem execOutGateOpen_runs (hst : outState s o = 1) (hw : (outOf s o).waits = false) (hf : (outOf s o).fault = none)
    (hp : outPermitted s o = true) (hc : outClocked s o = true) : execOutGateOpen o s = .next (outRun s o) :=
  congrArg Host.Outcome.next (if_pos (by simp [ho, hst, hw, hf, hp, hc]))

theorem execOutGateClose_stops (hst : outState s o = 2) (hcmd : (outOf s o).cmdStop = true)
    (hcue : outSrc s o = 4 → cueActive s (s.f F.OUT_CFG_cue o) = false) : execOutGateClose o s = .next (outStopped s o 1 false) :=
  congrArg Host.Outcome.next (if_pos (by simpa [ho, hst, hcmd, imp_iff_not_or] using hcue))

theorem execOutFaultStop_stops {c : Nat} (hst : outState s o = 2) (hf : (outOf s o).fault = some c) :
    execOutFaultStop o true s = .next (outStopped s o c true) := by
  unfold execOutFaultStop
  rw [if_neg (by omega)]
  simp [hf, hst]

theorem execOutInterlockGate_gates (htwin : s.fb F.OUT_CFG_twin_gate o = true) (hst : outState s o = 2) (hcmd : (outOf s o).cmdStop = false)
    (hp : s.fb F.RAN_STATUS_permission = false) : execOutInterlockGate o s = .next (outGatedFed s o) := by
  unfold execOutInterlockGate
  rw [if_neg (by simp [htwin]; omega), if_neg (ne_true_of_eq_false hp), if_neg (by simp [hst, hcmd]), if_pos hst]
  rfl

theorem execOutInterlockGate_opens (htwin : s.fb F.OUT_CFG_twin_gate o = true) (hst : outState s o = 3) (hf : (outOf s o).fault = none)
    (hp : s.fb F.RAN_STATUS_permission = true) (hc : outClocked s o = true) : execOutInterlockGate o s = .next (outRun s o) := by
  unfold execOutInterlockGate
  rw [if_neg (by simp [htwin]; omega), if_pos hp, if_pos ⟨hst, hf, hc⟩]

theorem execFallbackSwitch_moves (hst : outState s o = 2) (hfb : s.fb F.OUT_STATUS_on_fallback o = false) (hf : (outOf s o).fault = none)
    (hmove : (outOf s o).move = some true) : execFallbackSwitch o s = .next (outMoved s o true) :=
  congrArg Host.Outcome.next (if_pos (by simp [ho, hst, hfb, hf, hmove]))

theorem execFallbackReturn_moves (hst : outState s o = 2) (hfb : s.fb F.OUT_STATUS_on_fallback o = true) (hf : (outOf s o).fault = none)
    (hmove : (outOf s o).move = some false) : execFallbackReturn o s = .next (outMoved s o false) :=
  congrArg Host.Outcome.next (if_pos (by simp [ho, hst, hfb, hf, hmove]))

end

/-! ### The fine delay and the divider's reload (R147, R148) -/

/-- The fine delay `x` one step of 1 ps nearer to the value `v`. -/
def fineToward (x v : Int) : Int := if x < v then x + 1 else x - 1

theorem fineToward_distance {x v : Int} (hne : x ≠ v) : (fineToward x v - v).natAbs + 1 = (x - v).natAbs := by
  unfold fineToward
  split
  · omega
  · omega

section
variable {s : State} {o : Nat} (ho : o < 32)
include ho

theorem execOutFineStep_steps (hst : outState s o ≠ 0) (hne : (outOf s o).fine ≠ s.fi F.OUT_FINE_value o) :
    execOutFineStep o s =
      let f := fineToward (outOf s o).fine (s.fi F.OUT_FINE_value o)
      .next (setOut (s.setB F.OUT_STATUS_fine_slewing (f != s.fi F.OUT_FINE_value o) o) o { outOf s o with fine := f }) :=
  if_neg (by simp only [hst, hne, or_false]; omega)

/-- The load of the primary divider alone is pending and its instant on a grid has come: the divider is anchored there. -/
theorem execOutDividerReload_loads {u : Nat} (hpend : s.fb F.OUT_STATUS_reload_pending o = true) (hc : s.hs.shclk = true)
    (hat : (outOf s o).reloadAt = some (.ts u)) (hfb : (outOf s o).reloadFb = none) :
    execOutDividerReload o s = .next (setOut (s.setB F.OUT_STATUS_reload_pending false o) o
      { outOf s o with ref := some (.ts u), reloadAt := none, reloadFb := none }) := by
  unfold execOutDividerReload
  rw [if_neg (by simp [hpend, hc, hat]; omega), hat, hfb]
  rfl

end

/-- Settles O23: each act by the equation of its meaning. -/
theorem outputSequencerActs : Obligations.OutputSequencerActs := by
  intro s o ho
  refine ⟨?_, ?_, ?_, ?_, ?_, ?_, ?_, ?_, ?_⟩
  · intro hst hw hf hp hc
    exact execOutGateOpen_runs ho hst hw hf hp hc
  · intro hst hcmd hcue
    exact execOutGateClose_stops ho hst hcmd hcue
  · intro c hst hf
    exact execOutFaultStop_stops ho hst hf
  · intro htwin hst hcmd hp
    exact ⟨_, execOutInterlockGate_gates ho htwin hst hcmd hp, outState_outGatedFed, outPin_low_mem_outGatedFed⟩
  · intro htwin hst hf hp hc
    exact execOutInterlockGate_opens ho htwin hst hf hp hc
  · intro hst hfb hf hmove
    exact execFallbackSwitch_moves ho hst hfb hf hmove
  · intro hst hfb hf hmove
    exact execFallbackReturn_moves ho hst hfb hf hmove
  · intro hst hne
    refine ⟨_, execOutFineStep_steps ho hst hne, ?_⟩
    rw [outOf_setOut_same]
    exact fineToward_distance hne
  · intro u hpend hc hat hfb
    refine ⟨_, execOutDividerReload_loads ho hpend hc hat hfb, ?_, ?_⟩
    · rw [outOf_setOut_same]
    · rw [setOut_fb, fb_setB_same rfl (by decide)]

end Sys2Proof.Machine

namespace Sys2Proof.Machine
open Sys2Proof

/-! ### The instants of a schedule (R162) -/

/-- The offset of instant `k` from the first: `k` periods, rounded to the nearest picosecond with ties up. -/
def cueOffset (c : Cue) (k : Nat) : Nat := (2 * k * c.period + c.div) / (2 * c.div)

theorem cueInstant_eq (c : Cue) (k : Nat) : cueInstant c k = c.t0 + cueOffset c k := rfl

theorem cueOffset_le {c : Cue} (k : Nat) : 2 * c.div * cueOffset c k ≤ 2 * k * c.period + c.div := Nat.mul_div_le ..

theorem lt_cueOffset_succ {c : Cue} (hd : 0 < c.div) (k : Nat) : 2 * k * c.period + c.div < 2 * c.div * (cueOffset c k + 1) :=
  Nat.lt_mul_div_succ _ (by omega)

theorem cueOffset_zero {c : Cue} (hd : 0 < c.div) : cueOffset c 0 = 0 := Nat.div_eq_of_lt (by omega)

theorem cueHas_oneShot {c : Cue} (hp : c.period = 0) (k : Nat) : cueHas c k = true ↔ k = 0 := by simp [cueHas, hp]

/-! ### The arming of a cue (R161, R162, R166, R180) -/

/-- A divider or an effective period out of range. -/
theorem cueArmBad_of_period {s : State} {a : CueArmArgs} (hp : a.period ≠ 0)
    (hrange : a.div = 0 ∨ 16777216 < a.div ∨ a.period < 6400 * a.div ∨ 10 ^ 15 * a.div < a.period) : cueArmBad s a = true := by
  have hbad : (!(a.period == 0) && (a.div == 0 || decide (2 ^ 24 < a.div) || decide (a.period < 6400 * a.div)
      || decide (10 ^ 15 * a.div < a.period))) = true := by
    simpa [hp, or_assoc] using hrange
  simp only [cueArmBad, hbad, Bool.or_true, Bool.true_or]

@[simp] theorem cue_setCue_same (s : State) (g : Nat) (c : Cue) : cue (setCue s g c) g = c := tget_tset_same ..

/-- The cue of a CUE_ARM at its first instant, ARMED. -/
def cueArmed (s : State) (a : CueArmArgs) : State :=
  (setCue s a.cue { Cue.reset with
    t0 := cueT0 a, period := a.period, div := max a.div 1, count := if a.period = 0 then 0 else a.count, width := a.width, cell := a.cell
    armedAt := s.ticks }).setF F.CUE_STATUS_state 1 a.cue

theorem cueArmed_state (s : State) (a : CueArmArgs) : (cueArmed s a).f F.CUE_STATUS_state a.cue = 1 :=
  f_setF_same _ F.CUE_STATUS_state _ _ _ (by decide) (by decide)

theorem cue_cueArmed (s : State) (a : CueArmArgs) :
    (cue (cueArmed s a) a.cue).t0 = cueT0 a ∧ (cue (cueArmed s a) a.cue).k = 0 ∧ (cue (cueArmed s a) a.cue).firings = 0 := by
  have hcue : cue (cueArmed s a) a.cue = _ := cue_setCue_same s a.cue _
  rw [hcue]
  exact ⟨rfl, rfl, rfl⟩

section
variable {s : State} {h : CmdHdr} (hm : h.mbz = true)
include hm

section
variable {a : CueArmArgs} (hiso : s.log.isolated.contains 10 = false) (hg : a.cue < 64)
include hiso hg

theorem execCueArm_badArg (hbad : cueArmBad s a = true) : execCueArm h a s = .next (badArg s h 0x24) := by
  unfold execCueArm
  rw [if_neg (by simp [hm]), if_neg (ne_true_of_eq_false hiso), if_neg (by omega), if_pos hbad]

/-- CUE_ARM of an idle cue whose first instant lies ahead and in the window of every pin that it drives. -/
theorem execCueArm_arms (hok : cueArmBad s a = false) (hidle : cueIdle s a.cue = true) (hrun : tsRuns s (cueTs s a.cue) = true) (hc : clocked s = true)
    (hahead : (cueNow s a.cue : Int) < psToUnits (cueT0 a))
    (hwin : ∀ p < 8, s.fb F.CUE_PIN_CFG_enable p = true → s.f F.CUE_PIN_CFG_cue p = a.cue → cueWindow s p (cuePinNs s p (psToUnits (cueT0 a))) = true) :
    execCueArm h a s =
      let t := cueArmed s a
      let d := Dest.ring (cplOf t h)
      .next (complete (sentTo t (cueTs t a.cue) d) h 0x24 .ok (slateLayout 0 (cueSlate t a.cue (psToUnits (cueT0 a)) d))) := by
  obtain ⟨hclk, -⟩ : s.hs.shclk = true ∧ s.fb F.SYN_GAP_STATUS_rebuilding = false := by simpa [clocked] using hc
  have hnone : (List.range 8).find? (fun p => s.fb F.CUE_PIN_CFG_enable p && s.f F.CUE_PIN_CFG_cue p == a.cue
      && !cueWindow s p (cuePinNs s p (psToUnits (cueT0 a)))) = none := by
    simpa [List.find?_eq_none] using hwin
  unfold execCueArm
  rw [if_neg (by simp [hm]), if_neg (ne_true_of_eq_false hiso), if_neg (by omega), if_neg (ne_true_of_eq_false hok),
    if_neg (by simp [hidle, hrun, hclk]), if_neg (by omega), hnone]
  rfl

end

/-! ### CUE_CANCEL, CUE_QUERY and the configuration of a pin (R165, R170, R179, R180) -/

/-- A cancel of cue `g` at `t` ps waits, its command begun. -/
def cueCancelWaits (s : State) (h : CmdHdr) (g t : Nat) : State :=
  setCue (begins s h 0x25) g { cue s g with cancels := (cue s g).cancels ++ [(h, t)] }

section
variable {a : CueCancelArgs} (hg : a.cue < 64) (hns : a.ns < 10 ^ 9) (hsec : a.sec < 2 ^ 48) (hbusy : cueIdle s a.cue = false)
include hg hns hsec hbusy

theorem execCueCancel_immediate (htrig : a.trigger = 0) :
    execCueCancel h a s = .next (if cueCommitted s a.cue = true then cueCancelWaits s h a.cue (cueInstant (cue s a.cue) (cue s a.cue).k + 1)
      else cueSettle (cueFinish (cueCancelWaits s h a.cue ((a.sec * 10 ^ 9 + a.ns) * 1000)) a.cue 2)) := by
  unfold execCueCancel
  rw [if_neg (by simp [hm]), if_neg (by omega), if_neg (by omega), if_neg (ne_true_of_eq_false hbusy)]
  by_cases hcom : cueCommitted s a.cue = true
  · rw [if_pos hcom]
    exact if_pos ⟨htrig, hcom⟩
  · rw [if_neg hcom]
    exact (if_neg fun hand => hcom hand.2).trans (if_pos htrig)

theorem execCueCancel_atTs (htrig : a.trigger = 1) (hc : s.hs.shclk = true) (hpast : instantPast s (cueTs s a.cue) a.sec a.ns 0 = false) :
    execCueCancel h a s = .next (cueCancelWaits s h a.cue ((a.sec * 10 ^ 9 + a.ns) * 1000)) := by
  unfold execCueCancel
  rw [if_neg (by simp [hm]), if_neg (by omega), if_neg (by omega), if_neg (ne_true_of_eq_false hbusy)]
  extract_lets
  rw [if_neg (by omega), if_neg (by omega), if_neg (by simp [hc]), if_neg (ne_true_of_eq_false hpast)]
  rfl

end

/-- CUE_QUERY answers the firings, after the slate of the next instant where there is one. -/
theorem execCueQuery_answers {g : Nat} (hg : g < 64) :
    ∃ t x, execCueQuery h g s = .next (complete t h 0x26 .ok (x ++ [(16, 8, (cue s g).firings)])) ∧ t.regs = s.regs ∧ t.cues = s.cues := by
  unfold execCueQuery
  rw [if_neg (by simp [hm]), if_neg (by omega)]
  extract_lets d n
  cases cueNext s g d with
  | some x => exact ⟨sentTo s (cueTs s g) d, slateLayout 0 x, rfl, rfl, rfl⟩
  | none => exact ⟨s, [], rfl, rfl, rfl⟩

end

theorem execCuePinCfgWrite_settles {s : State} {pin : Nat} {v : Word} (hpin : pin < 8) :
    execCuePinCfgWrite pin v s = .next (cuePinSettle (regWrite s ⟨.CUE_PIN_CFG, pin, 0⟩ v) pin) := if_neg (by omega)

/-! ### Firings, late instants and the end (R161-R163, R167-R170) -/

section
variable {s u : State} {g k : Nat} (hu : u = cueSettle (advance s k)) (hg : g < 64) (hbusy : cueIdle u g = false) (hend : (cue u g).ending = 0)
  (hhas : cueHas (cue u g) (cue u g).k = true) (hcan : cueCancelled (cue u g) (cueInstant (cue u g) (cue u g).k) = false) (hc : clocked u = true)
  (hrun : tsRuns u (cueTs u g) = true)
include hu hg hbusy hend hhas hcan hc hrun

theorem execCueFiring_fires (hload : cueLoaded u g = true) (hlo : (cueNow u g : Int) ≤ psToUnits (cueInstant (cue u g) (cue u g).k))
    (hhi : psToUnits (cueInstant (cue u g) (cue u g).k) < (cueNow u g : Int) + tickDelta u 4 (cueTs u g) 1) :
    execCueFiring g k s =
      let v := cueFire (cueSkipEnd u g) g (psToUnits (cueInstant (cue u g) (cue u g).k)) false
      .next (setCue v g { cue v g with k := (cue u g).k + 1 }) := by
  unfold execCueFiring
  rw [← hu]
  exact if_neg (by simp only [hbusy, hend, hhas, hcan, hc, hrun, hload, not_true_eq_false, Bool.false_eq_true, Bool.true_eq_false, ne_eq, false_or]; omega)

/-- With the policy SKIP the instants up to the next one that the timescale has not passed are skipped and counted. -/
theorem execCueLate_skips (hpast : psToUnits (cueInstant (cue u g) (cue u g).k) < (cueNow u g : Int)) (hpolicy : u.f F.CUE_CFG_late g = 0) :
    ∃ t x next, (cue u g).k < next ∧ execCueLate g k false s = .next (setCue t g { cue u g with
      k := next, skipRun := (cue u g).skipRun + (next - (cue u g).k), skipSlate := x, ending := if (cue u g).period = 0 then 1 else 0 }) := by
  unfold execCueLate
  rw [← hu, if_neg (by simp only [hbusy, hend, hhas, hcan, hc, hrun, not_true_eq_false, Bool.false_eq_true, Bool.true_eq_false, ne_eq, false_or]; omega)]
  extract_lets now stop next counted entered
  have hnext : (cue u g).k < next := Nat.lt_of_succ_le (Nat.le_max_left ..)
  have hcounted : counted.f F.CUE_CFG_late g = 0 := by
    unfold counted
    split
    · exact (congrArg (fget · _ _) (perf_rg u 0x0032 0 1 .CUE_CFG g 0 rfl)).trans hpolicy
    · exact hpolicy
  have hentered : entered.f F.CUE_CFG_late g = 0 := by
    unfold entered
    split
    · exact hcounted
    · exact (f_setF_name _ F.CUE_STATUS_state F.CUE_CFG_late _ _ _ _ _ (by decide)).trans hcounted
  rw [if_pos hentered]
  exact ⟨_, _, next, hnext, rfl⟩

end

theorem execCueEnd_finishes {s : State} {g k : Nat} (hg : g < 64) (hbusy : cueIdle (advance s k) g = false) (hend : (cue (advance s k) g).ending ≠ 0) :
    execCueEnd g k s = .next (cueSettle (cueFinish (advance s k) g (cue (advance s k) g).ending)) := by
  unfold execCueEnd
  rw [if_neg (by simp only [hbusy, Bool.false_eq_true, or_false]; omega), if_pos hend]

theorem execCueRingTimerRelease_drivesLow {s : State} {d : CueDest} (hc : s.hs.shclk = false) (hhigh : cueDestHigh s d = true)
    (hlow : s.cues.low.contains d = false) :
    execCueRingTimerRelease d s = .next { s.emit (.cueLow d) with cues := { s.cues with low := s.cues.low ++ [d] } } :=
  congrArg Host.Outcome.next (if_pos (by simp only [hc, hhigh, hlow, Bool.not_false, Bool.and_true]))

/-! ### The statements on cues -/

/-- Settles O27: an offset is a rounded quotient, and a divider or a period out of range fails the check of CUE_ARM. -/
theorem cueInstantsAreExact : Obligations.CueInstantsAreExact := by
  refine ⟨?_, ?_, ?_, ?_⟩
  · intro c k hd
    exact ⟨cueOffset c k, cueInstant_eq c k, cueOffset_le k, lt_cueOffset_succ hd k⟩
  · intro c hd
    rw [cueInstant_eq, cueOffset_zero hd, Nat.add_zero]
  · intro c k hp
    exact cueHas_oneShot hp k
  · intro s h a hm hiso hg hp hrange
    exact execCueArm_badArg hm hiso hg (cueArmBad_of_period hp hrange)

/-- Settles O24: the checks of each command pass, and what is left is its effect. -/
theorem cueCommandsTakeEffect : Obligations.CueCommandsTakeEffect := by
  intro s h hm
  refine ⟨?_, ?_, ?_, ?_⟩
  · intro a hiso hg hok hidle hrun hc hahead hwin
    obtain ⟨ht0, hk, hfirings⟩ := cue_cueArmed s a
    exact ⟨_, _, execCueArm_arms hm hiso hg hok hidle hrun hc hahead hwin, cueArmed_state s a, ht0, hk, hfirings⟩
  · intro a hg hns hsec hbusy
    refine ⟨fun htrig hcom => ?_, fun htrig hcom => ?_, fun htrig hc hpast => ?_⟩
    · refine ⟨_, (execCueCancel_immediate hm hg hns hsec hbusy htrig).trans (by rw [if_neg (ne_true_of_eq_false hcom)]), ?_⟩
      rw [cueCancelWaits, cue_setCue_same]
    · exact (execCueCancel_immediate hm hg hns hsec hbusy htrig).trans (by rw [if_pos hcom]; rfl)
    · exact execCueCancel_atTs hm hg hns hsec hbusy htrig hc hpast
  · intro g hg
    exact execCueQuery_answers hm hg
  · intro pin v hpin
    exact execCuePinCfgWrite_settles hpin

/-- Settles O25: each event by the equation of its meaning. -/
theorem cuesFireAndEnd : Obligations.CuesFireAndEnd := by
  intro s
  refine ⟨?_, ?_, ?_⟩
  · intro g k u hu hg hbusy hend hhas hcan hc hrun
    refine ⟨fun hload hlo hhi => ?_, fun hpast hpolicy => ?_⟩
    · refine ⟨_, execCueFiring_fires hu hg hbusy hend hhas hcan hc hrun hload hlo hhi, ?_, rfl⟩
      rw [cue_setCue_same]
    · obtain ⟨t, x, next, hnext, hlate⟩ := execCueLate_skips hu hg hbusy hend hhas hcan hc hrun hpast hpolicy
      refine ⟨_, hlate, ?_⟩
      rw [cue_setCue_same]
      exact ⟨hnext, rfl, rfl⟩
  · intro g k hg hbusy hend
    exact execCueEnd_finishes hg hbusy hend
  · intro d hc hhigh hlow
    exact execCueRingTimerRelease_drivesLow hc hhigh hlow

end Sys2Proof.Machine

namespace Sys2Proof.Machine
open Sys2Proof

/-! ### The records of captures (R172, R173) -/

theorem areaPut_widx (s : State) (wi : RegName) (i base size bytes : Nat) (r : Layout) :
    (areaPut s wi i base size bytes r).rg wi i 0 = s.rg wi i 0 + 1 := by
  rw [areaPut, rg_wr_same]
  apply BitVec.eq_of_toNat_eq
  simp

section
variable {s : State} {ch : Nat} {c : Capture} (hfirst : s.cues.caps.find? (fun c => c.ch == ch) = some c) (hbm : s.fb F.HOST_STATUS_bus_master = true)
include hfirst hbm

/-- Without room the oldest stamp of the channel is dropped and counted. -/
theorem execCaptureEdge_drops (hfull : areaFull s .CUE_CAP_WIDX .CUE_CAP_RIDX 0 (s.f F.CUE_CAP_BUF_CFG_size_exp) = true) :
    execCaptureEdge ch s = .next { s.inc .CUE_CAP_LOST with cues := { s.cues with
      caps := dropFirst (fun x => x.ch == ch) s.cues.caps, capDropped := s.cues.capDropped + 1 } } := by
  unfold execCaptureEdge
  rw [hfirst]
  exact (if_neg (by simp [hbm])).trans (if_pos hfull)

/-- With room it is written to its slot, and a notice follows unless one is outstanding. -/
theorem execCaptureEdge_writes (hroom : areaFull s .CUE_CAP_WIDX .CUE_CAP_RIDX 0 (s.f F.CUE_CAP_BUF_CFG_size_exp) = false) :
    ∃ t, execCaptureEdge ch s = .next t ∧ t.rg .CUE_CAP_WIDX 0 0 = s.rg .CUE_CAP_WIDX 0 0 + 1
      ∧ t.cues.caps = dropFirst (fun x => x.ch == ch) s.cues.caps ∧ t.cues.capDropped = 0 := by
  unfold execCaptureEdge
  rw [hfirst]
  refine ⟨_, (if_neg (by simp [hbm])).trans (if_neg (ne_true_of_eq_false hroom)), ?_⟩
  split
  · exact ⟨areaPut_widx .., rfl, rfl⟩
  · rw [notice_rg _ _ _ _ _ _ _ rfl, notice_cues]
    exact ⟨areaPut_widx .., rfl, rfl⟩

end

/-! ### The messages of the ToD port (R174-R178) -/

theorem length_leBytes (k v : Nat) : (leBytes k v).length = k := by
  induction k generalizing v with
  | zero => rfl
  | succ k ih => rw [leBytes, List.length_cons, ih]

theorem length_slateMessage (s : State) (x : Slate) (typ seq : Nat) : (slateMessage s x typ seq).length = 38 := by
  simp [slateMessage, length_leBytes]

theorem length_todBytes_slate {s : State} (x : Slate) (hformat : s.f F.CUE_TOD_CFG_format = 0) : (todBytes s x).length = 38 := by
  rw [todBytes, hformat]
  exact length_slateMessage ..

/-- A slate message that fits its second, with no other in progress, is sent and takes the next sequence number. -/
theorem execTodMessageSend_sends {s v : State} {k : Nat} {t : Int} (hv : v = advance s k)
    (hlast : (cue v (v.f F.CUE_TOD_CFG_pps_cue)).lastAt = some t) (hen : v.fb F.CUE_TOD_CFG_tx_en = true)
    (hrun : v.f F.CUE_STATUS_state (v.f F.CUE_TOD_CFG_pps_cue) = 2) (hperm : v.fb F.RAN_STATUS_permission = true) (hc : v.hs.shclk = true)
    (hfree : v.cues.tod.txEnd = none) (hfits : v.f F.CUE_TOD_CFG_tx_offset * 625000 + 380 * v.f F.CUE_TOD_BAUD_baud_div ≤ 593750000)
    (hformat : v.f F.CUE_TOD_CFG_format = 0) :
    ∃ u m, execTodMessageSend k s = .next u ∧ .tod m ∈ u.out ∧ u.cues.tod.seq = (v.cues.tod.seq + 1) % 2 ^ 32 := by
  unfold execTodMessageSend
  rw [← hv]
  extract_lets u g c busy
  rw [show c.lastAt = some t from hlast]
  refine ⟨_, _, (if_neg (by simp [u, g, hen, hrun, hperm, hc])).trans (if_neg ?_), List.mem_cons_self, rfl⟩
  have hbusy : busy = false := by simp only [busy, u, hfree]
  rw [length_todBytes_slate _ hformat, hbusy]
  simp only [u, Bool.false_eq_true, or_false]
  omega

section
variable {s : State} {bytes : List Nat} (hen : s.fb F.CUE_TOD_CFG_rx_en = true)
include hen

theorem execTodMessageReceive_wrongLength (hlen : bytes.length ≠ 38) : execTodMessageReceive bytes s = .next (s.incF F.CUE_TOD_ERR_crc_framing) := by
  unfold execTodMessageReceive
  rw [if_neg (by simp [hen]), if_pos (.inl hlen)]

section
variable (hlen : bytes.length = 38) (hsync : bytes.take 2 = [0xC5, 0x3A]) (hpay : bytes[3]? = some 32)
  (hcrc : leVal (bytes.drop 36) = crc16 ((bytes.drop 2).take 34))
include hlen hsync hpay hcrc

theorem execTodMessageReceive_rejectsType (htyp : bytes[2]? = some 3) : execTodMessageReceive bytes s = .next (todReject s) := by
  unfold execTodMessageReceive
  rw [if_neg (by simp [hen]), if_neg (not_or.2 ⟨not_not.2 hlen, by simp [hsync, hpay, hcrc]⟩)]
  exact if_pos (.inl (by simp [htyp]))

variable (hclaim : todLow s (leVal ((bytes.drop 20).take 4)) = false)
include hclaim

/-- A message for the next pulse waits for its edge. -/
theorem execTodMessageReceive_waits (htyp : bytes[2]? = some 2) (hnone : s.cues.tod.waits = none) :
    execTodMessageReceive bytes s = .next { s with cues := { s.cues with tod :=
      { s.cues.tod with waits := some (todSecond (bytes.drop 4), bytes[11]?.getD 255, leVal ((bytes.drop 20).take 4)) } } } := by
  unfold execTodMessageReceive
  rw [if_neg (by simp [hen]), if_neg (not_or.2 ⟨not_not.2 hlen, by simp [hsync, hpay, hcrc]⟩)]
  extract_lets typ claim label bnd u
  have htwo : typ = 2 := by simp [typ, htyp]
  have hu : u = s := if_neg (by simp [hnone])
  rw [if_neg (by simp [htwo, claim, hclaim]), if_pos htwo]
  clear_value u
  subst hu
  rfl

/-- A message for the preceding pulse labels the edge of the past second. -/
theorem execTodMessageReceive_labels {e : Nat × List Int} (htyp : bytes[2]? = some 1) (hedge : s.cues.tod.edge = some e)
    (hsec : s.ticks ≤ e.1 + 625000000) :
    execTodMessageReceive bytes s
      = .next (todLabel (todAccept s (leVal ((bytes.drop 20).take 4))) (todSecond (bytes.drop 4)) (bytes[11]?.getD 255)) := by
  unfold execTodMessageReceive
  rw [if_neg (by simp [hen]), if_neg (not_or.2 ⟨not_not.2 hlen, by simp [hsync, hpay, hcrc]⟩)]
  extract_lets typ claim label bnd
  have hone : typ = 1 := by simp [typ, htyp]
  rw [if_neg (by simp [hone, claim, hclaim]), if_neg (by omega), hedge]
  exact if_pos hsec

end

end

/-- Settles O26: each act by the equation of its meaning; the index of a capture's record by the write of its area. -/
theorem capturesAndTodMessagesAct : Obligations.CapturesAndTodMessagesAct := by
  intro s
  refine ⟨?_, ?_, ?_⟩
  · intro ch c hfirst hbm
    refine ⟨fun hfull => ?_, fun hroom => ?_⟩
    · refine ⟨_, execCaptureEdge_drops hfirst hbm hfull, ?_, rfl, rfl⟩
      exact rg_wr_name _ _ _ _ _ _ _ _ (by decide)
    · exact execCaptureEdge_writes hfirst hbm hroom
  · intro k t hlast hen hrun hperm hc hfree hfits hformat
    exact execTodMessageSend_sends rfl hlast hen hrun hperm hc hfree hfits hformat
  · intro hen
    refine ⟨fun bytes hlen => execTodMessageReceive_wrongLength hen hlen, fun bytes hlen hsync hpay hcrc => ⟨fun htyp => ?_, fun hclaim => ⟨?_, ?_⟩⟩⟩
    · exact execTodMessageReceive_rejectsType hen hlen hsync hpay hcrc htyp
    · intro htyp hnone
      exact execTodMessageReceive_waits hen hlen hsync hpay hcrc hclaim htyp hnone
    · intro e htyp hedge hsec
      exact execTodMessageReceive_labels hen hlen hsync hpay hcrc hclaim htyp hedge hsec

end Sys2Proof.Machine

namespace Sys2Proof.Machine
open Sys2Proof

/-! ### Ports and channels of the baseband (R184, R191) -/

section
variable {s t : State} {c st : Nat}

theorem fb_congr {d : Fld} {i j : Nat} (h : t.f d i j = s.f d i j) : t.fb d i j = s.fb d i j := by rw [State.fb, h, State.fb]

theorem gnssPort_congr (h : t.gnss.ports = s.gnss.ports) (p : Nat) : gnssPort t p = gnssPort s p := by rw [gnssPort, h, gnssPort]

theorem gnssCh_congr (h : t.gnss.ch = s.gnss.ch) (c : Nat) : gnssCh t c = gnssCh s c := by rw [gnssCh, h, gnssCh]

@[simp] theorem gnssPort_setGnssPort_same (s : State) (p : Nat) (x : GnssPort) : gnssPort (setGnssPort s p x) p = x := tget_tset_same ..

@[simp] theorem gnssCh_setGnssCh_same (s : State) (c : Nat) (x : GnssCh) : gnssCh (setGnssCh s c x) c = x := tget_tset_same ..

theorem gnssCh_setGnssCh_other {d : Nat} (x : GnssCh) (h : d ≠ c) : gnssCh (setGnssCh s c x) d = gnssCh s d := tget_tset_other _ _ _ _ _ h

@[simp] theorem gnssChSet_gnss (s : State) (c st : Nat) : (gnssChSet s c st).gnss = s.gnss := by
  simp only [gnssChSet]
  split
  · rfl
  · split
    · exact event_gnss ..
    · rfl

/-- A transition of a channel writes its status, and the registers of the event that it posts. -/
theorem gnssChSet_f {d : Fld} (hd : d.reg ≠ .GNSS_CH_STATUS) (he : isEventReg d.reg = false) (i j : Nat) : (gnssChSet s c st).f d i j = s.f d i j := by
  simp only [gnssChSet]
  split
  · rfl
  · have hset : (s.setF F.GNSS_CH_STATUS_state st c).f d i j = s.f d i j := f_setF_name _ _ _ _ _ _ _ _ hd
    split
    · exact (event_f _ _ _ _ _ _ he).trans hset
    · exact hset

/-- A channel is in the state that it makes its transition to. -/
theorem gnssChState_gnssChSet (h : st < 8) : gnssChState (gnssChSet s c st) c = st := by
  simp only [gnssChSet]
  split
  · next hsame => exact hsame
  · have hset : gnssChState (s.setF F.GNSS_CH_STATUS_state st c) c = st :=
      (f_setF_same _ F.GNSS_CH_STATUS_state _ _ _ (by decide) (by decide)).trans (Nat.mod_eq_of_lt h)
    split
    · exact (event_f _ _ _ F.GNSS_CH_STATUS_state _ _ rfl).trans hset
    · exact hset

end

/-! ### The commands of the baseband (R189, R191, R199, R203, R205) -/

/-- Channel `c` with its NCOs at `x`, and the rates `w` and `r` in its registers (R191, R192). -/
def ncoLoaded (s : State) (c : Nat) (x : GnssCh) (w : Nat) (r : Int) : State :=
  (((((setGnssCh s c x).setF F.GNSS_CH_CODE_LO_value (w % 2 ^ 32) c).setF F.GNSS_CH_CODE_HI_value (w / 2 ^ 32) c).setF
    F.GNSS_CH_CARR_LO_value (twos 48 r % 2 ^ 32) c).setF F.GNSS_CH_CARR_HI_value (twos 48 r / 2 ^ 32) c)

section
variable {s : State} {c w p st : Nat} {x : GnssCh} {r : Int}

theorem pathOff_ncoLoaded : pathOff (ncoLoaded s c x w r) p = pathOff s p := by
  have hen : (ncoLoaded s c x w r).f F.GNSS_PORT_CFG_enable p = s.f F.GNSS_PORT_CFG_enable p := by
    simp only [ncoLoaded]
    iterate 4 rw [f_setF_name _ _ _ _ _ _ _ _ (by decide)]
    rfl
  rw [pathOff, pathOff, fb_congr hen]
  rfl

theorem pathOff_gnssChSet : pathOff (gnssChSet s c st) p = pathOff s p := by
  have hen : (gnssChSet s c st).f F.GNSS_PORT_CFG_enable p = s.f F.GNSS_PORT_CFG_enable p := gnssChSet_f (by decide) rfl _ _
  rw [pathOff, pathOff, fb_congr hen, gnssPort_congr (congrArg GnssSt.ports (gnssChSet_gnss ..))]

theorem gnssCh_gnssChSet_ncoLoaded : gnssCh (gnssChSet (ncoLoaded s c x w r) c st) c = x :=
  (gnssCh_congr (congrArg GnssSt.ch (gnssChSet_gnss ..)) c).trans (gnssCh_setGnssCh_same s c x)

end

section
variable {s : State} {h : CmdHdr} (hm : h.mbz = true)
include hm

section
variable (hiso : s.log.isolated.contains 11 = false)
include hiso

theorem execGnssAcq_queues {a : GnssAcqArgs} (hport : a.port < 3) (huse : gnssUsable s a.port a.signal a.gloK = true)
    (hsvid : 0 < a.svid ∧ a.svid ≤ 63) (hglo : -7 ≤ a.gloK ∧ a.gloK ≤ 6) (hcoh : 0 < a.coherent ∧ a.coherent ≤ 20) (hcoh4 : a.coherent % 4 = 0)
    (hcount : 0 < a.count ∧ a.count ≤ 64) (hmode : a.mode = 0) (hdop : a.dopHalf ≤ 20000) (hon : gnssP s = 2)
    (hrun : s.fb F.GNSS_PORT_STATUS_running a.port = true) (hroom : s.gnss.acqQ.length < 16) :
    execGnssAcq h a s = .next { begins s h 0x70 with gnss := { s.gnss with acqQ := s.gnss.acqQ ++ [(some h, a)] } } := by
  unfold execGnssAcq
  rw [if_neg (by simp [hm]), if_neg (ne_true_of_eq_false hiso), if_neg (by omega), if_neg (by simp [huse]; omega), if_neg (by simp [hon, hrun]),
    if_neg (by omega)]

/-- A start from given values loads the NCOs and runs the channel, whose epochs begin at 0. -/
theorem execGnssChStart_runs {a : GnssStartArgs} (hch : a.ch < 192) (hsrc : a.source = 1) (hns : a.slate.ns < 10 ^ 9) (hts : a.slate.ts < 4)
    (hmiss : a.missed = false) (hc : s.hs.shclk = true) (hpath : pathOff s (s.f F.GNSS_CH_CFG_port a.ch) = false)
    (hret : s.wrap.retired.contains (3, a.ch) = false)
    (huse : gnssUsable s (s.f F.GNSS_CH_CFG_port a.ch) (s.f F.GNSS_CH_CFG_signal a.ch) (s.fi F.GNSS_CH_CFG_glo_k a.ch) = true)
    (hidle : gnssChState s a.ch = 0) (hon : gnssP s = 2) :
    ∃ t p, execGnssChStart h a s = .next (complete t h 0x71 .ok p) ∧ gnssChState t a.ch = 1 ∧ (gnssCh t a.ch).epochs = 0 := by
  unfold execGnssChStart
  rw [if_neg (by simp [hm]), if_neg (ne_true_of_eq_false hiso), if_neg (by omega), if_neg (ne_true_of_eq_false hret)]
  extract_lets port g k st acq at_ from_ old n x
  have hbad : ¬(1 < a.source ∨ 10 ^ 9 ≤ a.slate.ns ∨ 4 ≤ a.slate.ts ∨ gnssUsable s port g k = false ∨ st = 1 ∨ st = 2) := by
    simpa [hsrc, hts, port, g, k, st, huse, hidle] using hns
  have hold : old = false := by
    simp only [old, hsrc]
    cases acq
    · rfl
    · rfl
  have hstays (y : GnssCh) (w : Nat) (r : Int) : ¬pathOff (gnssChSet (ncoLoaded s a.ch y w r) a.ch 1) port = true := by
    rw [pathOff_gnssChSet, pathOff_ncoLoaded, hpath]
    exact Bool.false_ne_true
  rw [if_neg hbad, if_neg (by simp [hon, st, hidle, hc]), show from_ = some _ from if_pos hsrc]
  refine ⟨_, _, if_neg (by simp [hold, hmiss]), ?_, ?_⟩
  · exact (congrArg (fun u => gnssChState u a.ch) (if_neg (hstays _ _ _))).trans (gnssChState_gnssChSet (by decide))
  · exact (congrArg (fun u => (gnssCh u a.ch).epochs) (if_neg (hstays _ _ _))).trans (congrArg GnssCh.epochs gnssCh_gnssChSet_ncoLoaded)

end

theorem execGnssChStop_stops {ch : Nat} (hch : ch < 192) (hst : gnssChState s ch = 1 ∨ gnssChState s ch = 2) :
    execGnssChStop h ch s = .next (complete (gnssChSet (setGnssCh s ch { gnssCh s ch with pend := none }) ch 0) h 0x72 .ok
      [(0, 4, (gnssCh s ch).epochs % 2 ^ 32)]) := by
  unfold execGnssChStop
  rw [if_neg (by simp [hm]), if_neg (by omega)]

section
variable (hiso : s.log.isolated.contains 11 = false) (hoff : gnssP s = 0)
include hiso hoff

theorem execGnssPower_off : execGnssPower h 2 1 s = .next (complete s h 0x73 .ok [(0, 1, 0), (1, 1, bit (s.fb F.GNSS_STATUS_hot))]) := by
  unfold execGnssPower
  rw [if_neg (by simp [hm]), if_neg (ne_true_of_eq_false hiso), if_neg (by omega)]
  simp [hoff]

theorem execGnssPower_wakes :
    ∃ u, execGnssPower h 1 1 s = .next (gnssWaking u) ∧ u.gnss.wakers = s.gnss.wakers ++ [h] := by
  unfold execGnssPower
  rw [if_neg (by simp [hm]), if_neg (ne_true_of_eq_false hiso), if_neg (by omega)]
  exact ⟨_, (if_pos rfl).trans (if_neg (by omega)), rfl⟩

end

/-- CLEAR of the flags `checks` leaves the other latched flags, and no solution flagged by RAISE. -/
theorem execGnssSpoof_clears {checks : Nat} (h0 : 0 < checks) (h32 : checks < 32) : ∃ t p, execGnssSpoof h 0 checks 0 s = .next (complete t h 0x74 .ok p)
    ∧ t.gnss.raised = 0 ∧ t.f F.GNSS_SPOOF_STATUS_latched = s.f F.GNSS_SPOOF_STATUS_latched &&& (31 - checks) := by
  unfold execGnssSpoof
  refine ⟨_, _, (if_neg (by simp [hm]; omega)).trans (if_pos rfl), ?_, ?_⟩
  · rw [logRec_gnss]
  · have hlt : s.f F.GNSS_SPOOF_STATUS_latched &&& (31 - checks) < 32 := Nat.and_le_left.trans_lt (fget_lt ..)
    exact (congrArg (fget · 4 0) (logRec_rg _ _ _ _ .GNSS_SPOOF_STATUS _ _ rfl)).trans
      ((f_setF_same s F.GNSS_SPOOF_STATUS_latched _ _ _ (by decide) (by decide)).trans (Nat.mod_eq_of_lt hlt))

theorem execGnssSpoof_raises {sols : Nat} (h0 : 0 < sols) (h4 : sols < 4) : ∃ t p, execGnssSpoof h 1 0 sols s = .next (complete t h 0x74 .ok p)
    ∧ t.gnss.raised = s.gnss.raised ||| sols := by
  unfold execGnssSpoof
  refine ⟨_, _, (if_neg (by simp [hm]; omega)).trans (if_neg (by decide)), ?_⟩
  rw [spoofRaise, logEvent_gnss]

end

/-- Settles O28: the checks of each command pass, and what is left is its effect. -/
theorem gnssCommandsTakeEffect : Obligations.GnssCommandsTakeEffect := by
  intro s h hm hiso
  refine ⟨?_, ?_, ?_, ?_, ?_, ?_⟩
  · intro a hport huse h1 h63 hlo hhi hcoh hcoh20 hcoh4 hcount hcount64 hmode hdop hon hrun hroom
    exact execGnssAcq_queues hm hiso hport huse ⟨h1, h63⟩ ⟨hlo, hhi⟩ ⟨hcoh, hcoh20⟩ hcoh4 ⟨hcount, hcount64⟩ hmode hdop hon hrun hroom
  · intro a hch hsrc hns hts hmiss hc hpath hret huse hidle hon
    exact execGnssChStart_runs hm hiso hch hsrc hns hts hmiss hc hpath hret huse hidle hon
  · intro ch hch hst
    exact execGnssChStop_stops hm hch hst
  · intro hoff
    exact ⟨execGnssPower_off hm hiso hoff, execGnssPower_wakes hm hiso hoff⟩
  · intro checks h0 h32
    exact execGnssSpoof_clears hm h0 h32
  · intro sols h0 h4
    exact execGnssSpoof_raises hm h0 h4

end Sys2Proof.Machine

namespace Sys2Proof.Machine
open Sys2Proof

/-! ### The marks of a sample port (R184, R185) -/

section
variable {s : State} {p n : Nat} {frac : Int}

/-- A HELD channel returns to RUNNING, and its carrier phase can have slipped (R191). -/
def chReturned (s : State) (c : Nat) : State := gnssChSet (setGnssCh s c { gnssCh s c with slip := true }) c 1

/-- Port `p` runs from mark `m` on (R184), before the HELD channels return. -/
def portMarked (s : State) (p : Nat) (m : GnssMark) : State :=
  setGnssPort (((sentTo s 0 (.mark p)).setB F.GNSS_PORT_STATUS_running true p).setB F.GNSS_PORT_STATUS_clk_present true p) p
    { gnssPort s p with broken := false, marks := m :: (if s.fb F.GNSS_PORT_STATUS_running p then (gnssPort s p).marks.take 1 else []) }

theorem gnssMark_eq : ∃ m, gnssMark s p n frac = (gnssOn (portMarked s p m) p 2).foldl chReturned (portMarked s p m) := ⟨_, rfl⟩

theorem portMarked_running (m : GnssMark) : (portMarked s p m).fb F.GNSS_PORT_STATUS_running p = true :=
  (fb_congr (f_setF_apart _ F.GNSS_PORT_STATUS_clk_present F.GNSS_PORT_STATUS_running _ _ _ rfl (by decide) (by decide) (by decide) (by decide))).trans
    (fb_setB_same rfl (by decide))

theorem portMarked_clkPresent (m : GnssMark) : (portMarked s p m).fb F.GNSS_PORT_STATUS_clk_present p = true := fb_setB_same rfl (by decide)

theorem portMarked_port (m : GnssMark) : (gnssPort (portMarked s p m) p).broken = false ∧ (gnssPort (portMarked s p m) p).marks ≠ [] := by
  rw [portMarked, gnssPort_setGnssPort_same]
  exact ⟨rfl, List.cons_ne_nil _ _⟩

theorem chReturned_f {d : Fld} (hd : d.reg ≠ .GNSS_CH_STATUS) (he : isEventReg d.reg = false) (c i j : Nat) : (chReturned s c).f d i j = s.f d i j :=
  gnssChSet_f hd he i j

theorem chReturned_port (s : State) (c : Nat) : gnssPort (chReturned s c) p = gnssPort s p :=
  gnssPort_congr (congrArg GnssSt.ports (gnssChSet_gnss ..)) p

theorem chsReturned_f {d : Fld} (hd : d.reg ≠ .GNSS_CH_STATUS) (he : isEventReg d.reg = false) (cs : List Nat) (i j : Nat) :
    (cs.foldl chReturned s).f d i j = s.f d i j := foldl_keeps (fun t => t.f d i j) chReturned (fun _ c => chReturned_f hd he c i j) cs s

theorem chsReturned_port (cs : List Nat) : gnssPort (cs.foldl chReturned s) p = gnssPort s p :=
  foldl_keeps (fun t => gnssPort t p) chReturned chReturned_port cs s

/-- Port `p` runs with its clock present and a mark. -/
def PortRuns (s : State) (p : Nat) : Prop :=
  s.fb F.GNSS_PORT_STATUS_running p = true ∧ s.fb F.GNSS_PORT_STATUS_clk_present p = true ∧ (gnssPort s p).marks ≠ []

theorem portRuns_gnssMark : PortRuns (gnssMark s p n frac) p := by
  obtain ⟨m, hm⟩ := gnssMark_eq (s := s) (p := p) (n := n) (frac := frac)
  rw [hm]
  refine ⟨?_, ?_, ?_⟩
  · rw [fb_congr (chsReturned_f (by decide) rfl _ _ _), portMarked_running]
  · rw [fb_congr (chsReturned_f (by decide) rfl _ _ _), portMarked_clkPresent]
  · rw [chsReturned_port]
    exact (portMarked_port m).2

theorem portRuns_acqRefill (h : PortRuns s p) : PortRuns (acqRefill s) p := h

end

/-! ### The sample path (R183, R185, R187, R188) -/

/-- Notch `j` of port `p` reports `active`, `locked` and its centre `x` (R187). -/
def notchSet (s : State) (p j : Nat) (active locked : Bool) (x : Int) : State :=
  ((s.setB F.GNSS_NOTCH_ST_active active p j).setB F.GNSS_NOTCH_ST_locked locked p j).setI F.GNSS_NOTCH_ST_centre x p j

section
variable (s : State) (p j : Nat) (active locked : Bool) (x : Int)

theorem notchSet_active : (notchSet s p j active locked x).fb F.GNSS_NOTCH_ST_active p j = active := by
  rw [notchSet, State.setI, State.setB,
    fb_congr (f_setF_apart _ F.GNSS_NOTCH_ST_centre F.GNSS_NOTCH_ST_active _ _ _ rfl (by decide) (by decide) (by decide) (by decide)),
    fb_congr (f_setF_apart _ F.GNSS_NOTCH_ST_locked F.GNSS_NOTCH_ST_active _ _ _ rfl (by decide) (by decide) (by decide) (by decide)),
    fb_setB_same rfl (by decide)]

theorem notchSet_locked : (notchSet s p j active locked x).fb F.GNSS_NOTCH_ST_locked p j = locked := by
  rw [notchSet, State.setI,
    fb_congr (f_setF_apart _ F.GNSS_NOTCH_ST_centre F.GNSS_NOTCH_ST_locked _ _ _ rfl (by decide) (by decide) (by decide) (by decide)),
    fb_setB_same rfl (by decide)]

end

section
variable {s u : State} {port : Nat} (hport : port < 3)
include hport

section
variable {k : Nat} {b : BlockEnd} (hu : u = advance s k) (hen : u.fb F.GNSS_PORT_CFG_enable port = true) (hon : gnssP u = 2)
  (hpath : (gnssPort u port).broken = false) (hc : clocked u = true)
include hu hen hon hpath hc

/-- The mark of a port that did not run, or whose rate is in range. -/
theorem execSampleEpochMark_runs (hrate : u.fb F.GNSS_PORT_STATUS_running port = false ∨ (gnssPort u port).marks = []
    ∨ ∃ m l, (gnssPort u port).marks = m :: l ∧ rateOff ((u.ticks * 2 ^ 32 : Nat) + ((b.frac % 2 ^ 32 : Nat) : Int) - m.place) = false) :
    ∃ t, execSampleEpochMark port k b s = .next t ∧ PortRuns t port := by
  unfold execSampleEpochMark
  rw [← hu]
  extract_lets v x fr
  rw [if_neg (by simp [v, x, hen, hon, hpath, hc, hport])]
  split
  · exact ⟨_, rfl, portRuns_acqRefill portRuns_gnssMark⟩
  · next m hm =>
    have hin : rateOff ((v.ticks * 2 ^ 32 : Nat) + fr - m.place) = false := by
      rcases hrate with hrun | hnone | ⟨m', l, hmarks, hin⟩
      · simp [v, hrun] at hm
      · simp [v, x, hnone] at hm
      · obtain ⟨-, hlast⟩ : _ ∧ m' = m := by simpa [v, x, hmarks] using hm
        exact hlast ▸ hin
    exact ⟨_, if_neg (ne_true_of_eq_false hin), portRuns_acqRefill portRuns_gnssMark⟩

theorem execSampleEpochMark_breaks {m : GnssMark} {l : List GnssMark} (hrun : u.fb F.GNSS_PORT_STATUS_running port = true)
    (hmarks : (gnssPort u port).marks = m :: l)
    (hrate : rateOff ((u.ticks * 2 ^ 32 : Nat) + ((b.frac % 2 ^ 32 : Nat) : Int) - m.place) = true) :
    execSampleEpochMark port k b s = .next (gnssBreak (u.setB F.GNSS_PORT_STATUS_rate_bad true port) port) := by
  unfold execSampleEpochMark
  rw [← hu]
  extract_lets v x fr
  have hlast : (if v.fb F.GNSS_PORT_STATUS_running port = true then x.marks.head? else none) = some m := by
    simp [v, x, hrun, hmarks]
  rw [if_neg (by simp [v, x, hen, hon, hpath, hc, hport]), hlast]
  exact if_pos hrate

end

theorem execSamplePathBreak_clock (hon : gnssP s = 2) (hen : s.fb F.GNSS_PORT_CFG_enable port = true) :
    execSamplePathBreak port .clock s = .next (gnssBreak (s.setB F.GNSS_PORT_STATUS_clk_present false port) port) := by
  unfold execSamplePathBreak
  rw [if_neg (by simp [hon, hen, hport])]

theorem execSamplePathBreak_overrun (hon : gnssP s = 2) (hen : s.fb F.GNSS_PORT_CFG_enable port = true) (hload : correlatorsBehind s = true) :
    execSamplePathBreak port .overrun s = .next (gnssBreak (s.setB F.GNSS_PORT_STATUS_overrun true port) port) := by
  unfold execSamplePathBreak
  rw [if_neg (by simp [hon, hen, hport])]
  exact congrArg _ (if_pos hload)

theorem execSamplePathRecover_marks {lost : Nat} (hbroken : (gnssPort s port).broken = true) (hen : s.fb F.GNSS_PORT_CFG_enable port = true)
    (hc : clocked s = true) : ∃ t m, execSamplePathRecover port lost s
      = .next ((gnssOn (portMarked t port m) port 2).foldl chReturned (portMarked t port m)) := by
  unfold execSamplePathRecover
  rw [if_neg (by simp [hbroken, hen, hc, hport])]
  exact ⟨_, _, rfl⟩

theorem execGnssPortEnableWrite_stops {v : Word} (hen : s.fb F.GNSS_PORT_CFG_enable port = true)
    (hoff : (regWrite s ⟨.GNSS_PORT_CFG, port, 0⟩ v).fb F.GNSS_PORT_CFG_enable port = false) :
    execGnssPortEnableWrite port v s = .next (gnssPortStop (regWrite s ⟨.GNSS_PORT_CFG, port, 0⟩ v) port) := by
  unfold execGnssPortEnableWrite
  rw [if_neg (by omega)]
  exact congrArg _ (if_pos (by simp [hen, hoff]))

/-- A notch that is not enabled is not active and not locked at the block. -/
theorem execNotchChange_disabled {notch : Nat} {locked : Bool} {centre : Int} (hn : notch < 4) (hen : s.fb F.GNSS_NOTCH_enable port notch = false) :
    ∃ x, execNotchChange port notch locked centre s = .next (notchSet s port notch false false x) := by
  unfold execNotchChange
  rw [if_neg (by omega), hen]
  exact ⟨_, rfl⟩

/-- An indicator above the threshold, which is then no 255, raises the flag. -/
theorem execGnssJam_raises {k : Nat} (hu : u = advance s k) (habove : u.f F.GNSS_PORT_CFG_jam_thr port < u.f F.GNSS_PORT_STATUS_jam port)
    (hflag : u.fb F.GNSS_PORT_STATUS_jam_flag port = false) : ∃ t, execGnssJam port k s = .next t ∧ t.fb F.GNSS_PORT_STATUS_jam_flag port = true := by
  unfold execGnssJam
  rw [← hu]
  have hjam : u.f F.GNSS_PORT_STATUS_jam port < 256 := fget_lt ..
  refine ⟨_, (if_neg (by omega)).trans (if_pos ?_), ?_⟩
  · simp only [hflag, Bool.not_false, Bool.true_and, Bool.and_eq_true, decide_eq_true_eq, bne_iff_ne]
    omega
  · rw [fb_congr (logEvent_f _ _ _ _ _ _ _ rfl), fb_setB_same rfl (by decide)]

end

/-- Settles O29: each act by the equation of its meaning; a mark by what it writes before the HELD channels return. -/
theorem gnssSamplePathActs : Obligations.GnssSamplePathActs := by
  intro s port hport
  refine ⟨?_, ?_, ?_, ?_, ?_, ?_⟩
  · intro k b u hu hen hon hpath hc
    refine ⟨fun hrate => execSampleEpochMark_runs hport hu hen hon hpath hc hrate, fun m l hrun hmarks hrate => ?_⟩
    exact execSampleEpochMark_breaks hport hu hen hon hpath hc hrun hmarks hrate
  · intro hon hen
    exact ⟨execSamplePathBreak_clock hport hon hen, execSamplePathBreak_overrun hport hon hen⟩
  · intro lost hbroken hen hc
    obtain ⟨t, m, ht⟩ := execSamplePathRecover_marks hport hbroken hen hc
    exact ⟨_, portMarked t port m, ht, (portMarked_port m).1, portMarked_running m, rfl⟩
  · intro v hen hoff
    exact execGnssPortEnableWrite_stops hport hen hoff
  · intro notch hn hen
    obtain ⟨x, hx⟩ := execNotchChange_disabled hport hn hen
    exact ⟨_, hx, notchSet_active .., notchSet_locked ..⟩
  · intro k u hu habove hflag
    exact execGnssJam_raises hport hu habove hflag

end Sys2Proof.Machine

namespace Sys2Proof.Machine
open Sys2Proof

/-! ### What the records and the checks leave of the baseband (R114, R193, R203) -/

section
variable {s : State}

@[simp] theorem areaWrite_gnss (s : State) (a : AreaId) (r : Layout) : (areaWrite s a r).gnss = s.gnss := by
  unfold areaWrite
  extract_lets d dropped put
  split
  · rfl
  · split
    · split
      · rfl
      · exact notice_gnss ..
    · rfl

@[simp] theorem areaProduce_gnss (s : State) (a : AreaId) (r : Layout) : (areaProduce s a r).gnss = s.gnss := by
  simp only [areaProduce]
  split
  · exact areaWrite_gnss ..
  · rfl

theorem measRecords_measAt (u : Int) : (measRecords s u).gnss.measAt = s.gnss.measAt := by
  unfold measRecords
  refine foldl_keeps (fun t => t.gnss.measAt) _ (fun t c => ?_) _ s
  change (areaProduce t .meas (measRecord t c _)).gnss.measAt = _
  rw [areaProduce_gnss]

@[simp] theorem spoofLatch_gnss (s : State) (i : Nat) : (spoofLatch s i).gnss = s.gnss := by
  simp only [spoofLatch]
  split
  · rfl
  · exact logEvent_gnss ..

theorem spoofEval_measAt (i : Nat) (cond : Bool) : (spoofEval s i cond).gnss.measAt = s.gnss.measAt := by
  unfold spoofEval
  extract_lets c run g counted raw reported
  split
  · exact (congrArg GnssSt.measAt (spoofLatch_gnss reported i)).trans rfl
  · rfl

end

theorem ite_setF_gnss {b : Prop} {_ : Decidable b} (s : State) (d : Fld) (v i j : Nat) : (if b then s.setF d v i j else s).gnss = s.gnss := by
  split
  · rfl
  · rfl

/-! ### Searches that end (R189, R190) -/

theorem acqRefill_of_noPlan {s : State} (h : s.gnss.plan = []) : (acqRefill s).gnss.acqQ = s.gnss.acqQ := by
  simp [acqRefill, h]

section
variable {s : State} {pos : Nat} {h : CmdHdr} {a : GnssAcqArgs} {r : AcqResult} (hrun : s.f F.PWR_RUN_run_state ≠ 4)
  (hq : s.gnss.acqQ[pos]? = some (some h, a))
include hrun hq

theorem execGnssAcqDone_broke (hr : r.broke = true) : execGnssAcqDone pos r s
    = .next (finish (acqRefill { s with gnss := { s.gnss with acqQ := s.gnss.acqQ.eraseIdx pos } }) h 0x70 .timeout []) := by
  unfold execGnssAcqDone
  rw [if_neg hrun, hq]
  exact if_pos hr

/-- The search leaves the queue and its result takes the next number. -/
theorem execGnssAcqDone_answers (hr : r.broke = false) : ∃ t p, execGnssAcqDone pos r s
      = .next (finish t h 0x70 .ok ([(0, 2, s.gnss.nextAcq), (2, 1, bit (decide (640 < r.ratio)))] ++ p))
    ∧ (s.gnss.plan = [] → t.gnss.acqQ = s.gnss.acqQ.eraseIdx pos) ∧ t.gnss.nextAcq = (s.gnss.nextAcq + 1) % 2 ^ 16 ∧ t.regs = s.regs := by
  unfold execGnssAcqDone
  rw [if_neg hrun, hq]
  exact ⟨_, _, if_neg (ne_true_of_eq_false hr), fun hplan => acqRefill_of_noPlan hplan, rfl, rfl⟩

end

/-! ### Epochs and dumps (R191) -/

theorem gnssCh_perf (s : State) (ev i k c : Nat) : gnssCh (perf s ev i k) c = gnssCh s c := gnssCh_congr (congrArg GnssSt.ch (perf_gnss ..)) c

theorem gnssCh_ite_of_gnss {s t : State} {b : Bool} (h : t.gnss = s.gnss) (c : Nat) : gnssCh (if b then t else s) c = gnssCh s c := by
  cases b
  · rfl
  · exact gnssCh_congr (congrArg GnssSt.ch h) c

/-- The epoch of a channel that runs or is held makes a dump, and the last two are kept. -/
theorem execGnssChannelEpoch_dumps {s : State} {ch n : Nat} {e : EpochIn} (hch : ch < 192) (hst : gnssChState s ch = 1 ∨ gnssChState s ch = 2)
    (hn : epochSamples s ch = some n) :
    ∃ t, execGnssChannelEpoch ch e s = .next t ∧ (gnssCh t ch).dumped = true ∧ (gnssCh t ch).dumps.length ≤ 2 := by
  unfold execGnssChannelEpoch
  rw [hn]
  refine ⟨_, if_neg (by omega), ?_⟩
  rw [gnssCh_ite_of_gnss, gnssCh_perf, gnssCh_setGnssCh_same]
  · exact ⟨rfl, List.length_take_le ..⟩
  · simp only [State.setB_gnss, State.setF_gnss]

/-- The mark of channel `c`'s new dump is cleared. -/
def dumpTaken (s : State) (c : Nat) : State := setGnssCh s c { gnssCh s c with dumped := false }

theorem dumped_dumpsTaken {s : State} (cs : List Nat) (c : Nat) :
    (gnssCh (cs.foldl dumpTaken s) c).dumped = (decide (c ∉ cs) && (gnssCh s c).dumped) := by
  induction cs generalizing s with
  | nil => simp
  | cons d cs ih =>
    rw [List.foldl_cons, ih, dumpTaken]
    by_cases hd : c = d
    · subst hd
      simp
    · simp [hd, gnssCh_setGnssCh_other _ hd]

/-- The marks of the channels that have one are cleared, which leaves none. -/
theorem execGnssDumpInterrupt_clears {s : State} {k : Nat} :
    ∃ t, execGnssDumpInterrupt k s = .next t ∧ (∀ c < 192, (gnssCh t c).dumped = false) ∧ t.regs = (advance s k).regs := by
  unfold execGnssDumpInterrupt
  extract_lets u cs asked g v
  obtain ⟨hgnss, hregs⟩ : asked.gnss = u.gnss ∧ asked.regs = u.regs := by
    refine foldl_inv (fun t => t.gnss = u.gnss ∧ t.regs = u.regs) _ (fun t i ht => ?_) _ u ⟨rfl, rfl⟩
    split
    · exact ht
    · exact ht
  refine ⟨_, rfl, fun c hc => ?_, (foldl_keeps (fun t => t.regs) dumpTaken (fun _ _ => rfl) cs v).trans hregs⟩
  have hv : gnssCh v c = gnssCh u c := gnssCh_congr (congrArg GnssSt.ch hgnss) c
  refine (dumped_dumpsTaken cs c).trans ?_
  rw [hv]
  simp [cs, hc]

/-! ### The NCO registers (R192) -/

section
variable {s : State} {ch : Nat} {v : Word} {host : Bool} (hch : ch < 192) (hown : ncoOwner s ch host = true)
include hch hown

theorem execGnssNcoLoWrite_holds {carrier : Bool} : execGnssNcoLoWrite ch carrier v host s
    = .next (setGnssCh s ch (if carrier then { gnssCh s ch with heldCarr := some v } else { gnssCh s ch with heldCode := some v })) := by
  unfold execGnssNcoLoWrite
  rw [if_neg (by simp [hown, hch])]

theorem execGnssCodeAdjWrite_holds : execGnssCodeAdjWrite ch v host s = .next (setGnssCh s ch { gnssCh s ch with adj := sext 32 v.toNat }) := by
  unfold execGnssCodeAdjWrite
  rw [if_neg (by simp [hown, hch])]

/-- The high half of the code rate pends it with the held low half and shift, and both halves are reported. -/
theorem execGnssNcoCommit_pends {lo : Word} (hst : gnssChState s ch = 1) (hpend : (gnssCh s ch).pend = none) (hlo : (gnssCh s ch).heldCode = some lo) :
    ∃ t, execGnssNcoCommit ch false v false host s = .next t
      ∧ (gnssCh t ch).pend = some ⟨some (v.toNat % 2 ^ 16 * 2 ^ 32 + lo.toNat), none, (gnssCh s ch).adj, 0⟩ ∧ (gnssCh t ch).adj = 0
      ∧ t.f F.GNSS_CH_CODE_LO_value ch = lo.toNat ∧ t.f F.GNSS_CH_CODE_HI_value ch = v.toNat % 2 ^ 16 := by
  unfold execGnssNcoCommit
  rw [if_neg (by simp [hown, hch])]
  extract_lets x lo' hi w reported x' q0 q1 q u
  have hlo' : lo' = lo := by simp [lo', x, hlo]
  have hstate : gnssChState reported ch = 1 :=
    (f_setF_name _ _ F.GNSS_CH_STATUS_state _ _ _ _ _ (by decide)).trans ((f_setF_name _ _ F.GNSS_CH_STATUS_state _ _ _ _ _ (by decide)).trans hst)
  have hq : q = ⟨some (v.toNat % 2 ^ 16 * 2 ^ 32 + lo.toNat), none, (gnssCh s ch).adj, 0⟩ := by
    simp [q, q1, q0, x', x, hpend, w, hi, hlo', bit]
  refine ⟨_, if_neg (by simp [hstate]), ?_, ?_, ?_, ?_⟩
  · rw [gnssCh_setGnssCh_same, hq]
  · rw [gnssCh_setGnssCh_same]
  · refine (f_setF_name _ F.GNSS_CH_CODE_HI_value F.GNSS_CH_CODE_LO_value _ _ _ _ _ (by decide)).trans ?_
    rw [f_setF_same _ F.GNSS_CH_CODE_LO_value _ _ _ (by decide) (by decide), hlo']
    exact Nat.mod_eq_of_lt lo.isLt
  · exact (f_setF_same _ F.GNSS_CH_CODE_HI_value _ _ _ (by decide) (by decide)).trans (Nat.mod_mod ..)

end

/-! ### The measurement instant (R193, R203) -/

theorem execGnssMeas_measures {s u v : State} {k d0 d1 d2 : Nat} (hv : v = advance s k) (hu : u = advance v (max d0 (max d1 d2))) (hon : gnssP u = 2)
    (hnew : u.gnss.measAt ≠ some (measInstant v)) :
    ∃ t, execGnssMeas k d0 d1 d2 s = .next t ∧ t.gnss.s4 = false ∧ t.gnss.measAt = some (measInstant v) := by
  subst hu hv
  unfold execGnssMeas
  refine ⟨_, if_neg (by simp [hon, hnew]), rfl, ?_⟩
  simp only [spoofEval_measAt, ite_setF_gnss, measRecords_measAt]

/-- Settles O30: each act by the equation of its meaning; the measurement's instant by what its records and checks leave. -/
theorem gnssChannelsAct : Obligations.GnssChannelsAct := by
  intro s
  refine ⟨?_, ?_, ?_, ?_, ?_, ?_⟩
  · intro pos h a r hrun hq
    exact ⟨execGnssAcqDone_broke hrun hq, execGnssAcqDone_answers hrun hq⟩
  · intro ch e n hch hst hn
    exact execGnssChannelEpoch_dumps hch hst hn
  · intro k
    exact execGnssDumpInterrupt_clears
  · intro ch v host hch hown
    exact ⟨execGnssNcoLoWrite_holds hch hown, execGnssNcoLoWrite_holds hch hown, execGnssCodeAdjWrite_holds hch hown⟩
  · intro ch v lo host hch hown hst hpend hlo
    exact execGnssNcoCommit_pends hch hown hst hpend hlo
  · intro k d0 d1 d2 v u hv hu hon hnew
    exact execGnssMeas_measures hv hu hon hnew

end Sys2Proof.Machine

namespace Sys2Proof.Machine
open Sys2Proof

/-! ### Navigation records (R194-R196) -/

theorem execGnssNav_delivers {s : State} {ch : Nat} {u : NavIn} (hch : ch < 192) (hst : gnssChState s ch = 1)
    (hen : s.fb F.GNSS_CH_CFG_nav_en ch = true) : ∃ r, execGnssNav ch u s = .next (navDeliver s r) := by
  unfold execGnssNav
  exact ⟨_, if_neg (by simp [hst, hen, hch])⟩

/-- Without time synchronisation a tag authenticates nothing and fails no check, and its record says so. -/
theorem execOsnmaTagResult_unsynchronised {s : State} {tag : OsnmaTag} (hen : s.fb F.GNSS_OSNMA_CFG_enable = true) (htime : osnmaTimeOk s = false) :
    ∃ t l, t.gnss.auth = s.gnss.auth ∧ t.gnss.s4 = s.gnss.s4 ∧ execOsnmaTagResult tag s
      = .next (navDeliver t (l ++ [(32, 1, tag.sat), (33, 1, tag.adkd), (34, 2, tag.first), (36, 2, tag.last), (38, 1, 3)])) := by
  unfold execOsnmaTagResult
  rw [if_neg (by simp [hen]), htime]
  extract_lets o r good rooted chained g newest judged counted
  have hg : g = s.gnss := ite_setF_gnss rooted F.GNSS_OSNMA_STATUS_chain_ok (bit good) 0 0
  refine ⟨counted, _, ?_, ?_, rfl⟩
  · have hkept : judged.gnss.auth = g.auth := rfl
    exact hkept.trans (congrArg GnssSt.auth hg)
  · have hkept : judged.gnss.s4 = (g.s4 || (inSolution chained tag.sat && false)) := rfl
    exact hkept.trans (by rw [Bool.and_false, Bool.or_false, hg])

/-! ### The power states (R190, R199, R200) -/

theorem execGnssSettleEnd_on {s : State} {crc : Bool} {k : Nat} (hwaking : gnssP (advance s k) = 1) (hnone : (advance s k).gnss.wakers = []) :
    ∃ t, execGnssSettleEnd crc k s = .next t ∧ gnssP t = 2 ∧ t.fb F.GNSS_STATUS_retain_valid = (crc && (advance s k).gnss.image.isSome) := by
  unfold execGnssSettleEnd
  extract_lets u img imaged warmed on w g t
  have hw : w = [] := hnone
  rw [if_neg (not_not.2 hwaking), hw]
  refine ⟨t, rfl, f_setF_same warmed F.GNSS_STATUS_pstate 2 _ _ (by decide) (by decide), ?_⟩
  have himaged : imaged.fb F.GNSS_STATUS_retain_valid = img.isSome := fb_setB_same rfl (by decide)
  have hwarmed : warmed.fb F.GNSS_STATUS_retain_valid = imaged.fb F.GNSS_STATUS_retain_valid :=
    fb_congr (f_setF_apart imaged F.GNSS_STATUS_hot F.GNSS_STATUS_retain_valid _ _ _ rfl (by decide) (by decide) (by decide) (by decide))
  have hon : on.fb F.GNSS_STATUS_retain_valid = warmed.fb F.GNSS_STATUS_retain_valid :=
    fb_congr (f_setF_apart warmed F.GNSS_STATUS_pstate F.GNSS_STATUS_retain_valid _ _ _ rfl (by decide) (by decide) (by decide) (by decide))
  have himg : img.isSome = (crc && u.gnss.image.isSome) := by
    cases crc
    · rfl
    · rfl
  exact hon.trans (hwarmed.trans (himaged.trans himg))

theorem execGnssWake_periodic {s : State} (hsleep : gnssP s = 3) (hint : s.f F.GNSS_WAKE_interval ≠ 0)
    (hpast : wakePassed s (60 * s.f F.GNSS_WAKE_interval) = true) : execGnssWake s
      = .next (event (gnssWaking { s with gnss := { s.gnss with periodic := true, since := counterUnits (tsc s 0).cnt } }) 0x0703 [(0, 1, 1)]) :=
  if_pos ⟨hsleep, hint, hpast⟩

/-! ### Solutions (R197, R198, R200) -/

/-- The retention image and the satellites used as solution `sol` gives them (R94, R200). -/
def solutionKept (s : State) (sol : Nat) (x : SolutionIn) : State :=
  { s with gnss := { s.gnss with image := some ⟨x.sats, x.position, x.iono, x.utc, trackedSats s⟩, solUsed := tset s.gnss.solUsed sol x.used } }

section
variable {s : State} {sol : Nat} {x : SolutionIn} (hsol : sol < 2) (hen : s.fb F.GNSS_SOL_CFG_enable sol = true) (hon : gnssP s = 2)
  (hviews : x.views = []) (hmin : s.f F.GNSS_SOL_CFG_min_sats sol = 0)
include hsol hen hon hviews hmin

theorem execSolutionFeed_tooFew (hfew : x.used.length < 4) : execSolutionFeed sol x s = .next (solutionKept s sol x) := by
  unfold execSolutionFeed
  rw [if_neg (by simp [hen, hon, hsol]), hviews]
  extract_lets img g t need m
  have hneed : need = 4 := if_pos hmin
  exact if_pos (.inl (hneed ▸ hfew))

theorem execSolutionFeed_feeds (hmany : 4 ≤ x.used.length) (hflag : solFlagged s sol = false) :
    execSolutionFeed sol x s = .next ((List.range 32).foldl (fun t k =>
      if slotOn t k && t.f F.TS_REF_CFG_type k == 5 && t.f F.TS_REF_CFG_source k == sol then
        takeMeas t k ⟨x.offset, some (3 * x.sigma + x.utcUnc + x.notch), 0, 0xFF, 0⟩ else t) (solutionKept s sol x)) := by
  unfold execSolutionFeed
  rw [if_neg (by simp [hen, hon, hsol]), hviews]
  extract_lets img g t need m
  have hneed : need = 4 := if_pos hmin
  exact if_neg (not_or.2 ⟨hneed ▸ not_lt.2 hmany, ne_true_of_eq_false hflag⟩)

end

/-- Settles O31: each event by the equation of its meaning. -/
theorem gnssNavigationAndPowerAct : Obligations.GnssNavigationAndPowerAct := by
  intro s
  refine ⟨?_, ?_, ?_, ?_, ?_, ?_⟩
  · intro ch u hch hst hen
    exact execGnssNav_delivers hch hst hen
  · intro tag hen htime
    exact execOsnmaTagResult_unsynchronised hen htime
  · intro crc k hwaking hnone
    exact execGnssSettleEnd_on hwaking hnone
  · intro hsleep hint hpast
    exact execGnssWake_periodic hsleep hint hpast
  · intro sol x hsol hen hon hviews hfew hmin
    exact execSolutionFeed_tooFew hsol hen hon hviews hmin hfew
  · intro sol x hsol hen hon hviews hmany hmin hflag
    exact ⟨_, rfl, execSolutionFeed_feeds hsol hen hon hviews hmin hmany hflag⟩

end Sys2Proof.Machine

namespace Sys2Proof.Machine
open Sys2Proof

/-! ### Two bits of one register -/

theorem fb_setB_apart {s : State} (d e : Fld) {b : Bool} {i j : Nat} (hr : e.reg = d.reg) (hd : d.lo ≤ d.hi) (hd32 : d.hi < 32)
    (he : e.lo ≤ e.hi) (hapart : d.hi < e.lo ∨ e.hi < d.lo) : (s.setB d b i j).fb e i j = s.fb e i j :=
  fb_congr (f_setF_apart s d e _ i j hr hd hd32 he hapart)

/-! ### What the measurement of a gearbox writes of the registers (R210, R211, R16) -/

section
variable {s : State} {d : Fld} {i j : Nat}

theorem setProbe_f {k : Nat} {v : Int} (hlo : d.reg ≠ .CLAP_PROBE_LO) (hhi : d.reg ≠ .CLAP_PROBE_HI) : (setProbe s k v).f d i j = s.f d i j :=
  (f_wr_name hhi).trans (f_wr_name hlo)

theorem portLat_f {p : Nat} (hrx : d.reg ≠ .PORT_LAT_RX) (htx : d.reg ≠ .PORT_LAT_TX) : (portLat s p).f d i j = s.f d i j := by
  unfold portLat
  split
  · rfl
  · exact (f_setF_name _ F.PORT_LAT_TX_value d _ _ _ _ _ htx).trans (f_setF_name _ F.PORT_LAT_RX_value d _ _ _ _ _ hrx)

end

/-! ### The states of a port (R207, R208, R210, R211, R212, R222, R223) -/

section
variable {s : State} {p : Nat} (hp : p < 4)
include hp

theorem execPortCfgWrite_enables {v : Word} (hwas : s.fb F.PORT_CFG_enable p = false)
    (hnow : (regWrite s ⟨.PORT_CFG, p, 0⟩ v).fb F.PORT_CFG_enable p = true)
    (hreader : (regWrite s ⟨.PORT_CFG, p, 0⟩ v).fb F.PORT_CFG_stats_reader p = s.fb F.PORT_CFG_stats_reader p) :
    execPortCfgWrite p v s = .next (lpiCheckAll (dpEvalAll (portSet
      (if portRefReady (regWrite s ⟨.PORT_CFG, p, 0⟩ v) p then regWrite s ⟨.PORT_CFG, p, 0⟩ v
        else (regWrite s ⟨.PORT_CFG, p, 0⟩ v).setF F.PORT_STATUS_link_down_cause 7 p) p 1))) := by
  unfold execPortCfgWrite
  rw [if_neg (by omega)]
  extract_lets was dly written x u now off left absent t
  have hu : u = written := if_pos hreader
  have hon : (now && !was) = true := by simp [now, was, hu, written, hwas, hnow]
  have ht : t = portSet (if portRefReady u p then u else u.setF F.PORT_STATUS_link_down_cause 7 p) p 1 := if_pos hon
  rw [ht, hu]

section
variable (hdown : portState s p = 1) (htherm : s.f F.PWR_RUN_therm_step < 3)
include hdown htherm

theorem execPortBlockLock_unready (href : portRefReady s p = false) :
    execPortBlockLock p s = .next (s.setF F.PORT_STATUS_link_down_cause 7 p) := by
  unfold execPortBlockLock
  rw [if_neg (by omega), href]
  rfl

theorem execPortBlockLock_calibrates (href : portRefReady s p = true) :
    execPortBlockLock p s = .next (portCalibrate (setPort ((s.setB F.PORT_STATUS_cal_failed false p).setB F.PORT_STATUS_ref_on_ap0 false p) p
      { port s p with fails := 0 }) p) := by
  unfold execPortBlockLock
  rw [if_neg (by omega), href]
  rfl

end

theorem execPortLinkDown_eq {c : Nat} (hlo : 2 ≤ c) (hhi : c ≤ 6) (htrains : c = 4 → modeTrains s p = true) :
    execPortLinkDown p c s = .next (portDown s p c) := by
  refine if_neg ?_
  rintro (h | h | h | ⟨hc, hnot⟩)
  · omega
  · omega
  · omega
  · exact absurd (htrains hc) (ne_true_of_eq_false hnot)

theorem execPortRefSwitch_toAp0 (ha : s.f F.PORT_CFG_ref_apll p ≠ 0) (hup : 2 ≤ portState s p) (hon : s.fb F.PORT_STATUS_ref_on_ap0 p = false)
    (hlost : apState s (s.f F.PORT_CFG_ref_apll p) = 4) :
    execPortRefSwitch p s = .next (portCalibrate (s.setB F.PORT_STATUS_ref_on_ap0 true p) p) := by
  unfold execPortRefSwitch
  rw [if_neg (by simp [ha, hon, hlost]; omega), hon]
  rfl

theorem execLpiEnter_receive (hup : 2 ≤ portState s p) :
    execLpiEnter p true s = .next (portPresence (s.setB F.PORT_STATUS_lpi_rx true p) p) := by
  unfold execLpiEnter
  rw [if_neg (by omega), if_pos rfl]

theorem execLpiEnter_transmit (hup : 2 ≤ portState s p) (hmay : lpiAllowed s p = true) :
    execLpiEnter p false s = .next (s.setB F.PORT_STATUS_lpi_tx true p) := by
  unfold execLpiEnter
  rw [if_neg (by omega), if_neg Bool.false_ne_true, if_pos hmay]

theorem execLpiWake_receive : execLpiWake p true s = .next (portPresence (s.setB F.PORT_STATUS_lpi_rx false p) p) := by
  unfold execLpiWake
  rw [if_neg (by omega), if_pos rfl]

theorem execLpiWake_transmit : execLpiWake p false s = .next (s.setB F.PORT_STATUS_lpi_tx false p) := by
  unfold execLpiWake
  rw [if_neg (by omega), if_neg Bool.false_ne_true]

end

/-! ### Gearbox measurements and probes (R211, R16, R17) -/

/-- The port at the front of the gearbox queue leaves it, its phases in probes 6 and 7. -/
def gearTaken (s : State) (rx tx : Nat) : State :=
  let t := setProbe (setProbe s 6 rx) 7 tx
  { t with ports := { t.ports with gearQ := t.ports.gearQ.drop 1 } }

/-- Port `p` has failed a measurement more and waits behind the others. -/
def gearAgain (s : State) (p rx tx : Nat) : State :=
  let t := setPort (gearTaken s rx tx) p { port s p with fails := (port s p).fails + 1 }
  { t with ports := { t.ports with gearQ := s.ports.gearQ.drop 1 ++ [(s.ticks, p)] } }

section
variable {s : State} {k p rms rx tx : Nat}

theorem gearAgain_fails : (port (gearAgain s p rx tx) p).fails = (port s p).fails + 1 := congrArg PortSt.fails (port_setPort_same ..)

theorem gearTaken_calFailed : (gearTaken s rx tx).fb F.PORT_STATUS_cal_failed p = s.fb F.PORT_STATUS_cal_failed p :=
  fb_congr ((setProbe_f (by decide) (by decide)).trans (setProbe_f (by decide) (by decide)))

variable (hq : s.ports.gearQ.head? = some (k, p)) (hst : portState s p = 2)
include hq hst

/-- A measurement within its limit gives the port its latencies and takes it UP. -/
theorem execGearboxMeasurementDone_good (hgood : rms ≤ 1280) : ∃ x, execGearboxMeasurementDone p rms rx tx s
    = .next (portSet (portLat (setPort (gearTaken s rx tx) p x) p) p 3) := by
  unfold execGearboxMeasurementDone
  rw [if_neg (by simp [hq, hst])]
  exact ⟨_, if_pos hgood⟩

theorem execGearboxMeasurementDone_again (hbad : 1280 < rms) (hfew : (port s p).fails < 2) :
    execGearboxMeasurementDone p rms rx tx s = .next (gearAgain s p rx tx) := by
  unfold execGearboxMeasurementDone
  rw [if_neg (by simp [hq, hst])]
  exact (if_neg (not_le.2 hbad)).trans (if_pos hfew)

theorem execGearboxMeasurementDone_failed (hbad : 1280 < rms) (hmany : 2 ≤ (port s p).fails) : ∃ t : State, execGearboxMeasurementDone p rms rx tx s
    = .next (portSet (t.setB F.PORT_STATUS_cal_failed true p) p 3) := by
  unfold execGearboxMeasurementDone
  rw [if_neg (by simp [hq, hst])]
  extract_lets probed x queues taken delay good again queues' logged failed
  exact ⟨setPort logged p { x with fails := 0 }, (if_neg (not_le.2 hbad)).trans (if_neg (not_lt.2 hmany))⟩

end

section
variable {s : State} {v : Int}

theorem execProbeMeasurementDone_kept {n : Nat} (hlo : 3 ≤ n) (hhi : n ≤ 5) : execProbeMeasurementDone n v s = .next (setProbe s n v) := by
  unfold execProbeMeasurementDone
  rw [if_neg (by omega), if_neg (by omega)]

theorem execProbeMeasurementDone_two : execProbeMeasurementDone 2 v s = .next (probe2Done (setProbe s 2 v) v) := by
  unfold execProbeMeasurementDone
  rw [if_neg (by omega), if_pos rfl]

end

/-- Settles O32: each event by the equation of its meaning. -/
theorem portStatesAndProbesAct : Obligations.PortStatesAndProbesAct := by
  intro s p hp
  refine ⟨?_, ?_, ?_, ?_, ?_, ?_, ?_, ?_⟩
  · rintro v u rfl hwas hnow hreader
    exact execPortCfgWrite_enables hp hwas hnow hreader
  · intro hdown htherm
    refine ⟨execPortBlockLock_unready hp hdown htherm, fun href => ⟨_, execPortBlockLock_calibrates hp hdown htherm href, ?_, ?_⟩⟩
    · rw [port_setPort_same]
    · rw [setPort_fb, fb_setB_apart F.PORT_STATUS_ref_on_ap0 F.PORT_STATUS_cal_failed rfl (by decide) (by decide) (by decide) (by decide),
        fb_setB_same rfl (by decide)]
  · intro c hlo hhi htrains
    exact execPortLinkDown_eq hp hlo hhi htrains
  · intro ha hup hon hlost
    exact ⟨_, execPortRefSwitch_toAp0 hp ha hup hon hlost, fb_setB_same rfl (by decide)⟩
  · intro k rms rx tx hq hst
    refine ⟨fun hgood => ?_, fun hbad hfew => ⟨_, execGearboxMeasurementDone_again hq hst hbad hfew, gearAgain_fails, rfl⟩, fun hbad hmany => ?_⟩
    · obtain ⟨x, hx⟩ := execGearboxMeasurementDone_good (rx := rx) (tx := tx) hq hst hgood
      exact ⟨_, hx, (fb_congr (portLat_f (by decide) (by decide))).trans gearTaken_calFailed⟩
    · obtain ⟨t, ht⟩ := execGearboxMeasurementDone_failed (rx := rx) (tx := tx) hq hst hbad hmany
      exact ⟨_, ht, fb_setB_same rfl (by decide)⟩
  · intro hup
    exact ⟨execLpiEnter_receive hp hup, execLpiEnter_transmit hp hup⟩
  · exact ⟨execLpiWake_transmit hp, execLpiWake_receive hp⟩
  · intro n v
    exact ⟨execProbeMeasurementDone_kept, execProbeMeasurementDone_two⟩

end Sys2Proof.Machine

namespace Sys2Proof.Machine
open Sys2Proof

/-! ### Received frames (R213, R219) -/

section
variable {s u : State} {p : Nat} {f : RxFrame} (hp : p < 4) (hup : portState (advance s f.ticks) p = 3)
  (hu : u = portCount (portCount (advance s f.ticks) p 6 f.fecCorr) p 7 f.fecUncorr)
include hp hup hu

theorem execRxFrame_runt (hshort : f.length < 64) : execRxFrame p f s = .next (portCount u p 2 1) := by
  unfold execRxFrame
  rw [if_neg (by omega), ← hu]
  exact if_pos hshort

theorem execRxFrame_badFcs (hlong : 64 ≤ f.length) (hfits : f.length ≤ u.f F.PORT_MAXF_max_frame p) (hfcs : f.fcsOk = false) :
    execRxFrame p f s = .next (portCount u p 4 1) := by
  unfold execRxFrame
  rw [if_neg (by omega), ← hu]
  exact (if_neg (not_lt.2 hlong)).trans ((if_neg (not_lt.2 hfits)).trans (if_pos (.inl hfcs)))

/-- A frame that is neither a claim nor of a protocol of the device is delivered by class 4. -/
theorem execRxFrame_other (hlong : 64 ≤ f.length) (hfits : f.length ≤ u.f F.PORT_MAXF_max_frame p) (hfcs : f.fcsOk = true) (hfec : f.fecUncorr = 0)
    (hclaim : f.claim = false) (hkind : f.kind = .other) : execRxFrame p f s
      = .next (rxDeliver (portCount (portCount u p 0 1) p 1 f.length) p (steerClass .other) f.length false f.frac f.data) := by
  unfold execRxFrame
  rw [if_neg (by omega), ← hu, hkind]
  exact (if_neg (not_lt.2 hlong)).trans ((if_neg (not_lt.2 hfits)).trans ((if_neg (by simp [hfcs, hfec])).trans (if_neg (by simp [hclaim]))))

end

/-! ### Transmit chains (R214, R216, R222, R315, R316, R317) -/

section
variable {s v : State} {p r k n : Nat} {c : List TxDesc} (hv : v = advance s k) (hr : r < 64) (htype : ringType v r = 2) (hstate : ringState v r = 1)
  (hrun : v.f F.PWR_RUN_run_state ≠ 4) (hchain : firstChain (ring v r).txq = some c) (hport : v.f F.HOST_RING_CFG_port r = p)
include hv hr htype hstate hrun hchain hport

theorem execTxdChain_refuses (hcount : chainCount v p (v.f F.HOST_RING_CFG_tx_offload r) c = none) :
    execTxdChain r k s = .next (chainDone v r c .badArg 0 0) := by
  subst hv
  simp only [execTxdChain, hchain, hport, hcount]
  exact if_neg (by omega)

theorem execTxdChain_sends {i : Nat} (hcount : chainCount v p (v.f F.HOST_RING_CFG_tx_offload r) c = some n) (hup : portState v p ≠ 0)
    (hready : txdReady v p = some (r, c, n, i)) : execTxdChain r k s = .next (txdSend v p r c n i) := by
  subst hv
  simp only [execTxdChain, hchain, hport, hcount, hready]
  exact (if_neg (by omega)).trans ((if_neg hup).trans (congrArg _ (if_pos trivial)))

end

section
variable {s : State} {p r n i : Nat} {c : List TxDesc}

/-- The frame that goes next is that of the ring whose turn it is, once the port is awake and the rate cap lets it out. -/
theorem txdReady_of_turn (hup : 2 ≤ portState s p) (hawake : s.fb F.PORT_STATUS_lpi_tx p = false) (hrun : s.f F.PWR_RUN_run_state ≠ 4)
    (hbus : s.fb F.HOST_STATUS_bus_master = true) (hturn : txdTurn s p = some r) (hchain : firstChain (ring s r).txq = some c)
    (hcount : chainCount s p (s.f F.HOST_RING_CFG_tx_offload r) c = some n) (hi : i = tget (port s p).segs 0 r)
    (hcap : txAllowed s p ((chainFrame (s.f F.HOST_RING_CFG_tx_offload r) n c i).length + 4) = true) :
    txdReady s p = some (r, c, n, i) := by
  subst hi
  unfold txdReady
  rw [if_neg (by simp [hawake, hrun, hbus]; omega)]
  simp only [hturn, hchain, hcount]
  exact if_pos hcap

theorem portCount_lastTxd {q m : Nat} : (port (portCount s p q m) p).lastTxd = (port s p).lastTxd := by
  rw [portCount, port_setPort_same]

theorem txSpend_lastTxd {m : Nat} : (port (txSpend s p m) p).lastTxd = (port s p).lastTxd := by
  rw [txSpend, port_setPort_same]

/-- The last frame of a chain goes out and completes the chain. -/
theorem txdSend_last (hlast : n ≤ i + 1) : ∃ u, txdSend s p r c n i
      = chainDone u r c .ok (chainBytes (s.f F.HOST_RING_CFG_tx_offload r) n c) n
    ∧ .hostFrame p r (chainFrame (s.f F.HOST_RING_CFG_tx_offload r) n c i) ∈ u.out ∧ (port u p).lastTxd = r := by
  unfold txdSend
  extract_lets ofl f x want queued spent counted cut out
  refine ⟨out, if_neg (not_lt.2 hlast), List.mem_cons_self, ?_⟩
  have hqueued : (port queued p).lastTxd = r := congrArg PortSt.lastTxd (port_setPort_same ..)
  have hcounted : (port counted p).lastTxd = r := portCount_lastTxd.trans (portCount_lastTxd.trans (txSpend_lastTxd.trans hqueued))
  have hcut : (port cut p).lastTxd = r := by
    unfold cut
    split
    · exact portCount_lastTxd.trans hcounted
    · exact hcounted
  exact hcut

end

/-! ### Transmit timestamps (R217, R218) -/

theorem execTxTimestamp_stamps {s : State} {p k frac i : Nat} {l : List Nat} (hstamps : (port (advance s k) p).stamps = i :: l) :
    ∃ x, execTxTimestamp p k frac s
      = .next (sentTo (txtsPut (setPort (advance s k) p { port (advance s k) p with stamps := l }) p ⟨i, true, x⟩) x.ts (.txq p)) := by
  simp only [execTxTimestamp, hstamps]
  exact ⟨_, rfl⟩

theorem execTxTimestampDrain_writes {s : State} {p : Nat} {e : TxStamp} {l : List TxStamp} (htxts : (port s p).txts = e :: l)
    (hen : cplEnabled s (s.f F.PORT_TXTS_CFG_ring p) = true) (hroom : 0 < cplRoom s (s.f F.PORT_TXTS_CFG_ring p))
    (hbus : s.fb F.HOST_STATUS_bus_master = true) : ∃ x, execTxTimestampDrain p s
      = .next (cplWrite ((setPort s p { port s p with txts := l }).setF F.PORT_TXTS_STATUS_fill l.length p) (s.f F.PORT_TXTS_CFG_ring p) x) := by
  simp only [execTxTimestampDrain, htxts]
  exact ⟨_, if_pos (by simp [hen, hroom, hbus])⟩

/-! ### Deliveries (R318, R320, R321) -/

section
variable {s : State} {r : Nat}

theorem execRxdDelivery_none (hnone : stagedFront (stageRing s r) r = none) : execRxdDelivery r s = .next (stageRing s r) := by
  simp only [execRxdDelivery, hnone]

theorem execRxdDelivery_completes {k : Nat} {x : StagedFrame} (hfront : stagedFront (stageRing s r) r = some k)
    (hx : (stageRing s r).host.staged[k]? = some x) (hall : x.length ≤ stagedWritten x) : execRxdDelivery r s
      = .next (rxComplete { stageRing s r with
          host := { (stageRing s r).host with staged := (stageRing s r).host.staged.eraseIdx k } } x) := by
  simp only [execRxdDelivery, hfront, hx]
  exact if_neg (not_lt.2 hall)

/-- A frame at the front of the staging queue that has waited its time is dropped. -/
theorem execRxStarveTimeout_drops {x : StagedFrame} {l : List StagedFrame} {w : Nat} (hstaged : s.host.staged = x :: l) (hring : x.ring = r)
    (hwait : x.waiting = some w) (hpast : w + s.f F.HOST_RX_STARVE_wait * 625 ≤ s.ticks) :
    execRxStarveTimeout r s = .next (stageRing (stageDrop s 0) r) := by
  unfold execRxStarveTimeout
  rw [List.find?_range_eq_some.2 ⟨?_, ?_, ?_⟩]
  · simp [hstaged, hring, hwait, hpast]
  · simp [hstaged]
  · intro j hj
    exact absurd hj (Nat.not_lt_zero j)

end

/-! ### ESMC (R225, R226) -/

section
variable {s : State} {p : Nat} (hp : p < 4)
include hp

/-- The level sent is that of the state before: the tokens that the PDU spends are no part of it. -/
theorem execEsmcSend_sends (hen : s.fb F.PORT_CFG_esmc_en p = true) (hup : portState s p = 3) (hmac : portMac s p ≠ 0)
    (hawake : s.fb F.PORT_STATUS_lpi_tx p = false) (hcap : txAllowed s p esmcBytes = true) : ∃ e, execEsmcSend p s
      = .next (((txSpend s p esmcBytes).setF F.PORT_ESMC_STATUS_tx_ql (esmcQl s p) p).emit e) := by
  have hstay : portAwake s p = s := if_neg (ne_true_of_eq_false hawake)
  have hql : esmcQl (txSpend s p esmcBytes) p = esmcQl s p := rfl
  unfold execEsmcSend
  rw [if_neg (by simp [hen, hup, hmac, hcap]; omega), hstay]
  extract_lets u q ev
  have hq : q = esmcQl s p := hql
  exact ⟨_, by rw [hq]⟩

theorem execEsmcRxTimeout_fails (hvalid : s.fb F.PORT_ESMC_STATUS_rx_valid p = true) : execEsmcRxTimeout p s
    = .next ((s.setB F.PORT_ESMC_STATUS_rx_valid false p).setB F.PORT_ESMC_STATUS_rx_failed true p) :=
  if_neg (by simp [hvalid]; omega)

end

/-- Settles O33: each act by the equation of its meaning; a chain that is sent by the frame whose turn it is. -/
theorem portFramesAct : Obligations.PortFramesAct := by
  intro s p hp
  refine ⟨?_, ?_, ?_, ?_, ?_, ?_, ?_, ?_, ?_, ?_⟩
  · intro f u hu hup
    exact ⟨execRxFrame_runt hp hup hu, execRxFrame_badFcs hp hup hu, execRxFrame_other hp hup hu⟩
  · intro r c n i k v hv hr htype hstate hrun hchain hport hcount hup hawake hbus hturn hi hcap
    have hready := txdReady_of_turn (by omega) hawake hrun hbus hturn hchain hcount hi hcap
    exact ⟨execTxdChain_sends hv hr htype hstate hrun hchain hport hcount (by omega) hready, txdSend_last⟩
  · intro r c k v hv hr htype hstate hrun hchain hport hcount
    exact execTxdChain_refuses hv hr htype hstate hrun hchain hport hcount
  · intro k frac i l hstamps
    exact execTxTimestamp_stamps hstamps
  · intro e l htxts hen hroom hbus
    obtain ⟨x, hx⟩ := execTxTimestampDrain_writes htxts hen hroom hbus
    exact ⟨_, x, hx, congrArg PortSt.txts (port_setPort_same ..)⟩
  · intro r hnone
    exact execRxdDelivery_none hnone
  · intro r k x hfront hx hall
    exact ⟨_, execRxdDelivery_completes hfront hx hall, rfl⟩
  · intro r x l w hstaged hring hwait hpast
    exact execRxStarveTimeout_drops hstaged hring hwait hpast
  · intro hen hup hmac hawake hcap
    obtain ⟨e, he⟩ := execEsmcSend_sends hp hen hup hmac hawake hcap
    exact ⟨_, he, f_setF_same _ F.PORT_ESMC_STATUS_tx_ql _ _ _ (by decide) (by decide)⟩
  · intro hvalid
    refine ⟨_, execEsmcRxTimeout_fails hp hvalid, ?_, fb_setB_same rfl (by decide)⟩
    rw [fb_setB_apart F.PORT_ESMC_STATUS_rx_failed F.PORT_ESMC_STATUS_rx_valid rfl (by decide) (by decide) (by decide) (by decide),
      fb_setB_same rfl (by decide)]

end Sys2Proof.Machine

namespace Sys2Proof.Machine
open Sys2Proof

/-! ### Instances, their ports and the client table (R238, R246, R247) -/

section
variable {s t : State} {i p : Nat}

theorem ptp_congr (h : t.ptp = s.ptp) (i : Nat) : ptp t i = ptp s i := by rw [ptp, h, ptp]

@[simp] theorem ptp_setPtp_same (s : State) (i : Nat) (x : PtpInst) : ptp (setPtp s i x) i = x := tget_tset_same ..

@[simp] theorem ptpPort_setPtpPort_same (s : State) (i p : Nat) (x : PtpPort) : ptpPort (setPtpPort s i p x) i p = x := by
  rw [ptpPort, setPtpPort, ptp_setPtp_same, tget_tset_same]

@[simp] theorem setPtpState_ptp (s : State) (i p st : Nat) : (setPtpState s i p st).ptp = s.ptp := by
  unfold setPtpState lpiCheck
  split
  · rfl
  · rfl

/-- A port that may not send as master sends no CANCEL. -/
theorem sendCancels_of_not_may {g : Grant} (hmay : ptpMasterMay s g.inst g.port = false) : sendCancels s g = s :=
  foldl_fixed_of_mem fun k _ => if_neg (by simp [hmay])

end

/-! ### The commands of the PTP service (R246, R249, R254) -/

section
variable {s : State} {h : CmdHdr} (hm : h.mbz = true)
include hm

theorem execPtpClientFind_answers {a : PtpFindArgs} {e : Nat} {g : Grant} (htr : a.transport ≤ 2) (hon : ptpOn s a.inst = true)
    (hfind : findGrant s a.inst a.port a.addr a.pid = some (e, g)) (hg : g.transport = a.transport) :
    execPtpClientFind h a s = .next (complete s h 0x40 .ok [(0, 4, e)]) := by
  unfold execPtpClientFind
  rw [if_neg (by simp [hm]; omega), if_neg (by simp [hon]), hfind]
  exact congrArg _ (if_pos hg)

theorem execPtpClientCancel_removes {e : Nat} {g : Grant} (he : e < 65536) (hclient : clientAt s e = some (.grant g)) :
    execPtpClientCancel h e s = .next (complete (setClient (sendCancels s g) e none) h 0x41 .ok
      [(0, 1, ((List.range 3).filter (fun k => liveType s g k)).length)]) := by
  unfold execPtpClientCancel
  rw [if_neg (by simp [hm]; omega), hclient]

theorem execPtpParentRead_answers {i : Nat} {f : Foreign} (hon : ptpOn s i = true) (hparent : (ptp s i).parent = some f) :
    ∃ p, execPtpParentRead h i s = .next (complete s h 0x44 .ok p)
      ∧ p.head? = some (0, 8, netOrder 8 f.ann.gm) ∧ (20, 4, f.ann.claim.getD 0) ∈ p := by
  unfold execPtpParentRead
  rw [if_neg (by simp [hm]), if_neg (by simp [hon])]
  simp only [hparent]
  exact ⟨_, rfl, rfl, by simp⟩

section
variable (hiso : s.log.isolated.contains 2 = false)
include hiso

theorem execPtpKeyRoll_rolls {i : Nat} (hon : ptpOn s i = true) (hauth : s.fb F.PTP_INST_CFG_auth_en i = true)
    (hkey : handleIs s (ptpKey s i (1 - s.f F.PTP_INST_AUTH_active i)) 4 = true) :
    execPtpKeyRoll h i s = .next (complete (s.setF F.PTP_INST_AUTH_active (1 - s.f F.PTP_INST_AUTH_active i) i) h 0x42 .ok
      [(0, 1, 1 - s.f F.PTP_INST_AUTH_active i)]) := by
  unfold execPtpKeyRoll
  rw [if_neg (by simp [hm]), if_neg (ne_true_of_eq_false hiso), if_neg (by simp [hon]), if_neg (by simp [hauth])]
  exact if_neg (by simp [hkey])

/-- PTP_UMASTER with operation 0 removes the master of a slot in use. -/
theorem execPtpUmaster_removes {a : UmasterArgs} (hon : ptpOn s a.inst = true) (huni : s.fb F.PTP_INST_CFG_unicast a.inst = true)
    (hrole : ptpRole s a.inst ≠ 0) (hslot : a.slot ≤ 7) (hop : a.op = 0)
    (hused : (tget (ptp s a.inst).umasters none a.slot).isSome = true) :
    ∃ p, execPtpUmaster h a s = .next (complete
      (setPtp s a.inst { ptp s a.inst with umasters := tset (ptp s a.inst).umasters a.slot none }) h 0x43 .ok p) := by
  have hpass : ¬(s.fb F.PTP_INST_CFG_unicast a.inst = false ∨ ptpRole s a.inst = 0 ∨ 7 < a.slot ∨ 1 < a.op
      ∨ (a.op = 1 ∧ ptpHas s a.inst a.port = false)) := by
    simp [huni, hrole, hslot, hop]
  unfold execPtpUmaster
  rw [if_neg (by simp [hm]), if_neg (ne_true_of_eq_false hiso), if_neg (by simp [hon]), if_neg hpass]
  simp only [hop]
  exact ⟨_, if_neg (by simp [Option.isNone_eq_false_iff.2 hused])⟩

end

end

/-- Settles O35: the checks of each command pass, and what is left is its effect. -/
theorem ptpCommandsTakeEffect : Obligations.PtpCommandsTakeEffect := by
  intro s h hm hiso
  refine ⟨?_, ?_, ?_, ?_, ?_⟩
  · intro a e g htr hon hfind hg
    exact execPtpClientFind_answers hm htr hon hfind hg
  · intro e g he hclient
    exact ⟨_, execPtpClientCancel_removes hm he hclient, sendCancels_of_not_may⟩
  · intro i hon hauth hkey
    exact execPtpKeyRoll_rolls hm hiso hon hauth hkey
  · intro a hon huni hrole hslot hop hused
    obtain ⟨p, hp⟩ := execPtpUmaster_removes hm hiso hon huni hrole hslot hop hused
    exact ⟨_, p, hp, rfl⟩
  · intro i f hon hparent
    exact execPtpParentRead_answers hm hon hparent

end Sys2Proof.Machine

namespace Sys2Proof.Machine
open Sys2Proof

/-! ### The writes of PTP_INST_CFG that start and stop (R229, R230, R238, R246) -/

section
variable {s t : State} {i : Nat} {v : Word} (hi : i < 4) (ht : t = regWrite s ⟨.PTP_INST_CFG, i, 0⟩ v)
include hi ht

section
variable (hoff : ptpOn s i = false) (hon : ptpOn t i = true)
include hoff hon

theorem execPtpInstEnable_refuses (herr : ptpCfgErr t i ≠ 0) : execPtpInstEnable i v s
    = .next (violation ((t.setB F.PTP_INST_CFG_enable false i).setF F.PTP_INST_INFO_cfg_err (ptpCfgErr t i) i)) := by
  unfold execPtpInstEnable
  rw [if_neg (by omega), ← ht]
  exact (if_pos (by simp [hoff, hon])).trans (if_pos herr)

/-- The states that the ports take at a start are registers: what no register holds is as from reset, but for the unicast masters. -/
theorem execPtpInstEnable_starts (hok : ptpCfgErr t i = 0) :
    ∃ u, execPtpInstEnable i v s = .next u ∧ ptp u i = { PtpInst.reset with umasters := (ptp t i).umasters } := by
  unfold execPtpInstEnable
  rw [if_neg (by omega), ← ht]
  refine ⟨_, (if_pos (by simp [hoff, hon])).trans (if_neg (not_not_intro hok)), ?_⟩
  exact (ptp_congr (foldl_keeps State.ptp _ (fun _ _ => setPtpState_ptp ..) _ _) i).trans (ptp_setPtp_same ..)

end

theorem execPtpInstEnable_stops (hon : ptpOn s i = true) (hoff : ptpOn t i = false) :
    ∃ u x, execPtpInstEnable i v s = .next
      (((setPtp u i { PtpInst.reset with umasters := x }).setF F.PTP_INST_STATUS_port_state 0 i).setF F.PTP_INST_INFO_l1sync 0 i) := by
  unfold execPtpInstEnable
  rw [if_neg (by omega), ← ht]
  exact ⟨_, _, (if_neg (by simp [hon])).trans (if_pos (by simp [hon, hoff]))⟩

end

/-! ### Messages received, the BMCA, L1_SYNC and the grants (R231, R237, R238, R246, R249) -/

section
variable {s : State} {i p : Nat}

section
variable {m : PtpMsg} {u : State} (hu : u = perf (advance s m.ticks) 0x0010 p) (hclaim : ptpClaims (advance s m.ticks) i p m = true)
  (hmute : muted (advance s m.ticks) = false)
include hu hclaim hmute

theorem execPtpMessageReceive_claimed : execPtpMessageReceive i p m s
    = if !ptpAccepts u i m then .next (u.inc .PTP_AUTH_FAIL i) else .next (ptpProcess u i p m) := by
  subst hu
  exact if_neg (by simp [hclaim, hmute])

theorem execPtpMessageReceive_fails (hacc : ptpAccepts u i m = false) : execPtpMessageReceive i p m s = .next (u.inc .PTP_AUTH_FAIL i) := by
  rw [execPtpMessageReceive_claimed hu hclaim hmute, if_pos (by simp [hacc])]

theorem execPtpMessageReceive_processes (hacc : ptpAccepts u i m = true) : execPtpMessageReceive i p m s = .next (ptpProcess u i p m) := by
  rw [execPtpMessageReceive_claimed hu hclaim hmute, if_neg (by simp [hacc])]

end

theorem execBmcaRun_runs (hon : ptpOn s i = true) : execBmcaRun i s = .next (bmca s i) := congrArg _ (if_pos hon)

theorem execAnnounceReceiptTimeout_forgets {pid : Nat} (hon : ptpOn s i = true) : execAnnounceReceiptTimeout i p pid s
    = .next (bmca (setPtp s i { ptp s i with foreign := (ptp s i).foreign.filter (fun f => !(f.port == p && f.pid == pid)) }) i) :=
  if_neg (by simp [hon])

theorem execL1SyncSend_sends (hprofile : ptpProfile s i = 2) (hmay : ptpMaySend s i p = true) (hst : ptpPortState s i p ≠ 4) :
    execL1SyncSend i p s = .next (l1Report (ptpSend
      (setPtpPort s i p { ptpPort s i p with l1Age := (ptpPort s i p).l1Age + 1, seqG := ((ptpPort s i p).seqG + 1) % 65536 }) i p 50 "Signaling"
      [("L1_SYNC", bit (l1Own s i p).tcr + 2 * bit (l1Own s i p).rcr + 4 * bit (l1Own s i p).cr)]) i) :=
  if_neg (by simp [hprofile, hmay, hst])

section
variable {e k : Nat} {g : Grant} (hclient : clientAt s e = some (.grant g))
include hclient

theorem execGrantExpiry_expires (hk : k < 3) (htype : g.types.testBit k = true) (hlive : liveType s g k = false) :
    execGrantExpiry e k s = .next (putGrant s e (withoutType g k)) := by
  simp only [execGrantExpiry, hclient]
  exact congrArg _ (if_pos (by simp [hk, htype, hlive]))

theorem execGrantExpiry_early (hlive : liveType s g k = true) : execGrantExpiry e k s = .next s := by
  simp only [execGrantExpiry, hclient]
  exact congrArg _ (if_neg (by simp [hlive]))

end

theorem execUnicastRenew_requests {slot k : Nat} (hk : k < 3) (hon : ptpOn s i = true) (huni : s.fb F.PTP_INST_CFG_unicast i = true)
    (hrole : ptpRole s i ≠ 0) (hdue : renewDue s i slot k = true) : execUnicastRenew i slot k s = .next (uniRequest s i slot k) :=
  congrArg _ (if_pos (by simp [hk, hon, huni, hrole, hdue]))

end

/-- Settles O36: each act by the equation of its meaning. The clause of L1_SYNC rests on the machine that notes/assumptions/20.md presumes. -/
theorem ptpInstancesAct : Obligations.PtpInstancesAct := by
  intro s i hi
  refine ⟨?_, ?_, ?_, ?_, ?_, ?_, ?_⟩
  · intro v t ht hoff hon
    refine ⟨execPtpInstEnable_refuses hi ht hoff hon, fun hok => ?_⟩
    obtain ⟨u, hu, hx⟩ := execPtpInstEnable_starts hi ht hoff hon hok
    refine ⟨u, hu, ?_⟩
    rw [hx]
    exact ⟨rfl, rfl, rfl⟩
  · intro v hon hoff
    obtain ⟨u, x, hu⟩ := execPtpInstEnable_stops hi rfl hon hoff
    refine ⟨_, hu, ?_, ?_⟩
    · rw [f_setF_name _ _ _ _ _ _ _ _ (by decide), f_setF_same _ _ _ _ _ (by decide) (by decide), Nat.zero_mod]
    · exact congrArg PtpInst.foreign (ptp_setPtp_same ..)
  · intro p m u hu hclaim hmute
    exact ⟨execPtpMessageReceive_fails hu hclaim hmute, execPtpMessageReceive_processes hu hclaim hmute⟩
  · intro hon
    exact ⟨execBmcaRun_runs hon, fun p pid => execAnnounceReceiptTimeout_forgets hon⟩
  · intro p hprofile hmay hst
    refine ⟨_, execL1SyncSend_sends hprofile hmay hst, ?_⟩
    rw [ptpPort_setPtpPort_same]
  · intro e g k hclient hk htype
    exact ⟨execGrantExpiry_expires hclient hk htype, execGrantExpiry_early hclient⟩
  · intro slot k hk hon huni hrole hdue
    exact execUnicastRenew_requests hk hon huni hrole hdue

end Sys2Proof.Machine

namespace Sys2Proof.Machine
open Sys2Proof

/-! ### The messages of an interval (R233, R234, R239, R248, R252) -/

section
variable {s u : State} {k : Nat} (i p frac : Nat) (hu : u = advance s k)
include hu

section
variable (hmay : ptpMasterMay u i p = true) (huni : u.fb F.PTP_INST_CFG_unicast i = false)
include hmay huni

theorem execPtpPeriodicSend_announce : execPtpPeriodicSend i p .announce k frac true s
    = .next (ptpSend (setPtpPort u i p { ptpPort u i p with seqA := ((ptpPort u i p).seqA + 1) % 65536 }) i p 102 "Announce"
      (("sequenceId", ((ptpPort u i p).seqA : Int)) :: announceFields u i p)) := by
  subst hu
  exact if_neg (by simp [hmay, huni])

theorem execPtpPeriodicSend_sync_noRoom : execPtpPeriodicSend i p .sync k frac false s = .next (u.inc .PTP_SYNC_SKIP i) := by
  subst hu
  exact (if_neg (by simp [hmay, huni])).trans (if_pos rfl)

theorem execPtpPeriodicSend_sync : execPtpPeriodicSend i p .sync k frac true s
    = .next (sendSync (setPtpPort u i p { ptpPort u i p with seqS := ((ptpPort u i p).seqS + 1) % 65536 }) i p frac (ptpPort u i p).seqS none) := by
  subst hu
  exact (if_neg (by simp [hmay, huni])).trans (if_neg (by decide))

end

section
variable {e : Nat} {g : Grant} {t : Int} (hclient : clientAt u e = some (.grant g))
include hclient

section
variable (hmay : ptpMasterMay u g.inst g.port = true)
include hmay

theorem execPtpPeriodicSend_clientAnnounce (hlive : liveType u g 0 = true) (hdue : clientDue u g.inst e g.logA g.sentA = some t) :
    execPtpPeriodicSend i p (.clientAnnounce e) k frac true s =
      let v := setClient u e (some (.grant { g with seqA := (g.seqA + 1) % 65536, sentA := some t }))
      .next (ptpSend v g.inst g.port 102 "Announce" (("sequenceId", (g.seqA : Int)) :: announceFields v g.inst g.port) g.vlan false
        (some (g.addr, g.mac))) := by
  subst hu
  simp only [execPtpPeriodicSend, hclient, hdue]
  exact if_neg (by simp [hmay, hlive])

theorem execPtpPeriodicSend_clientSync (hlive : liveType u g 1 = true) (hdue : clientDue u g.inst e g.logS g.sentS = some t) :
    execPtpPeriodicSend i p (.clientSync e) k frac true s
      = .next (sendSync (setClient u e (some (.grant { g with seqS := (g.seqS + 1) % 65536, sentS := some t }))) g.inst g.port frac g.seqS
        (some (e, g))) := by
  subst hu
  simp only [execPtpPeriodicSend, hclient, hdue]
  exact (if_neg (by simp [hmay, hlive])).trans (if_neg (by decide))

end

theorem execPtpPeriodicSend_clientSync_notDue (hnone : clientDue u g.inst e g.logS g.sentS = none) :
    execPtpPeriodicSend i p (.clientSync e) k frac true s = .next u := by
  subst hu
  simp only [execPtpPeriodicSend, hclient, hnone]
  exact ite_self _

end

end

/-! ### Follow_Ups and the answers to requests (R233, R234, R252) -/

theorem execFollowUpSend_sends {s : State} {i p q : Nat} {t : Int} {r : List (Nat × Int × Option Nat)}
    (hfu : (ptpPort s i p).fu = (q, t, none) :: r) (hmay : ptpMasterMay (setPtpPort s i p { ptpPort s i p with fu := r }) i p = true) :
    execFollowUpSend i p s = .next (ptpSend (setPtpPort s i p { ptpPort s i p with fu := r }) i p 44 "Follow_Up"
      [("sequenceId", (q : Int)), ("origin", stampNs t), ("correction", stampFrac t)]) := by
  simp only [execFollowUpSend, hfu]
  exact if_neg (by simp [hmay])

section
variable {s u : State} {i k frac : Nat} {r : PtpReq} {rest : List PtpReq} (hreqs : (ptp (advance s k) i).reqs = r :: rest)
  (hu : u = setPtp (advance s k) i { ptp (advance s k) i with reqs := rest })
include hreqs hu

theorem execDelayRespSend_late : execDelayRespSend i k frac false s = .next (perf (u.inc .PTP_REQ_DROP i) 0x0015 r.port) := by
  subst hu
  simp only [execDelayRespSend, hreqs]
  exact if_pos rfl

theorem execDelayRespSend_answers (hmay : ptpMaySend u i r.port = true) (hst : ptpPortState u i r.port = 4)
    (hperm : u.fb F.RAN_STATUS_permission = true) (hpeer : r.peer = false) :
    execDelayRespSend i k frac true s = .next (ptpSend u i r.port 54 "Delay_Resp" [("sequenceId", r.seq), ("requesting", r.pid),
      ("receive", stampNs r.t), ("correction", r.corr / 2 ^ 32 - stampFrac r.t)] (replyTo u i r).1 false (replyTo u i r).2) := by
  subst hu
  simp only [execDelayRespSend, hreqs]
  exact (if_neg (by decide)).trans ((if_neg (by simp [hmay, hperm])).trans ((if_neg (ne_true_of_eq_false hpeer)).trans (if_neg (not_not_intro hst))))

end

/-! ### The link delay of peer-delay operation (R235) -/

theorem portMpd_of_delays {x : PtpPort} (h : x.delays ≠ []) : portMpd x = some (meanInt x.delays) := if_neg (by simpa using h)

/-- An exchange without a Sync enters half its round trip into the filter of the port. -/
theorem execSlaveExchange_peerDelay {s : State} {i p q : Nat} {t3 t4 : Int} (hon : ptpOn s i = true) (hprofile : ptpProfile s i = 1)
    (hsync : (ptpPort s i p).sync = none) (hreq : (ptpPort s i p).req = some (q, t3, true)) (hresp : (ptpPort s i p).resp = some t4) :
    ∃ t, execSlaveExchange i p s = .next t ∧ (ptpPort t i p).delays
      = (((t4 - t3) / 2 * 1000 / 2 ^ 48) :: (ptpPort s i p).delays).take (2 ^ s.f F.PTP_INST_CFG_delay_filt i) := by
  simp only [execSlaveExchange, hprofile, hsync, hreq, hresp]
  refine ⟨_, if_neg (by simp [hon]), ?_⟩
  split
  · exact congrArg PtpPort.delays (ptpPort_setPtpPort_same s i p _)
  · exact congrArg PtpPort.delays (ptpPort_setPtpPort_same s i p _)

/-- Settles O37: each message by the equation of its meaning; the exchange by the filter that it enters its delay into. -/
theorem ptpMessagesAreSent : Obligations.PtpMessagesAreSent := by
  intro s i p
  refine ⟨?_, ?_, ?_, ?_, ?_⟩
  · intro k frac u hu hmay huni
    exact ⟨execPtpPeriodicSend_announce i p frac hu hmay huni, execPtpPeriodicSend_sync_noRoom i p frac hu hmay huni,
      execPtpPeriodicSend_sync i p frac hu hmay huni⟩
  · intro k frac u e g t hu hclient hmay
    exact ⟨execPtpPeriodicSend_clientAnnounce i p frac hu hclient hmay, execPtpPeriodicSend_clientSync i p frac hu hclient hmay,
      execPtpPeriodicSend_clientSync_notDue i p frac hu hclient⟩
  · intro q t r hfu hmay
    exact execFollowUpSend_sends hfu hmay
  · intro k frac r rest u hreqs hu
    exact ⟨execDelayRespSend_late hreqs hu, execDelayRespSend_answers hreqs hu⟩
  · intro t4 q t3 hon hprofile hsync hreq hresp
    obtain ⟨t, ht, hdelays⟩ := execSlaveExchange_peerDelay hon hprofile hsync hreq hresp
    have hheld : (ptpPort t i p).delays ≠ [] := by simp [hdelays]
    exact ⟨t, ht, (portMpd_of_delays hheld).trans (by rw [hdelays])⟩

end Sys2Proof.Machine

namespace Sys2Proof.Machine
open Sys2Proof

/-! ### The queue of waiting commands (R323) -/

/-- Settles O6: a command evolves the state, and nothing that evolves it touches the queue. -/
theorem execKeepsTheQueue : Obligations.ExecKeepsTheQueue := by
  intro c s t h
  have hevolves : Evolves s t := (Evolves.refl s).exec.of_eq h
  exact hevolves.pending

theorem step_of_pending {s : State} {c : Instr} {rest : List Instr} (h : s.pending = c :: rest) : step s = exec c { s with pending := rest } := by
  rw [step, h]

/-- Settles O1: the step takes the queue apart. -/
theorem stepRunsTheFrontCommand : Obligations.StepRunsTheFrontCommand := fun _ _ _ h => step_of_pending h

end Sys2Proof.Machine

namespace Sys2Proof.Machine
open Sys2Proof

/-! ### The admin commands, NOP and ABORT (R306, R311, R326, R327) -/

section
variable {s : State} {r : Nat} {f : Fetched} {rest : List Fetched} (hfetched : (ring s r).fetched = f :: rest) (hheld : commitHeld s r f = false)
include hfetched hheld

/-- A fetched command that is not held reaches its commit point: an admin opcode is refused on every ring but 0, and any other takes effect. -/
theorem execCommandCommit_commits : execCommandCommit r s
    = if adminOnly f.cmd.opcode && r != 0 then .next (badArg (perf (setRing s r { ring s r with fetched := rest }) 0x0001 r) f.hdr f.cmd.opcode)
      else hostCmd f.hdr f.cmd (perf (setRing s r { ring s r with fetched := rest }) 0x0001 r) := by
  simp only [execCommandCommit, hfetched]
  exact if_neg (ne_true_of_eq_false hheld)

theorem execCommandCommit_refuses (hadmin : adminOnly f.cmd.opcode = true) (hr : r ≠ 0) : execCommandCommit r s
    = .next (badArg (perf (setRing s r { ring s r with fetched := rest }) 0x0001 r) f.hdr f.cmd.opcode) := by
  rw [execCommandCommit_commits hfetched hheld, if_pos (by simp [hadmin, hr])]

theorem execCommandCommit_runs (h : adminOnly f.cmd.opcode = false ∨ r = 0) : execCommandCommit r s
    = hostCmd f.hdr f.cmd (perf (setRing s r { ring s r with fetched := rest }) 0x0001 r) := by
  rw [execCommandCommit_commits hfetched hheld, if_neg (by rcases h with h | h <;> simp [h])]

end

section
variable {s : State} {h : CmdHdr}

section
variable (hr : h.ring ≠ 0)
include hr

theorem execRingStop_badRing {n : Nat} : execRingStop h n s = .next (badArg s h 0x02) := if_pos (.inr hr)
theorem execRunState_badRing {n : Nat} : execRunState h n s = .next (badArg s h 0x03) := if_pos (.inr (.inl hr))
theorem execProfileSet_badRing {n : Nat} : execProfileSet h n s = .next (badArg s h 0x04) := if_pos (.inr (.inl hr))
theorem execGovPermit_badRing {n : Nat} : execGovPermit h n s = .next (badArg s h 0x05) := if_pos (.inr hr)

end

section
variable (hm : h.mbz = true)
include hm

theorem execNop_answers : execNop h s = .next (complete s h 0x00 .ok [(0, 1, s.f F.PWR_RUN_run_state)]) := congrArg _ (if_pos hm)

section
variable {a : AbortArgs} (hr : a.ring < 64) (htype : ringType s a.ring = 0) (hstate : ringState s a.ring = 1)
include hr htype hstate

theorem execAbort_notFound (htarget : abortTarget s a.ring a.tag = .none) : execAbort h a s = .next (complete s h 0x01 .notFound []) := by
  unfold execAbort abortRun
  rw [if_neg (by simp [hm, htype, hstate]; omega), htarget]

/-- ABORT of a command before its commit point: it leaves its ring and completes first. -/
theorem execAbort_fetched {q : CmdHdr} {op : Nat} (htarget : abortTarget s a.ring a.tag = .fetched q op) : execAbort h a s
    = .next (complete (complete (setRing s a.ring
        { ring s a.ring with fetched := dropFirst (fun f => f.hdr.tag == a.tag) (ring s a.ring).fetched }) q op .aborted []) h 1 .ok [(0, 1, op), (1, 1, 1)]) := by
  unfold execAbort abortRun
  rw [if_neg (by simp [hm, htype, hstate]; omega), htarget]

end

end

end

/-- Settles O54: the commit point and each admin command look at the ring before anything else; a completion writes nothing but the host rings. -/
theorem adminAndUnassignedOpcodes : Obligations.AdminAndUnassignedOpcodes := by
  refine ⟨?_, ?_, ?_, ?_⟩
  · intro s r f rest hr hfetched hheld hlo hhi
    exact execCommandCommit_refuses hfetched hheld (by simp [adminOnly]; omega) hr
  · intro s h n hr
    exact ⟨execRingStop_badRing hr, execRunState_badRing hr, execProfileSet_badRing hr, execGovPermit_badRing hr⟩
  · intro s h hm
    exact ⟨execNop_answers hm, fun a hr htype hstate htarget => execAbort_notFound hm hr htype hstate htarget⟩
  · intro s h op
    exact ⟨rfl, fun hr => ⟨(onlyHost_badArg hr).regs, onlyHost_badArg hr⟩⟩

end Sys2Proof.Machine

namespace Sys2Proof.Machine
open Sys2Proof

/-! ### RING_STOP, RUN_STATE, PROFILE_SET and step permits (R306, R327, R381, R382, R415, R422) -/

theorem permitLapse_ticks (s : State) (n : Nat) : (permitLapse s n).ticks = s.ticks := by
  unfold permitLapse
  split
  · split
    · exact logEvent_ticks ..
    · rfl
  · rfl

theorem permitLapse_f (s : State) (n : Nat) {d : Fld} (hd : d.reg ≠ .TS_CTRL) (hlog : isLogReg d.reg = false) (i j : Nat) :
    (permitLapse s n).f d i j = s.f d i j := by
  unfold permitLapse
  split
  · split
    · exact (logEvent_f _ _ _ _ _ _ _ hlog).trans (f_setF_name _ _ _ _ _ _ _ _ hd)
    · rfl
  · rfl

theorem permitLapse_of_due {s : State} {n : Nat} {p : Permit} (hp : permitOf s n = some p) (hres : p.reserved = none) (hdue : p.expires ≤ s.ticks) :
    permitLapse s n = permitEvent (setPermit s n none) n 2 := by
  simp only [permitLapse, hp]
  exact if_pos ⟨by simp [hres], hdue⟩

/-- The state in which GOV_PERMIT has given timescale `n` the permit `p` (R381). -/
def permitGiven (s : State) (n : Nat) (p : Permit) : State := permitEvent (setPermit (permitLapse s n).nextFresh n (some p)) n 0

theorem permitOf_permitGiven (s : State) (n : Nat) (p : Permit) : permitOf (permitGiven s n p) n = some p :=
  (permitOf_congr (logEvent_gov ..) n).trans (permitOf_setPermit ..)

section
variable {s : State} {h : CmdHdr} (hm : h.mbz = true) (hr : h.ring = 0)
include hm hr

/-- RING_STOP of a CMD ring: it drains before it is disabled (R306). -/
theorem execRingStop_stops {r : Nat} {u : State} (hu : u = begins (s.setF F.HOST_RING_STATUS_state 2 r) h 2) (hr2 : 2 ≤ r) (hr64 : r < 64)
    (hstate : ringState s r = 1) (htype : ringType s r = 0) :
    ∃ d, execRingStop h r s = .next (setRing u r { ring u r with stop := some h, discarded := d }) := by
  have hu0 : ringType u r = 0 := hu ▸ (f_setF_name _ _ _ _ _ _ _ _ (by decide)).trans htype
  have hkept : ∀ x, ringType (setRing u r x) r = 0 := fun _ => hu0
  refine ⟨if ringType u r = 1 then 0 else unfetched u r, ?_⟩
  simp only [execRingStop, ← hu]
  rw [if_neg (by simp [hm, hr]), if_neg (by omega), if_neg (by omega), if_neg (by omega), if_neg (by omega), if_neg (by omega), if_neg (by omega),
    hkept]
  rfl

section
variable {target : Nat} (hsheet : s.sheets.applying = none) (hhand : s.ran.handback = none)
include hsheet hhand

theorem execRunState_toRun (hst : s.f F.PWR_RUN_run_state = 2) : execRunState h 1 s = .next (complete (enterRun s) h 0x03 .ok [(0, 1, 3)]) := by
  unfold execRunState
  rw [if_neg (by simp [hm, hr]), if_neg (by omega), if_neg (by omega), if_neg (by omega), if_neg (by simp [hsheet, hhand])]
  rfl

theorem execRunState_toSetup (hst : s.f F.PWR_RUN_run_state = 3) : execRunState h 2 s = .next (complete (runSet s 2) h 0x03 .ok [(0, 1, 2)]) := by
  unfold execRunState
  rw [if_neg (by simp [hm, hr]), if_neg (by omega), if_neg (by omega), if_neg (by omega), if_neg (by simp [hsheet, hhand])]
  rfl

theorem execRunState_toOff (hst : s.f F.PWR_RUN_run_state = 3) : execRunState h 3 s = .next (shutdownBegin s h) := by
  unfold execRunState
  rw [if_neg (by simp [hm, hr]), if_neg (by omega), if_neg (by omega), if_neg (by omega), if_neg (by simp [hsheet, hhand])]
  rfl

end

theorem execProfileSet_sets {p : Nat} (hp : p ≤ 4) (htherm : s.f F.PWR_RUN_therm_step < 2) :
    execProfileSet h p s = .next (complete (setProfile s p) h 0x04 .ok [(0, 1, p), (1, 1, s.f F.PWR_RUN_cap)]) := by
  unfold execProfileSet
  rw [if_neg (by simp [hm, hr]; omega), if_neg (by omega)]

theorem execGovPermit_gives {n : Nat} (hn : n < 4) (hiso : s.log.isolated.contains 14 = false) (hon : s.fb F.TS_CTRL_enable n = true)
    (hallow : s.f F.GOV_TS_CFG_step_allow n ≠ 0) (hfree : (permitOf s n).any (fun p => p.reserved.isSome) = false) :
    ∃ d x, execGovPermit h n s = .next (complete (sentTo (permitGiven s n ⟨drawn s % (2 ^ 32 - 1) + 1, none,
      s.ticks + s.f F.GOV_PERMIT_CFG_life * secondTicks⟩) n d) h 0x05 .ok ([(0, 4, drawn s % (2 ^ 32 - 1) + 1)] ++ x)) := by
  unfold execGovPermit
  rw [if_neg (by simp [hm, hr]), if_neg (ne_true_of_eq_false hiso), if_neg (by omega), if_neg (by simp [hon]), if_neg hallow,
    if_neg (ne_true_of_eq_false hfree), ← permitLapse_ticks s n, ← permitLapse_f s n (d := F.GOV_PERMIT_CFG_life) (by decide) (by decide)]
  exact ⟨_, _, rfl⟩

end

theorem execRingDrainDone_disables {s : State} {r : Nat} (hr : r < 64) (hstate : ringState s r = 2) (hdrained : drained s r = true)
    (hstop : (ring s r).stop = none) : execRingDrainDone r s = .next (ringDisable s r) := by
  unfold execRingDrainDone
  rw [if_neg (by simp [hstate, hdrained]; omega), hstop]

/-- Settles O46: each command passes its checks, and what is left is its effect. -/
theorem adminCommandsTakeEffect : Obligations.AdminCommandsTakeEffect := by
  intro s h hm
  refine ⟨execNop_answers hm, ?_, ?_, ?_, ?_, fun op => rfl⟩
  · intro a q op hr htype hstate htarget
    exact ⟨_, execAbort_fetched hm hr htype hstate htarget, rfl, congrArg Ring.fetched (ring_setRing_same ..)⟩
  · intro hr
    refine ⟨?_, ?_, ?_, ?_⟩
    · intro r hr2 hr64 hstate htype
      obtain ⟨d, hexec⟩ := execRingStop_stops hm hr rfl hr2 hr64 hstate htype
      exact ⟨_, hexec, f_setF_same _ _ _ _ _ (by decide) (by decide), congrArg Ring.stop (ring_setRing_same ..)⟩
    · intro target hsheet hhand
      refine ⟨?_, ?_, ?_⟩
      · rintro rfl hst
        exact execRunState_toRun hm hr hsheet hhand hst
      · rintro rfl hst
        exact execRunState_toSetup hm hr hsheet hhand hst
      · rintro rfl hst
        exact execRunState_toOff hm hr hsheet hhand hst
    · intro p hp htherm
      exact execProfileSet_sets hm hr hp htherm
    · intro n hn hiso hon hallow hfree
      obtain ⟨d, x, hexec⟩ := execGovPermit_gives hm hr hn hiso hon hallow hfree
      refine ⟨_, _, x, hexec, Nat.succ_pos _, ?_, permitOf_permitGiven ..⟩
      have := Nat.mod_lt (drawn s) (show 0 < 2 ^ 32 - 1 by decide)
      omega
  · intro r hr hstate hdrained hstop
    exact execRingDrainDone_disables hr hstate hdrained hstop
  · intro n p hp hres hdue
    exact congrArg _ (permitLapse_of_due hp hres hdue)

end Sys2Proof.Machine

namespace Sys2Proof.Machine
open Sys2Proof

/-! ### The rings (R302, R305-R310, R313, R322, R323, R330) -/

/-- Ring `r` with its registers as they are once it is ACTIVE (R306, R314, R322). -/
def ringEnabled (s : State) (r : Nat) : State :=
  let u := ((s.setB F.HOST_RING_CFG_enable true r).setF F.HOST_RING_STATUS_err 0 r).setF F.HOST_RING_STATUS_state 1 r
  let u := (u.wr .HOST_RING_HEAD r 0 0).setB F.HOST_RING_STATUS_armed (ringType u r == 1) r
  if ringType u r = 1 then u.setF F.HOST_RING_HEAD_phase 1 r else u

/-- Of its fields, those outside HOST_RING_HEAD stand before the phase is set. -/
theorem ringEnabled_f (s : State) (r : Nat) {d : Fld} (hd : d.reg ≠ .HOST_RING_HEAD) : ∃ b, (ringEnabled s r).f d r
    = (((((s.setB F.HOST_RING_CFG_enable true r).setF F.HOST_RING_STATUS_err 0 r).setF F.HOST_RING_STATUS_state 1 r).wr .HOST_RING_HEAD r 0 0).setB
        F.HOST_RING_STATUS_armed b r).f d r := by
  unfold ringEnabled
  extract_lets active armed
  refine ⟨ringType active r == 1, ?_⟩
  split
  · exact f_setF_name _ _ _ _ _ _ _ _ hd
  · rfl

theorem ringEnabled_state (s : State) (r : Nat) : ringState (ringEnabled s r) r = 1 := by
  obtain ⟨b, hb⟩ := ringEnabled_f s r (d := F.HOST_RING_STATUS_state) (by decide)
  rw [ringState, hb, State.setB, f_setF_apart _ F.HOST_RING_STATUS_armed F.HOST_RING_STATUS_state _ _ _ rfl (by decide) (by decide) (by decide)
    (by decide), f_wr_name (by decide), f_setF_same _ _ _ _ _ (by decide) (by decide)]
  rfl

theorem ringEnabled_enable (s : State) (r : Nat) : (ringEnabled s r).fb F.HOST_RING_CFG_enable r = true := by
  obtain ⟨b, hb⟩ := ringEnabled_f s r (d := F.HOST_RING_CFG_enable) (by decide)
  refine (fb_congr (hb.trans ?_)).trans (fb_setB_same (s := s) (b := true) rfl (by decide))
  rw [State.setB, f_setF_name _ _ _ _ _ _ _ _ (by decide), f_wr_name (by decide), f_setF_name _ _ _ _ _ _ _ _ (by decide),
    f_setF_name _ _ _ _ _ _ _ _ (by decide)]

section
variable {s t : State} {r : Nat} {v : Word} (hr : r < 64) (ht : t = regWrite s ⟨.HOST_RING_CFG, r, 0⟩ (fput v 31 31 0))
  (hoff : s.fb F.HOST_RING_CFG_enable r = false) (hon : fget v 31 31 = 1) (hstate : ringState s r = 0)
include hr ht hoff hon hstate

theorem execHostRingEnable_refuses (herr : ringErr t r ≠ 0) :
    execHostRingEnable r v s = .next (violation (t.setF F.HOST_RING_STATUS_err (ringErr t r) r)) := by
  unfold execHostRingEnable
  rw [if_neg (by omega), ← ht]
  exact (if_neg (ne_true_of_eq_false hoff)).trans ((if_neg (by omega)).trans ((if_neg (not_not_intro hstate)).trans (if_pos herr)))

theorem execHostRingEnable_enables (hok : ringErr t r = 0) :
    ∃ x y, execHostRingEnable r v s = .next (setRing (ringEnabled t r) r { Ring.reset with lost := x, armedAt := y }) := by
  unfold execHostRingEnable
  rw [if_neg (by omega), ← ht]
  exact ⟨_, _, (if_neg (ne_true_of_eq_false hoff)).trans ((if_neg (by omega)).trans ((if_neg (not_not_intro hstate)).trans
    (if_neg (not_not_intro hok))))⟩

end

/-- A nudge owes a further poll where one runs (R309). -/
theorem execHostNudge_repoll (s : State) (v : Word) (p : Bool) : ∃ t, execHostNudge v p s = .next t ∧ t.host.repoll = (s.host.repoll || p) := by
  refine ⟨_, rfl, ?_⟩
  change (((perf (s.setF F.HOST_POLL_STATUS_interval (pollMin s)) 0x0004 0).host.repoll || p) = _)
  rw [perf_host]
  rfl

/-- A poll pays what it owed and clears the failure of the one before (R308, R330). -/
theorem execDoorbellPoll_clears {s : State} (hmaster : s.fb F.HOST_STATUS_bus_master = true) (es cs ts rs) :
    ∃ t, execDoorbellPoll es cs ts rs s = .next t ∧ t.host.repoll = false ∧ t.host.dbFailing = false := by
  unfold execDoorbellPoll
  rw [if_neg (by simp [hmaster])]
  exact ⟨_, rfl, rfl, rfl⟩

theorem execCompletionWrite_writes {s : State} {r : Nat} {e : CplEntry} {l : List CplEntry} (hr : r < 64) (hwaiting : (ring s r).waiting = e :: l)
    (htype : ringType s r = 1) (hstate : ringState s r = 1) (hmaster : s.fb F.HOST_STATUS_bus_master = true) (hroom : cplSlots e ≤ cplRoom s r) :
    execCompletionWrite r s = .next (cplWrite (setRing s r { ring s r with waiting := l }) r e) := by
  simp only [execCompletionWrite, hwaiting]
  exact if_pos (by simp [hr, htype, hstate, hmaster, hroom])

/-- An armed ring signals when its count or its time is reached (R322). -/
theorem execRingInterrupt_signals {s : State} {r : Nat} {byTime : Bool} (hcpl : cplEnabled s r = true)
    (harmed : s.fb F.HOST_RING_STATUS_armed r = true) (hirq : s.fb F.HOST_RING_IRQ_irq_en r = true) (hmaster : s.fb F.HOST_STATUS_bus_master = true)
    (hdue : (if byTime then timeDue s r else decide (s.f F.HOST_RING_IRQ_count r ≤ cplPending s r)) = true) :
    execRingInterrupt r byTime s = .next (signal s r) :=
  congrArg _ (if_pos (by simp only [hcpl, harmed, hirq, hmaster, hdue, Bool.and_self]))

theorem execMsixUnmask_sends {s : State} {v : Nat} (hv : v < 64) (hpending : (s.setB F.MSIX_CTRL_mask false v).fb (pbaFld v) (v / 32) = true) :
    execMsixUnmask v s = .next (((s.setB F.MSIX_CTRL_mask false v).setB (pbaFld v) false (v / 32)).emit (.msix v)) := by
  unfold execMsixUnmask
  rw [if_neg (by omega)]
  exact congrArg _ (if_pos hpending)

section
variable {s : State} {r : Nat} (hr : r < 64) (hstate : ringState s r = 1)
include hr hstate

/-- A failed access counts, and the ring that it served enters ERROR (R330). -/
theorem ringError_of_access (err : Nat) : (if r < 64 ∧ ringState (s.inc .HOST_DMA_ERR) r ≠ 0 then ringError (s.inc .HOST_DMA_ERR) r err
    else s.inc .HOST_DMA_ERR) = ringError (s.inc .HOST_DMA_ERR) r err := by
  have hkept : ringState (s.inc .HOST_DMA_ERR) r = 1 := (f_wr_name (by decide)).trans hstate
  exact if_pos ⟨hr, by omega⟩

theorem execHostDmaError_descriptorRead : execHostDmaError (.descriptorRead r) s = .next (ringError (s.inc .HOST_DMA_ERR) r 6) :=
  congrArg _ (ringError_of_access hr hstate 6)

theorem execHostDmaError_entryWrite : execHostDmaError (.entryWrite r) s = .next (ringError (s.inc .HOST_DMA_ERR) r 7) :=
  congrArg _ (ringError_of_access hr hstate 7)

end

/-- The reset of the function reaches the host rings and the queues of transmit timestamps, and nothing that runs (R301). -/
theorem execFunctionLevelReset_spares (s : State) (linkDown : Bool) :
    ∃ t, execFunctionLevelReset linkDown s = .next t ∧ (∀ r, ring t r = Ring.reset) ∧ t.time = s.time ∧ t.outs = s.outs ∧ t.cues = s.cues := by
  unfold execFunctionLevelReset
  extract_lets _ _ cut reset
  have hreset : reset.host.rings = [] ∧ reset.time = s.time ∧ reset.outs = s.outs ∧ reset.cues = s.cues := by
    unfold reset
    split
    · exact ⟨rfl, rfl, rfl, rfl⟩
    · exact ⟨rfl, rfl, rfl, rfl⟩
  obtain ⟨hrings, htime, houts, hcues⟩ := hreset
  refine ⟨_, rfl, fun r => ?_, ?_, ?_, ?_⟩
  · rw [ring, foldl_keeps State.host txtsEmpty (fun _ _ => rfl), hrings]
    rfl
  · rw [foldl_keeps State.time txtsEmpty (fun _ _ => rfl), htime]
  · rw [foldl_keeps State.outs txtsEmpty (fun _ _ => rfl), houts]
  · rw [foldl_keeps State.cues txtsEmpty (fun _ _ => rfl), hcues]

/-- Settles O47: each act by the equation of its meaning; the commit point hands the command on, and every command has a next state. -/
theorem hostRingsAct : Obligations.HostRingsAct := by
  intro s
  refine ⟨?_, ?_, ?_, ?_, ?_, ?_, ?_, ?_, ?_, ?_⟩
  · intro r v t hr ht hoff hon hstate
    refine ⟨execHostRingEnable_refuses hr ht hoff hon hstate, fun hok => ?_⟩
    obtain ⟨x, y, hexec⟩ := execHostRingEnable_enables hr ht hoff hon hstate hok
    refine ⟨_, hexec, ?_, ?_, ?_, ?_⟩
    · exact (f_congr (setRing_regs ..) ..).trans (ringEnabled_state t r)
    · exact (fb_congr (f_congr (setRing_regs ..) ..)).trans (ringEnabled_enable t r)
    · exact congrArg Ring.fetched (ring_setRing_same ..)
    · exact congrArg Ring.waiting (ring_setRing_same ..)
  · intro es cs ts rs hmaster
    exact execDoorbellPoll_clears hmaster es cs ts rs
  · exact execHostNudge_repoll s
  · rintro r f rest u hfetched hheld rfl
    exact ⟨execCommandCommit_refuses hfetched hheld,
      fun h => ⟨execCommandCommit_runs hfetched hheld h, everyCommandHasANextState (.commandCommit r) s⟩⟩
  · intro r e l hr hwaiting htype hstate hmaster hroom
    exact execCompletionWrite_writes hr hwaiting htype hstate hmaster hroom
  · intro r hcpl harmed hirq hmaster
    exact ⟨fun hcount => execRingInterrupt_signals hcpl harmed hirq hmaster (decide_eq_true hcount),
      fun htime => execRingInterrupt_signals hcpl harmed hirq hmaster htime⟩
  · intro v hv hpending
    exact ⟨_, execMsixUnmask_sends hv hpending, List.mem_cons_self⟩
  · intro r hr hstate
    exact ⟨execHostDmaError_descriptorRead hr hstate, execHostDmaError_entryWrite hr hstate⟩
  · exact execFunctionLevelReset_spares s
  · intro w p
    rfl

end Sys2Proof.Machine

namespace Sys2Proof.Machine
open Sys2Proof

/-! ### The commands of the NTP and NTS service (R269-R271, R275, R277, R280) -/

section
variable {s : State} {h : CmdHdr} (hm : h.mbz = true)
include hm

theorem execNtsCookieMint_begins {a : MintArgs} (hlo : 1 ≤ a.count) (hhi : a.count ≤ 8) (haead : a.aead = 15) (hkey0 : a.keyAddr ≠ 0)
    (hkey8 : a.keyAddr % 8 = 0) (hout0 : a.outAddr ≠ 0) (hout8 : a.outAddr % 8 = 0) (hiso : s.log.isolated.contains 3 = false)
    (htamper : tampered s = false) (hrevoked : s.fb F.NTS_STATUS_root_revoked = false) (hvalid : s.fb F.NTS_STATUS_root_valid = true)
    (htime : tsValid s 0 = true) (hstale : s.stv.stale = false) : execNtsCookieMint h a s
    = .next (addJob (begins s h 0x48) .host [(s.rg .NTS_COOKIE_ROOT).toNat] (12 * a.count) (.mint h a (ntsEpoch s))) := by
  unfold execNtsCookieMint
  rw [if_neg (by simp only [hm, Bool.not_true, Bool.false_eq_true, false_or]; omega), if_neg (ne_true_of_eq_false hiso),
    if_neg (ne_true_of_eq_false htamper), if_neg (ne_true_of_eq_false hrevoked), if_neg (by simp [hvalid]), if_neg (by simp [htime]),
    if_neg (ne_true_of_eq_false hstale)]

theorem execNtpRlQuery_answers {a : RlQueryArgs} (hfamily : a.family ≤ 1) : execNtpRlQuery h a s
    = .next (complete s h 0x49 .ok [(0, 2, bucketOf s a.family a.addr), (4, 4, (bucketNow s (bucketOf s a.family a.addr)).tokens / 625000000),
        (8, 4, (bucketNow s (bucketOf s a.family a.addr)).overLimit)]) := by
  unfold execNtpRlQuery
  rw [if_neg (by simp [hm, hfamily])]

theorem execNtpPeerRead_answers {p : Nat} (hon : peerOn s p = true) (haccepted : (peer s p).accepted = true) :
    ∃ x, execNtpPeerRead h p s = .next (complete s h 0x4A .ok ((0, 8, twos 64 (peer s p).x) :: x)) := by
  unfold execNtpPeerRead
  rw [if_neg (by simp [hm]), if_neg (by simp [hon, haccepted])]
  exact ⟨_, rfl⟩

end

/-- Settles O38: the checks of each command pass, and what is left is its effect. -/
theorem ntpCommandsTakeEffect : Obligations.NtpCommandsTakeEffect := by
  intro s h hm
  refine ⟨?_, ?_, ?_⟩
  · intro a hlo hhi haead hkey0 hkey8 hout0 hout8 hiso htamper hrevoked hvalid htime hstale
    exact execNtsCookieMint_begins hm hlo hhi haead hkey0 hkey8 hout0 hout8 hiso htamper hrevoked hvalid htime hstale
  · intro a hfamily
    exact execNtpRlQuery_answers hm hfamily
  · intro p hon haccepted
    obtain ⟨x, hx⟩ := execNtpPeerRead_answers hm hon haccepted
    exact ⟨_, hx, rfl⟩

end Sys2Proof.Machine

namespace Sys2Proof.Machine
open Sys2Proof

/-! ### NTP instances, their replies and the cookie root (R256-R258, R261, R264, R269-R271, R274) -/

section
variable {s t : State} {i : Nat} {v : Word} (hi : i < 4) (ht : t = regWrite s ⟨.NTP_INST_CFG, i, 0⟩ v) (hoff : ntpOn s i = false)
  (hon : ntpOn t i = true)
include hi ht hoff hon

theorem execNtpInstEnable_refuses (herr : ntpCfgErr t i ≠ 0) : execNtpInstEnable i v s
    = .next (violation ((t.setB F.NTP_INST_CFG_enable false i).setF F.NTP_INST_STATUS_cfg_err (ntpCfgErr t i) i)) := by
  unfold execNtpInstEnable
  rw [if_neg (by omega), ← ht]
  exact (if_pos (by simp [hoff, hon])).trans (if_pos herr)

end

section
variable {s u : State} {i : Nat} {r : NtpReq} (hu : u = advance s r.ticks) (hclaim : ntpClaims u i r = true) (hanswers : ntpAnswers u = true)
include hu hclaim hanswers

theorem execNtpRequest_drops (hserved : ntpServed u i r = none) : execNtpRequest i r s = .next (u.inc .NTP_POLICY_DROP i) := by
  simp only [execNtpRequest, ← hu, hserved]
  exact if_neg (by simp [hclaim, hanswers])

/-- A plain request within its bucket gets a reply (R261, R271). -/
theorem execNtpRequest_replies (hserved : ntpServed u i r = some none) (hcharge : (charge u r.family r.addr false).2 = true) :
    ∃ t2, execNtpRequest i r s
      = .next (addReply (ntpMonitor (charge u r.family r.addr false).1 i r false false false false false) i r t2 .plain) := by
  simp only [execNtpRequest, ← hu, hserved]
  exact ⟨_, (if_neg (by simp [hclaim, hanswers])).trans (if_neg (by simp [hcharge]))⟩

end

section
variable {s : State} {id : Nat} {r : NtpReply} (hreply : s.ntp.replies.find? (fun r => r.id == id) = some r)
include hreply

/-- A reply that is 1 ms late is dropped and counted (R274). -/
theorem execNtpRequestExpiry_drops (hstarted : r.started = false) (hlate : r.tick + 625000 ≤ s.ticks) :
    ∃ t, execNtpRequestExpiry id s = .next (perf t 0x0015 r.port) ∧ t.regs = (s.inc .NTP_REQ_DROP r.inst).regs
      ∧ t.ntp.replies = s.ntp.replies.filter (fun q => q.id != id) := by
  simp only [execNtpRequestExpiry, hreply]
  exact ⟨_, if_neg (by simp [hstarted, hlate]), rfl, rfl⟩

theorem execNtpReplyLaunch_launches (hjob : replyJob s id = none) (ready : Nat) (lost : Bool) :
    execNtpReplyLaunch id ready lost s = .next (launchReply s r ready lost) := by
  simp only [execNtpReplyLaunch, hreply, hjob]

end

section
variable {s : State} {v : Word}

theorem execNtsCookieRootWrite_takes (hroot : handleIs s v.toNat 0 = true) : execNtsCookieRootWrite v s = .next (setCookieRoot s v) := if_pos hroot

theorem execNtsCookieRootWrite_refuses (hroot : handleIs s v.toNat 0 = false) (hne : v ≠ s.rg .NTS_COOKIE_ROOT) :
    execNtsCookieRootWrite v s = .next (violation s) :=
  (if_neg (ne_true_of_eq_false hroot)).trans (if_neg hne)

end

theorem ntpOn_congr {s t : State} (hregs : t.regs = s.regs) (i : Nat) : ntpOn t i = ntpOn s i := by
  rw [ntpOn, fb_congr (f_congr hregs ..), ntpOn]

theorem setEnabledAt_ntpOn (u : State) (i : Nat) : ntpOn { u with ntp := { u.ntp with enabledAt := tset u.ntp.enabledAt i u.ticks } } i = ntpOn u i :=
  ntpOn_congr (s := u) rfl i

theorem ntpOn_setF_cfgErr (s : State) (v i : Nat) : ntpOn (s.setF F.NTP_INST_STATUS_cfg_err v i) i = ntpOn s i := by
  rw [ntpOn, fb_congr (f_setF_name _ _ _ _ _ _ _ _ (by decide)), ntpOn]

/-- An enable that every check passes notes its time and leaves it on. -/
theorem execNtpInstEnable_enables {s t u : State} {i : Nat} {v : Word} (hi : i < 4) (ht : t = regWrite s ⟨.NTP_INST_CFG, i, 0⟩ v)
    (hoff : ntpOn s i = false) (hon : ntpOn t i = true) (hu : u = t.setF F.NTP_INST_STATUS_cfg_err 0 i) (hok : ntpCfgErr t i = 0) :
    ∃ w, execNtpInstEnable i v s = .next w ∧ tget w.ntp.enabledAt 0 i = t.ticks ∧ ntpOn w i = true := by
  refine ⟨{ u with ntp := { u.ntp with enabledAt := tset u.ntp.enabledAt i u.ticks } }, ?_, ?_, ?_⟩
  · simp only [execNtpInstEnable, ← ht, ← hu]
    rw [if_neg (by omega), if_pos (by simp [hoff, hon]), if_neg (not_not_intro hok)]
  · rw [tget_tset_same, hu, State.setF_ticks]
  · rw [setEnabledAt_ntpOn, hu, ntpOn_setF_cfgErr, hon]

/-- Settles O39: each act by the equation of its meaning. -/
theorem ntpInstancesAct : Obligations.NtpInstancesAct := by
  intro s i hi
  refine ⟨?_, ?_, ?_, ?_, fun k => rfl, ?_⟩
  · intro v t ht hoff hon
    exact ⟨execNtpInstEnable_refuses hi ht hoff hon, execNtpInstEnable_enables hi ht hoff hon rfl⟩
  · intro r u hu hclaim hanswers
    exact ⟨execNtpRequest_drops hu hclaim hanswers, execNtpRequest_replies hu hclaim hanswers⟩
  · intro id r hreply hstarted hlate
    obtain ⟨t, hexec, hregs, hreplies⟩ := execNtpRequestExpiry_drops hreply hstarted hlate
    refine ⟨t, hexec, hregs, fun q hq => ?_⟩
    rw [hreplies] at hq
    simpa using (List.mem_filter.1 hq).2
  · intro id r ready lost hreply hjob
    exact execNtpReplyLaunch_launches hreply hjob ready lost
  · intro v
    exact ⟨execNtsCookieRootWrite_takes, execNtsCookieRootWrite_refuses⟩

end Sys2Proof.Machine

namespace Sys2Proof.Machine
open Sys2Proof

/-! ### What a measurement leaves of the NTP service (R75, R277) -/

section
variable (s : State) (k : Nat)

theorem slotTransition_ntp (st : Nat) : (slotTransition s k st).ntp = s.ntp := by
  simp only [slotTransition, advanceProv, apply_ite State.ntp, logEvent_ntp, setEns_ntp, setSlot_ntp, State.setF_ntp, State.setB_ntp, ite_self]

theorem restartWindow_ntp : (restartWindow s k).ntp = s.ntp := State.setF_ntp ..

theorem acceptSlot_ntp : (acceptSlot s k).ntp = s.ntp := slotTransition_ntp ..

theorem slotRestart_ntp : (slotRestart s k).ntp = s.ntp := (logEvent_ntp ..).trans (logEvent_ntp ..)

theorem qualifiedStep_ntp (m : Meas) : (qualifiedStep s k m).ntp = s.ntp := by
  simp only [qualifiedStep, apply_ite State.ntp, slotTransition_ntp, setSlot_ntp, ite_self]

theorem qualifyingStep_ntp : (qualifyingStep s k).ntp = s.ntp := by
  unfold qualifyingStep
  split
  · exact (slotRestart_ntp ..).trans (restartWindow_ntp ..)
  · split
    · rfl
    · split
      · exact slotTransition_ntp ..
      · split
        · simp only [apply_ite State.ntp, acceptSlot_ntp, slotTransition_ntp, ite_self]
        · rfl

theorem suspectStep_ntp {epoch : Bool} : (suspectStep s k epoch).ntp = s.ntp := by
  simp only [suspectStep, apply_ite State.ntp, slotTransition_ntp, restartWindow_ntp, acceptSlot_ntp, ite_self]

theorem slotStep_ntp (epoch spoofed : Bool) : (slotStep s k epoch spoofed).ntp = s.ntp := by
  simp only [slotStep, apply_ite State.ntp, slotTransition_ntp, restartWindow_ntp, qualifyingStep_ntp, suspectStep_ntp]
  cases hmeas : (slot s k).meas with
  | none => simp only [ite_self]
  | some m => simp only [qualifiedStep_ntp, ite_self]

theorem slotEval_ntp (epoch spoofed : Bool) : (slotEval s k epoch spoofed).ntp = s.ntp := (setSlot_ntp ..).trans (slotStep_ntp ..)

theorem slotNote_ntp : (slotNote s k).ntp = s.ntp := by
  simp only [slotNote, apply_ite State.ntp, slotEval_ntp, ite_self]

theorem keepMeas_ntp (m : Meas) (t : Int) : (keepMeas s k m t).ntp = s.ntp := by
  simp only [keepMeas, State.setB_ntp, State.setF_ntp, State.setI_ntp, setSlot_ntp]

theorem takeMeasAt_ntp (m : Meas) (t : Int) : (takeMeasAt s k m t).ntp = s.ntp := (slotNote_ntp ..).trans (keepMeas_ntp ..)

theorem peerFeed_ntp (j : Nat) (x : Int) (unc : Nat) (t : Int) : (peerFeed s j x unc t).ntp = s.ntp :=
  foldl_keeps State.ntp _ (fun u i => by simp only [apply_ite State.ntp, takeMeasAt_ntp, ite_self]) _ _

theorem peer_congr {s t : State} (h : t.ntp = s.ntp) (j : Nat) : peer t j = peer s j := by rw [peer, h, peer]

theorem peer_setPeer_same (x : Peer) : peer (setPeer s k x) k = x := tget_tset_same ..

end

/-! ### Peers (R264, R277, R278) -/

theorem execNtpPeerEnableWrite_resets {s u : State} {p : Nat} {v : Word} (hp : p < 8) (hu : u = regWrite s ⟨.NTP_PEER_CFG, p, 0⟩ v)
    (hoff : peerOn s p = false) (hon : peerOn u p = true) : execNtpPeerEnableWrite p v s
    = .next (setPeer ((u.wr .NTP_PEER_STATUS p 0 0).setF F.NTP_PEER_STATUS_poll (u.f F.NTP_PEER_CFG_poll p) p) p Peer.reset) := by
  simp only [execNtpPeerEnableWrite, ← hu]
  rw [if_neg (by omega), if_pos (by simp [hon, hoff])]

/-- The reset of a peer writes NTP_PEER_STATUS and no other register. -/
theorem rg_resetPeer (u : State) (p v i j : Nat) {n : RegName} (hn : n ≠ .NTP_PEER_STATUS) :
    (setPeer ((u.wr .NTP_PEER_STATUS p 0 0).setF F.NTP_PEER_STATUS_poll v p) p Peer.reset).rg n i j = u.rg n i j := by
  refine (rg_setF_name _ _ _ _ _ _ _ _ hn).trans ?_
  exact (rg_congr (t := { (u.wr .NTP_PEER_STATUS p 0 0).setF F.NTP_PEER_STATUS_poll v p with ntp := _ }) rfl n i j).trans
    ((rg_setF_name _ _ _ _ _ _ _ _ hn).trans (rg_wr_name _ _ _ _ _ _ _ _ hn))

/-- A poll that is due shifts the reach register and keeps the stamp of its request (R277). -/
theorem execNtpPeerPoll_sends {s u : State} {p k : Nat} (hu : u = advance s k) (hon : peerOn u p = true) (hstopped : (peer u p).stopped = false)
    (hport : tsePortOk u (u.f F.NTP_PEER_CFG_port p) = true) (hmuted : muted u = false) (hdue : peerDue u p = true) :
    ∃ t, execNtpPeerPoll p k s = .next t ∧ (peer t p).reach = (false :: (peer u p).reach).take 8 ∧ (peer t p).t1.isSome = true := by
  simp only [execNtpPeerPoll, ← hu]
  rw [if_neg (by simp [hon, hstopped, hport, hmuted, hdue])]
  exact ⟨_, rfl, by rw [peer_setPeer_same], by rw [peer_setPeer_same]; rfl⟩

section
variable {s u : State} {p : Nat} {r : PeerReply} (hu : u = advance s r.ticks) (hon : peerOn u p = true) (hstopped : (peer u p).stopped = false)
  (hok : tsePortOk u (u.f F.NTP_PEER_CFG_port p) = true) (hport : r.port = u.f F.NTP_PEER_CFG_port p)
  (hfamily : r.family = bit (u.fb F.NTP_PEER_CFG_family p)) (haddr : r.addr = peerAddr u p)
include hu hon hstopped hok hport hfamily haddr

theorem execNtpPeerReply_kiss (hstratum : r.stratum = 0) : execNtpPeerReply p r s = .next (peerKiss u p r.refid) := by
  simp only [execNtpPeerReply, ← hu]
  rw [if_neg (by simp [hon, hstopped, hok, hport, hfamily, haddr]), if_pos hstratum]

theorem execNtpPeerReply_other (hstratum : r.stratum ≠ 0) (horigin : ∀ t1, (peer u p).t1 = some t1 → r.origin ≠ t1.1) :
    execNtpPeerReply p r s = .next u := by
  simp only [execNtpPeerReply, ← hu]
  rw [if_neg (by simp [hon, hstopped, hok, hport, hfamily, haddr]), if_neg hstratum]
  split
  · rfl
  next t1 u1 ht1 => exact if_pos (.inl (horigin _ ht1))

/-- A reply to the request sent is accepted: the offset is of its four stamps (R277). -/
theorem execNtpPeerReply_accepts {t1 : Nat} {w : Int} {t4 : Nat} (hlo : 1 ≤ r.stratum) (hhi : r.stratum ≤ 15) (hli : r.li ≠ 3)
    (ht1 : (peer u p).t1 = some (t1, w)) (horigin : r.origin = t1) (hserver : 0 ≤ ntpDiff r.t3 r.t2)
    (ht4 : t4 = ntpStamp u false (portTime u (u.f F.NTP_PEER_CFG_port p) r.frac (-(u.f F.PORT_LAT_RX_value (u.f F.NTP_PEER_CFG_port p) : Int))))
    (hdelay0 : 0 ≤ ntpDiff t4 t1 - ntpDiff r.t3 r.t2) (hdelay : ntpDiff t4 t1 - ntpDiff r.t3 r.t2 ≤ 2 ^ 32) :
    ∃ t, execNtpPeerReply p r s = .next t ∧ (peer t p).accepted = true ∧ (peer t p).t1 = none ∧ (peer t p).refid = r.refid
      ∧ (peer t p).x = ntpToPs (ntpDiff t1 r.t2 + ntpDiff t4 r.t3) / 2 := by
  simp only [execNtpPeerReply, ← hu, ht1, ← ht4]
  have hgood : ¬(r.origin ≠ t1 ∨ 15 < r.stratum ∨ r.li = 3 ∨ ntpDiff r.t3 r.t2 < 0 ∨ ntpDiff t4 t1 - ntpDiff r.t3 r.t2 < 0
      ∨ 2 ^ 32 < ntpDiff t4 t1 - ntpDiff r.t3 r.t2) := by
    simp only [not_or, not_lt, not_not]
    exact ⟨horigin, hhi, hli, hserver, hdelay0, hdelay⟩
  rw [if_neg (by simp [hon, hstopped, hok, hport, hfamily, haddr]), if_neg (Nat.one_le_iff_ne_zero.1 hlo), if_neg hgood]
  refine ⟨_, rfl, ?_⟩
  rw [peer_congr ((peerFeed_ntp ..).trans ((State.setF_ntp ..).trans (State.setF_ntp ..))), peer_setPeer_same]
  exact ⟨rfl, rfl, rfl, rfl⟩

end

/-- Settles O40: each act by the equation of its meaning; a measurement leaves the peers. -/
theorem ntpPeersAct : Obligations.NtpPeersAct := by
  intro s p hp
  refine ⟨?_, ?_, ?_⟩
  · intro v u hu hoff hon
    exact ⟨_, execNtpPeerEnableWrite_resets hp hu hoff hon, peer_setPeer_same .., fun n j hn => rg_resetPeer u p _ p j hn⟩
  · intro k u hu hon hstopped hport hmuted hdue
    exact execNtpPeerPoll_sends hu hon hstopped hport hmuted hdue
  · intro r u hu hon hstopped hok hport hfamily haddr
    refine ⟨execNtpPeerReply_kiss hu hon hstopped hok hport hfamily haddr, execNtpPeerReply_other hu hon hstopped hok hport hfamily haddr, ?_⟩
    intro t1 w hlo hhi hli ht1 horigin hserver t4 hdelay0 hdelay
    exact execNtpPeerReply_accepts hu hon hstopped hok hport hfamily haddr hlo hhi hli ht1 horigin hserver rfl hdelay0 hdelay

end Sys2Proof.Machine

namespace Sys2Proof.Machine
open Sys2Proof

/-! ### What keeps the highest epoch seen (R283, R286)

A raise alone counts the highest epoch up. What it does besides, with the permission that follows it, writes other registers. One relation between the
state before and the state after, carried through the model in the manner of `KeepsHandshake`. -/

/-- The highest epoch seen of `t` is that of `s`. -/
structure KeepsEpochMax (s t : State) : Prop where
  rg : t.rg .RAN_EPOCH_MAX = s.rg .RAN_EPOCH_MAX

section
variable {s₀ s t : State}

theorem KeepsEpochMax.refl (s : State) : KeepsEpochMax s s := ⟨rfl⟩

theorem KeepsEpochMax.trans (h : KeepsEpochMax s₀ s) (h' : KeepsEpochMax s t) : KeepsEpochMax s₀ t := ⟨h'.rg.trans h.rg⟩

/-- An update of the state beside its registers. -/
theorem KeepsEpochMax.frame (h : KeepsEpochMax s₀ s)
    {hs time ens clap loops outs cues gnss ports stv ptp ntp ran areas host gov log sheets fw perf wrap pwr ticks fresh out pending} :
    KeepsEpochMax s₀ ⟨s.regs, hs, time, ens, clap, loops, outs, cues, gnss, ports, stv, ptp, ntp, ran, areas, host, gov, log, sheets, fw, perf, wrap, pwr,
      ticks, fresh, out, pending⟩ := ⟨h.rg⟩

theorem KeepsEpochMax.ite {p : Prop} {_ : Decidable p} (hs : KeepsEpochMax s₀ s) (ht : KeepsEpochMax s₀ t) : KeepsEpochMax s₀ (if p then s else t) := by
  split
  · exact hs
  · exact ht

theorem KeepsEpochMax.foldl {α : Type} {f : State → α → State} {l : List α} (h : KeepsEpochMax s₀ s)
    (hf : ∀ u x, KeepsEpochMax s₀ u → KeepsEpochMax s₀ (f u x)) : KeepsEpochMax s₀ (l.foldl f s) := foldl_inv (KeepsEpochMax s₀) f hf l s h

theorem KeepsEpochMax.wr (h : KeepsEpochMax s₀ s) {n i j v} (hn : RegName.RAN_EPOCH_MAX ≠ n := by decide) : KeepsEpochMax s₀ (s.wr n i j v) :=
  h.trans ⟨rg_wr_name _ _ _ _ _ _ _ _ hn⟩

theorem KeepsEpochMax.setF (h : KeepsEpochMax s₀ s) {d : Fld} {v i j} (hd : RegName.RAN_EPOCH_MAX ≠ d.reg := by decide) :
    KeepsEpochMax s₀ (s.setF d v i j) := h.wr hd

theorem KeepsEpochMax.setB (h : KeepsEpochMax s₀ s) {d : Fld} {b i j} (hd : RegName.RAN_EPOCH_MAX ≠ d.reg := by decide) :
    KeepsEpochMax s₀ (s.setB d b i j) := h.setF hd

theorem KeepsEpochMax.incF (h : KeepsEpochMax s₀ s) {d : Fld} {i j k} (hd : RegName.RAN_EPOCH_MAX ≠ d.reg := by decide) :
    KeepsEpochMax s₀ (s.incF d i j k) := h.setF hd

theorem KeepsEpochMax.emit (h : KeepsEpochMax s₀ s) {e} : KeepsEpochMax s₀ (s.emit e) := h.frame
theorem KeepsEpochMax.setTsc (h : KeepsEpochMax s₀ s) {n x} : KeepsEpochMax s₀ (setTsc s n x) := h.frame
theorem KeepsEpochMax.setEns (h : KeepsEpochMax s₀ s) {n x} : KeepsEpochMax s₀ (setEns s n x) := h.frame
theorem KeepsEpochMax.setCuePin (h : KeepsEpochMax s₀ s) {p x} : KeepsEpochMax s₀ (setCuePin s p x) := h.frame

theorem KeepsEpochMax.logEvent (h : KeepsEpochMax s₀ s) {sev code data} : KeepsEpochMax s₀ (logEvent s sev code data) :=
  h.trans ⟨logEvent_rg _ _ _ _ _ _ _ (by decide)⟩

theorem KeepsEpochMax.epochMax_eq (h : KeepsEpochMax s t) : epochMax t = epochMax s := by
  rw [epochMax, State.f, h.rg, epochMax, State.f]

/-! #### The timescales -/

theorem coeffFld_reg_ne (i : Nat) : RegName.RAN_EPOCH_MAX ≠ (coeffFld i).reg := by
  unfold coeffFld
  split <;> decide

theorem KeepsEpochMax.applyHeldCoeffs (h : KeepsEpochMax s₀ s) : KeepsEpochMax s₀ (applyHeldCoeffs s) := by
  unfold Machine.applyHeldCoeffs
  extract_lets put
  have hput : ∀ {u i}, KeepsEpochMax s₀ u → KeepsEpochMax s₀ (put u i) := by
    intro u i hu
    unfold put
    split
    · exact hu.setF (coeffFld_reg_ne i)
    · exact hu
  exact h.ite (hput (hput (hput h))).frame

theorem KeepsEpochMax.advanceProv (h : KeepsEpochMax s₀ s) {n cause} : KeepsEpochMax s₀ (advanceProv s n cause) := h.setEns.logEvent

theorem KeepsEpochMax.ensFree (h : KeepsEpochMax s₀ s) {n} : KeepsEpochMax s₀ (ensFree s n) :=
  h.setEns.setF.setF.setF.setB.setF.ite h.setEns.setF.setF.setF.setB.setF.setF.advanceProv

theorem KeepsEpochMax.tsTransition (h : KeepsEpochMax s₀ s) {n st} : KeepsEpochMax s₀ (tsTransition s n st) := by
  unfold Machine.tsTransition
  extract_lets _ _ entered uncoasted posted
  have huncoasted : KeepsEpochMax s₀ uncoasted := h.setTsc.applyHeldCoeffs.wr.ite h.setTsc
  have hposted : KeepsEpochMax s₀ posted := huncoasted.logEvent.advanceProv
  exact h.ite (hposted.ensFree.ite hposted)

theorem KeepsEpochMax.reportBound (h : KeepsEpochMax s₀ s) {n e} : KeepsEpochMax s₀ (reportBound s n e) :=
  h.setEns.setF.setF.setF.setF.setF.setF.setTsc

theorem KeepsEpochMax.coastEntry (h : KeepsEpochMax s₀ s) {n atEpoch} : KeepsEpochMax s₀ (coastEntry s n atEpoch) :=
  h.setEns.wr.setF.tsTransition.reportBound

/-! #### Ranin, the roles and the cue pins -/

theorem KeepsEpochMax.ranEvent (h : KeepsEpochMax s₀ s) {b} : KeepsEpochMax s₀ (ranEvent s b) :=
  h.setF (by decide : RegName.RAN_EPOCH_MAX ≠ .RAN_EVENT)

theorem KeepsEpochMax.ranSend (h : KeepsEpochMax s₀ s) {kind fields} : KeepsEpochMax s₀ (ranSend s kind fields) := by
  unfold Machine.ranSend
  refine h.ite ?_
  split
  · exact h.emit
  · exact h.frame.emit

theorem KeepsEpochMax.sendClaim (h : KeepsEpochMax s₀ s) : KeepsEpochMax s₀ (sendClaim s) := h.ranSend.ite h
theorem KeepsEpochMax.blockedEval (h : KeepsEpochMax s₀ s) : KeepsEpochMax s₀ (blockedEval s) := (h.ranEvent.ite h).setB

theorem KeepsEpochMax.roleSet (h : KeepsEpochMax s₀ s) {new} : KeepsEpochMax s₀ (roleSet s new) :=
  (h.setF.ranEvent.ite (h.setF.ranEvent.ite h.setF)).logEvent

theorem KeepsEpochMax.followEnd (h : KeepsEpochMax s₀ s) : KeepsEpochMax s₀ (followEnd s) := h.ite (h.setEns.tsTransition.ite (h.ite h.coastEntry))
theorem KeepsEpochMax.bumpSequences (h : KeepsEpochMax s₀ s) : KeepsEpochMax s₀ (bumpSequences s) := h.frame

theorem KeepsEpochMax.enterLead (h : KeepsEpochMax s₀ s) : KeepsEpochMax s₀ (enterLead s) :=
  h.roleSet.incF.setB.setB.followEnd.bumpSequences.frame

theorem KeepsEpochMax.cueSettle (h : KeepsEpochMax s₀ s) : KeepsEpochMax s₀ (cueSettle s) := h.foldl fun _ _ hu => hu.ite hu.setCuePin
theorem KeepsEpochMax.cuePinCut (h : KeepsEpochMax s₀ s) {p} : KeepsEpochMax s₀ (cuePinCut s p) := (h.emit.ite h).setCuePin.ite h
theorem KeepsEpochMax.cueCutAll (h : KeepsEpochMax s₀ s) : KeepsEpochMax s₀ (cueCutAll s) := h.foldl fun _ _ hu => hu.ite hu.cuePinCut

theorem KeepsEpochMax.permEval (h : KeepsEpochMax s₀ s) : KeepsEpochMax s₀ (permEval s) := by
  unfold Machine.permEval
  extract_lets _ granted led cleared _ withdrawn
  have hgranted : KeepsEpochMax s₀ granted := h.setB.setB
  have hled : KeepsEpochMax s₀ led := hgranted.enterLead.ite hgranted
  have hcleared : KeepsEpochMax s₀ cleared := h.setB.setB
  have hwithdrawn : KeepsEpochMax s₀ withdrawn := hcleared.frame
  exact h.blockedEval.ite (hled.blockedEval.cueSettle.sendClaim.ite hwithdrawn.cueCutAll.blockedEval.sendClaim)

end

/-! ### A raise (R283, R286) -/

section
variable {s : State}

theorem epochMax_lt (s : State) : epochMax s < 2 ^ 31 := fget_lt ..

theorem raise_of_not_mayRaise (hmay : mayRaise s = false) : raise s = s := if_pos (by simp [hmay])

theorem raise_at_last (hmay : mayRaise s = true) (hlast : epochMax s = 2 ^ 31 - 1) : raise s = logRec s 0 0x0A80 [(0, 4, epochMax s)] :=
  (if_neg (by simp [hmay])).trans (if_pos hlast)

/-- The claim and the highest epoch of a raise, before it is sent and the permission follows. -/
def raisedState (s : State) : State :=
  let e := epochMax s + 1
  let t := ((s.setF F.RAN_EPOCH_MAX_value e).setF F.RAN_CLAIM_value (2 * e + s.ran.slot)).setB F.RAN_STATUS_raised true
  { t with ran := { t.ran with epochValid := true } }

theorem raise_below_last (hmay : mayRaise s = true) (hbelow : epochMax s ≠ 2 ^ 31 - 1) : raise s = permEval (sendClaim (raisedState s)) :=
  (if_neg (by simp [hmay])).trans (if_neg hbelow)

theorem epochMax_raisedState (hbelow : epochMax s < 2 ^ 31 - 1) : epochMax (raisedState s) = epochMax s + 1 := by
  have hset : (s.setF F.RAN_EPOCH_MAX_value (epochMax s + 1)).f F.RAN_EPOCH_MAX_value = (epochMax s + 1) % 2 ^ 31 :=
    f_setF_same _ F.RAN_EPOCH_MAX_value _ _ _ (by decide) (by decide)
  have hkeeps : KeepsEpochMax (s.setF F.RAN_EPOCH_MAX_value (epochMax s + 1)) (raisedState s) := (KeepsEpochMax.refl _).setF.setB.frame
  rw [hkeeps.epochMax_eq, epochMax, hset, Nat.mod_eq_of_lt (by omega)]

theorem epochMax_raise (hmay : mayRaise s = true) (hbelow : epochMax s < 2 ^ 31 - 1) : epochMax (raise s) = epochMax s + 1 := by
  rw [raise_below_last hmay hbelow.ne, (KeepsEpochMax.refl (raisedState s)).sendClaim.permEval.epochMax_eq, epochMax_raisedState hbelow]

/-- At the last epoch a raise leaves every register but those of the log. -/
theorem raise_rg_at_last (hlast : epochMax s = 2 ^ 31 - 1) {n : RegName} (hn : isLogReg n = false) (i j : Nat) : (raise s).rg n i j = s.rg n i j := by
  cases hmay : mayRaise s with
  | false => rw [raise_of_not_mayRaise hmay]
  | true => rw [raise_at_last hmay hlast, logRec_rg _ _ _ _ _ _ _ hn]

theorem raise_f_at_last (hlast : epochMax s = 2 ^ 31 - 1) {d : Fld} (hd : isLogReg d.reg = false) : (raise s).f d = s.f d := by
  rw [State.f, raise_rg_at_last hlast hd, ← State.f]

end

/-- Settles O43: a raise at the last epoch writes its record alone; below it, it counts the highest epoch by one, and what follows it keeps that. -/
theorem raiseTakesTheNextEpoch : Obligations.RaiseTakesTheNextEpoch := by
  intro s
  have hlt := epochMax_lt s
  have hkept : epochMax s = 2 ^ 31 - 1 → epochMax (raise s) = epochMax s := fun hlast => raise_f_at_last (d := F.RAN_EPOCH_MAX_value) hlast (by decide)
  refine ⟨?_, epochMax_raise, fun hlast => ⟨hkept hlast, raise_rg_at_last hlast (by decide) 0 0, ?_⟩⟩
  · cases hmay : mayRaise s with
    | false => rw [raise_of_not_mayRaise hmay]
    | true =>
      obtain hbelow | hlast := Nat.lt_or_eq_of_le (Nat.le_pred_of_lt hlt)
      · exact (epochMax_raise hmay hbelow).symm ▸ Nat.le_succ _
      · exact (hkept hlast).ge
  · exact fb_congr (raise_f_at_last hlast (by decide))

end Sys2Proof.Machine

namespace Sys2Proof.Machine
open Sys2Proof

/-! ### The Ranin commands and what a LEAD sends (R275, R294, R295, R297-R299) -/

section
variable {s : State} {h : CmdHdr} (hm : h.mbz = true)
include hm

theorem execRanHandback_begins (hrole : ranRole s = 1) (hready : handbackReason s = 0) : execRanHandback h s
    = .next (ranSend { begins s h 0x78 with ran := { s.ran with handback := some h, sentHandback := true, handbackAt := s.ticks } } "HANDBACK"
        [("claim", ownClaim s)]) := by
  unfold execRanHandback
  rw [if_neg (by simp [hm]), if_neg (not_not_intro hrole), if_neg (not_not_intro hready)]
  rfl

theorem execRanRejoin_enters (hrole : ranRole s = 3) (hlink : s.f F.RAN_STATUS_link = 2) (hlead : peerLeads s = true) (hclock : s.hs.shclk = true) :
    execRanRejoin h s = .next (complete (enterStandIn s) h 0x79 .ok [(0, 4, ((enterStandIn s).rg .RAN_STATUS).toNat)]) := by
  unfold execRanRejoin
  rw [if_neg (by simp [hm]), if_neg (not_not_intro hrole), if_neg (by simp [hlink, hlead, hclock])]

theorem execRanPeerRead_answers {addr : Nat} {b : StateBody} {t : Nat} (hne : addr ≠ 0) (haligned : addr % 64 = 0) (hstate : s.ran.state = some (b, t)) :
    execRanPeerRead h addr s = .next (complete (s.emit (.mem addr 64 (peerLayout b (s.ran.peer.map PeerClaim.body)))) h 0x7A .ok
      [(0, 4, satNat 32 ((s.ticks - t) / 625))]) := by
  simp only [execRanPeerRead, hstate]
  exact if_neg (by simp [hm, hne, haligned])

end

section
variable {s : State}

/-- A changed entry goes first (R294). -/
theorem execMirrorSend_changed {e : Nat} {r : List Nat} (hmirrors : mirrors s = true) (hdirty : s.ptp.dirty = e :: r) : execMirrorSend s
    = .next (ranSend { s with ptp := { s.ptp with dirty := r } } "MIRROR" (mirrorFields s e)) := by
  simp only [execMirrorSend, hdirty]
  exact if_neg (by simp [hmirrors])

theorem execMirrorSend_sweepEnd (hmirrors : mirrors s = true) (hdirty : s.ptp.dirty = []) (hpos : 65536 ≤ s.ran.sweepPos) : execMirrorSend s
    = .next (ranSend { s with ran := { s.ran with sweepPos := 0, sweepNum := (s.ran.sweepNum + 1) % 2 ^ 32 } } "SWEEP_END" [("sweep", s.ran.sweepNum)]) := by
  simp only [execMirrorSend, hdirty]
  exact (if_neg (by simp [hmirrors])).trans (if_neg (Nat.not_lt.2 hpos))

/-- The transfer of a cookie root that was not sent yet begins (R295). -/
theorem execKeywrapSend_begins (hrole : ranRole s = 1) (hpair : (pairKey s).isNone = false) (hlink : s.f F.RAN_STATUS_link = 2)
    (hroot : s.fb F.NTS_STATUS_root_valid = true) (howed : s.ran.revokeOwed = false) (hunsent : s.ran.sentRoot = none) : execKeywrapSend 0 s
    = .next (addJob { s with ran := { s.ran with keyGen := s.ran.keyGen + 1, sentRoot := some (s.rg .NTS_COOKIE_ROOT).toNat } } .ranin
        [(s.rg .STV_PAIR_KEY).toNat] wrapBlocks (.wrap 0 0 (s.ran.keyGen + 1))) := by
  unfold execKeywrapSend
  rw [if_neg (by simp [hrole, hpair, hlink]), if_neg (by simp [howed]), if_neg (by simp [hroot])]
  simp only [hunsent]
  rfl

theorem execAesJobGrant_grants {lane : Nat} {j : Job} {t : State} (hvacant : vacateLane s lane = s) (hfree : laneFree s lane = true)
    (hretired : s.wrap.retired.contains (4, lane) = false) (hprofile : s.f F.PWR_RUN_profile ≠ 1) (hpick : drrPick s = some (j, t))
    (hcls : j.cls ≠ .ranin) : execAesJobGrant lane s = .next (grantJob t lane j) := by
  simp only [execAesJobGrant, hvacant, hpick]
  rw [if_neg (by rw [hfree, hretired, beq_eq_false_iff_ne.2 hprofile]; simp), if_neg hcls]

/-- The silence of a peer is its last claim's age against the limit (R283, R298). -/
theorem peerStale_eq {p : PeerClaim} (hpeer : s.ran.peer = some p) :
    peerStale s = decide (p.tick + s.f F.RAN_TMO_silence * 625 ≤ s.ticks) := by
  simp only [peerStale, hpeer]

theorem silenceEval_of_stale (h : peerStale s = true) : silenceEval s = silence s := if_pos h
theorem silenceEval_of_not_stale (h : peerStale s = false) : silenceEval s = s := if_neg (ne_true_of_eq_false h)

theorem execRanTmoWrite_eq (v : Word) : execRanTmoWrite v s = .next (silenceEval (regWrite s ⟨.RAN_TMO, 0, 0⟩ v)) := rfl

end

/-- Settles O41: the checks of each command pass, and what is left is its effect. -/
theorem twinCommandsTakeEffect : Obligations.TwinCommandsTakeEffect := by
  intro s h hm
  refine ⟨execRanHandback_begins hm, execRanRejoin_enters hm, ?_, ?_, ?_, ?_, ?_, ?_⟩
  · intro addr b t hne haligned hstate
    exact ⟨_, execRanPeerRead_answers hm hne haligned hstate⟩
  · intro e r hmirrors hdirty
    exact ⟨_, _, execMirrorSend_changed hmirrors hdirty, rfl⟩
  · intro hmirrors hdirty hpos
    exact ⟨_, execMirrorSend_sweepEnd hmirrors hdirty hpos, rfl⟩
  · intro hrole hpair hlink hroot howed hunsent
    exact ⟨_, execKeywrapSend_begins hrole hpair hlink hroot howed hunsent, rfl⟩
  · intro lane j t hvacant hfree hretired hprofile hpick hcls
    exact execAesJobGrant_grants hvacant hfree hretired hprofile hpick hcls
  · intro v p hpeer
    have hstale := peerStale_eq hpeer
    refine ⟨fun hold => ?_, fun hyoung => ?_⟩
    · exact (execRanTmoWrite_eq v).trans (congrArg Host.Outcome.next (silenceEval_of_stale (hstale.trans (decide_eq_true hold))))
    · exact (execRanTmoWrite_eq v).trans (congrArg Host.Outcome.next (silenceEval_of_not_stale (hstale.trans (decide_eq_false (Nat.not_le.2 hyoung)))))

end Sys2Proof.Machine

namespace Sys2Proof.Machine
open Sys2Proof

/-! ### Lanes and frames (R281, R282, R428) -/

section
variable {s : State}

/-- Bit `lane` of lanes_up is the lane's own bit of RAN_STATUS. -/
theorem lanesUp_testBit (s : State) {lane : Nat} (hlane : lane < 4) :
    (s.f F.RAN_STATUS_lanes_up).testBit lane = (s.f ⟨.RAN_STATUS, 4 + lane, 4 + lane⟩).testBit 0 := by
  simp only [State.f, fget, Nat.testBit_mod_two_pow, Nat.testBit_div_two_pow]
  simp [hlane, Nat.add_comm]

theorem lanesUp_setLane (s : State) {lane : Nat} (hlane : lane < 4) (up : Bool) :
    ((s.setF ⟨.RAN_STATUS, 4 + lane, 4 + lane⟩ (bit up)).f F.RAN_STATUS_lanes_up).testBit lane = up := by
  rw [lanesUp_testBit _ hlane, f_setF_same _ ⟨.RAN_STATUS, 4 + lane, 4 + lane⟩ _ _ _ le_rfl (by simp only; omega), Nat.sub_self]
  cases up
  · rfl
  · rfl

/-- What the state of a lane changes besides leaves lanes_up as the lane's bit made it (R281). -/
theorem execRanLaneState_lanesUp {lane : Nat} {up training : Bool} (hlane : lane < 4) (hon : s.fb F.RAN_CFG_enable = true) :
    ∃ t, execRanLaneState lane up training s = .next t
      ∧ t.f F.RAN_STATUS_lanes_up = (s.setF ⟨.RAN_STATUS, 4 + lane, 4 + lane⟩ (bit up)).f F.RAN_STATUS_lanes_up := by
  unfold execRanLaneState
  extract_lets was laneSet l isUp linked
  have hlinked : linked.f F.RAN_STATUS_lanes_up = laneSet.f F.RAN_STATUS_lanes_up :=
    f_setF_apart _ F.RAN_STATUS_link _ _ _ _ rfl (by decide) (by decide) (by decide) (by decide)
  rw [if_neg (by simp [hon, hlane])]
  split
  · exact ⟨_, rfl, (f_congr (s := linked) rfl ..).trans hlinked⟩
  · split
    · refine ⟨_, rfl, Eq.trans ?_ hlinked⟩
      exact (f_setF_apart _ F.RAN_STATUS_mirror_ok F.RAN_STATUS_lanes_up _ _ _ rfl (by decide) (by decide) (by decide) (by decide)).trans
        (f_setF_name _ ⟨.RAN_EVENT, 5, 5⟩ _ _ _ _ _ _ (by decide))
    · exact ⟨_, rfl, hlinked⟩

theorem execStateSend_sends (htx : ranTx s = true) : ∃ f, execStateSend s = .next (ranSend s "STATE" f) := ⟨_, if_pos htx⟩

theorem shutdownResume_of_none (h : s.pwr.shutdown = none) : shutdownResume s = s := by
  rw [shutdownResume, h]

end

section
variable {s u : State} {f : RanFrame} (hu : u = silenceEval (advance s f.ticks)) (hon : u.fb F.RAN_CFG_enable = true)
include hu hon

theorem frameArrive_badCrc (hcrc : f.crcOk = false) : frameArrive f s = u.incF F.RAN_FRAME_ERR_crc := by
  simp only [frameArrive, ← hu]
  rw [if_neg (by simp [hon]), if_pos (by simp [hcrc])]

theorem frameArrive_badBody (hcrc : f.crcOk = true) (hbody : f.body = .bad) : frameArrive f s = u.incF F.RAN_FRAME_ERR_other := by
  simp only [frameArrive, ← hu, hbody]
  rw [if_neg (by simp [hon]), if_neg (by simp [hcrc])]

/-- A good frame acts by its kind (R282). -/
theorem frameArrive_acts (hcrc : f.crcOk = true) :
    (∀ b, f.body = .claim b → frameArrive f s = claimArrive u b) ∧ (∀ b, f.body = .state b → frameArrive f s = stateArrive u b)
      ∧ (∀ i e, f.body = .mirror i e → frameArrive f s = mirrorArrive u i e)
      ∧ (∀ k o g w, f.body = .keywrap k o g w → frameArrive f s = keywrapArrive u k o g w)
      ∧ (∀ c, f.body = .handback c → (peerFresh u).any (fun b => b.claim == c) = true → frameArrive f s = raise u)
      ∧ (∀ n, f.body = .sweepEnd n → frameArrive f s = sweepArrive u) := by
  simp only [frameArrive, ← hu]
  rw [if_neg (by simp [hon]), if_neg (by simp [hcrc])]
  refine ⟨fun b hb => ?_, fun b hb => ?_, fun i e hb => ?_, fun k o g w hb => ?_, fun c hb hclaim => ?_, fun n hb => ?_⟩
  · rw [hb]
  · rw [hb]
  · rw [hb]
  · rw [hb]
  · rw [hb]
    exact if_pos hclaim
  · rw [hb]

end

theorem execRanFrameReceive_of {s t : State} {f : RanFrame} (h : frameArrive f s = t) : execRanFrameReceive f s = .next (shutdownResume t) := by
  rw [← h, execRanFrameReceive]

theorem execRanFrameReceive_counts {s u : State} {d : Fld} {f : RanFrame} (hshut : u.pwr.shutdown = none) (h : frameArrive f s = u.incF d) :
    execRanFrameReceive f s = .next (u.incF d) := by
  rw [execRanFrameReceive_of h, shutdownResume_of_none (by rw [State.incF_pwr, hshut])]

/-! ### Takeover (R283, R284, R286, R287, R297) -/

section
variable {s : State}

theorem execPeerSilence_silent {k : Nat} (h : peerStale (advance s k) = true) : execPeerSilence k s = .next (silence (advance s k)) :=
  congrArg Host.Outcome.next (if_pos h)

theorem execPeerSilence_heard {k : Nat} (h : peerStale (advance s k) = false) : execPeerSilence k s = .next (advance s k) :=
  congrArg Host.Outcome.next (if_neg (ne_true_of_eq_false h))

theorem execClaimRaise_fenced {b : ClaimBody} (hpeer : peerFresh s = some b) (hrole : b.role = 3) : execClaimRaise s = .next (raise s) := by
  rw [execClaimRaise, hpeer]
  exact congrArg Host.Outcome.next (if_pos (.inl hrole))

theorem execJoinWaitEnd_waits (h : joinEnds s = false) : execJoinWaitEnd s = .next s := if_pos (by simp [h])

/-- The fresh claim of the peer is in its register and in the twin part. -/
theorem peerFresh_congr {t : State} (hregs : t.regs = s.regs) (hpeer : t.ran.peer = s.ran.peer) : peerFresh t = peerFresh s := by
  rw [peerFresh, fb_congr (f_congr hregs ..), hpeer, peerFresh]

theorem ownClaim_congr {t : State} (hregs : t.regs = s.regs) : ownClaim t = ownClaim s := by
  rw [ownClaim, rg_congr hregs, ownClaim]

section
variable {t : State} (ht : t = { s with ran := { s.ran with joinAt := none } }) (hends : joinEnds s = true)
include ht hends

theorem execJoinWaitEnd_sawLead (hsaw : s.ran.sawLead = true) : execJoinWaitEnd s = .next t := by
  simp only [execJoinWaitEnd, ← ht, hends]
  exact congrArg Host.Outcome.next (if_pos (by simp only [hsaw]))

section
variable (hsaw : s.ran.sawLead = false)
include hsaw

theorem execJoinWaitEnd_alone (hpeer : peerFresh s = none) : execJoinWaitEnd s = .next (raise t) := by
  have hfresh : peerFresh t = none := (peerFresh_congr (by rw [ht]) (by rw [ht])).trans hpeer
  simp only [execJoinWaitEnd, ← ht, hends, hfresh]
  exact congrArg Host.Outcome.next (if_neg (by simp only [hsaw]; decide))

theorem execJoinWaitEnd_higher {b : ClaimBody} (hpeer : peerFresh s = some b) (hrole : b.role = 2) (hclaim : b.claim < ownClaim s) :
    execJoinWaitEnd s = .next (raise t) := by
  have hfresh : peerFresh t = some b := (peerFresh_congr (by rw [ht]) (by rw [ht])).trans hpeer
  have hown : ownClaim t = ownClaim s := ownClaim_congr (by rw [ht])
  simp only [execJoinWaitEnd, ← ht, hends, hfresh]
  exact congrArg Host.Outcome.next ((if_neg (by simp only [hsaw]; decide)).trans (if_pos ⟨hrole, hown.symm ▸ hclaim⟩))

end

end

theorem execAutoRejoin_enters (hrole : ranRole s = 3) (hauto : s.fb F.RAN_CFG_auto_rejoin = true) (hlead : peerLeads s = true)
    (hheld : leadHeld s = true) (hclock : s.hs.shclk = true) (hvalid : (tsc s 0).valid = true) : execAutoRejoin s = .next (enterStandIn s) :=
  congrArg Host.Outcome.next (if_pos ⟨hrole, hauto, hlead, hheld, hclock, hvalid⟩)

/-- A handback that ran out of time completes, and no SHUTDOWN waits for it. -/
theorem execHandbackTimeout_completes {h : CmdHdr} (hback : s.ran.handback = some h) (hlate : s.ran.handbackAt + 6250000 ≤ s.ticks)
    (hshut : s.pwr.shutdown = none) :
    execHandbackTimeout s = .next (finish { s with ran := { s.ran with handback := none, sentHandback := false } } h 0x78 .timeout []) := by
  have hend : handbackEnd s = finish { s with ran := { s.ran with handback := none, sentHandback := false } } h 0x78 .timeout [] := by
    simp only [handbackEnd, hback]
    exact if_neg (Nat.not_lt.2 hlate)
  rw [execHandbackTimeout, hend, shutdownResume_of_none (by rw [finish_pwr, hshut])]

end

/-! ### Marks and follow mode (R289, R290) -/

section
variable {s u : State} {k frac : Nat} (hu : u = advance s k)
include hu

theorem execMarkSend_sends (htx : ranTx u = true) (hdue : markDue u (markSlate u frac) = true) :
    ∃ t, execMarkSend k frac s = .next (markExchange t) ∧ t.ran.lastTx = markSlate u frac := by
  simp only [execMarkSend, ← hu]
  exact ⟨_, if_neg (by simp [htx, hdue]), rfl⟩

theorem execMarkArrival_notes (hon : u.fb F.RAN_CFG_enable = true) :
    ∃ t, execMarkArrival k frac s = .next (markExchange t) ∧ t.ran.lastRx = some (markSlate u frac) := by
  simp only [execMarkArrival, ← hu]
  exact ⟨_, if_neg (by simp [hon]), rfl⟩

end

theorem execFollowModeUpdate_slews {s u w : State} {th : Int} {l : List Int} (hu : u = { s with ran := { s.ran with thetaNew := false } })
    (hw : w = loadSlew u 0 (-(th * 2 ^ 48 / 256000)) (s.f F.GOV_TS_SLEW_value) false) (hthetas : s.ran.thetas = th :: l) (hrole : ranRole s = 2)
    (hnew : s.ran.thetaNew = true) (hruns : tsRuns s 0 = true) (hclock : s.hs.shclk = true) :
    execFollowModeUpdate s = .next (applyIncr w 0 (Config.followIncr (s.f F.RAN_CFG_align_bw) (tsIncr w 0) th) 2) := by
  have hregs : u.regs = s.regs := by rw [hu]
  have hrate : u.f F.GOV_TS_SLEW_value = s.f F.GOV_TS_SLEW_value := f_congr hregs ..
  have hbw : w.f F.RAN_CFG_align_bw = s.f F.RAN_CFG_align_bw := f_congr (by rw [hw, loadSlew, setTsc_regs, hregs]) ..
  rw [execFollowModeUpdate, hthetas]
  refine (if_neg (by simp [hrole, hnew, hruns, hclock])).trans ?_
  simp only [← hu, hrate, ← hw, hbw]

/-- Settles O42: each event by the equation of its meaning. -/
theorem twinEventsTakeEffect : Obligations.TwinEventsTakeEffect := by
  intro s
  refine ⟨?_, rfl, execStateSend_sends, ?_, ?_, fun k => ⟨execPeerSilence_silent, execPeerSilence_heard, rfl⟩, fun k => rfl, ?_, ?_, ?_,
    execJoinWaitEnd_waits, execAutoRejoin_enters, ?_, ?_, ?_, ?_⟩
  · intro lane up tr hlane hon
    obtain ⟨t, hexec, hlanes⟩ := execRanLaneState_lanesUp (training := tr) hlane hon
    exact ⟨t, hexec, hlanes ▸ lanesUp_setLane s hlane up⟩
  · intro f u hu hshut hon
    exact ⟨fun hcrc => execRanFrameReceive_counts hshut (frameArrive_badCrc hu hon hcrc),
      fun hcrc hbody => execRanFrameReceive_counts hshut (frameArrive_badBody hu hon hcrc hbody)⟩
  · intro f u hu hon hcrc
    obtain ⟨hclaim, hstate, hmirror, hkeywrap, hhandback, hsweep⟩ := frameArrive_acts hu hon hcrc
    exact ⟨fun b hb => execRanFrameReceive_of (hclaim b hb), fun b hb => execRanFrameReceive_of (hstate b hb),
      fun i e hb => execRanFrameReceive_of (hmirror i e hb), fun k o g w hb => execRanFrameReceive_of (hkeywrap k o g w hb),
      fun c hb hfresh => execRanFrameReceive_of (hhandback c hb hfresh), fun n hb => execRanFrameReceive_of (hsweep n hb)⟩
  · intro b hpeer
    exact ⟨execClaimRaise_fenced hpeer, fun hends hsaw hrole hclaim => execJoinWaitEnd_higher rfl hends hsaw hpeer hrole hclaim⟩
  · exact fun hends hsaw hpeer => execJoinWaitEnd_alone rfl hends hsaw hpeer
  · exact fun hends hsaw => execJoinWaitEnd_sawLead rfl hends hsaw
  · exact fun k frac htx hdue => execMarkSend_sends rfl htx hdue
  · exact fun k frac hon => execMarkArrival_notes rfl hon
  · intro th l hthetas hrole hnew hruns hclock
    exact ⟨{ s with ran := { s.ran with thetaNew := false } }, rfl, rfl, execFollowModeUpdate_slews rfl rfl hthetas hrole hnew hruns hclock⟩
  · intro h hback hlate hshut
    exact ⟨_, execHandbackTimeout_completes hback hlate hshut, rfl⟩

end Sys2Proof.Machine

namespace Sys2Proof.Machine
open Sys2Proof

/-! ### The checks of a key command (R354, R358) -/

section
variable {s : State} {h : CmdHdr} {op : Nat}

theorem keyGate_passes (hlo : 0 < lcState s) (hhi : lcState s ≤ 3) (hiso : s.log.isolated.contains 15 = false) (htamper : tampered s = false)
    (k : State → State) : keyGate s h op k = k s :=
  (if_neg (by omega)).trans ((if_neg (ne_true_of_eq_false hiso)).trans (if_neg (ne_true_of_eq_false htamper)))

theorem withHandle_passes {hd i : Nat} {n : Node} (hne : hd ≠ 0) (hhandle : handleNode s hd = some i) (hnode : node s i = some n)
    (k : Nat → Node → State) : withHandle s h op hd k = k i n := by
  rw [withHandle, if_neg hne, hhandle]
  simp only [hnode]

end

/-! ### The key commands (R352-R356, R358-R360) -/

section
variable {s : State} {h : CmdHdr} (hm : h.mbz = true) (hlo : 0 < lcState s) (hhi : lcState s ≤ 3) (hiso : s.log.isolated.contains 15 = false)
  (htamper : tampered s = false)
include hm hlo hhi hiso htamper

/-- A child that its parent does not have yet takes the lowest free node (R352, R356). -/
theorem execStvDerive_makes {a : StvDeriveArgs} {i j : Nat} {p : Node} (hne : a.parent ≠ 0) (hhandle : handleNode s a.parent = some i)
    (hnode : node s i = some p) (hi : i ≠ 2) (husage : p.usage = 0) (hdepth : p.depth < 16) (hok : usageOk a.usage a.size = true)
    (hlabel1 : 1 ≤ a.labelLen) (hlabel : a.labelLen ≤ 24) (hctx : a.ctxLen ≤ 24) (hlabel0 : (a.label.drop a.labelLen).any (fun b => b != 0) = false)
    (hctx0 : (a.context.drop a.ctxLen).any (fun b => b != 0) = false)
    (hchildless : ∀ q ∈ s.stv.nodes, q.2.any (fun n => n.parent == some i) = false) (hfree : freeIndex s = some j) :
    ∃ u, execStvDerive h a s = .next (complete u h 0x50 .ok [(0, 4, handleOf u j), (4, 1, p.depth + 1), (5, 1, 0)])
      ∧ u = newNode s j ⟨Config.kdf p.key (a.label.take a.labelLen) (a.context.take a.ctxLen) a.size, a.usage, a.size, some i, p.depth + 1, false,
          a.label.take a.labelLen, a.context.take a.ctxLen, false⟩ := by
  refine ⟨_, ?_, rfl⟩
  rw [execStvDerive, keyGate_passes hlo hhi hiso htamper, withHandle_passes hne hhandle hnode]
  have hargs : ¬(!h.mbz ∨ i = 2 ∨ p.usage ≠ 0 ∨ usageOk a.usage a.size = false ∨ 16 ≤ p.depth ∨ a.labelLen < 1 ∨ 24 < a.labelLen
      ∨ 24 < a.ctxLen ∨ (a.label.drop a.labelLen).any (fun b => b != 0) = true ∨ (a.context.drop a.ctxLen).any (fun b => b != 0) = true) := by
    rw [hm, hok, hlabel0, hctx0]
    simp only [Bool.not_true, false_or, or_false, Bool.true_eq_false, Bool.false_eq_true]
    omega
  refine congrArg Host.Outcome.next ((if_neg hargs).trans ?_)
  extract_lets label ctx
  simp only [hfree]
  split
  next q hq =>
    have hmatch := List.find?_some hq
    have hnone := hchildless q (List.mem_of_find?_eq_some hq)
    split at hmatch
    next n hn =>
      rw [hn, Option.any_some] at hnone
      simp [hnone] at hmatch
    · cases hmatch
  next => rfl

theorem execStvIdentity_writes {addr : Nat} {n : Node} (hne : addr ≠ 0) (haligned : addr % 8 = 0) (hnode : node s 1 = some n) :
    execStvIdentity h addr s
      = .next (complete (s.emit (.mem addr 96 [(0, 96, Config.publicKey n.key % 2 ^ 768)])) h 0x57 .ok [(0, 4, 96)]) := by
  rw [execStvIdentity, keyGate_passes hlo hhi hiso htamper, if_neg (by simp [hm, hne, haligned]), hnode]

section
variable {hd i : Nat} {n : Node} (hne : hd ≠ 0) (hhandle : handleNode s hd = some i) (hnode : node s i = some n)
include hne hhandle hnode

theorem execStvRevoke_revokes (hi : 3 ≤ i) : execStvRevoke h hd s
    = .next (complete (revokeNodes s (subtree s i)) h 0x51 .ok [(0, 2, (subtree s i).length), (2, 2, jobsOn s (subtree s i))]) := by
  rw [execStvRevoke, keyGate_passes hlo hhi hiso htamper, withHandle_passes hne hhandle hnode]
  exact congrArg Host.Outcome.next (if_neg (by simp [hm, hi]))

theorem execStvKeyInfo_answers : execStvKeyInfo h hd 0 s = .next (complete s h 0x52 .ok (keyInfo s i n)) := by
  rw [execStvKeyInfo, keyGate_passes hlo hhi hiso htamper, if_neg hne, withHandle_passes hne hhandle hnode]
  exact congrArg Host.Outcome.next (if_neg (by simp [hm]))

theorem execStvCrypt_begins {a : StvCryptArgs} (ha : a.handle = hd) (hiso3 : s.log.isolated.contains 3 = false) (hi : i ≠ 2)
    (husage : cryptUsage a.op = some n.usage) (hlen1 : 1 ≤ a.inLen) (hlen : a.inLen ≤ 65536) (haad : a.aadLen ≤ a.inLen) (hin : a.inAddr ≠ 0)
    (hout : a.outAddr ≠ 0) : execStvCrypt h a s
    = .next (addJob (begins s h 0x53) (if a.op < 2 then .host else .direct) [a.handle] (cdiv a.inLen 16 + 2) (.crypt h a)) := by
  subst ha
  rw [execStvCrypt, if_neg (ne_true_of_eq_false hiso3), keyGate_passes hlo hhi hiso htamper, withHandle_passes hne hhandle hnode]
  exact congrArg Host.Outcome.next (if_neg (by simp [hm, hi, husage, hlen, haad, hin, hout, Nat.ne_of_gt hlen1]))

/-- A public key becomes a verify-only leaf (R360). -/
theorem execStvImport_makes {a : StvImportArgs} {j : Nat} (ha : a.parent = hd) (hi : i ≠ 2) (husage : n.usage = 0) (hdepth : n.depth < 16)
    (hmode : a.mode = 1) (haddr : a.addr ≠ 0) (hcurve : a.curve ≤ 1) (hon : a.onCurve = true) (hfree : freeIndex s = some j) :
    ∃ u, execStvImport h a s = .next (complete u h 0x54 .ok [(0, 4, handleOf u j)])
      ∧ u = newNode s j ⟨a.pubKey, 6, 0, some i, n.depth + 1, true, [], [], false⟩ := by
  refine ⟨_, ?_, rfl⟩
  subst ha
  rw [execStvImport, keyGate_passes hlo hhi hiso htamper, withHandle_passes hne hhandle hnode]
  refine congrArg Host.Outcome.next ((if_neg (by simp [hm, hi, husage, hdepth, hmode, haddr, hcurve, hon])).trans ?_)
  rw [hfree]
  simp only [hmode]
  rfl

end

end

/-- Settles O44: the checks of each key command pass, and what is left is its effect. -/
theorem stavrisKeyCommandsTakeEffect : Obligations.StavrisKeyCommandsTakeEffect := by
  intro s h hm hlo hhi hiso htamper
  refine ⟨?_, ?_, ?_⟩
  · intro a i p hne hhandle hnode hi husage hdepth hok hlabel1 hlabel hctx hlabel0 hctx0 hchildless j hfree
    exact execStvDerive_makes hm hlo hhi hiso htamper hne hhandle hnode hi husage hdepth hok hlabel1 hlabel hctx hlabel0 hctx0 hchildless hfree
  · intro hd i n hne hhandle hnode
    refine ⟨execStvRevoke_revokes hm hlo hhi hiso htamper hne hhandle hnode, execStvKeyInfo_answers hm hlo hhi hiso htamper hne hhandle hnode, ?_, ?_⟩
    · intro a ha hiso3 hi husage hlen1 hlen haad hin hout
      exact execStvCrypt_begins hm hlo hhi hiso htamper hne hhandle hnode ha hiso3 hi husage hlen1 hlen haad hin hout
    · intro a j ha hi husage hdepth hmode haddr hcurve hon hfree
      exact execStvImport_makes hm hlo hhi hiso htamper hne hhandle hnode ha hi husage hdepth hmode haddr hcurve hon hfree
  · intro addr n hne haligned hnode
    exact execStvIdentity_writes hm hlo hhi hiso htamper hne haligned hnode

end Sys2Proof.Machine

namespace Sys2Proof.Machine
open Sys2Proof

/-! ### The call sheets (R331, R337-R341, R343, R348) -/

section
variable {s : State}

/-- The registers that show the slots are not the life cycle's. -/
theorem lcState_sheetSync (s : State) : lcState (sheetSync s) = lcState s := by
  unfold sheetSync
  extract_lets x active previous staged valid
  have hstaged : staged.f F.LC_STATE_state = s.f F.LC_STATE_state :=
    (f_wr_name (by decide)).trans ((f_wr_name (by decide)).trans (f_wr_name (by decide)))
  have hvalid : valid.f F.LC_STATE_state = staged.f F.LC_STATE_state :=
    (f_setF_name _ F.CSHT_STATUS_prev_valid _ _ _ _ _ _ (by decide)).trans (f_setF_name _ F.CSHT_STATUS_staged_valid _ _ _ _ _ _ (by decide))
  exact (f_setF_name _ F.CSHT_STATUS_confirm_pending _ _ _ _ _ _ (by decide)).trans
    ((f_setF_name _ F.CSHT_STATUS_undo_valid _ _ _ _ _ _ (by decide)).trans (hvalid.trans hstaged))

theorem lcState_directoryWrite (s : State) : lcState (directoryWrite s) = lcState s := by
  unfold directoryWrite
  extract_lets u x role
  exact (lcState_sheetSync _).trans (f_congr (s := s) rfl ..)

end

section
variable {s : State} {h : CmdHdr} (hm : h.mbz = true)
include hm

theorem execCshtStage_begins {a : CshtStageArgs} {sh : Sheet} (hparse : parseSheet s a = .inr sh) (hidle : s.sheets.applying = none)
    (hfree : s.sheets.writing = none) (hlife : lifeAccepts s sh = true) (hnew : slotVersion s.sheets.active < sh.version)
    (hbase : sh.base = 0 ∨ sh.base = slotVersion s.sheets.active) :
    execCshtStage h a s = .next { begins s h 0x60 with sheets := { s.sheets with writing := some (h, sh) } } := by
  unfold execCshtStage
  rw [if_neg (by simp [hm]), hparse]
  refine (if_neg (by simp [hidle, hfree])).trans ((if_neg (by simp [hlife])).trans (if_neg ?_))
  omega

theorem cshtCommit_argsOk {a : CshtCommitArgs} (hns : a.ns < 10 ^ 9) (hsec : a.sec < 2 ^ 48) (hconfirm : a.confirm = 0) (htrigger : a.trigger ≤ 1) :
    ¬(!h.mbz ∨ 1 < a.trigger ∨ 10 ^ 9 ≤ a.ns ∨ 2 ^ 48 ≤ a.sec ∨ (a.confirm ≠ 0 ∧ (a.confirm < 10 ∨ 3600 < a.confirm))) :=
  not_or.2 ⟨by simp [hm], not_or.2 ⟨by omega, not_or.2 ⟨Nat.not_le.2 hns, not_or.2 ⟨Nat.not_le.2 hsec, fun hc => hc.1 hconfirm⟩⟩⟩⟩

section
variable {a : CshtCommitArgs} (hns : a.ns < 10 ^ 9) (hsec : a.sec < 2 ^ 48) (hconfirm : a.confirm = 0) (hstatus : commitStatus s a = none)
  (hts : a.ts < 4)
include hns hsec hconfirm hstatus hts

theorem execCshtCommit_now (htrigger : a.trigger = 0) : execCshtCommit h a s = .next (commitNow (begins s h 0x61) h a) := by
  unfold execCshtCommit
  rw [if_neg (cshtCommit_argsOk hm hns hsec hconfirm (by omega)), if_neg (Nat.not_le.2 hts), if_neg (by simp [htrigger]), hstatus]
  exact (if_neg (by simp [htrigger])).trans (if_pos htrigger)

theorem execCshtCommit_waits (htrigger : a.trigger = 1) (hruns : tsRuns s a.ts = true) (hpast : instantPast s a.ts a.sec a.ns 0 = false)
    (hclock : s.hs.shclk = true) : execCshtCommit h a s = .next (atTsWait (begins s h 0x61) ⟨h, .cshtCommit a, a.ts, a.sec, a.ns, 0⟩) := by
  unfold execCshtCommit
  rw [if_neg (cshtCommit_argsOk hm hns hsec hconfirm (by omega)), if_neg (Nat.not_le.2 hts), if_neg (by simp [hruns, hpast]), hstatus]
  exact (if_neg (by simp [hclock])).trans (if_neg (by simp [htrigger]))

end

/-- Outside the state SEALED a confirmation raises no floor (R340, R376). -/
theorem execCshtConfirm_confirms {u : State} (hu : u = directoryWrite { s with sheets := { s.sheets with confirm := false, trial := 0 } })
    (hpending : s.sheets.confirm = true) (hlc : lcState s ≠ 2) : execCshtConfirm h (slotVersion s.sheets.active) s
    = .next (complete (logEvent u 3 0x0C02 [(0, 4, slotVersion s.sheets.active)]) h 0x62 .ok [(0, 4, slotVersion s.sheets.active)]) := by
  have hlcu : lcState u ≠ 2 := by
    rw [hu, lcState_directoryWrite]
    exact hlc
  simp only [execCshtConfirm, ← hu]
  rw [if_neg (by simp [hm]), if_neg (not_not_intro rfl), if_neg (by simp [hpending])]
  split
  · rw [if_neg fun hc => hlcu hc.1]
  · rfl

theorem execCshtRevert_reverts {q : SheetSlot} (hidle : s.sheets.applying = none) (hprevious : s.sheets.previous = some q) :
    execCshtRevert h (slotVersion s.sheets.active) s = .next (revertNow (begins s h 0x63) (some h) 1) := by
  unfold execCshtRevert
  rw [if_neg (by simp [hm]), if_neg (by simp [hidle]), if_neg (by simp [hprevious]), if_neg (not_not_intro rfl)]

theorem execCshtRead_writes {a : CshtReadArgs} {q : SheetSlot} (hslot : a.slot = 1) (hne : a.addr ≠ 0) (haligned : a.addr % 8 = 0)
    (hactive : s.sheets.active = some q) (hlen : q.sheet.image.length ≤ a.length) : execCshtRead h a s
    = .next (complete (s.emit (.mem a.addr q.sheet.image.length [(0, q.sheet.image.length, leVal q.sheet.image)])) h 0x64 .ok
        [(0, 4, q.sheet.image.length), (4, 4, q.sheet.version)]) := by
  unfold execCshtRead
  rw [if_neg (by simp [hm, hslot, hne, haligned])]
  simp only [hslot, hactive]
  exact if_neg (Nat.not_lt.2 hlen)

end

section
variable {s : State}

/-- The end of an apply that no command waits for (R339). -/
theorem execCshtApplyEnd_ends {x : Applying} {u : State}
    (hu : u = { s.setB F.CSHT_STATUS_applying false with sheets := { s.sheets with applying := none } }) (hx : s.sheets.applying = some x)
    (hcause : x.cause = 0) (hhdr : x.hdr = none) : execCshtApplyEnd s = .next (logEvent u 3 0x0C01 [(0, 4, x.new), (4, 4, x.prev)]) := by
  simp only [execCshtApplyEnd, hx, hhdr, ← hu]
  exact if_pos hcause

theorem execCshtDeadlineWarn_warns (hwarn : s.f F.CSHT_CFG_warn ≠ 0) (hlong : s.f F.CSHT_CFG_warn ≤ s.sheets.deadline)
    (hinside : confirmWithin s (s.f F.CSHT_CFG_warn) = true) (hrunning : confirmWithin s 0 = false) (hwarned : s.sheets.warned = false) :
    execCshtDeadlineWarn s = .next (logEvent { s with sheets := { s.sheets with warned := true } } 3 0x0C04
      [(0, 4, slotVersion s.sheets.active), (4, 2, s.f F.CSHT_CFG_warn)]) :=
  congrArg Host.Outcome.next (if_pos (by simp [hwarn, hlong, hinside, hrunning, hwarned]))

theorem execConfirmDeadlineExpiry_reverts (hpending : s.sheets.confirm = true) (hdeadline : s.sheets.deadline ≠ 0)
    (hover : s.sheets.deadline * 625000000 ≤ s.ticks - s.sheets.since) (hidle : s.sheets.applying = none) :
    execConfirmDeadlineExpiry s = .next (revertNow s none 2) := by
  have hwithin : confirmWithin s 0 = true := by simp [confirmWithin, hpending, hdeadline, hover]
  exact congrArg Host.Outcome.next (if_pos (by simp [hwithin, hidle]))

end

/-- Settles O49: the checks of each command pass, and what is left is its effect. -/
theorem callSheetCommandsTakeEffect : Obligations.CallSheetCommandsTakeEffect := by
  intro s h hm
  refine ⟨?_, ?_, ?_, ?_, ?_, ?_, ?_, ?_, fun good => ⟨rfl, rfl⟩⟩
  · intro a sh hparse hidle hfree hlife hnew hbase
    exact execCshtStage_begins hm hparse hidle hfree hlife hnew hbase
  · intro a hns hsec hconfirm hstatus
    exact ⟨fun htrigger hts => execCshtCommit_now hm hns hsec hconfirm hstatus hts htrigger,
      fun htrigger hts hruns hpast hclock => execCshtCommit_waits hm hns hsec hconfirm hstatus hts htrigger hruns hpast hclock⟩
  · exact fun hpending hlc => ⟨_, rfl, execCshtConfirm_confirms hm rfl hpending hlc⟩
  · intro q hidle hprevious
    exact execCshtRevert_reverts hm hidle hprevious
  · intro a q hslot hne haligned hactive hlen
    exact execCshtRead_writes hm hslot hne haligned hactive hlen
  · intro x hx hcause hhdr
    exact ⟨_, execCshtApplyEnd_ends rfl hx hcause hhdr, rfl, fb_congr (f_congr (s := s.setB F.CSHT_STATUS_applying false) rfl ..) |>.trans
      (fb_setB_same rfl (by decide))⟩
  · exact execCshtDeadlineWarn_warns
  · exact execConfirmDeadlineExpiry_reverts

end Sys2Proof.Machine

namespace Sys2Proof.Machine
open Sys2Proof

/-! ### Firmware slots and plug-ins (R369, R370, R372, R390) -/

section
variable {s : State} {h : CmdHdr} (hm : h.mbz = true)
include hm

theorem execFwStage_begins {a : FwStageArgs} (hne : a.addr ≠ 0) (haligned : a.addr % 8 = 0) (hlen : a.length ≤ 4194304)
    (hsig : a.image.sigGood = true) (htrial : s.fw.trial = false) (hfree : s.fw.writing = none)
    (hversion : s.f F.STV_ROLLBACK_counter ≤ a.image.security) :
    execFwStage h a s = .next { begins s h 0x6A with fw := { s.fw with writing := some (h, 1 - s.fw.running, a.image) } } := by
  unfold execFwStage
  rw [if_neg (by simp [hm, hne, haligned, hlen, hsig]), if_neg (by simp [htrial, hfree]), if_neg (Nat.not_lt.2 hversion)]

theorem execFwSelect_selects {slot : Nat} (hslot : slot ≤ 1) (hother : slot ≠ s.fw.running) (hpasses : fwPasses s (tget s.fw.slots none slot) = true)
    (htrial : s.fw.trial = false) : execFwSelect h slot s
    = .next (complete { s with fw := { s.fw with preferred := slot, trial := true, trialCount := 0, seq := s.fw.seq + 1 } } h 0x6B .ok
        [(0, 1, slot), (1, 1, 1)]) := by
  unfold execFwSelect
  rw [if_neg (by simp [hm, hslot, hother, hpasses]), if_neg (ne_true_of_eq_false htrial)]

theorem execFwConfirm_ends (htrial : s.fw.trial = true) (hrunning : s.fw.preferred = s.fw.running) : execFwConfirm h s
    = .next (complete ({ s with fw := { s.fw with trial := false, trialCount := 0, seq := s.fw.seq + 1 } }.setB F.GLOBAL_FW_STATE_trial false) h 0x6C .ok
        [(0, 1, s.fw.running)]) := by
  unfold execFwConfirm
  rw [if_neg (by simp [hm]), if_neg (by simp [htrial, hrunning])]

section
variable {id : Nat} {p : Plugin} (hp : plugin s id = some p)
include hp

theorem execPluginCtl_stops : execPluginCtl h id 0 s = .next (complete (pluginStop s id 5) h 0x6D .ok [(0, 1, 0)]) := by
  unfold execPluginCtl
  rw [if_neg (by simp [hm]), hp]
  exact if_pos rfl

theorem execPluginCtl_starts (hhash : p.hashOk = true) :
    execPluginCtl h id 1 s = .next (complete (setPlugin s id { p with running := true }) h 0x6D .ok [(0, 1, 1)]) := by
  unfold execPluginCtl
  rw [if_neg (by simp [hm]), hp]
  exact (if_neg Nat.one_ne_zero).trans (if_neg (by simp [hhash]))

end

end

section
variable {s : State} {id : Nat} {p : Plugin} (hp : plugin s id = some p) (hrunning : p.running = true) (hrun : s.f F.PWR_RUN_run_state ≠ 4)
include hp hrunning hrun

theorem execPluginKernelCall_stops {call : KernelCall} (hdenied : callPermitted s p call = false) :
    execPluginKernelCall id call s = .next (pluginStop s id 2) := by
  unfold execPluginKernelCall
  rw [hp]
  exact (if_neg (by simp [hrunning, hrun])).trans (if_pos (by simp [hdenied]))

theorem execPluginKernelCall_writes {o : Nat} {v : Word} (hpermitted : callPermitted s p (.write o v) = true) :
    execPluginKernelCall id (.write o v) s = .next (barWrite s o v) := by
  rw [execPluginKernelCall, hp]
  exact (if_neg (by simp [hrunning, hrun])).trans (if_neg (by simp [hpermitted]))

end

/-- Settles O50: the checks of each command pass, and what is left is its effect. -/
theorem firmwareCommandsTakeEffect : Obligations.FirmwareCommandsTakeEffect := by
  intro s h hm
  refine ⟨?_, ?_, ?_, ?_, fun id c hc => congrArg Host.Outcome.next (if_pos hc), ?_⟩
  · intro a hne haligned hlen hsig htrial hfree hversion
    exact execFwStage_begins hm hne haligned hlen hsig htrial hfree hversion
  · intro slot hslot hother hpasses htrial
    exact execFwSelect_selects hm hslot hother hpasses htrial
  · intro htrial hrunning
    exact ⟨_, execFwConfirm_ends hm htrial hrunning, rfl, fb_setB_same rfl (by decide)⟩
  · intro id p hp
    exact ⟨execPluginCtl_stops hm hp, execPluginCtl_starts hm hp⟩
  · intro id p call hp hrunning hrun
    exact ⟨execPluginKernelCall_stops hp hrunning hrun, fun o v hpermitted => execPluginKernelCall_writes hp hrunning hrun hpermitted⟩

end Sys2Proof.Machine

namespace Sys2Proof.Machine
open Sys2Proof

/-! ### The performance counters and the sampling unit (R383-R385, R387-R390) -/

section
variable {s : State} {h : CmdHdr} (hm : h.mbz = true) (hiso : s.log.isolated.contains 14 = false)
include hm hiso

theorem execPerfSample_stops :
    execPerfSample h 0 s = .next (complete { s with perf := { s.perf with sampling := false } } h 0x6E .ok [(0, 1, s.perf.buffer.length)]) := by
  unfold execPerfSample
  rw [if_neg (by simp [hm]), if_neg (ne_true_of_eq_false hiso), if_neg (by simp)]
  rfl

theorem execPerfSample_starts (hcores : s.f F.PERF_SAMPLE_CFG_cores ≠ 0) (hidle : s.perf.sampling = false) :
    execPerfSample h 1 s = .next (complete { s with perf := { s.perf with sampling := true } } h 0x6E .ok [(0, 1, s.perf.buffer.length)]) := by
  unfold execPerfSample
  rw [if_neg (by simp [hm, hcores]), if_neg (ne_true_of_eq_false hiso), if_neg (by simp [hidle])]
  rfl

end

section
variable {s : State} {c : Nat}

theorem perfOvfEvent_posts (hevent : s.fb F.PERF_SEL_ovf_evt c = true) : perfOvfEvent s c = event s 0x0E06 [(0, 1, c)] := if_pos hevent
theorem perfOvfEvent_silent (hevent : s.fb F.PERF_SEL_ovf_evt c = false) : perfOvfEvent s c = s := if_neg (ne_true_of_eq_false hevent)

section
variable (hc : c < 48)
include hc

/-- A wrap that the model counts leaves the list of wraps (R383). -/
theorem execPerfOvf_counted (hwrapped : s.perf.wrapped.contains c = true) :
    execPerfOvf c s = .next (perfOvfEvent { s with perf := { s.perf with wrapped := s.perf.wrapped.erase c } } c) := by
  unfold execPerfOvf
  rw [if_neg (Nat.not_le.2 hc), if_pos hwrapped]

theorem execPerfOvf_inside (hwrapped : s.perf.wrapped.contains c = false) (hinside : perfWrapsInside s c = true) :
    execPerfOvf c s = .next (perfOvfEvent (perfOverflow (setPerfCount s c 0) c) c) := by
  unfold execPerfOvf
  rw [if_neg (Nat.not_le.2 hc), if_neg (ne_true_of_eq_false hwrapped), if_pos hinside]

theorem execPerfCntRead_refused (huser : s.fb F.PERF_SEL_user_rd c = false) :
    execPerfCntRead c true s = .next ((violation s).emit (.read (0x7200 + 8 * c) 0)) := by
  unfold execPerfCntRead
  rw [if_neg (Nat.not_le.2 hc), if_pos (by simp [huser])]

theorem execPerfCntRead_latches (hlower : perfUpper s c = false) :
    execPerfCntRead c false s = .next ((perfLatch s c).emit (.read (0x7200 + 8 * c) (BitVec.ofNat 32 (s.f F.PERF_CNT_LO_value c)))) := by
  have hlo : perfLo s c = s.f F.PERF_CNT_LO_value c := if_neg (ne_true_of_eq_false hlower)
  unfold execPerfCntRead
  rw [if_neg (Nat.not_le.2 hc), if_neg (by simp), hlo, if_neg (ne_true_of_eq_false hlower)]

end

section
variable {r : SampleIn} (hsampling : s.perf.sampling = true) (hrun : s.f F.PWR_RUN_run_state ≠ 4)
  (hcore : (s.f F.PERF_SAMPLE_CFG_cores).testBit (r.core % 4) = true) (hcls : r.cls ≤ 9)
  (hmask : (s.f F.PERF_SAMPLE_CLASS_mask).testBit r.cls = true)
include hsampling hrun hcore hcls hmask

theorem execPerfSampleRecord_loses (hfull : 64 ≤ s.perf.buffer.length) :
    execPerfSampleRecord r s = .next { s.inc .PERF_SAMPLE_LOST with perf := { s.perf with lost := true } } := by
  unfold execPerfSampleRecord
  rw [if_neg (by simp [hsampling, hrun, hcore, hcls, hmask]), if_pos hfull]

theorem execPerfSampleRecord_keeps (hroom : s.perf.buffer.length < 64) : execPerfSampleRecord r s
    = .next { s with perf := { s.perf with buffer := s.perf.buffer ++ [sampleRecord s r], lost := false, seq := (s.perf.seq + 1) % 65536 } } := by
  unfold execPerfSampleRecord
  rw [if_neg (by simp [hsampling, hrun, hcore, hcls, hmask]), if_neg (Nat.not_le.2 hroom)]

end

end

/-- Settles O51: each act by the equation of its meaning. -/
theorem performanceCountersAct : Obligations.PerformanceCountersAct := by
  intro s h hm
  refine ⟨?_, ?_, ?_, ?_, rfl⟩
  · exact fun hiso => ⟨execPerfSample_stops hm hiso, execPerfSample_starts hm hiso⟩
  · intro c hc
    refine ⟨fun hwrapped hevent => ?_, fun hwrapped hevent => ?_, execPerfOvf_inside hc⟩
    · exact (execPerfOvf_counted hc hwrapped).trans (congrArg Host.Outcome.next (perfOvfEvent_posts hevent))
    · exact (execPerfOvf_counted hc hwrapped).trans (congrArg Host.Outcome.next (perfOvfEvent_silent hevent))
  · intro c hc
    exact ⟨execPerfCntRead_refused hc, execPerfCntRead_latches hc⟩
  · intro r hsampling hrun hcore hcls hmask
    exact ⟨fun hfull => ⟨_, execPerfSampleRecord_loses hsampling hrun hcore hcls hmask hfull, rfl, rfl, rfl⟩,
      fun hroom => ⟨_, execPerfSampleRecord_keeps hsampling hrun hcore hcls hmask hroom, rfl, rfl, rfl⟩⟩

end Sys2Proof.Machine

namespace Sys2Proof.Machine
open Sys2Proof

/-! ### The log commands, the record writer and the scrub (R392, R397, R400-R402, R409) -/

/-- LOG_READ copies no more records than it is asked for (R397). -/
theorem readable_length_le (gone : LogRec → Bool) (n : Nat) (l : List LogRec) : (readable gone n l).1.length ≤ n := by
  induction l generalizing n with
  | nil => simp [readable]
  | cons r l ih =>
    cases n with
    | zero => simp [readable]
    | succ n =>
      unfold readable
      split
      · exact ih (n + 1)
      · exact Nat.succ_le_succ (ih n)

/-- A slot of the last words that is free, or that is among those cleared, is free once they are cleared (R400). -/
theorem clearWords_free {k : Nat} (ks : List Nat) (s : State) (h : k ∈ ks ∨ tget s.log.lastWords none k = none) :
    tget (ks.foldl (fun t k => setLwValid { t with log := { t.log with lastWords := tset t.log.lastWords k none } } k false) s).log.lastWords none k
      = none := by
  induction ks generalizing s with
  | nil => simpa using h
  | cons q ks ih =>
    refine ih _ ?_
    obtain rfl | hne := eq_or_ne k q
    · right
      rw [setLwValid_log, tget_tset_same]
    · refine h.imp (fun hmem => (List.mem_cons.1 hmem).resolve_left hne) fun hfree => ?_
      rw [setLwValid_log, tget_tset_other _ _ _ _ _ hne, hfree]

section
variable {s : State} {h : CmdHdr} (hm : h.mbz = true)
include hm

section
variable {a : LogReadArgs} (hsev : a.sev ≤ 7) (haddr : addr64Ok a.addr = true) (hpos : 0 < a.max) (hmax : a.max ≤ 8192)
include hsev haddr hpos hmax

theorem execLogRead_completes {w : State} (hw : w = recordFlush 256 s) : ∃ u p, execLogRead h a s = .next (complete u h 0x65 .ok p) := by
  simp only [execLogRead, ← hw]
  rw [if_neg (by simp [hm, hsev, haddr, hmax, Nat.ne_of_gt hpos])]
  exact ⟨_, _, rfl⟩

/-- Where no cell reads bad, what is copied is all that LOG_READ writes. -/
theorem execLogRead_copies {u : State} (hu : u = recordFlush 256 s) (hbad : a.badCells = []) :
    ∃ l p, execLogRead h a s = .next (complete (putRecords u a.addr l) h 0x65 .ok ((0, 4, l.length) :: p)) ∧ l.length ≤ a.max := by
  have hnone : ((validCells u).filter (fun c => (recordsFrom u a.start a.sev).contains c.2 && a.badCells.contains c.1)).map (fun c => segmentOf c.1) = [] := by
    simp [hbad]
  simp only [execLogRead, ← hu]
  rw [if_neg (by simp [hm, hsev, haddr, hmax, Nat.ne_of_gt hpos]), hnone, List.foldl_nil]
  exact ⟨_, _, rfl, readable_length_le ..⟩

end

theorem execLogWrite_waits {a : LogWriteArgs} (hlo : 3 ≤ a.sev) (hhi : a.sev ≤ 7) (hcode : a.code / 256 = 0x10) (hlen : a.len ≤ 36)
    (hpad : (a.data.drop a.len).any (fun b => b != 0) = false) (hroom : s.log.queue.length < 256) :
    ∃ t, execLogWrite h a s = .next t ∧ ((s.rg .LOG_SEQ).toNat, h) ∈ t.log.waiters := by
  have hargs : ¬(!h.mbz ∨ a.sev < 3 ∨ 7 < a.sev ∨ a.code / 256 ≠ 0x10 ∨ 36 < a.len ∨ ((a.data.drop a.len).any (fun b => b != 0)) = true) := by
    simp only [hm, hpad, Bool.not_true, Bool.false_eq_true, false_or, or_false]
    omega
  unfold execLogWrite
  rw [if_neg hargs, if_neg (by simp [hroom])]
  exact ⟨_, rfl, List.mem_append_right _ (List.mem_singleton.2 rfl)⟩

theorem execLwRead_writes {addr : Nat} (haddr : addr64Ok addr = true) (halive : s.fb F.LOG_STATUS_media_dead = false) :
    ∃ l, execLwRead h addr false s = .next (complete (s.emit (.mem addr 4096 l)) h 0x67 .ok [(0, 8, lwMask s)]) := by
  unfold execLwRead
  rw [if_neg (by simp [hm, haddr]), if_neg (ne_true_of_eq_false halive), if_neg Bool.false_ne_true]
  exact ⟨_, rfl⟩

theorem execLwClear_clears {mask : Nat} (hmask : mask ≠ 0) (halive : s.fb F.LOG_STATUS_media_dead = false) :
    ∃ t, execLwClear h mask s = .next (complete t h 0x68 .ok
        [(0, 1, ((List.range 64).filter (fun k => mask.testBit k && (tget s.log.lastWords none k).isSome)).length)])
      ∧ ∀ k < 64, mask.testBit k = true → tget t.log.lastWords none k = none := by
  unfold execLwClear
  rw [if_neg (by simp [hm, hmask]), if_neg (ne_true_of_eq_false halive)]
  refine ⟨_, rfl, fun k hk hbit => clearWords_free _ _ ?_⟩
  cases hword : tget s.log.lastWords none k with
  | none => exact .inr rfl
  | some w => exact .inl (List.mem_filter.2 ⟨List.mem_range.2 hk, by simp [hbit, hword]⟩)

end

section
variable {s : State}

theorem execLogRecordWrite_good {r : LogRec} {l : List LogRec} (hqueue : s.log.queue = r :: l) :
    execLogRecordWrite false false s = .next (recordWrite s).1 := by
  simp only [execLogRecordWrite, hqueue]
  cases (recordWrite s).2 with
  | none => rfl
  | some k => rfl

section
variable {c : Nat} (hc : c < 8192) (hlive : s.log.retired.contains (segmentOf c) = false)
include hc hlive

theorem execLogScrub_corrects : execLogScrub c true false s = .next (perf s 0x8002 4) := by
  unfold execLogScrub
  rw [if_neg (not_or.2 ⟨Nat.not_le.2 hc, ne_true_of_eq_false hlive⟩)]
  rfl

theorem execLogScrub_retires : execLogScrub c false true s = .next (retireSegment s (segmentOf c)) := by
  unfold execLogScrub
  rw [if_neg (not_or.2 ⟨Nat.not_le.2 hc, ne_true_of_eq_false hlive⟩)]
  rfl

end

end

/-! ### The wrap test, the idle slices and the RTC (R399, R404, R407-R409) -/

section
variable {s : State}

theorem execWrapBlockSlice_counts {w : WrapRun} {fail : Bool} (hrun : s.wrap.run = some w) (hblock : w.block < 16)
    (hmore : w.slices + 1 < blockSlices s w.full w.block) (hdue : w.since + s.f F.BIST_CFG_slice * 625000 ≤ s.ticks) :
    execWrapBlockSlice fail s = .next { s with wrap := { s.wrap with
      run := some { w with slices := w.slices + 1, budget := w.budget - s.f F.BIST_CFG_slice, since := s.ticks } } } := by
  rw [execWrapBlockSlice, hrun]
  exact (if_neg (by omega)).trans (if_pos hmore)

theorem execWrapTestEnd_ends {w : WrapRun} (hrun : s.wrap.run = some w) (hblock : 16 ≤ w.block) : execWrapTestEnd s = .next (wrapEnd s w.full) := by
  rw [execWrapTestEnd, hrun]
  exact congrArg Host.Outcome.next (if_neg (Nat.not_lt.2 hblock))

theorem execIdleSlice_begins {i k : Nat} (hon : s.fb F.BIST_CFG_idle_en = true) (hunder : s.wrap.under = none) (hrun : s.f F.PWR_RUN_run_state = 3)
    (hkind : idleKind s = some k) (hfree : idleFree s k i = true)
    (hdue : s.wrap.idleAt + s.f F.BIST_CFG_idle_int * 60 * 625000000 ≤ s.ticks) : execIdleSlice i none s
    = .next { s with wrap := { s.wrap with under := some (k, i, none), kind := (k + 1) % 5, underAt := s.ticks, idleAt := s.ticks } } := by
  unfold execIdleSlice
  rw [hkind]
  exact (if_neg (by simp [hon, hunder, hrun, hdue])).trans (if_pos hfree)

theorem execBistIdleRun_begins {h : CmdHdr} {k i : Nat} (hm : h.mbz = true) (hk : k ≤ 4) (hk2 : k ≠ 2) (hi : i < idleCount k)
    (hlive : idleRetired s k i = false) (hunder : s.wrap.under = none) (hfree : idleFree s k i = true) :
    ∃ t, execBistIdleRun h k i s = .next t ∧ t.wrap.under = some (k, i, some h) := by
  unfold execBistIdleRun
  rw [if_neg (by simp [hm, hk, hk2]), if_neg (Nat.not_le.2 hi), if_neg (ne_true_of_eq_false hlive), if_neg (by simp [hunder, hfree])]
  exact ⟨_, rfl, rfl⟩

theorem execRtcLoad_loads {k : Nat} {u : State} (hu : u = advance s k) (hvalid : tsValid u 0 = true) (hsecond : wholeSecond u 0 = true) :
    execRtcLoad k s = .next { u with log := { u.log with rtcSec := (tsc u 0).cnt.sec % 2 ^ 32, rtcAt := u.ticks, rtcValid := true } } := by
  simp only [execRtcLoad, ← hu]
  exact if_pos (by simp [hvalid, hsecond])

end

/-- Settles O52: each act by the equation of its meaning; LOG_READ and LW_CLEAR by an induction over what they copy and clear. -/
theorem logAndSelfTestCommandsTakeEffect : Obligations.LogAndSelfTestCommandsTakeEffect := by
  intro s h hm
  refine ⟨?_, ?_, ?_, ?_, ?_, ?_, ?_, ?_, ?_, ?_, rfl, ?_, ?_⟩
  · exact fun a hsev haddr hpos hmax hbad => ⟨_, execLogRead_copies hm hsev haddr hpos hmax rfl hbad⟩
  · exact fun a hsev haddr hpos hmax => execLogRead_completes hm hsev haddr hpos hmax rfl
  · exact fun a hlo hhi hcode hlen hpad hroom => execLogWrite_waits hm hlo hhi hcode hlen hpad hroom
  · exact fun addr haddr halive => execLwRead_writes hm haddr halive
  · exact fun mask hmask halive => execLwClear_clears hm hmask halive
  · exact fun r l hqueue => execLogRecordWrite_good hqueue
  · exact fun c hc hlive => ⟨execLogScrub_corrects hc hlive, execLogScrub_retires hc hlive⟩
  · exact fun w f hrun hblock hmore hdue => execWrapBlockSlice_counts hrun hblock hmore hdue
  · exact fun w hrun hblock => execWrapTestEnd_ends hrun hblock
  · exact fun i k hon hunder hrun hkind hfree hdue => execIdleSlice_begins hon hunder hrun hkind hfree hdue
  · exact fun k i hk hk2 hi hlive hunder hfree => execBistIdleRun_begins hm hk hk2 hi hlive hunder hfree
  · exact fun k hvalid hsecond => ⟨_, execRtcLoad_loads rfl hvalid hsecond, rfl, rfl, rfl⟩

end Sys2Proof.Machine
